-- ==== Sys2Proof/Word.lean ====
section
/-! DEFINITION. The word types: a byte of a packet, a register or a memory. -/

namespace Sys2Proof

/-- One byte, as packets, queue entries, registers and memories hold it (R7). -/
abbrev Byte := BitVec 8

/-- One 32-bit register of the immediate window (Table 24-2). -/
abbrev Word32 := BitVec 32

end Sys2Proof
end

