-- ==== Sys2Proof/Packet.lean ====
section
/-! DEFINITION. What the commands carry: a Belex command, a submission entry as fetched. -/

namespace Sys2Proof

/-- A Belex command as the command processor holds it: the header of Table 03-2, the parameters the
device copied (R101), the function and queue it came from, and the instant it reaches the block. The
opcode is that of the command's row. Instants are in 1/65,536 ns of Device Time (R660). -/
structure Cmd where
  /-- DT at which the command reaches the block. -/
  at_ : Nat := 0
  /-- PCIe function, which is the tenant (R17), from 0 to 63. -/
  fn : Nat := 0
  /-- Submission queue, from 0 to 7. -/
  sq : Nat := 0
  tag : Nat := 0
  pri : Nat := 0
  /-- FLG: [2] CHAIN, [1] QUIET_OK, [0] FENCE. -/
  flg : Nat := 0
  /-- OBJ: object handle. -/
  obj : Nat := 0
  aux : Nat := 0
  resultAddr : Nat := 0
  paramAddr : Nat := 0
  /-- LEN of the header. -/
  len : Nat := 0
  /-- The parameter fetch returned a PCIe error or poisoned data. -/
  fetchErr : Bool := false
  /-- The parameters as fetched, or the first LEN bytes of INLINE (R100). -/
  params : List Byte := []
deriving DecidableEq, Repr

/-- A submission queue entry as the device fetched it: its 64 bytes (Table 03-2), and the bytes that the fetch from PARAM_ADDR
returned. -/
structure SqEntry where
  bytes : List Byte := List.replicate 64 0
  params : List Byte := []
  /-- The fetch of the entry itself returned a PCIe error (R112). -/
  fetchErr : Bool := false
  /-- The fetch of its parameters returned a PCIe error or poisoned data. -/
  paramErr : Bool := false
deriving DecidableEq, Repr

/-- A slot field of a DSP instruction of format DUAL (Table 08-4). -/
structure DspSlot where
  op : Nat := 0
  acc : Nat := 0
  a : Nat := 0
  b : Nat := 0
deriving DecidableEq, Repr

/-- A move field of a DSP instruction (Table 08-5); MOD 7 is no move. -/
structure DspMove where
  store : Bool := false
  d : Nat := 0
  p : Nat := 0
  mod : Nat := 7
deriving DecidableEq, Repr

/-- What a serial audio port brings to a grain boundary: its measured phase error in ps (R353), and what SAP_DIN carried in the
grain that has ended: the bits of each run of 32 BCLK periods from the frame-start edge, the first the most significant, by place
in the frame and then by frame; and the bit in the first period of the grain that opens, which ends the last slot of a format
whose slots begin one period late (Table 09-1). -/
structure SapIn where
  port : Nat := 0
  phasePs : Int := 0
  slots : List (List Nat) := []
  next : Bool := false
deriving DecidableEq, Repr

/-- What the world brings to a grain boundary: what the serial audio ports captured and measured, the samples that codec
kernels decode for the grain, by flow, and the flows whose grain about to be played decodes below the silence threshold, of
those without the level extension. -/
structure GrainIn where
  saps : List SapIn := []
  pcm : List (Nat × List Int) := []
  quiet : List Nat := []
deriving DecidableEq, Repr

/-- A task that firmware allocates (Table 15-1): its class, level, tenant, key, RELOAD, executor kind, SCOPE,
successors, OWNER and work descriptor, and whether its period is the grain. -/
structure NewTask where
  cls : Nat := 2
  level : Nat := 0
  tenant : Nat := 0
  key : Option Nat := none
  reload : Nat := 0
  target : Nat := 0
  cluster : Option Nat := none
  regions : Nat := 255
  succ : List Nat := []
  owner : Nat := 0
  work : Nat := 0
  grain : Bool := true
deriving DecidableEq, Repr

/-- What firmware does to the delay lists (R530, R531): sets a timer for a task, cancels one, or gives one another deadline. -/
inductive TimerOp where
  | set (deadline task : Nat)
  | cancel (timer : Nat)
  | change (timer deadline : Nat)
deriving DecidableEq, Repr

/-- A request at a DRAM controller. A write carries its bytes and byte enables. -/
structure DramReq where
  addr : Nat
  write : Bool := false
  /-- The real-time port of Table 16-2 that it comes from, kind × 256 + index; whether that port raises panic, which the
  controller sees. -/
  port : Option Nat := none
  panic : Bool := false
  /-- It is an instruction fetch. -/
  fetch : Bool := false
  /-- Its place among the requests that the queues of its pseudo-channel have taken. -/
  ord : Nat := 0
  /-- DT of its arrival at the controller. -/
  at_ : Nat := 0
  /-- Unit address, or 0x8000 plus a hub port (R558). -/
  req : Nat := 0
  data : List Byte := []
  enables : List Bool := []
deriving DecidableEq, Repr

/-- What the check bits say of a read of DRAM or SRAM (R565). -/
inductive Ecc where
  | good
  /-- A single-bit error of word `word` of the line, at bit `bit`, corrected. -/
  | corrected (word bit : Nat)
  | uncorrectable (word : Nat)
deriving DecidableEq, Repr

/-- What the memories of a DSP core bring to an instruction: its reserved bits, and what the check bits say of its word in PMEM and
of the words that its moves in XMEM and YMEM name (R333, R334). -/
structure DspMem where
  rsv : Nat := 0
  fetch : Ecc := .good
  x : Ecc := .good
  y : Ecc := .good
deriving DecidableEq, Repr

/-- What firmware and the world around a DMA channel bring to a burst: bytes that firmware put into the engine's local
SRAM, the descriptor at which it starts an idle channel, the request line of a paced channel, the data of a source that
is not memory of the model, the same for the bursts that the engine reads ahead, one for each, what the check bits say of
the source and of the destination line that a partial write reads, a bus error with its direction (true a write) and cause,
an uncorrectable error of the engine's own state, levels of real-time ports (kind, index, bytes), and the lines that
peripherals have taken out of their port FIFOs (address of the FIFO, lines). -/
structure DmaIn where
  sram : List (Nat × List Byte) := []
  start : Option Nat := none
  request : Bool := false
  data : List Byte := []
  ahead : List (List Byte) := []
  ecc : Ecc := .good
  rmw : Ecc := .good
  err : Option (Bool × Nat) := none
  stateErr : Bool := false
  levels : List (Nat × Nat × Nat) := []
  taken : List (Nat × Nat) := []
deriving DecidableEq, Repr

/-- A picture's samples, 4:2:0: each plane row by row from the top. -/
structure Pix where
  w : Nat := 0
  h : Nat := 0
  y : List Nat := []
  cb : List Nat := []
  cr : List Nat := []
deriving DecidableEq, Repr

/-- A block of a coded tile: its place and size in luma samples, the motion vector it uses in steps of its codec (a quarter
of a luma sample in HEVC, an eighth in AV1; none for an intra block), and whether it is coded lossless. -/
structure TileBlock where
  x : Nat := 0
  y : Nat := 0
  w : Nat := 64
  h : Nat := 64
  mv : Option (Int × Int) := none
  lossless : Bool := false
deriving DecidableEq, Repr

/-- A rectangle. -/
structure Rect where
  x : Nat
  y : Nat
  w : Nat
  h : Nat
deriving DecidableEq, Repr

/-- A rectangle on the chroma grid of 4:2:0. -/
def Rect.half (r : Rect) : Rect := ⟨r.x / 2, r.y / 2, r.w / 2, r.h / 2⟩

/-- Whether a rectangle holds the sample at a place. -/
def Rect.has (r : Rect) (x y : Nat) : Bool :=
  decide (r.x ≤ x) && decide (x < r.x + r.w) && decide (r.y ≤ y) && decide (y < r.y + r.h)

/-- What an encoder has made of a frame: its units in coding order (NAL units, or OBUs), and for a tile, whose payload is its
one unit, the blocks it is coded in. -/
structure Coded where
  units : List (List Byte) := []
  blocks : List TileBlock := []
deriving DecidableEq, Repr

/-- What the control cores read from a ready frame's headers (R414). Frames are named by the numbers the
stream gives them: frame numbers, picture IDs, POC or frame_num. -/
structure FrameInfo where
  num : Nat := 0
  w : Nat := 0
  h : Nat := 0
  depth : Nat := 8
  /-- A key frame, an IDR or an IRAP; an AV1 or VP9 intra-only frame; the frame at a recovery point. -/
  key : Bool := false
  intraOnly : Bool := false
  recovery : Bool := false
  /-- It carries a recovery point SEI. -/
  sei : Bool := false
  /-- Headers that cannot be parsed (0), a format Table 11-1 excludes (1), and the first header byte. -/
  fault : Option Nat := none
  firstByte : Nat := 0
  /-- VP8 or VP9: the header itself was lost, so that only a copy can stand for the frame (R423). -/
  headerLost : Bool := false
  /-- Frames it references, each with whether its slot is known not to have been refreshed since a loss. -/
  refs : List (Nat × Bool) := []
  /-- Frames that the reference state names after it, itself included when it is a reference. -/
  keep : List Nat := []
  /-- Buffers that the reference state needs (REF_SLOTS). -/
  need : Nat := 0
  /-- A later frame references it. -/
  used : Bool := true
  /-- Frames that become output, in output order, when it has been decoded. -/
  shows : List Nat := []
  /-- It carries film-grain parameters. -/
  grain : Bool := false
  bits : Nat := 0
deriving DecidableEq, Repr

/-- What the packet engine reads of a media packet's layers (Table 05-2): the parse of a Dependency
Descriptor, a payload descriptor or a NAL header. -/
structure Layer where
  /-- Layer information could be parsed (R196). -/
  parsed : Bool := true
  s : Nat := 0
  t : Nat := 0
  /-- Frame number of the source, so that packets of one frame are known as one. -/
  frame : Nat := 0
  first : Bool := true
  /-- End-of-frame packet of its layer: DD end-of-frame flag, VP9 E bit or the M bit (R201). -/
  last : Bool := true
  /-- Decode targets S, T that need its frame although it lies outside their layers: a frame on which theirs depend. -/
  needs : List (Nat × Nat) := []
  /-- The spatial layers of the frames that follow it in its picture. -/
  upper : List Nat := []
  /-- The switch point of Table 05-2 for a change of E: key frame with what the codec requires. -/
  key : Bool := false
  /-- Decode targets S, T for which the Dependency Descriptor's indication is Switch. -/
  dti : List (Nat × Nat) := []
  /-- VP9: the spatial layers of its picture that have P = 0. -/
  inter0 : List Nat := []
  /-- The temporal switching point of Table 05-2: U of VP9, Y of VP8, a TSA or STSA picture of HEVC. -/
  tUp : Bool := false
  /-- TL0PICIDX of a VP8 packet. -/
  tl0 : Option Nat := none
  /-- Width of the frame number: 16 of a Dependency Descriptor, 7 or 15 of a picture ID. -/
  frameBits : Nat := 16
  /-- The template structure of a Dependency Descriptor, and the decode targets it has. -/
  tpl : List Byte := []
  targets : Nat := 0
  /-- Active decode target S, T that a rewritten Dependency Descriptor names (R202). -/
  dd : Option (Nat × Nat) := none
deriving DecidableEq, Repr

/-- A firmware image as the vault reads it (Table 18-5): type, SVN, version, BODY_HASH, whether the signature verifies
and the hash matches, and its length. -/
structure Image where
  typ : Nat
  svn : Nat
  version : Nat
  hash : BitVec 384
  signatureOk : Bool
  hashOk : Bool
  bytes : Nat
deriving DecidableEq, Repr

/-- What the board brings to a power-up or a release of RESET_N: the always-on seconds counter (R665), the strap pins
(Table 21-3), and whether REFCLK matches REFCLK_SEL (R776). -/
structure Straps where
  sec : Nat := 0
  mbAddr : Nat := 0
  bootSrc : Nat := 0
  refclk : Nat := 0
  clockOk : Bool := true
deriving DecidableEq, Repr

/-- A FlexFEC repair packet's header (RFC 8627, Table 04-5): F = 1 with L and D, or a mask; the protected SSRC, the
sequence numbers it protects, and the parities of their marker bits, payload types, lengths, timestamps, levels and
payloads. -/
structure FecHdr where
  /-- R = 1, a retransmission, which the device does not support; and the first header byte (event 116). -/
  retrans : Bool := false
  firstByte : Nat := 0
  fixed : Option (Nat × Nat) := none
  ssrc : Nat := 0
  seqs : List Nat := []
  marker : Bool := false
  pt : Nat := 0
  len : Nat := 0
  ts : Nat := 0
  /-- Audio level extension: 0 none, 128 + level otherwise. -/
  level : Nat := 0
  /-- The CSRC count and list. -/
  cc : Nat := 0
  csrc : List Nat := []
  payload : List Byte := []
deriving DecidableEq, Repr

/-- An RTP packet: the header fields, which SRTP does not encrypt (R638), and its payload once
decrypted. -/
structure Rtp where
  ssrc : Nat := 0
  seq : Nat := 0
  ts : Nat := 0
  pt : Nat := 0
  marker : Bool := false
  /-- The CSRC list, at most 15 sources. -/
  csrc : List Nat := []
  mid : List Byte := []
  rid : List Byte := []
  /-- Audio level extension: level in 0 to 127, −dBov. -/
  level : Option Nat := none
  /-- Transport-wide sequence number extension. -/
  twcc : Option Nat := none
  payload : List Byte := []
  /-- Padding bytes. -/
  pad : Nat := 0
  layer : Layer := {}
  /-- The header of a repair packet. -/
  fec : Option FecHdr := none
  /-- Original sequence number of an RTX packet (RFC 4588). -/
  osn : Option Nat := none
  /-- The extension IDs under which a sent packet carries its header extensions (EXT_IDS of Table 05-7). -/
  ids : List Nat := []
deriving DecidableEq, Repr

/-- One item of an RTCP compound packet, of the kinds R213 names. -/
inductive RtcpItem where
  /-- Sender report: SSRC, 64-bit NTP timestamp and RTP timestamp. -/
  | sr (ssrc ntp rtp : Nat)
  /-- Receiver report without a sender's information. -/
  | rr
  /-- Report block: the reported SSRC, fraction lost in 1/256, packets lost, extended highest sequence number, jitter,
  LSR and DLSR in 1/65,536 s. -/
  | block (ssrc lost total ext jitter lsr dlsr : Nat)
  | sdes (cname : List Byte)
  | nack (ssrc : Nat) (seqs : List Nat)
  | pli (ssrc : Nat)
  /-- FIR for a source, with its command sequence number (RFC 5104). -/
  | fir (ssrc seq : Nat)
  /-- Transport-wide feedback: sequence number, and the arrival instant in 250 µs units or lost. -/
  | twcc (wellFormed : Bool) (marks : List (Nat × Option Nat))
  /-- APP named ELZC: per source SSRC the highest E, S and T needed (R230). -/
  | elzc (ssrc e s t : Nat)
  | bye (ssrc : Nat)
  | other
deriving DecidableEq, Repr

/-- An RTCP compound packet: sender SSRC of its first packet, SRTCP index and E bit (R653). -/
structure Rtcp where
  ssrc : Nat := 0
  index : Nat := 0
  encrypted : Bool := true
  items : List RtcpItem := []
deriving DecidableEq, Repr

/-- A STUN message as the packet engine reads it (R152 to R156). -/
structure Stun where
  /-- A Binding request, and not an indication, a response or another method. -/
  binding : Bool := true
  fingerprint : Bool := true
  username : List Byte := []
  /-- The MESSAGE-INTEGRITY value and the password under which it verifies. -/
  integrityPwd : List Byte := []
  controlling : Bool := true
  useCandidate : Bool := false
  transaction : Nat := 0
  /-- XOR-MAPPED-ADDRESS of a response: the address and port that the request came from. -/
  mapped : Option (Nat × Nat) := none
deriving DecidableEq, Repr

/-- A PTP message (IEEE 1588-2019) as the time unit reads it. -/
inductive Ptp where
  /-- Announce: clockIdentity, clockClass, priority1, priority2, steps removed, UTC offset, its
  valid flag, leap61, leap59. -/
  | announce (id clockClass accuracy variance p1 p2 steps utc : Nat) (utcValid leap61 leap59 : Bool)
  /-- Sync with its Follow_Up: clockIdentity of the sender, the origin instant, and the mean path delay the exchange
  measured, in 1/65,536 ns. -/
  | sync (id origin delay : Nat)
  /-- The Follow_Up of a Sync sent, with the instant at which its first byte left. -/
  | followUp (origin : Nat)
  /-- Delay_Req of a peer, and the response with the instant of its receipt. -/
  | delayReq (peer : Nat)
  | delayResp (peer received : Nat)
  /-- Pdelay_Req of a peer, the response, and its Follow_Up with the instant at which the response's first byte left. -/
  | pdelayReq (peer : Nat)
  | pdelayResp (peer received : Nat)
  | pdelayFollowUp (peer origin : Nat)
  | other
deriving DecidableEq, Repr

/-- What the certificate of a cascade peer attests (R625): its chain reaches the Twihan root, its report's signature
is valid and the nonce matches the key; and the report's GROUP_ID, HUB_MEAS, FLAGS and TAMPER. -/
structure PeerReport where
  chainOk : Bool := true
  group : List Byte := []
  hubMeas : List Byte := []
  flags : Nat := 0
  tamper : Nat := 0
deriving DecidableEq, Repr

/-- What the control cores find in a DTLS record (R624 to R627): a ClientHello, a flight that continues the handshake,
the flight that completes it (version 2 or 3, use_srtp profile, fingerprint of the peer's certificate, exported
receive and send keys, the peer's report on a cascade leg), an alert, or no common parameters. -/
inductive DtlsEvt where
  | hello
  | flight
  | done (version profile : Nat) (fp rx tx : List Byte) (peer : PeerReport)
  | alert (code : Nat)
  | noCommon
deriving DecidableEq, Repr

/-- What a UDP datagram carries, told apart by its first bytes (Table 04-2, steps 9 and 10). -/
inductive UdpBody where
  | stun (m : Stun)
  | dtls (record : List Byte)
  | rtp (p : Rtp)
  | rtcp (p : Rtcp)
  | ptp (domain : Nat) (wellFormed : Bool) (m : Ptp)
  /-- First payload byte in none of the ranges. -/
  | other
deriving DecidableEq, Repr

/-- The transport that an ICMP error embeds. -/
structure Embedded where
  srcIp : Nat
  dstIp : Nat
  srcPort : Nat
  dstPort : Nat
deriving DecidableEq, Repr

/-- What an IP packet carries. -/
inductive IpBody where
  | echoRequest (ident seq : Nat)
  | neighbourSolicit (target : Nat)
  | icmpError (typ code mtu : Nat) (inner : Embedded)
  | icmpOther
  | udp (srcPort dstPort : Nat) (zeroSum sumOk : Bool) (body : UdpBody)
  | otherProtocol
deriving DecidableEq, Repr

/-- What an Ethernet frame carries. -/
inductive EthBody where
  | ip (v6 headerOk : Bool) (extHeaders : Nat) (fragment : Bool) (src dst : Nat) (body : IpBody)
  | arp (request : Bool) (senderMac senderIp targetIp : Nat)
  /-- IEEE 802.1Qbb pause: the priorities enabled and their quanta. -/
  | pfc (quanta : List (Nat × Nat))
  | other
deriving DecidableEq, Repr

/-- A received frame as its MAC hands it on: size from the destination MAC through the FCS. -/
structure RxFrame where
  len : Nat := 64
  fcsOk : Bool := true
  dst : Nat := 0
  src : Nat := 0
  /-- 802.1Q tags, outermost first: their TCI. -/
  tags : List Nat := []
  body : EthBody := .other
deriving DecidableEq, Repr

end Sys2Proof
end

