-- ==== Sys2Proof/Syntax.lean ====
section
/-! DEFINITION. The commands the block takes from outside: one constructor for each row of the
opcode table. A Belex command carries its packet; every other row carries the instant `t` (in
1/65,536 ns of DT) at which it reaches the block, and what its event consists of. -/

namespace Sys2Proof

/-- The commands, one for each row of the opcode table. -/
inductive Instr where
  /-- MODE_SET: Operator command that requests a mode transition to STANDBY, SERVICE or DIAGNOSTIC under Table 21-2. (R681) -/
  | modeSet (c : Cmd)
  /-- MODE_QUERY: Query returning the mode, straps, boot slot and ride-through settings. (R700) -/
  | modeQuery (c : Cmd)
  /-- POWER_SET: Operator command setting RIDE_MAX, STAGE_MS and POWER_CAP. (R700) -/
  | powerSet (c : Cmd)
  /-- THERMAL_QUERY: Query returning die and stack temperatures and throttling stages. (R700) -/
  | thermalQuery (c : Cmd)
  /-- DEV_RESET: Operator command that replies and then performs the power-down steps with the rails kept, entering INIT 10 ms later. (R692) -/
  | devReset (c : Cmd)
  /-- CONF_CREATE: Creates a conference after the ordered create checks and quota test. (R88) -/
  | confCreate (c : Cmd)
  /-- CONF_DELETE: Closes a conference, refused with WRONG_STATE while legs remain unless FORCE is set. (R90) -/
  | confDelete (c : Cmd)
  /-- CONF_QUERY: Query returning a conference's state, MAX_LEGS, leg count and failed joins. (R90) -/
  | confQuery (c : Cmd)
  /-- LEG_CREATE: Creates a leg of a given type with its transport identity and installs its transport match. (R63) -/
  | legCreate (c : Cmd)
  /-- LEG_DELETE: Puts a leg into CLOSING, removes its transport match and replies once its index is free. (R72) -/
  | legDelete (c : Cmd)
  /-- LEG_MOVE: Moves a leg to another conference at the next grain boundary and ends its part in the old conference's video and mix objects. (R92) -/
  | legMove (c : Cmd)
  /-- LEG_SET_STATE: Sets a leg's hold mask, taking effect at the effective grain. (R92) -/
  | legSetState (c : Cmd)
  /-- LEG_STATS: Query returning the leg metrics of the last complete 1 s window and cumulative bytes. (R89) -/
  | legStats (c : Cmd)
  /-- FLOW_CREATE: Creates a receive or send flow of a leg, LIVE or LEARNING, and replies once the classifier can match it. (R75) -/
  | flowCreate (c : Cmd)
  /-- FLOW_DELETE: Invalidates a flow's cache entry and replies once the flow is FREE at the next grain boundary. (R792) -/
  | flowDelete (c : Cmd)
  /-- FLOW_QUERY: Query returning a flow's state, kind, cache flag and counters. (R90) -/
  | flowQuery (c : Cmd)
  /-- TENANT_SET_QUOTA: Operator command setting a tenant's maxima, reserves and policy. (R85) -/
  | tenantSetQuota (c : Cmd)
  /-- TENANT_QUERY: Query returning a tenant's quota, use and free counts. (R793) -/
  | tenantQuery (c : Cmd)
  /-- PORT_SET_MODE: Sets a physical port's breakout mode and sub-port MAC addresses when no leg uses it. (R139) -/
  | portSetMode (c : Cmd)
  /-- ADDR_SET: Sets or invalidates one entry of a logical port's local address table. (R144) -/
  | addrSet (c : Cmd)
  /-- ICE_SET_CREDENTIALS: Sets an endpoint leg's ICE username fragments, password and consent limit. (R181) -/
  | iceSetCredentials (c : Cmd)
  /-- POLICER_SET: Sets a leg's media and control policer rates and bursts. (R150) -/
  | policerSet (c : Cmd)
  /-- JB_SET: Sets a receive audio flow's jitter-buffer minimum and maximum from the next grain boundary. (R171) -/
  | jbSet (c : Cmd)
  /-- REORDER_SET: Sets a video receive flow's reorder mode and NACK parameters. (R182) -/
  | reorderSet (c : Cmd)
  /-- FEC_SET: Enables FlexFEC recovery and sets its window for a FEC receive flow. (R182) -/
  | fecSet (c : Cmd)
  /-- INGRESS_STATS: Query returning a leg's ingress counters. (R180) -/
  | ingressStats (c : Cmd)
  /-- PORT_STATS: Operator query returning a logical port's 16 ingress counters. (R180) -/
  | portStats (c : Cmd)
  /-- REMOTE_QUERY: Query returning the remote transport values in force for a leg. (R180) -/
  | remoteQuery (c : Cmd)
  /-- FWD_BIND: Binds a send flow to a forwarding source, or replaces it at the new source's first switch point. (R185) -/
  | fwdBind (c : Cmd)
  /-- FWD_UNBIND: Removes a send flow's forwarding binding. (R237) -/
  | fwdUnbind (c : Cmd)
  /-- FWD_QUERY: Query returning a forwarded send flow's source, layers, state and counters. (R237) -/
  | fwdQuery (c : Cmd)
  /-- FLOW_PROFILE_SET: Stores a flow's codec, extension IDs and nominal rate, used from the next grain or frame boundary. (R237) -/
  | flowProfileSet (c : Cmd)
  /-- RTCP_SET: Sets a leg's RTCP interval, flags and CNAME. (R210) -/
  | rtcpSet (c : Cmd)
  /-- KEYFRAME_REQUEST: Requests a key frame of a video receive flow, optionally by FIR at once. (R203) -/
  | keyframeRequest (c : Cmd)
  /-- ADAPT_SET: Sets a leg's initial estimate, FEC bounds and leg-wide layer caps. (R221) -/
  | adaptSet (c : Cmd)
  /-- ADAPT_OVERRIDE: Operator command setting or removing rate, FEC and layer-cap overrides of a leg. (R227) -/
  | adaptOverride (c : Cmd)
  /-- ADAPT_QUERY: Query returning a leg's estimator outputs and state. (R237) -/
  | adaptQuery (c : Cmd)
  /-- CASCADE_SET: Sets a cascade leg's grain delay D and role at a grain boundary. (R236) -/
  | cascadeSet (c : Cmd)
  /-- EGRESS_LEG_SET: Sets a leg's WFQ weight, shaper burst, queue limit and lane age limits. (R276) -/
  | egressLegSet (c : Cmd)
  /-- EGRESS_CLASS_SET: Moves a send flow to a traffic class from 0 to 6 without reordering it. (R241) -/
  | egressClassSet (c : Cmd)
  /-- PORT_EGRESS_SET: Sets a logical port's overhead, PFC honouring and PCP and DSCP maps. (R269) -/
  | portEgressSet (c : Cmd)
  /-- GCL_SET: Installs a pending gate control list starting at BASE plus k cycles. (R263) -/
  | gclSet (c : Cmd)
  /-- GCL_QUERY: Query returning a logical port's running and pending gate lists. (R276) -/
  | gclQuery (c : Cmd)
  /-- FEC_GEN_SET: Sets a FEC send flow's mode and flush time from the next block. (R273) -/
  | fecGenSet (c : Cmd)
  /-- FC_SET: Assigns an FC_OUT pin to a source level with HIGH and LOW thresholds. (R275) -/
  | fcSet (c : Cmd)
  /-- EGRESS_STATS: Query returning a leg's egress counters and last samples. (R276) -/
  | egressStats (c : Cmd)
  /-- EGRESS_PORT_STATS: Operator query returning frames and bytes sent per class on a port. (R276) -/
  | egressPortStats (c : Cmd)
  /-- MIX_GROUP_CREATE: Creates a mono or stereo mix group, placing the conference on a mix engine at its first group. (R277) -/
  | mixGroupCreate (c : Cmd)
  /-- MIX_GROUP_DELETE: Deletes a mix group that has no contributors, listeners or program reference. (R315) -/
  | mixGroupDelete (c : Cmd)
  /-- MIX_CONTRIBUTE: Sets or detaches a receive audio flow's implicit contribution, gain and pan. (R280) -/
  | mixContribute (c : Cmd)
  /-- MIX_LISTEN: Attaches a send audio flow as a listener of a mix group with its encoder settings. (R281) -/
  | mixListen (c : Cmd)
  /-- MIX_UNLISTEN: Detaches a send audio flow from its mix group. (R315) -/
  | mixUnlisten (c : Cmd)
  /-- MIX_GRAPH_LOAD: Checks and compiles an Osdun graph into the conference's shadow mix program. (R299) -/
  | mixGraphLoad (c : Cmd)
  /-- MIX_SET: Sets a conference's talker count, thresholds, hangover, limiter and flags through the shadow. (R305) -/
  | mixSet (c : Cmd)
  /-- MIX_PAN_SET: Sets a conference's pan mode, including layout mode from a canvas. (R304) -/
  | mixPanSet (c : Cmd)
  /-- MIX_QUERY: Query returning a conference's mix state and talkers. (R315) -/
  | mixQuery (c : Cmd)
  /-- MIX_STATS: Query returning a mix group's listener, encode and limiter counters. (R315) -/
  | mixStats (c : Cmd)
  /-- KERNEL_LOAD: Long-running operator command that verifies and loads a signed operator kernel image. (R343) -/
  | kernelLoad (c : Cmd)
  /-- KERNEL_UNLOAD: Operator command that unloads a kernel no program names. (R347) -/
  | kernelUnload (c : Cmd)
  /-- KERNEL_QUERY: Query returning a kernel's header values and counters. (R347) -/
  | kernelQuery (c : Cmd)
  /-- KERNEL_RESET: Operator command that enables disabled kernel instances of a conference or of all. (R341) -/
  | kernelReset (c : Cmd)
  /-- DSP_SET: Operator command setting OPK_BUDGET. (R347) -/
  | dspSet (c : Cmd)
  /-- DSP_STATS: Query returning a cluster's DSP cycle and error counters. (R347) -/
  | dspStats (c : Cmd)
  /-- SAP_CONFIG: Configures, enables or disables a serial audio port, starting it at the second grain boundary. (R372) -/
  | sapConfig (c : Cmd)
  /-- SAP_MCLK_SET: Selects AMCLK_OUT frequency or off from the next grain boundary. (R355) -/
  | sapMclkSet (c : Cmd)
  /-- SAP_QUERY: Query returning a serial audio port's configuration and timing. (R375) -/
  | sapQuery (c : Cmd)
  /-- SAP_FILTER_QUERY: Query returning the half-band filter taps. (R357) -/
  | sapFilterQuery (c : Cmd)
  /-- ROUTE_SET: Sets output slot selectors of a port through the shadow rule. (R368) -/
  | routeSet (c : Cmd)
  /-- ROUTE_QUERY: Query returning a port's 32 slot selectors. (R375) -/
  | routeQuery (c : Cmd)
  /-- PORT_LEG_MASK_SET: Changes a port leg's slot mask at the effective grain. (R370) -/
  | portLegMaskSet (c : Cmd)
  /-- SAP_STATS: Query returning a port's underrun, discard and realignment counters. (R375) -/
  | sapStats (c : Cmd)
  /-- BEACON_MOD_ATTACH: Gives a room leg a beacon modulator with a random room tag. (R381) -/
  | beaconModAttach (c : Cmd)
  /-- BEACON_MOD_SET: Changes a modulator's level, flags and offset through the shadow. (R385) -/
  | beaconModSet (c : Cmd)
  /-- BEACON_MOD_DETACH: Detaches a beacon modulator from its room leg. (R403) -/
  | beaconModDetach (c : Cmd)
  /-- BEACON_MOD_QUERY: Query returning a modulator's settings and counters. (R405) -/
  | beaconModQuery (c : Cmd)
  /-- BEACON_RX_SET: Enables or disables beacon scanning and sets thresholds for a conference. (R404) -/
  | beaconRxSet (c : Cmd)
  /-- BEACON_WATCH: Places or releases a leg on permanent demodulator watch. (R395) -/
  | beaconWatch (c : Cmd)
  /-- BEACON_MODEM_SET: Operator command setting HOLD_MAX, ROTA_S and SYNC_THRESH. (R405) -/
  | beaconModemSet (c : Cmd)
  /-- BEACON_LEG_QUERY: Query returning a leg's co-location state and tracked tags. (R404) -/
  | beaconLegQuery (c : Cmd)
  /-- BEACON_STATS: Operator query returning the modem's cumulative counters. (R405) -/
  | beaconStats (c : Cmd)
  /-- DEC_CREATE: Creates a decode context after admission and allocates its reference pool. (R410) -/
  | decCreate (c : Cmd)
  /-- DEC_DELETE: Deletes a decode context no consumer names and nulls its source flows' SINK. (R430) -/
  | decDelete (c : Cmd)
  /-- DEC_BIND: Binds a decode context to a source, or unbinds it with a null source. (R408) -/
  | decBind (c : Cmd)
  /-- DEC_SET: Changes a decode context's priority, FREEZE and target at its next frame boundary. (R430) -/
  | decSet (c : Cmd)
  /-- DEC_QUERY: Query returning a decode context's state and counters. (R430) -/
  | decQuery (c : Cmd)
  /-- DEC_STATS: Operator query returning decoder admission, load and counters. (R430) -/
  | decStats (c : Cmd)
  /-- CANVAS_CREATE: Creates a canvas after admission and allocates its four buffers. (R432) -/
  | canvasCreate (c : Cmd)
  /-- CANVAS_DELETE: Deletes a canvas that no encoder or pan setting names. (R458) -/
  | canvasDelete (c : Cmd)
  /-- CANVAS_LAYOUT_SET: Replaces a canvas's whole layout through the video shadow rule. (R440) -/
  | canvasLayoutSet (c : Cmd)
  /-- OVERLAY_LOAD: Long-running command that fetches, checks and converts an overlay image into a slot, or clears it. (R451) -/
  | overlayLoad (c : Cmd)
  /-- GUARD_SET: Enables, changes or disables a guard region with its expected CRC and policy. (R453) -/
  | guardSet (c : Cmd)
  /-- CANVAS_QUERY: Query returning a canvas's settings and counters. (R458) -/
  | canvasQuery (c : Cmd)
  /-- COMP_STATS: Operator query returning compositor admission, load and counters. (R458) -/
  | compStats (c : Cmd)
  /-- ENC_CREATE: Creates an encode context on a canvas after admission and allocates its buffers. (R461) -/
  | encCreate (c : Cmd)
  /-- ENC_DELETE: Deletes an encode context, detaching every attached send flow first. (R464) -/
  | encDelete (c : Cmd)
  /-- ENC_SET: Changes an encode context's rate, priority, quantizer bounds and refresh settings at its effective frame. (R492) -/
  | encSet (c : Cmd)
  /-- ENC_ATTACH: Attaches a send flow to an encode context, first sending at the key frame served for it. (R488) -/
  | encAttach (c : Cmd)
  /-- ENC_DETACH: Detaches a send flow after the last packet of the frame in progress. (R491) -/
  | encDetach (c : Cmd)
  /-- ENC_REFRESH: Requests a refresh of an encode context, optionally a key frame. (R482) -/
  | encRefresh (c : Cmd)
  /-- ENC_QUERY: Query returning an encode context's state and counters. (R492) -/
  | encQuery (c : Cmd)
  /-- ENC_STATS: Operator query returning encoder admission, load and counters. (R492) -/
  | encStats (c : Cmd)
  /-- TILE_CREATE: Creates a tile of a ladder after admission and allocates its buffers. (R493) -/
  | tileCreate (c : Cmd)
  /-- TILE_DELETE: Deletes a tile that no layout names or cell shows. (R519) -/
  | tileDelete (c : Cmd)
  /-- TILE_SET: Changes a tile's rate at its effective frame. (R496) -/
  | tileSet (c : Cmd)
  /-- TILE_QUERY: Query returning a tile's state and counters. (R521) -/
  | tileQuery (c : Cmd)
  /-- SPLICE_CREATE: Makes a KIND 2 send flow a spliced output on the least loaded splice engine. (R506) -/
  | spliceCreate (c : Cmd)
  /-- SPLICE_DELETE: Removes a spliced output after the picture in progress. (R519) -/
  | spliceDelete (c : Cmd)
  /-- SPLICE_LAYOUT_SET: Sets a spliced output's grid layout as an atomic request from its effective frame. (R512) -/
  | spliceLayoutSet (c : Cmd)
  /-- SPLICE_SET: Sets a spliced output's minimum and maximum rung level. (R521) -/
  | spliceSet (c : Cmd)
  /-- SPLICE_QUERY: Query returning a spliced output's state and counters. (R521) -/
  | spliceQuery (c : Cmd)
  /-- SPLICE_STATS: Operator query returning splice engine totals. (R521) -/
  | spliceStats (c : Cmd)
  /-- DISP_SET: Operator command setting PROMO_AGE, STORM and STALE_MS from the next tick. (R542) -/
  | dispSet (c : Cmd)
  /-- DISP_TENANT_SET: Operator command setting a tenant's deficit round robin weight. (R535) -/
  | dispTenantSet (c : Cmd)
  /-- DISP_QUERY: Operator query returning Dispatcher table use and counters. (R542) -/
  | dispQuery (c : Cmd)
  /-- DISP_TENANT_QUERY: Query returning a tenant's weight, top level and queue state. (R542) -/
  | dispTenantQuery (c : Cmd)
  /-- DISP_KEY_QUERY: Operator query returning an atomic flow's state and binding. (R542) -/
  | dispKeyQuery (c : Cmd)
  /-- DISP_KEY_RESET: Operator command discarding an atomic flow's READY and WAITING tasks. (R540) -/
  | dispKeyReset (c : Cmd)
  /-- MEM_QUERY: Operator query returning a DRAM stack's state and error counters. (R581) -/
  | memQuery (c : Cmd)
  /-- MEM_LOG_READ: Operator query returning one correction log. (R581) -/
  | memLogRead (c : Cmd)
  /-- MEM_SET: Operator command setting RH_THRESH and SR_IDLE. (R581) -/
  | memSet (c : Cmd)
  /-- MEM_TENANT_SET: Operator command setting a tenant's BUSHEL_MAX. (R580) -/
  | memTenantSet (c : Cmd)
  /-- MEM_TENANT_QUERY: Query returning a tenant's bushel maximum and use. (R581) -/
  | memTenantQuery (c : Cmd)
  /-- DMA_QUERY: Operator query returning one DMA channel's status registers. (R605) -/
  | dmaQuery (c : Cmd)
  /-- DMA_STATS: Operator query returning a DMA engine's counters. (R605) -/
  | dmaStats (c : Cmd)
  /-- PFC_GEN_SET: Configures a physical port's PFC generator thresholds and priorities. (R604) -/
  | pfcGenSet (c : Cmd)
  /-- ATTEST_REPORT: Returns a signed attestation report for a tenant. (R618) -/
  | attestReport (c : Cmd)
  /-- ID_CERT_READ: Returns the identity certificate and Twihan intermediate. (R637) -/
  | idCertRead (c : Cmd)
  /-- PROVISION_SET: Enrols GROUP_ID and optionally the operator kernel key in PROVISION. (R611) -/
  | provisionSet (c : Cmd)
  /-- PROVISION_DONE: Seals the enrolment and moves the device to STANDBY. (R611) -/
  | provisionDone (c : Cmd)
  /-- TRUST_REPROVISION: Erases the operator enrolment and keys and enters PROVISION. (R612) -/
  | trustReprovision (c : Cmd)
  /-- PEER_MEAS_SET: Sets the approved peer hub measurements for cascade legs. (R625) -/
  | peerMeasSet (c : Cmd)
  /-- DTLS_KEY_CREATE: Generates or replaces a tenant's DTLS key and issues a certificate generation. (R619) -/
  | dtlsKeyCreate (c : Cmd)
  /-- DTLS_CERT_READ: Returns a tenant's DTLS certificate of a generation. (R637) -/
  | dtlsCertRead (c : Cmd)
  /-- DTLS_LEG_SET: Sets a leg's DTLS role, versions, profiles and peer fingerprint and binds the current generation. (R622) -/
  | dtlsLegSet (c : Cmd)
  /-- KEY_IMPORT: Stores a host-supplied SRTP key entry and returns a key handle. (R614) -/
  | keyImport (c : Cmd)
  /-- KEY_DELETE: Deletes a key entry that no leg names. (R615) -/
  | keyDelete (c : Cmd)
  /-- TRUNK_KEY_SET: Gives a host-keyed leg a new key handle, leaving CONNECTING after a T1. (R617) -/
  | trunkKeySet (c : Cmd)
  /-- TAMPER_SET: Sets the response class of a tamper sensor. (R790) -/
  | tamperSet (c : Cmd)
  /-- TAMPER_QUERY: Returns tamper state, classes and counters. (R637) -/
  | tamperQuery (c : Cmd)
  /-- IMAGE_COMMIT: Raises a rollback counter to the SVN of the running image of a type. (R630) -/
  | imageCommit (c : Cmd)
  /-- CIPHER_FLOW_QUERY: Query returning a flow's or leg's crypto state and counters. (R659) -/
  | cipherFlowQuery (c : Cmd)
  /-- CIPHER_PIN: Operator command pinning or unpinning a flow's clear context. (R644) -/
  | cipherPin (c : Cmd)
  /-- CIPHER_STATS: Operator query returning cipher cluster counters. (R659) -/
  | cipherStats (c : Cmd)
  /-- TIME_REF_SET: Sets the time reference and PTP instance parameters. (R667) -/
  | timeRefSet (c : Cmd)
  /-- TIME_ALLOW_STEP: Permits the pending DT step at the next tick start. (R673) -/
  | timeAllowStep (c : Cmd)
  /-- TIME_PPS_SECONDS: Names the TAI second of the next PPS_IN edge. (R678) -/
  | timePpsSeconds (c : Cmd)
  /-- PPS_OUT_SET: Sets PPS_OUT mode and pulse width from the next second boundary. (R679) -/
  | ppsOutSet (c : Cmd)
  /-- TIME_UTC_SET: Sets the operator UTC offset. (R663) -/
  | timeUtcSet (c : Cmd)
  /-- TIME_QUERY: Query returning time state, offsets and grandmaster. (R680) -/
  | timeQuery (c : Cmd)
  /-- CASTLE: Long-running command that castles an ACTIVE cluster's load to its region's SPARE. (R704) -/
  | castle (c : Cmd)
  /-- CLUSTER_BENCH: Long-running command that runs the bench tests on a BENCH cluster. (R709) -/
  | clusterBench (c : Cmd)
  /-- CLUSTER_SET_STATE: Sets a cluster to SPARE or RETIRED under Table 22-2. (R701) -/
  | clusterSetState (c : Cmd)
  /-- CLUSTER_QUERY: Query returning a cluster's state, retired units and epochs. (R719) -/
  | clusterQuery (c : Cmd)
  /-- REPAIR_SET: Sets AUTO_CASTLE and AUTO_BENCH. (R703) -/
  | repairSet (c : Cmd)
  /-- IMAGE_WRITE: Long-running command that checks an image and writes it to a flash slot or DRAM stage. (R712) -/
  | imageWrite (c : Cmd)
  /-- IMAGE_ACTIVATE: Long-running command that activates a cluster image by rolling castlings or a hub image by a pause. (R713) -/
  | imageActivate (c : Cmd)
  /-- CONF_HOME_SET: Moves a conference's home package at grain G. (R718) -/
  | confHomeSet (c : Cmd)
  /-- EVT_MASK_SET: Sets the issuing function's event mask for one group. (R722) -/
  | evtMaskSet (c : Cmd)
  /-- EVT_MASK_QUERY: Returns the issuing function's ten mask words. (R737) -/
  | evtMaskQuery (c : Cmd)
  /-- RECORD_SET: Sets RECORD_MASK and the optional entry rate. (R725) -/
  | recordSet (c : Cmd)
  /-- RECORD_QUERY: Returns the record's sequence and return state. (R737) -/
  | recordQuery (c : Cmd)
  /-- RECORD_READ: Returns up to 63 record entries as stored. (R731) -/
  | recordRead (c : Cmd)
  /-- RECORD_EXPORT: Long-running command that writes a signed export of a record range to host memory. (R731) -/
  | recordExport (c : Cmd)
  /-- RECORD_SEAL: Writes a seal entry to the record. (R726) -/
  | recordSeal (c : Cmd)
  /-- RETURN_CHALLENGE: Returns a fresh challenge and the identity hash for a return token. (R734) -/
  | returnChallenge (c : Cmd)
  /-- RETURN_ARM: Accepts a Twihan token arming return or opening a test session. (R735) -/
  | returnArm (c : Cmd)
  /-- RETURN_ENTER: Enters RETURN from STANDBY with erasure of keys. (R733) -/
  | returnEnter (c : Cmd)
  /-- RETURN_EXIT: Leaves RETURN with a token, optionally clearing the first-fault region and mesh latch, and resets. (R736) -/
  | returnExit (c : Cmd)
  /-- TENANT_HOST_SET: Sets a tenant's top priority level and WAIT_LIMIT. (R762) -/
  | tenantHostSet (c : Cmd)
  /-- TENANT_HOST_QUERY: Returns a tenant's top level, function presence, WAIT_LIMIT and doorbell errors. (R762) -/
  | tenantHostQuery (c : Cmd)
  /-- HOST_LINK_QUERY: Returns PCIe link state and error counters. (R762) -/
  | hostLinkQuery (c : Cmd)
  /-- DIAG_LOOPBACK: Long-running command running a PRBS loopback test on a physical port in DIAGNOSTIC. (R762) -/
  | diagLoopback (c : Cmd)
  /-- MGMT_SET: Sets the ALERT_N mask. (R756) -/
  | mgmtSet (c : Cmd)
  /-- ADD: DSP ALU instruction adding two D registers and setting flags. (R321) -/
  | dspAdd (core dst srcA srcB sh acc : Nat) (x : DspMove) (f : DspMem)
  /-- SUB: DSP ALU instruction subtracting two D registers and setting flags. (R321) -/
  | dspSub (core dst srcA srcB sh acc : Nat) (x : DspMove) (f : DspMem)
  /-- AND: DSP ALU bitwise AND. (R321) -/
  | dspAnd (core dst srcA srcB sh acc : Nat) (x : DspMove) (f : DspMem)
  /-- OR: DSP ALU bitwise OR. (R321) -/
  | dspOr (core dst srcA srcB sh acc : Nat) (x : DspMove) (f : DspMem)
  /-- XOR: DSP ALU bitwise XOR. (R321) -/
  | dspXor (core dst srcA srcB sh acc : Nat) (x : DspMove) (f : DspMem)
  /-- ASR: DSP ALU arithmetic shift right by SH. (R321) -/
  | dspAsr (core dst srcA srcB sh acc : Nat) (x : DspMove) (f : DspMem)
  /-- LSR: DSP ALU logical shift right by SH. (R321) -/
  | dspLsr (core dst srcA srcB sh acc : Nat) (x : DspMove) (f : DspMem)
  /-- LSL: DSP ALU shift left by SH. (R321) -/
  | dspLsl (core dst srcA srcB sh acc : Nat) (x : DspMove) (f : DspMem)
  /-- ABS: DSP ALU absolute value with saturation of the minimum value. (R321) -/
  | dspAbs (core dst srcA srcB sh acc : Nat) (x : DspMove) (f : DspMem)
  /-- MIN: DSP ALU signed minimum. (R321) -/
  | dspMin (core dst srcA srcB sh acc : Nat) (x : DspMove) (f : DspMem)
  /-- MAX: DSP ALU signed maximum. (R321) -/
  | dspMax (core dst srcA srcB sh acc : Nat) (x : DspMove) (f : DspMem)
  /-- CMP: DSP ALU compare setting flags only. (R321) -/
  | dspCmp (core dst srcA srcB sh acc : Nat) (x : DspMove) (f : DspMem)
  /-- NEG: DSP ALU negation. (R321) -/
  | dspNeg (core dst srcA srcB sh acc : Nat) (x : DspMove) (f : DspMem)
  /-- SAT24: DSP ALU clamp to the 24-bit range. (R321) -/
  | dspSat24 (core dst srcA srcB sh acc : Nat) (x : DspMove) (f : DspMem)
  /-- ADDA: DSP accumulator add of another accumulator. (R321) -/
  | dspAdda (core dst srcA srcB sh acc : Nat) (x : DspMove) (f : DspMem)
  /-- SHLA: DSP accumulator shift left. (R321) -/
  | dspShla (core dst srcA srcB sh acc : Nat) (x : DspMove) (f : DspMem)
  /-- SHRA: DSP accumulator arithmetic shift right. (R321) -/
  | dspShra (core dst srcA srcB sh acc : Nat) (x : DspMove) (f : DspMem)
  /-- MOVA: DSP move of accumulator bits [62:31] to a D register by truncation. (R320) -/
  | dspMova (core dst srcA srcB sh acc : Nat) (x : DspMove) (f : DspMem)
  /-- MOVAS: DSP saturating move of an accumulator to a D register. (R320) -/
  | dspMovas (core dst srcA srcB sh acc : Nat) (x : DspMove) (f : DspMem)
  /-- MOVDA: DSP load of a D register into an accumulator. (R321) -/
  | dspMovda (core dst srcA srcB sh acc : Nat) (x : DspMove) (f : DspMem)
  /-- CLRAOV: DSP clear of one accumulator overflow bit. (R321) -/
  | dspClraov (core dst srcA srcB sh acc : Nat) (x : DspMove) (f : DspMem)
  /-- MAC: DSP DUAL slot multiply-accumulate. (R321) -/
  | dspMac (core : Nat) (inB : Bool) (acc a b : Nat) (other : DspSlot) (x y : DspMove) (f : DspMem)
  /-- MSU: DSP DUAL slot multiply-subtract. (R321) -/
  | dspMsu (core : Nat) (inB : Bool) (acc a b : Nat) (other : DspSlot) (x y : DspMove) (f : DspMem)
  /-- MPY: DSP DUAL slot multiply into accumulator. (R321) -/
  | dspMpy (core : Nat) (inB : Bool) (acc a b : Nat) (other : DspSlot) (x y : DspMove) (f : DspMem)
  /-- MPYN: DSP DUAL slot negated multiply. (R321) -/
  | dspMpyn (core : Nat) (inB : Bool) (acc a b : Nat) (other : DspSlot) (x y : DspMove) (f : DspMem)
  /-- CLRA: DSP DUAL slot accumulator clear. (R321) -/
  | dspClra (core : Nat) (inB : Bool) (acc a b : Nat) (other : DspSlot) (x y : DspMove) (f : DspMem)
  /-- MOVE_LOAD: DSP move loading an aligned word from XMEM or YMEM into a D register with address update. (R322) -/
  | dspMoveLoad (core : Nat) (inY : Bool) (d p mod : Nat) (a b : DspSlot) (other : DspMove) (f : DspMem) (ecc : Ecc)
  /-- MOVE_STORE: DSP move storing a D register to XMEM or YMEM with address update. (R323) -/
  | dspMoveStore (core : Nat) (inY : Bool) (d p mod : Nat) (a b : DspSlot) (other : DspMove) (f : DspMem) (ecc : Ecc)
  /-- LDI_D: DSP load of an immediate into a D register. (R321) -/
  | dspLdiD (core dst src imm : Nat) (f : DspMem)
  /-- LDI_P: DSP load of an immediate into an address register. (R321) -/
  | dspLdiP (core dst src imm : Nat) (f : DspMem)
  /-- LDI_M: DSP load of an immediate into a modifier register. (R321) -/
  | dspLdiM (core dst src imm : Nat) (f : DspMem)
  /-- LDI_LC: DSP load of an immediate into a loop counter. (R321) -/
  | dspLdiLc (core dst src imm : Nat) (f : DspMem)
  /-- ADDI_D: DSP add of an immediate to a D register. (R321) -/
  | dspAddiD (core dst src imm : Nat) (f : DspMem)
  /-- ADDI_P: DSP add of an immediate to an address register. (R321) -/
  | dspAddiP (core dst src imm : Nat) (f : DspMem)
  /-- MOVS_TO: DSP write of a D register to SR. (R321) -/
  | dspMovsTo (core dst src imm : Nat) (f : DspMem)
  /-- MOVS_FROM: DSP read of SR into a D register. (R321) -/
  | dspMovsFrom (core dst src imm : Nat) (f : DspMem)
  /-- ROT: DSP decrement of the rotating register base. (R318) -/
  | dspRot (core dst src imm : Nat) (f : DspMem)
  /-- NOP: DSP control no-operation. (R321) -/
  | dspNop (core cond cnt addr : Nat) (f : DspMem)
  /-- BR: DSP branch after two delay slots. (R324) -/
  | dspBr (core cond cnt addr : Nat) (f : DspMem)
  /-- BRC: DSP conditional branch after two delay slots. (R324) -/
  | dspBrc (core cond cnt addr : Nat) (f : DspMem)
  /-- CALL: DSP call pushing the return index. (R324) -/
  | dspCall (core cond cnt addr : Nat) (f : DspMem)
  /-- RET: DSP return popping the return index. (R324) -/
  | dspRet (core cond cnt addr : Nat) (f : DspMem)
  /-- LOOP: DSP hardware loop with an immediate count. (R325) -/
  | dspLoop (core cond cnt addr : Nat) (f : DspMem)
  /-- LOOPR: DSP hardware loop with a count from LC0 or LC1. (R325) -/
  | dspLoopr (core cond cnt addr : Nat) (f : DspMem)
  /-- REP: DSP repeat of the next instruction up to 4,096 times. (R327) -/
  | dspRep (core cond cnt addr : Nat) (f : DspMem)
  /-- BREAK: DSP end of the innermost loop. (R326) -/
  | dspBreak (core cond cnt addr : Nat) (f : DspMem)
  /-- HALT: DSP end of a kernel invocation with status in D0. (R338) -/
  | dspHalt (core cond cnt addr : Nat) (f : DspMem)
  /-- KERNEL_WATCHDOG: Watchdog reaching CYC_MAX requests an interrupt that aborts the invocation. (R340) -/
  | kernelWatchdog (t core : Nat)
  /-- SQ_DOORBELL_WRITE: Write to IW_SQ_DBn announcing entries up to INDEX. (R103) -/
  | sqDoorbellWrite (t fn n value : Nat)
  /-- CQ_HEAD_WRITE: Write to IW_CQ_HDn freeing completion entries. (R103) -/
  | cqHeadWrite (t fn n value : Nat)
  /-- EQ_HEAD_WRITE: Write to IW_EQ_HD freeing event entries. (R103) -/
  | eqHeadWrite (t fn value : Nat)
  /-- EVT_SUMMARY_CLEAR: W1C write clearing summary bits of IW_EVT_SUMMARY. (R723) -/
  | evtSummaryClear (t fn value : Nat)
  /-- TIME_CAPTURE: Write of 1 to CAPTURE latching DT into the function's time registers. (R747) -/
  | timeCapture (t fn value : Nat)
  /-- SQ_ENABLE: Setting ENABLE of an SQ, resetting its position and starting a new CHAIN run. (R750) -/
  | sqEnable (t fn n value : Nat)
  /-- SQ_DISABLE: Clearing ENABLE of an SQ, stopping fetch after the entry in progress. (R750) -/
  | sqDisable (t fn n value : Nat)
  /-- CQ_ENABLE: Setting ENABLE of a CQ, resetting position and phase. (R750) -/
  | cqEnable (t fn n value : Nat)
  /-- CQ_DISABLE: Clearing ENABLE of a CQ, discarding waiting completions. (R750) -/
  | cqDisable (t fn n value : Nat)
  /-- EQ_ENABLE: Setting ENABLE of the EQ, resetting position and phase. (R750) -/
  | eqEnable (t fn value : Nat)
  /-- EQ_DISABLE: Clearing ENABLE of the EQ, discarding held ordinary events. (R750) -/
  | eqDisable (t fn value : Nat)
  /-- Q_STATUS_READ_CLEAR: Read of Q_STATUS that returns and clears the RC field DB_ERR. (R745) -/
  | qStatusReadClear (t fn q : Nat)
  /-- BOOT_GO: Write of GO to IW_BOOT_CTL starting the fetch and check of host-pushed images. (R759) -/
  | bootGo (t fn value : Nat)
  /-- REGISTER_WRITE: Write to an immediate-window register without behaviour of its own. (R745) -/
  | registerWrite (t fn bar offset size value : Nat)
  /-- MSIX_VECTOR_UNMASK: Unmasking an MSI-X vector, sending its pending message. (R752) -/
  | msixVectorUnmask (t fn v : Nat)
  /-- MSIX_COALESCE_EXPIRY: COAL_US expiry firing an MSI-X message for the entries written. (R751) -/
  | msixCoalesceExpiry (t fn v : Nat)
  /-- COMMAND_FETCH: Device fetch of an announced SQ entry and its parameters with the acceptance checks. (R110) -/
  | commandFetch (t fn sq : Nat) (e : SqEntry)
  /-- COMMAND_EXECUTE_START: Start of execution of an accepted command after its wait, with the mode and handle rechecks. (R111) -/
  | commandExecuteStart (t id : Nat)
  /-- COMMAND_TIMEOUT: WAIT_LIMIT expiry completing a waiting command with TIMEOUT. (R129) -/
  | commandTimeout (t id : Nat)
  /-- COMPLETION_WRITE: Write of a completion entry to its CQ once it has room. (R132) -/
  | completionWrite (t fn cq : Nat)
  /-- EVENT_WRITE: Write of a held or new event entry to a function's EQ once it can take it. (R721) -/
  | eventWrite (t fn : Nat) (completion : Bool)
  /-- KERNEL_LOADED: Completion of KERNEL_LOAD with completion event 172. (R343) -/
  | kernelLoaded (t id : Nat) (image : List Byte) (fetchErr : Bool)
  /-- OVERLAY_LOADED: Completion of OVERLAY_LOAD with completion event 200. (R451) -/
  | overlayLoaded (t id : Nat) (image : List Byte) (fetchErr : Bool)
  /-- CASTLE_HANDOVER: Handover of a castling at its safe point, moving dirty lines and bindings and advancing the region epoch. (R705) -/
  | castleHandover (t r : Nat) (failed : Option Nat)
  /-- CASTLE_DONE: Release phase of a castling putting the source in BENCH and raising completion event 288. (R704) -/
  | castleDone (t r : Nat)
  /-- AUTO_CASTLE_START: Automatic castling of a cluster with a failed unit once a SPARE and mode allow. (R703) -/
  | autoCastleStart (t c : Nat)
  /-- BENCH_DONE: Completion of a cluster's bench tests deciding its next state. (R709) -/
  | benchDone (t c : Nat) (failed : List Nat)
  /-- IMAGE_WRITTEN: Completion of IMAGE_WRITE with completion event 297. (R712) -/
  | imageWritten (t : Nat) (img : Image) (fetchErr : Bool)
  /-- HUB_PAUSE: Pause of the control cores to start a new hub image once no castling runs. (R714) -/
  | hubPause (t us : Nat) (ok : Bool)
  /-- UPDATE_DONE: Completion of IMAGE_ACTIVATE with completion event 298. (R713) -/
  | updateDone (t : Nat)
  /-- RECORD_EXPORTED: Completion of RECORD_EXPORT with completion event 304. (R732) -/
  | recordExported (t corrected : Nat) (unreadable failing : List Nat)
  /-- LOOPBACK_DONE: Completion of DIAG_LOOPBACK with completion event 29. (R762) -/
  | loopbackDone (t phys frames errors : Nat)
  /-- UNIT_RELOAD: Completion of a unit's reload from the cluster checkpoint, setting its epoch. (R711) -/
  | unitReload (t c u : Nat)
  /-- VBAT_APPLIED: VBAT applied in OFF entering KEEPALIVE. (R771) -/
  | vbatApplied (t : Nat)
  /-- VBAT_REMOVED: Removal of VBAT. (R771) -/
  | vbatRemoved (t : Nat)
  /-- PWRGD_RISE: PWRGD rising with RESET_N high latching straps and entering INIT. (R688) -/
  | pwrgdRise (t : Nat) (x : Straps)
  /-- PWRGD_FALL: PWRGD falling starting the power-down steps without firmware. (R691) -/
  | pwrgdFall (t : Nat) (inProgress whole down : Bool)
  /-- RESET_N_ASSERT: RESET_N held low performing the power-down steps with rails kept. (R692) -/
  | resetNAssert (t : Nat)
  /-- RESET_N_RELEASE: RESET_N high again latching straps and entering INIT. (R692) -/
  | resetNRelease (t : Nat) (x : Straps)
  /-- INIT_DONE: Completion of key draw, training and memory fill entering BOOT. (R575) -/
  | initDone (t us : Nat) (fail : Option (Nat × Nat)) (vault : Option Nat) (head : Nat)
  /-- BOOT_DONE: Completion of image verification and unit self-test, choosing the mode after BOOT. (R688) -/
  | bootDone (t : Nat) (hub cluster : List Image) (failed : List (Nat × Nat)) (holdupUs : Nat)
  /-- PFW_N_ASSERT: Recognised PFW_N entering RIDETHROUGH, flushing the record and shedding stage 1. (R693) -/
  | pfwNAssert (t : Nat)
  /-- RIDE_STAGE: STAGE_MS expiry shedding the next ride-through stage. (R693) -/
  | rideStage (t : Nat)
  /-- PFW_N_RELEASE: Release of PFW_N returning to SERVICE or DEGRADED before RIDE_MAX. (R694) -/
  | pfwNRelease (t : Nat)
  /-- RIDE_MAX_EXPIRED: RIDE_MAX expiry flushing the record and keeping RIDETHROUGH. (R695) -/
  | rideMaxExpired (t : Nat)
  /-- TAMPER_DETECT: Detection by a tamper sensor triggering its class's response. (R631) -/
  | tamperDetect (t sensor : Nat) (more : List (Nat × Nat)) (active : Nat)
  /-- TAMPER_WHILE_OFF: Detection while only VBAT supplies the device, latched in the always-on domain. (R633) -/
  | tamperWhileOff (t sensor : Nat)
  /-- JTAG_INSTRUCTION_SELECT: Selection of a JTAG instruction, a tamper detection unless a permitted one. (R760) -/
  | jtagInstructionSelect (t ins : Nat)
  /-- THERMAL_SAMPLE: Every-100 µs die temperature sample beginning or ending throttling stages. (R697) -/
  | thermalSample (t die : Nat) (temp : Int) (bad : List Nat)
  /-- POWER_ESTIMATE: Every-1 ms package power estimate applying the power cap. (R699) -/
  | powerEstimate (t w : Nat)
  /-- LINK_REPLAY: Replay of a die-link flit received with a CRC error. (R36) -/
  | linkReplay (t k : Nat) (again : Bool)
  /-- LINK_RETRAIN: Retrain of a die link after 8 failed replays, fatal after 3 failed retrains. (R37) -/
  | linkRetrain (t k : Nat)
  /-- PCIE_FLR: Function-level reset disabling the function's queues and discarding its held events. (R99) -/
  | pcieFlr (t fn : Nat)
  /-- VF_CONFIG_CHANGE: Change of VF Enable or NumVFs resetting functions that stop existing. (R739) -/
  | vfConfigChange (t : Nat) (enable : Bool) (num : Nat)
  /-- PCIE_LINK_RESET: Fundamental reset, hot reset or link down acting as a reset of every function. (R741) -/
  | pcieLinkReset (t : Nat)
  /-- PCIE_LINK_UP: PCIe link training completed, raising event 24. (R741) -/
  | pcieLinkUp (t gen width : Nat)
  /-- BUS_MASTER_CHANGE: Change of a function's Bus Master Enable or power state holding or releasing its queues. (R740) -/
  | busMasterChange (t fn : Nat) (busMaster memSpace d3 : Bool)
  /-- MB_POINTER_WRITE: Management bus write of the pointer byte. (R754) -/
  | mbPointerWrite (t p : Nat)
  /-- MB_READ: Management bus read freezing one snapshot and advancing the pointer. (R755) -/
  | mbRead (t n : Nat)
  /-- MB_ALERT_RESPONSE: Read of the SMBus alert response address releasing ALERT_N. (R756) -/
  | mbAlertResponse (t : Nat)
  /-- MB_BUS_STUCK: SDA or SCL low for 25 ms resetting the management interface. (R756) -/
  | mbBusStuck (t line : Nat)
  /-- MB_SNAPSHOT_REFRESH: Every-1 ms refresh of the management snapshot. (R755) -/
  | mbSnapshotRefresh (t : Nat) (rails : List Nat)
  /-- FRAME_RECEIVE: A received frame stamped and passed through the parse tree, policing and flow lookup. (R143) -/
  | frameReceive (t port : Nat) (f : RxFrame) (buf : Nat)
  /-- FLOW_CACHE_FILL: Completion of a flow context fetch from DRAM releasing packets from the miss queue. (R78) -/
  | flowCacheFill (t flow : Nat)
  /-- CLEAR_CONTEXT_LOAD: Completion of unwrapping a flow's crypto state into a clear context. (R643) -/
  | clearContextLoad (t h : Nat) (ok : Bool)
  /-- CIPHER_VERDICT: Completion of a packet's decryption and authentication committing or rewinding its ring entry. (R161) -/
  | cipherVerdict (t id : Nat) (auth fcs : Bool) (ecc : Nat)
  /-- CIPHER_ENCRYPT_DONE: Completion of SRTP protection of an egress packet handed to the enqueue. (R654) -/
  | cipherEncryptDone (t id ecc : Nat)
  /-- RING_READ: Presentation of a committed ring packet to jitter buffers, reorder buffers, FEC or control cores. (R164) -/
  | ringRead (t pipe : Nat) (parse : List Layer)
  /-- DTLS_RECORD_PROCESS: Processing of a DTLS record by the control cores, completing a handshake when its checks pass. (R624) -/
  | dtlsRecordProcess (t leg : Nat) (evt : DtlsEvt)
  /-- DTLS_FLIGHT_RETRANSMIT: Retransmission timer expiry resending a DTLS flight. (R627) -/
  | dtlsFlightRetransmit (t leg : Nat)
  /-- CONNECT_LIMIT_EXPIRY: CONNECT_LIMIT elapsing without a handshake, putting the leg in CLOSING. (R70) -/
  | connectLimitExpiry (t leg : Nat)
  /-- CONSENT_LOST: CONSENT_LIMIT elapsing without a valid STUN request, closing the leg. (R155) -/
  | consentLost (t leg : Nat)
  /-- MEDIA_TIMEOUT: No packet for 10 s on a LIVE receive flow. (R117) -/
  | mediaTimeout (t flow : Nat)
  /-- NACK_TIMER: Expiry of a gap's NACK timer sending a generic NACK. (R173) -/
  | nackTimer (t flow : Nat)
  /-- REORDER_ABANDON: Expiry of a gap's abandonment deadline releasing past it. (R175) -/
  | reorderAbandon (t flow : Nat)
  /-- SWITCH_TIMEOUT: SWITCH_WAIT expiry without a key frame pausing or abandoning a switch. (R194) -/
  | switchTimeout (t flow : Nat)
  /-- PLI_TIMEOUT: Unanswered PLI timeout leading to a FIR after two. (R204) -/
  | pliTimeout (t flow : Nat)
  /-- ESTIMATOR_RUN: Every-25 ms estimator run updating rate, shaper, FEC overhead and layers. (R221) -/
  | estimatorRun (t leg : Nat)
  /-- RTCP_INTERVAL: Expiry of a leg's randomised RTCP interval sending a compound packet. (R210) -/
  | rtcpInterval (t leg : Nat)
  /-- TWCC_FEEDBACK_SEND: Transport-wide feedback sent every 50 ms or 100 packets. (R212) -/
  | twccFeedbackSend (t leg : Nat)
  /-- EGRESS_ENQUEUE: Enqueue of a complete frame into a leg lane with queue and pool checks. (R243) -/
  | egressEnqueue (t : Nat)
  /-- EGRESS_SELECT: Selection and start of the next frame when a logical port's link becomes free. (R249) -/
  | egressSelect (t port : Nat)
  /-- QUEUE_SAMPLE: Every-1 ms sample of each leg queue's depth and head-of-line delay. (R260) -/
  | queueSample (t : Nat)
  /-- GATE_ENTRY_CHANGE: Boundary of a gate control list entry changing the open classes. (R262) -/
  | gateEntryChange (t port : Nat)
  /-- GCL_START: Start of a pending gate control list at its start instant. (R263) -/
  | gclStart (t port : Nat)
  /-- PFC_PAUSE_EXPIRY: End of a received pause's duration resuming paused classes. (R270) -/
  | pfcPauseExpiry (t port : Nat)
  /-- PFC_PAUSE_REPEAT: Re-sending of a pause every half pause time while above XON. (R603) -/
  | pfcPauseRepeat (t port : Nat)
  /-- FEC_BLOCK_FLUSH: FLUSH_MS expiry closing a partial FEC block. (R272) -/
  | fecBlockFlush (t flow : Nat)
  /-- LINK_UP: A logical port's link coming up. (R246) -/
  | linkUp (t port : Nat)
  /-- LINK_DOWN: A logical port's link going down, discarding its queued frames. (R246) -/
  | linkDown (t port : Nat)
  /-- DISPATCHER_TICK: Start of a 10 µs Dispatcher tick. (R531) -/
  | dispatcherTick (t : Nat) (overrun sat : Bool) (links : List (Nat × Nat)) (errs : List (Nat × Nat × Bool)) (new : List NewTask) (timers : List TimerOp)
  /-- GRAIN_OPEN: Opening of a grain at every 250th tick, advancing grain-periodic tasks. (R531) -/
  | grainOpen (t : Nat) (x : GrainIn) (coded : List (Nat × List Byte))
  /-- TIMER_FIRE: Firing of a delay-list timer decrementing its task's counter. (R530) -/
  | timerFire (t timer : Nat)
  /-- PROMOTION: Promotion of a waiting user task by one level or to urgent after PROMO_AGE. (R536) -/
  | promotion (t id : Nat)
  /-- STALEMATE_CHECK: Every-1 ms check putting atomic flows without progress into stalemate. (R539) -/
  | stalemateCheck (t : Nat)
  /-- PERIOD_BOUNDARY: Period boundary of a periodic task reloading its counter and marking overruns. (R525) -/
  | periodBoundary (t idx : Nat)
  /-- COMPLETION_PULSE: A completion pulse decrementing a task's dependence counter. (R523) -/
  | completionPulse (t idx inst kind : Nat)
  /-- TASK_DISPATCH: Dispatch of a READY task to an eligible executor after the epoch check. (R527) -/
  | taskDispatch (t idx unit : Nat)
  /-- TASK_COMPLETE: Completion of a dispatched task sending pulses to its successors. (R523) -/
  | taskComplete (t idx : Nat) (new : List NewTask) (timers : List TimerOp)
  /-- MIX_GRAIN_COMPLETE: Completion of a conference's grain mix with selection, sums and limiting. (R278) -/
  | mixGrainComplete (t conf : Nat) (late : Bool) (coded : List (Nat × List Byte))
  /-- CONF_PARK: Parking of a conference after PARK_S of silence. (R311) -/
  | confPark (t conf : Nat)
  /-- CLUSTER_POWER_GATE: Power-gating of an audio cluster after 200 ms without work. (R313) -/
  | clusterPowerGate (t c : Nat)
  /-- SAP_START: Start of a serial audio port's framing at its first grain-opening edge. (R372) -/
  | sapStart (t port : Nat)
  /-- SAP_REALIGN: Restart of port framing at the first grain boundary 20 µs after a DT step. (R354) -/
  | sapRealign (t : Nat)
  /-- HEADER_PARSE: Control-core parse of a ready frame's headers into a frame task. (R414) -/
  | headerParse (t ctx : Nat) (f : FrameInfo)
  /-- DECODE_FRAME_DONE: Completion of a frame decode making it the current output; `lost` are the areas that were not decoded:
  of slices or tiles not wholly received, or in which the decoder found an error. (R415, R423, R428) -/
  | decodeFrameDone (t ctx : Nat) (pix : Pix) (lost : List Rect)
  /-- DECODE_LATE: LATE_MS expiry on a frame not yet decoded. (R419) -/
  | decodeLate (t ctx : Nat)
  /-- DECODER_HANG: Hang bound expiry resetting a decoder and redispatching its frame. (R417) -/
  | decoderHang (t ctx : Nat)
  /-- CANVAS_PASS_READY: Sample instant of a canvas frame making its pass ready. (R435) -/
  | canvasPassReady (t canvas : Nat)
  /-- COMPOSE_PASS_DONE: Completion of a composition pass. (R436) -/
  | composePassDone (t canvas : Nat)
  /-- COMPOSITOR_HANG: Hang bound expiry resetting a compositor and rerunning the pass. (R438) -/
  | compositorHang (t canvas : Nat)
  /-- GUARD_READBACK_DONE: Completion of guard rectangle readback deciding whether the frame is published. (R455) -/
  | guardReadbackDone (t canvas : Nat) (found : List (Option Nat))
  /-- ENCODE_ROW_DONE: Completion of coding a block row, committed or replaced against the cap. (R478) -/
  | encodeRowDone (t h bits repl : Nat)
  /-- ENCODE_FRAME_DONE: Completion of an encoded frame updating carry and packetizing it. (R472) -/
  | encodeFrameDone (t h : Nat) (coded : Coded)
  /-- ENCODER_HANG: Hang bound expiry resetting an encoder and recoding the frame. (R486) -/
  | encoderHang (t h bits : Nat)
  /-- REFRESH_DEFER_EXPIRY: End of REFRESH_MIN serving deferred refresh requests. (R483) -/
  | refreshDeferExpiry (t ctx : Nat)
  /-- KEY_S_EXPIRY: KEY_S elapsing since the last key frame requesting a refresh. (R482) -/
  | keySExpiry (t ctx : Nat)
  /-- REFRESH_ALLOCATE: Grant of refresh variants for tile frames at each ready instant. (R504) -/
  | refreshAllocate (t fps : Nat)
  /-- REFRESH_VARIANT_DONE: Completion of a lossless refresh variant of a tile frame. (R501) -/
  | refreshVariantDone (t tile form : Nat) (coded : Coded)
  /-- SPLICE_PICTURE_ASSEMBLE: Assembly of a spliced picture once all its cell inputs are settled. (R509) -/
  | splicePictureAssemble (t flow syn : Nat)
  /-- BEACON_PEAK: Correlator peak in a demodulator driving its receiver state. (R388) -/
  | beaconPeak (t ch pos c before after : Nat) (p : Int) (sync : Bool)
  /-- BEACON_SYNC: Sync word found in SEARCH locking the receiver. (R389) -/
  | beaconSync (t ch pos corr : Nat) (p : Int)
  /-- BEACON_SEARCH_TIMEOUT: Sync search window ending without a sync word. (R389) -/
  | beaconSearchTimeout (t ch : Nat)
  /-- BEACON_FRAME_END: Reception of chip 637 with BCH and CRC checks of the frame. (R392) -/
  | beaconFrameEnd (t ch : Nat) (d : List Int)
  /-- BEACON_PERIOD_END: End of a leg's 800-grain beacon period updating co-location. (R401) -/
  | beaconPeriodEnd (t leg : Nat)
  /-- DRAM_COMMAND_ISSUE: Controller choice and issue of the next DRAM command when the bus is free. (R546) -/
  | dramCommandIssue (t stack pc : Nat) (arrive : List DramReq) (ecc : Ecc)
  /-- REFRESH_DUE: Refresh interval expiry adding an owed refresh. (R552) -/
  | refreshDue (t stack pc : Nat)
  /-- DRAM_TEMP_SAMPLE: Every-100 µs stack temperature sample switching hot refresh. (R553) -/
  | dramTempSample (t k : Nat) (temp : Int)
  /-- SCRUB_WRITEBACK: Write-back of a corrected line after 4 corrections. (R569) -/
  | scrubWriteback (t log addr : Nat)
  /-- PATROL_SCRUB: Patrol scrubber read of a DRAM line or SRAM word in an idle slot. (R574) -/
  | patrolScrub (t log addr : Nat) (cluster : Option Nat) (ecc : Ecc)
  /-- SELF_REFRESH_ENTER: SR_IDLE expiry in STANDBY putting all stacks in self-refresh. (R560) -/
  | selfRefreshEnter (t : Nat)
  /-- BUSHEL_ZERO_FILL: Completion of zero-filling a freed bushel returning it to the pool. (R579) -/
  | bushelZeroFill (t : Nat)
  /-- DMA_BURST: Issue of one 64-byte DMA burst of a channel. (R582) -/
  | dmaBurst (t e ch : Nat) (x : DmaIn)
  /-- DMA_DESCRIPTOR_DONE: Completion of a descriptor's last write burst sending its pulse. (R588) -/
  | dmaDescriptorDone (t e ch : Nat)
  /-- DMA_STOP_REQUEST: Stop request pausing a privileged channel or aborting another. (R592) -/
  | dmaStopRequest (t e ch : Nat)
  /-- DMA_RESUME: Firmware resume or abort of a paused or halted channel. (R596) -/
  | dmaResume (t e ch : Nat) (abort : Bool)
  /-- QUEUE_WRITE: Write of a word to a crossing queue, waiting while full. (R598) -/
  | queueWrite (t reader writer q word : Nat)
  /-- QUEUE_READ: Read of a crossing queue returning a word or VALID clear. (R599) -/
  | queueRead (t reader writer q : Nat)
  /-- RNG_HEALTH_TEST: Entropy source health test stopping key generation on failure. (R608) -/
  | rngHealthTest (t : Nat) (failed : Option Nat)
  /-- CERT_REISSUE: Issue of a new certificate generation within 1 s of a measured change. (R621) -/
  | certReissue (t tenant : Nat)
  /-- CERT_RENEWAL: Renewal of a generation 335 days after its issue. (R623) -/
  | certRenewal (t tenant gen : Nat)
  /-- CIPHER_SELFTEST: Every-1 ms known-answer test of each cipher unit. (R657) -/
  | cipherSelftest (t : Nat) (fails : List (Nat × Nat × Bool))
  /-- RECORD_COMMIT: Two-phase commit of a queued record entry. (R727) -/
  | recordCommit (t : Nat)
  /-- REFERENCE_LOST: Loss of the time reference entering HOLDOVER. (R675) -/
  | referenceLost (t : Nat)
  /-- PPS_IN_EDGE: Rising edge of PPS_IN marking a DT second. (R678) -/
  | ppsInEdge (t : Nat)
  /-- DT_STEP_APPLY: Application of a DT step at a tick start with its effects on grains, timers and buffers. (R674) -/
  | dtStepApply (t : Nat)
  /-- LEAP_SECOND: Change of UTC_OFFSET at the end of a UTC day. (R664) -/
  | leapSecond (t : Nat)
  /-- PTP_SYNC_SEND: Master instance sending Sync and Follow_Up at its interval. (R670) -/
  | ptpSyncSend (t : Nat)
  /-- PPS_OUT_EDGE: Rising of PPS_OUT at each DT second boundary. (R679) -/
  | ppsOutEdge (t : Nat)
  /-- SHAPER_BUCKET_ZERO: A leg's shaper bucket refills to zero while the link is idle, making its lanes eligible and waking the scheduler. (R249) -/
  | shaperBucketZero (t leg : Nat)
  /-- CERTIFICATE_EXPIRY: The end of a DTLS certificate generation's 365-day validity, closing CONNECTING legs bound to it and stopping new handshakes on it. (R622) -/
  | certificateExpiry (t tenant gen : Nat)
  /-- RAIL_ALARM: A supply rail stays more than 5 % from nominal for 1 ms while PWRGD is high, raising event 16. (R765) -/
  | railAlarm (t rail mv : Nat)
  /-- RAIL_CLEARED: A rail that raised an alarm returns within range, raising event 17. (R765) -/
  | railCleared (t rail mv : Nat)
  /-- LEG_FREED: A CLOSING leg becomes FREE once lane 7 has drained or 20 ms have passed and one frame interval has followed the second grain boundary. The delete reply goes out, and the conference can then close. (R72) -/
  | legFreed (t leg : Nat)
  /-- LINK_RETRAIN_DONE: A die-link retrain ends within 50 µs, and the link either resumes traffic or counts a failed retrain toward the fatal limit of R38. (R37) -/
  | linkRetrainDone (t k : Nat) (ok : Bool)
  /-- CASTLE_WAKE_DONE: The SPARE finishes waking, loading its image and self-testing. The castling then goes on to pre-copy, or is abandoned with CASTLE_TARGET_FAILED when a target unit fails. (R704) -/
  | castleWakeDone (t r : Nat) (failed : Option Nat)
  /-- DEV_RESET_INIT_ENTRY: 10 ms after the reply to DEV_RESET or RETURN_EXIT, the device enters INIT and the cold-start bound begins. (R692) -/
  | devResetInitEntry (t : Nat) (x : Straps)
deriving DecidableEq, Repr

end Sys2Proof
end

