-- ==== Sys2Proof/Config.lean ====
section
/-! DEFINITION. What the manual leaves open: the free values. Each is a constant without a body, so
no proof can see what it is and every claim holds whatever it is. -/

namespace Sys2Proof.Config

/-- A fresh value of a choice the device makes and the manual does not fix (an object index, a random
tag, an identifier, a drawn interval), one for each value of the model's counter `fresh`. -/
opaque freeNat : Nat → Nat

/-- SHA-384 of a byte string. The manual names the function by its standard and does not define it. -/
opaque sha384 : List (BitVec 8) → BitVec 384

/-- HMAC-SHA-384 under the record MAC key (Table 18-2); the key never leaves the vault. -/
opaque recordMac : List (BitVec 8) → BitVec 64

/-- An ECDSA P-384 signature of a byte string under the identity key (R618, R731): r then s. The
first argument is a nonce of the signer. -/
opaque idSignature : Nat → List (BitVec 8) → BitVec 768

/-- SHA-256 of a byte string. -/
opaque sha256 : List (BitVec 8) → BitVec 256

/-- The Twihan image key and the Twihan return key, whose hashes are fused in the vault (R628, R734). -/
opaque imageKey : List (BitVec 8)
opaque returnKey : List (BitVec 8)

/-- A challenge of RETURN_CHALLENGE, drawn by the vault (R734): the draw. -/
opaque challenge : Nat → BitVec 256

/-- Whether an ECDSA signature verifies: the public key, the bytes signed and the signature. -/
opaque verifies : List (BitVec 8) → List (BitVec 8) → List (BitVec 8) → Bool

/-- Whether the first 8 bytes of an entry's MAC verify (R732). -/
opaque macOk : List (BitVec 8) → Bool

/-- The identity certificate and the Twihan intermediate as ID_CERT_READ returns them (R637). -/
opaque idCertificate : List (BitVec 8)

/-- SubjectPublicKeyInfo of a DTLS key drawn by the vault (R619): the algorithm, and the draw. -/
opaque dtlsSpki : Nat → Nat → List (BitVec 8)

/-- A DTLS certificate (R620), X.509 v3: the draw of its serial number, the SubjectPublicKeyInfo, the instant of its
issue in DT seconds and the attestation report in its extension. -/
opaque dtlsCertificate : Nat → List (BitVec 8) → Nat → List (BitVec 8) → List (BitVec 8)

/-- A flight of a DTLS handshake as the control cores build it (R624): the standard names its contents. -/
opaque dtlsFlight : Nat → List (BitVec 8)

/-- The grade fused at production (Table 24-3): true for ELZ-9740-X. -/
opaque gradeExtended : Bool

/-- The signed Q1.23 taps h(1), h(3) to h(39) of the half-band filters (R357), by place from 0 to 19;
the manual returns them by SAP_FILTER_QUERY and does not list them. -/
opaque filterTap : Nat → Int

/-- The depth of a crossing queue beyond 8 words (R598 gives 8 to 64): reader island, writer island, queue. -/
opaque queueExtra : Nat → Nat → Nat → Nat

/-- The port FIFO, by its address, that drives a request line of an engine; none where no FIFO does (R591, Table 17-2). -/
opaque reqFifo : Nat → Nat → Option Nat

/-- The 64-byte lines that a port FIFO holds beyond the first, by its address (R591). -/
opaque fifoExtra : Nat → Nat

/-- The root-raised-cosine pulse of a beacon's chip (R376, R384) in units of 2^−32: LEVEL, and the sample's place among the 360
of the chip and the 4 before and after it. The manual defines it over the reals. -/
opaque beaconPulse : Nat → Nat → Int

/-- The carrier of a beacon in units of 2^−32, by the sample's place from the start of the frame; it repeats every 80 samples
(R376). -/
opaque beaconCarrier : Nat → Int

/-- A coefficient of the scaling filters (R444, R445), Q2.14: luma or chroma, set, phase, tap. The manual gives the
single tap of phase 0 of set 0 and the sum of every phase, and does not list the others. -/
opaque scaleTap : Bool → Nat → Nat → Nat → Int

/-- A byte of a session key (R639): the profile, the master key and salt, the key's number among the six, and the byte. -/
opaque kdfByte : Nat → List (BitVec 8) → Nat → Nat → BitVec 8

/-- A byte of a sealed packet, the ciphertext and then the tag (R638, Table 19-2): the profile, the session keys, the packet
index, the bytes that stay in the clear, those that are encrypted, and the byte. -/
opaque srtpByte : Nat → List (List (BitVec 8)) → Nat → List (BitVec 8) → List (BitVec 8) → Nat → BitVec 8

/-- A byte of HMAC-SHA-1 of a byte string under a password (MESSAGE-INTEGRITY of STUN). -/
opaque hmacSha1Byte : List (BitVec 8) → List (BitVec 8) → Nat → BitVec 8

/-- A byte of AES-256-GCM under a context wrap key, ciphertext and then tag (R641, R642): the draw of the key, nonce, additional
data and plaintext. -/
opaque wrapByte : Nat → List (BitVec 8) → List (BitVec 8) → List (BitVec 8) → Nat → BitVec 8

/-- A byte of the LAYER field of a flow context (Table 02-5), whose layout is open: of the flow's layer, switch-point and
rewriting state as numbers. -/
opaque layerByte : List Nat → Nat → BitVec 8

/-- The bushel in a place of an allocation that a draw names (R578): its number among those of the free pool. -/
opaque bushelAt : Nat → Nat → Nat

/-- The address of a work descriptor (WORK of Table 15-1), by what it describes; the spec gives none. -/
opaque workAddr : Nat → Nat → Nat → Nat

/-- AES-256 of a counter block under the key that a DRAM controller drew (R561, R562): the draw, and the block. -/
opaque dramAes : Nat → BitVec 128 → BitVec 128

/-- A sample that the spec leaves open: the draw, the plane, and the sample's place in it. -/
opaque openSample : Nat → Nat → Nat → Nat

/-- A field of a frame sent that neither the spec nor the standards it names fix: the frame's draw, and the field. -/
opaque openField : Nat → Nat → Nat

/-- Bytes of the boot flash, 32 MiB to 256 MiB (R757). -/
opaque flashBytes : Nat

/-- The clockIdentity of the PTP instance, and its clockAccuracy (0) and offsetScaledLogVariance (1), which the spec does not
give. -/
opaque clockIdentity : Nat
opaque clockQuality : Nat → Nat

/-- A plane of a tile's reconstruction (R499, R500): the codec, the tile's payload, the three planes of its own area in the
reference, and the plane. The video standards name the decoding; that nothing but the tile's own area goes into it is what the
spliced parameter set guarantees. -/
opaque tilePlane : Nat → List (BitVec 8) → List Nat → List Nat → List Nat → Nat → List Nat

/-- What a splice engine writes itself (R499, R510, R511): the codec, the kind of unit (0 parameter sets, 1 picture or slice
header, 2 flat fill, 3 skip tile), and the values that go into it. The video standards name the syntax. -/
opaque spliceUnit : Nat → Nat → List Nat → List (BitVec 8)

end Sys2Proof.Config
end

