-- ==== Sys2Proof/Machine/Bytes.lean ====
section
/-! DEFINITION. Byte order and bit fields: the little-endian fields of packets, replies, events and
registers (R7), the big-endian fields of wire protocols (R8), signed fields, and the CRC-32C of R454. -/

namespace Sys2Proof.Machine

/-- The bits `[hi:lo]` of a number. -/
def bits (x hi lo : Nat) : Nat := (x >>> lo) % 2 ^ (hi + 1 - lo)

/-- Bit `i` of a number, as a truth value. -/
def bit (x i : Nat) : Bool := (x >>> i) % 2 == 1

/-- A truth value as the bit it is stored as. -/
def b2n (b : Bool) : Nat := if b then 1 else 0

/-- A number as `n` bytes, least significant first (R7). Bits beyond `n` bytes are cut off. -/
def le : Nat → Nat → List Byte
  | 0, _ => []
  | n + 1, v => BitVec.ofNat 8 v :: le n (v / 256)

/-- A number as `n` bytes, most significant first (R8). -/
def be (n v : Nat) : List Byte := (le n v).reverse

/-- The number that bytes, least significant first, spell (R7). -/
def ofLe : List Byte → Nat
  | [] => 0
  | b :: r => b.toNat + 256 * ofLe r

/-- The number that bytes, most significant first, spell (R8). -/
def ofBe (l : List Byte) : Nat := ofLe l.reverse

/-- A signed number as `n` bytes in two's complement. -/
def leI (n : Nat) (v : Int) : List Byte := le n (v % (2 ^ (8 * n) : Int)).toNat

/-- The signed number that an unsigned field of `w` bits stands for in two's complement. -/
def toSigned (w v : Nat) : Int := if v < 2 ^ (w - 1) then v else (v : Int) - 2 ^ w

/-- `n` zero bytes, as reserved fields of replies are written. -/
def zeros (n : Nat) : List Byte := List.replicate n 0

/-- A list brought to exactly `n` bytes: cut off or filled with zeros. -/
def padTo (n : Nat) (l : List Byte) : List Byte := (l ++ zeros (n - l.length)).take n

/-- The smaller of a counter's value and the largest value of `w` bits: a saturating counter. -/
def satN (w v : Nat) : Nat := min v (2 ^ w - 1)

/-- One bit of a CRC-32C register (reflected polynomial 0x82F63B78, R454). -/
def crcBit (c : Nat) : Nat := if c % 2 = 1 then (c >>> 1) ^^^ 0x82F63B78 else c >>> 1

/-- Eight bits of a CRC-32C register. -/
def crcByte (c : Nat) (b : Byte) : Nat :=
  crcBit (crcBit (crcBit (crcBit (crcBit (crcBit (crcBit (crcBit (c ^^^ b.toNat))))))))

/-- CRC-32C of a byte string: initial value and final inversion all ones (R454). -/
def crc32c (l : List Byte) : Nat := (l.foldl crcByte 0xFFFFFFFF) ^^^ 0xFFFFFFFF

end Sys2Proof.Machine
end

