-- ==== Sys2Proof/Machine/Mem.lean ====
section
/-! DEFINITION. Addressed memories: lists of address and byte pairs, addresses strictly rising, no entry
equal to what an unlisted address reads as, which is 0 (every memory is filled before use, R575). -/

namespace Sys2Proof.Machine

/-- The contents of a memory that differ from 0. -/
abbrev Mem := List Host.Cell

/-- One byte read; an unlisted address reads 0. -/
def Mem.read : Mem → Nat → Byte
  | [], _ => 0
  | (b, v) :: r, a => if b = a then v else Mem.read r a

/-- One byte written, in the canonical form: writing 0 removes the entry. -/
def Mem.write : Mem → Nat → Byte → Mem
  | [], a, v => if v = 0 then [] else [(a, v)]
  | (b, w) :: r, a, v =>
    if a < b then (if v = 0 then (b, w) :: r else (a, v) :: (b, w) :: r)
    else if a = b then (if v = 0 then r else (a, v) :: r)
    else (b, w) :: Mem.write r a v

/-- Whether all addresses of a memory lie above a bound, rise strictly, and hold no 0. -/
def Mem.above : Mem → Nat → Bool
  | [], _ => true
  | (b, v) :: r, lo => decide (lo ≤ b) && v != 0 && Mem.above r (b + 1)

/-- The canonical form. -/
def Mem.wf (m : Mem) : Bool := m.above 0

/-- `n` bytes read from an address on. -/
def Mem.readN (m : Mem) (a n : Nat) : List Byte := (List.range n).map fun i => m.read (a + i)

/-- A byte string written from an address on. -/
def Mem.writeN : Mem → Nat → List Byte → Mem
  | m, _, [] => m
  | m, a, b :: r => Mem.writeN (m.write a b) (a + 1) r

/-- A 32-bit word read, little-endian (R7). -/
def Mem.read32 (m : Mem) (a : Nat) : BitVec 32 := BitVec.ofNat 32 (ofLe (m.readN a 4))

/-- A 32-bit word written, little-endian (R7). -/
def Mem.write32 (m : Mem) (a : Nat) (v : BitVec 32) : Mem := m.writeN a (le 4 v.toNat)

/-- A range of bytes set to 0. -/
def Mem.clear (m : Mem) (a n : Nat) : Mem := m.filter fun p => decide (p.1 < a) || decide (a + n ≤ p.1)

end Sys2Proof.Machine
end

