-- ==== Sys2Proof/Machine/Table.lean ====
section
/-! DEFINITION. Sparse tables of objects, keyed by index: lists of key and value pairs whose keys rise
strictly, so that equal tables are equal data. Every object pool of the device is one. -/

namespace Sys2Proof.Machine

/-- A table of objects by index, the keys strictly rising. -/
abbrev Tbl (α : Type) := List (Nat × α)

/-- The entry of a key, if there is one. -/
def tget {α : Type} : Tbl α → Nat → Option α
  | [], _ => none
  | (j, a) :: r, k => if j = k then some a else tget r k

/-- The table with the entry of key `k` set to `a`, in its place by key. -/
def tset {α : Type} : Tbl α → Nat → α → Tbl α
  | [], k, a => [(k, a)]
  | (j, b) :: r, k, a =>
    if k < j then (k, a) :: (j, b) :: r
    else if k = j then (k, a) :: r
    else (j, b) :: tset r k a

/-- The table without the entry of key `k`. -/
def tdel {α : Type} : Tbl α → Nat → Tbl α
  | [], _ => []
  | (j, b) :: r, k => if j = k then r else (j, b) :: tdel r k

/-- The table with the entry of key `k` changed by `f`; a missing entry stays missing. -/
def tmod {α : Type} : Tbl α → Nat → (α → α) → Tbl α
  | [], _, _ => []
  | (j, b) :: r, k, f => if j = k then (j, f b) :: r else (j, b) :: tmod r k f

/-- Every entry changed by a function of its key. -/
def tmap {α : Type} (t : Tbl α) (f : Nat → α → α) : Tbl α := t.map fun p => (p.1, f p.1 p.2)

/-- The keys in use. -/
def tkeys {α : Type} (t : Tbl α) : List Nat := t.map fun p => p.1

/-- Whether the keys of a table rise strictly. -/
def twf {α : Type} : Tbl α → Bool
  | [] => true
  | [_] => true
  | (j, _) :: (k, b) :: r => decide (j < k) && twf ((k, b) :: r)

/-- The first index from `k` on, counting round within a pool of `lim`, that is not in use; `fuel`
bounds the search. The index the device gives a new object is a free one (R12, R21); which of them,
the manual does not say, so the start `k` is a free value. -/
def probeFree (used : List Nat) (lim : Nat) : Nat → Nat → Nat
  | 0, k => k
  | fuel + 1, k => if used.contains k then probeFree used lim fuel ((k + 1) % lim) else k

/-- A free index of a pool of `lim` indices of which `used` are taken, searched from `start`. -/
def freeIndex (used : List Nat) (lim start : Nat) : Nat :=
  probeFree used lim used.length (start % lim)

/-- A list with its `i`-th element changed by `f`; out of range it is unchanged. -/
def modAt {α : Type} : List α → Nat → (α → α) → List α
  | [], _, _ => []
  | a :: r, 0, f => f a :: r
  | a :: r, i + 1, f => a :: modAt r i f

/-- A list with its `i`-th element replaced; out of range it is unchanged. -/
def setAt {α : Type} (l : List α) (i : Nat) (a : α) : List α := modAt l i fun _ => a

/-- Insertion of an element into a list ordered by `before`, after those that are not later. -/
def insertBy {α : Type} (before : α → α → Bool) (a : α) : List α → List α
  | [] => [a]
  | b :: r => if before a b then a :: b :: r else b :: insertBy before a r

/-- A list put into the order of `before`, equal elements keeping theirs. -/
def sortBy {α : Type} (before : α → α → Bool) (l : List α) : List α :=
  l.foldl (fun acc a => insertBy before a acc) []

/-- The sum of a function over a list. -/
def sumOf {α : Type} (l : List α) (f : α → Nat) : Nat := l.foldl (fun n a => n + f a) 0

/-- How many elements of a list pass a test. -/
def countOf {α : Type} (l : List α) (p : α → Bool) : Nat := l.foldl (fun n a => if p a then n + 1 else n) 0

end Sys2Proof.Machine
end

