-- ==== Sys2Proof/Machine/PartsHost.lean ====
section
/-! DEFINITION. State of the host side: the queues of every PCIe function, the command processor,
the events held, the Nguphor record, PCIe and the management bus (files 03, 23 and 24 of spec/). -/

namespace Sys2Proof.Machine

/-- The twelve operating modes (Table 21-1). -/
inductive Mode where
  | off | keepalive | init | boot | provision | standby | service | degraded
  | ridethrough | diagnostic | lockdown | fieldReturn
deriving DecidableEq, Repr

/-- The code of a mode (Table 21-1), as IW_MODE reports it. -/
def Mode.code : Mode → Nat
  | .off => 0 | .keepalive => 1 | .init => 2 | .boot => 3 | .provision => 4 | .standby => 5
  | .service => 6 | .degraded => 7 | .ridethrough => 8 | .diagnostic => 9 | .lockdown => 10
  | .fieldReturn => 11

/-- Where the reply of a command goes: the queue pair, the tag, and what R119 and R102 need. -/
structure ReplyTo where
  fn : Nat
  sq : Nat
  tag : Nat
  opc : Nat
  quiet : Bool
  resultAddr : Nat
  /-- The number the command has in the table of accepted commands; 0 when it was given directly. -/
  id : Nat
  /-- Resets of the function before the command was accepted (R99). -/
  epoch : Nat
deriving DecidableEq, Repr

/-- A completion that is ready for its completion queue (Table 03-4). -/
structure Completion where
  whom : ReplyTo
  sts : Nat
  payload : List Byte
  /-- DT at completion (R109). -/
  dt : Nat
deriving DecidableEq, Repr

/-- An event raised (Table 03-5), as it waits for a function's event queue. -/
structure Event where
  src : Nat
  handle : Nat
  dt : Nat
  detail : List Byte
deriving DecidableEq, Repr

/-- A submission queue (Tables 03-1, 24-8, 24-9). -/
structure Sq where
  base : Nat := 0
  sizeLog2 : Nat := 4
  /-- ENABLE of Q_CTL. -/
  enable : Bool := false
  /-- Stopped by a fetch error (R112). -/
  fetchErr : Bool := false
  /-- SQ_HEAD: the next entry to fetch. -/
  pos : Nat := 0
  /-- The tail the device acts on. -/
  tail : Nat := 0
  /-- INDEX as last written to the doorbell register, and whether the device has yet to read it. -/
  dbReg : Nat := 0
  dbUnread : Bool := false
  dbErr : Nat := 0
  /-- The entry fetched just before since the SQ was last enabled: its number, and its final status
  once it has one (R116). -/
  lastId : Option Nat := none
  lastSts : Option Nat := none
deriving DecidableEq, Repr

/-- A completion queue (Tables 03-1, 24-8, 24-9), with the completions waiting for it (R132). -/
structure Cq where
  base : Nat := 0
  sizeLog2 : Nat := 4
  enable : Bool := false
  coalUs : Nat := 0
  irqEn : Bool := false
  vector : Nat := 0
  pos : Nat := 0
  phase : Bool := false
  head : Nat := 0
  dbErr : Nat := 0
  waiting : List Completion := []
deriving DecidableEq, Repr

/-- The event queue of a function, with the events held for it (R127, R134). -/
structure Eq where
  base : Nat := 0
  sizeLog2 : Nat := 4
  enable : Bool := false
  coalUs : Nat := 0
  irqEn : Bool := false
  vector : Nat := 0
  pos : Nat := 0
  phase : Bool := false
  head : Nat := 0
  dbErr : Nat := 0
  /-- Ordinary events not yet written, oldest first (R134). -/
  held : List Event := []
  /-- Completion events not yet written (R127), oldest first. -/
  comps : List Event := []
  /-- An event was dropped since the last entry written: the next carries LOST (R134). -/
  lost : Bool := false
  /-- DT from which the queue has been full, for event 317. -/
  fullSince : Option Nat := none
deriving DecidableEq, Repr

/-- One MSI-X vector (R751, R752). -/
structure Msix where
  masked : Bool := true
  pending : Bool := false
  /-- Message address and data of the vector's table entry. -/
  addr : Nat := 0
  data : Nat := 0
  /-- The instant at which a due vector fires, under coalescing. -/
  fireAt : Option Nat := none
  /-- Entries written and not signalled yet: queue number (0 to 7 CQ n, 8 the EQ) and slot. -/
  covers : List (Nat × Nat) := []
deriving DecidableEq, Repr

/-- One PCIe function, which is one tenant's window (R16, R746). -/
structure Func where
  sqs : List Sq := List.replicate 8 {}
  cqs : List Cq := List.replicate 8 {}
  eq : Eq := {}
  busMaster : Bool := false
  d3 : Bool := false
  /-- Function-level resets so far: replies of commands accepted before one are discarded (R99). -/
  epoch : Nat := 0
  memSpace : Bool := false
  /-- One mask word per event group (R722). -/
  mask : List Nat := []
  summary : Nat := 0
  capSeq : Nat := 0
  capSec : Nat := 0
  capNs : Nat := 0
  msix : List Msix := List.replicate 16 {}
  /-- Doorbell errors of all queues, cumulative (TENANT_HOST_QUERY). -/
  dbErrors : Nat := 0
  /-- Most urgent level the tenant's commands run at (R122). -/
  topLevel : Nat := 2
  /-- WAIT_LIMIT in ms (R128). -/
  waitLimitMs : Nat := 1000
deriving DecidableEq, Repr

/-- A command of the table of accepted commands: waiting to begin, or long-running and begun. -/
structure CmdEntry where
  whom : ReplyTo
  cmd : Cmd
  level : Nat
  accepted : Nat
  /-- End of the wait: acceptance plus the WAIT_LIMIT in force then (R129, R762). -/
  limit : Nat
  fence : Bool
  /-- CHAIN with a predecessor: the final status once known (R116). -/
  chained : Bool
  pred : Option Nat
  predSts : Option Nat
  /-- Execution has begun. -/
  begun : Bool
  /-- DT at which the command became READY or was last promoted; none while it is held back (R536, R537). -/
  ready : Option Nat := none
  /-- DT at which it was marked urgent. -/
  urgent : Option Nat := none
  /-- Promotions so far (PROMO of its task entry). -/
  promos : Nat := 0
  /-- The objects it names, in OBJ or in its parameters (R68). -/
  names : List Nat := []
deriving DecidableEq, Repr

/-- A long-running command that has replied ACCEPTED (R125): where its completion event goes. -/
structure LongCmd where
  whom : ReplyTo
  evt : Nat
  handle : Nat
deriving DecidableEq, Repr

/-- The command processor. -/
structure CmdProc where
  cmds : Tbl CmdEntry := []
  longs : Tbl LongCmd := []
  nextId : Nat := 1
  /-- End of a hub firmware pause (R131, R714). -/
  pausedTill : Option Nat := none
  /-- The last completion made, before the rules of its queue (a field of the model's own). -/
  last : Option Completion := none
deriving DecidableEq, Repr

/-- What the rules on events remember. -/
structure EvtState where
  /-- Window in which an event was last raised, by source index and object (first per window). -/
  first : Tbl Nat := []
  /-- Occurrences in the current window, by source index and object: window, count. -/
  counts : Tbl (Nat × Nat) := []
deriving DecidableEq, Repr

/-- A record entry before it has its sequence number (Table 23-2). MODE is taken when it is written.
A seal (kind 1) and a power-down entry (kind 2) get their DETAIL when they are committed; a seal's
DETAIL here is its cause, as in event 312. -/
structure RecEntry where
  kind : Nat
  src : Nat
  dt : Nat
  detail : List Byte
  mandatory : Bool
  tamper : Bool
  /-- The RECORD_SEAL that waits for this seal. -/
  reply : Option ReplyTo
deriving DecidableEq, Repr

/-- A stored record entry: its sequence number and its 64 bytes. -/
structure RecSlot where
  seq : Nat
  kind : Nat
  dt : Nat
  bytes : List Byte
  readable : Bool
deriving DecidableEq, Repr

/-- An export of the record in progress (R731): long command, range, buffer, nonce. -/
structure ExportJob where
  id : Nat
  first : Nat
  last : Nat
  addr : Nat
  len : Nat
  nonce : List Byte
deriving DecidableEq, Repr

/-- The Nguphor record (R724 to R730) and the state of a field return (R733 to R736). -/
structure RecordState where
  slots : Tbl RecSlot := []
  /-- SEQ of the newest committed entry; none before the first. -/
  newest : Option Nat := none
  /-- Entries in the first-fault region. -/
  firstFault : Nat := 0
  /-- SEQ of the first entry written to the ring after the region filled. -/
  ringStart : Option Nat := none
  queue : List RecEntry := []
  /-- The head copy written last (R727): false A, true B. -/
  headCopy : Bool := false
  /-- A slot was written beyond the head when the last hold-up ended (R728). -/
  torn : Bool := false
  mask : List Nat := List.replicate 10 0
  rate : Nat := 100
  /-- Optional entries accepted in a second: the second and the count. -/
  rateWin : Nat × Nat := (0, 0)
  optDropped : Nat := 0
  optDroppedSeal : Nat := 0
  badFound : Nat := 0
  /-- SEQ of the newest seal; none before the first. -/
  prevSeal : Option Nat := none
  sinceSeal : Nat := 0
  lastSealDt : Nat := 0
  /-- CHALLENGE last returned and not used (R734). -/
  challenge : Option (BitVec 256) := none
  armed : Bool := false
  session : Bool := false
  exporting : Option ExportJob := none
deriving DecidableEq, Repr

/-- The PCIe link and SR-IOV (R738 to R742). -/
structure Pcie where
  up : Bool := false
  gen : Nat := 0
  width : Nat := 0
  vfEnable : Bool := false
  numVfs : Nat := 0
  correctable : Nat := 0
  nonfatal : Nat := 0
  fatal : Nat := 0
  linkDowns : Nat := 0
  flrs : Nat := 0
  /-- A loopback test on each physical port (DIAG_LOOPBACK): long command, mode, end. -/
  loopback : Tbl (Nat × Nat × Nat) := []
deriving DecidableEq, Repr

/-- The management bus target (R753 to R756). -/
structure Mgmt where
  pointer : Nat := 0
  snapSeq : Nat := 0
  snapshot : List Byte := List.replicate 256 0
  /-- The latched bits [1] to [3] of ALERT_CAUSE. -/
  cause : Nat := 0
  alertMask : Nat := 0
  alertN : Bool := true
  /-- ALERT_CAUSE as last seen, for the edge that asserts ALERT_N. -/
  seen : Nat := 0
  jtag : Nat := 0
deriving DecidableEq, Repr

/-- Everything of the host side but the command processor. -/
structure HostState where
  funcs : List Func
  pcie : Pcie := {}
  mgmt : Mgmt := {}
  bootHub : Nat := 0
  bootCluster : Nat := 0
  bootGo : Bool := false
  bootRejected : Bool := false
deriving DecidableEq, Repr

end Sys2Proof.Machine
end

