-- ==== Sys2Proof/Machine/PartsSys.lean ====
section
/-! DEFINITION. State of the package as a whole: Device Time and its servo, the operating mode,
power and temperature, the pins (files 20, 21, 24 and 25 of spec/). -/

namespace Sys2Proof.Machine

/-- The states of the time servo (Table 20-2). -/
inductive TimeMode where
  | freerun | slewing | locked | holdover
deriving DecidableEq, Repr

/-- The code of a time state, as in event 271. -/
def TimeMode.code : TimeMode → Nat
  | .freerun => 0 | .slewing => 1 | .locked => 2 | .holdover => 3

/-- A grandmaster as its Announce message describes it (IEEE 1588-2019). -/
structure Grandmaster where
  id : Nat
  clockClass : Nat
  domain : Nat
  priority1 : Nat
  accuracy : Nat
  variance : Nat
  priority2 : Nat
  steps : Nat
  /-- DT of its last Announce. -/
  seen : Nat
deriving DecidableEq, Repr

/-- The time unit (R660 to R680). -/
structure TimeUnit where
  /-- What the replicas of the hub (0) and of the region fabrics (1 to 8) differ from DT by, in 1/65,536 ns (R44). -/
  replicas : List Int := List.replicate 9 0
  /-- Device Time in 1/65,536 ns since the PTP epoch (R660). -/
  dt : Nat := 0
  /-- 0 NONE, 1 PTP, 2 PPS_IN (R667). -/
  ref : Nat := 0
  state : TimeMode := .freerun
  /-- The first lock of this boot has been made. -/
  locked1 : Bool := false
  stepLimitUs : Nat := 1000
  holdWarnUs : Nat := 100
  netPort : Nat := 0
  addr : Nat := 0
  profile : Nat := 0
  master : Bool := false
  domain : Nat := 0
  logSync : Int := 0
  logAnnounce : Int := 0
  logDelay : Int := 0
  priority : Nat := 0
  portState : Nat := 3
  gm : Option Grandmaster := none
  /-- The latest successive valid offsets in 1/65,536 ns, newest first, with their instants. -/
  offsets : List (Int × Nat) := []
  /-- The last 16 valid path delays (Servo states). -/
  delays : List Nat := []
  /-- DT from which the offset has stayed within 1 µs. -/
  calmSince : Option Nat := none
  lastOffset : Int := 0
  ratePpb : Int := 0
  /-- Corrections and the instants from which they were in force, newest first, over the last 60 s (R675). -/
  rates : List (Nat × Int) := []
  limitSince : Option Nat := none
  /-- The pending step in 1/65,536 ns (R672). -/
  pendingStep : Option Int := none
  /-- A step permitted by TIME_ALLOW_STEP, and the tick start at which it is applied (R673). -/
  stepAt : Option (Nat × Int) := none
  holdSince : Nat := 0
  holdBase : Int := 0
  holdWarned : Bool := false
  opUtc : Nat := 37
  gmUtc : Option Nat := none
  /-- A leap second announced: kind (0 leap61, 1 leap59) and DT second of the change. -/
  leap : Option (Nat × Nat) := none
  lastSync : Nat := 0
  ppsNamed : Option Nat := none
  ppsKnown : Bool := false
  ppsLast : Option Nat := none
  /-- The TAI second of the last edge. -/
  ppsSec : Nat := 0
  ppsLost : Bool := false
  ppsMode : Nat := 0
  ppsWidthMs : Nat := 100
  ppsPending : Option (Nat × Nat) := none
  /-- PPS_OUT is high until this instant. -/
  ppsUntil : Nat := 0
  /-- PTP messages in the current second (R669): second, count. -/
  ptpWin : Nat × Nat := (0, 0)
  steps : Nat := 0
  refused : Nat := 0
  dropped : Nat := 0
  /-- Seconds of the always-on counter (R665). -/
  vbatSeconds : Nat := 0
  /-- The last grain opened and the last tick started (R674). -/
  lastGrain : Nat := 0
  lastTick : Nat := 0
  grainOpened : Bool := false
  /-- Sync and Announce last sent by a master instance. -/
  syncSent : Nat := 0
  announceSent : Nat := 0
  /-- Delay_Req or Pdelay_Req last sent by a slave instance. -/
  delayAsked : Nat := 0
  /-- A step has passed over grains since the last one opened (R674). -/
  leapt : Bool := false
deriving DecidableEq, Repr

/-- RIDETHROUGH in progress (R693 to R696). -/
structure Ride where
  entry : Nat
  rideMaxMs : Nat
  stageMs : Nat
  stage : Nat
  expired : Bool
deriving DecidableEq, Repr

/-- A thermal stage of one die (Table 21-6): the stage by the die's own sensors, by its DRAM stacks. -/
structure Thermal where
  temp : Int := 0
  warn : Bool := false
  dieStage : Nat := 0
  dramStage : Nat := 0
  /-- The stage in force, and the instant at which throttling of the die began. -/
  stage : Nat := 0
  since : Nat := 0
  critical : Bool := false
  /-- Sensors found faulty and ignored (event 14). -/
  badSensors : List Nat := []
deriving DecidableEq, Repr

/-- The mode and power state of the package (R681 to R700), straps and pins. -/
structure SysState where
  mode : Mode := .init
  prev : Mode := .off
  cause : Nat := 0
  modeDt : Nat := 0
  mbAddr : Nat := 0
  bootSrc : Nat := 0
  refclk : Nat := 0
  /-- Levels at the strap pins, latched at R687's instants. -/
  pinMbAddr : Nat := 0
  pinBootSrc : Nat := 0
  pinRefclk : Nat := 0
  slotBooted : Nat := 0
  /-- The slot recorded by the last completed update (Straps). -/
  slotNext : Nat := 0
  resetCause : Nat := 0
  startMs : Nat := 0
  startDt : Nat := 0
  rideMaxMs : Nat := 200
  stageMs : Nat := 20
  capW : Nat := 0
  ride : Option Ride := none
  rides : Nat := 0
  rideExpired : Nat := 0
  thermal : List Thermal := [{}, {}, {}]
  /-- Time spent at stage 1 or above, and at stage 3, in 1/65,536 ns, accounted up to `throttleDt`. -/
  throttleT : Nat := 0
  stage3T : Nat := 0
  throttleDt : Nat := 0
  capRaised : Bool := false
  capAbove : Option Nat := none
  capBelow : Option Nat := none
  capHits : Nat := 0
  powerW : Nat := 0
  /-- IW_FAULT: cause and detail (Table 24-7). -/
  faultCause : Nat := 0
  faultDetail : Nat := 0
  pwrgd : Bool := true
  /-- DT at which PWRGD rose (R753). -/
  pwrgdDt : Nat := 0
  resetN : Bool := true
  pfwN : Bool := true
  vbat : Bool := true
  /-- Kind and DT seconds of the previous power-down, as the record gives them (event 8). -/
  lastDown : Option (Nat × Nat) := none
  /-- IW_FAULT as it was before the reset (Table 23-3). -/
  prevFault : Nat := 0
  /-- The hold-up measured at BOOT, in µs (R33, R689): at least 2 ms unless it measured less. -/
  holdupUs : Nat := 2000
  /-- A DEV_RESET or RETURN_EXIT waiting for its 10 ms (R692): the instant of the reply. -/
  devReset : Option Nat := none
  /-- Rails: mV and an alarm in force, VBAT last (Table 24-11). -/
  railMv : List Nat := List.replicate 11 0
  railAlarm : List Bool := List.replicate 11 false
  /-- RESET_N or a DEV_RESET holds the device: nothing runs until INIT (R692). -/
  inReset : Bool := false
  /-- The device cannot leave INIT or BOOT (R683, R776). -/
  stuck : Bool := false
  /-- MACs and SerDes are enabled (Table 21-4). -/
  macs : Bool := false
  /-- A T2 latched while off was found at this power-up: its sensor and DT seconds (R633). -/
  latchT2 : Option (Nat × Nat) := none
  /-- SCOPE of the RETURN_EXIT that reset the device (R736). -/
  exitScope : Option Nat := none
deriving DecidableEq, Repr

end Sys2Proof.Machine
end

