-- ==== Sys2Proof/Machine/PartsConf.lean ====
section
/-! DEFINITION. State of conferences, legs and flows, of packet ingress, forwarding, egress and the
cipher cluster (files 02, 04, 05, 06 and 19 of spec/). -/

namespace Sys2Proof.Machine

/-- Crypto state of a flow or of a leg's RTCP context (Table 19-3). -/
structure Crypto where
  /-- Code of Table 19-2; 0 when keyless. -/
  profile : Nat := 0
  /-- The SSRC the leg RTCP context is bound to (R640). -/
  bound : Option Nat := none
  /-- The key lifetime has been warned of, SRTP and SRTCP (R655). -/
  warned : Bool := false
  ended : Bool := false
  sL : Nat := 0
  roc : Nat := 0
  /-- 64-bit receive replay bitmap, bit 0 at the highest index. -/
  rtpWin : Nat := 0
  started : Bool := false
  rtcpIndex : Nat := 0
  rtcpWin : Nat := 0
  keySalt : List Byte := []
  /-- The state as wrapped into its owner's context, when it was last (R641); empty before. -/
  wrapped : List Byte := []
  /-- Packets protected or accepted under the present key. -/
  used : Nat := 0
  usedRtcp : Nat := 0
  /-- Wrap generation of the stored state (R642). -/
  gen : Nat := 0
  /-- How many times keys have been installed. -/
  epoch : Nat := 0
  authFail : Nat := 0
  replay : Nat := 0
  srtcpClear : Nat := 0
  loads : Nat := 0
  /-- CIPHER_PIN has been asked for (R659). -/
  pinWanted : Bool := false
deriving DecidableEq, Repr

/-- States of a conference (Table 02-2); FREE is the absence of an entry. -/
inductive ConfState where
  | active | parked | closing
deriving DecidableEq, Repr

/-- The leg types of Table 02-1. -/
inductive LegType where
  | endpoint | trunk | port | cascade | stream
deriving DecidableEq, Repr

/-- States of a leg (Table 02-3); FREE is the absence of an entry. -/
inductive LegState where
  | connecting | active | held | closing
deriving DecidableEq, Repr

/-- States of a flow (Table 02-4); FREE is the absence of an entry. -/
inductive FlowState where
  | learning | live | closing
deriving DecidableEq, Repr

/-- Leg metrics of one window (Table 02-8). -/
structure Metrics where
  window : Nat := 0
  rxPackets : Nat := 0
  /-- RTP packets expected and received, per RFC 3550 sequence accounting. -/
  expected : Nat := 0
  rtpRx : Nat := 0
  lostResidual : Nat := 0
  txBytes : Nat := 0
  concealed : Nat := 0
  level : Nat := 255
  qdelay : Nat := 0
  /-- Cache drops plus unknown-SSRC drops (DROPS of Table 02-13). -/
  drops : Nat := 0
  /-- The leg's jitter in µs as it stood last in the window. -/
  jitter : Nat := 0
deriving DecidableEq, Repr

/-- Raw loss of a window (Table 02-8). -/
def Metrics.lostRaw (m : Metrics) : Nat := m.expected - m.rtpRx

/-- ICE-lite state of an endpoint leg (R152 to R155). -/
structure Ice where
  set : Bool := false
  lfrag : List Byte := []
  rfrag : List Byte := []
  pwd : List Byte := []
  consentS : Nat := 30
  /-- MAC stamp of the last request that passed R152; 0 before the first. -/
  lastValid : Nat := 0
  /-- The instant from which CONSENT_LIMIT runs: that stamp, or the leg's connecting before there is one. -/
  consentFrom : Nat := 0
  learned : Bool := false
  moves : Nat := 0
deriving DecidableEq, Repr

/-- Ingress policers and counters of a leg (R146 to R150, Table 04-13). -/
structure LegIngress where
  mediaKbps : Nat := 0
  mediaBurst : Nat := 65536
  /-- Tokens in bytes × 8 × 65,536 × 10^6, so that no part of an interval is lost (R660). -/
  mediaTokens : Nat := 0
  mediaDt : Nat := 0
  ctrlPps : Nat := 100
  ctrlBurst : Nat := 32
  /-- Tokens in packets × 65,536 × 10^9. -/
  ctrlTokens : Nat := 0
  ctrlDt : Nat := 0
  rxFrames : Nat := 0
  policed : Nat := 0
  ctrlDrops : Nat := 0
  stunAuthFail : Nat := 0
  authFail : Nat := 0
  replay : Nat := 0
  noKeys : Nat := 0
  heldDrops : Nat := 0
  shedDrops : Nat := 0
  ringDrops : Nat := 0
  late : Nat := 0
  duplicates : Nat := 0
  nacksSent : Nat := 0
  rtxRecovered : Nat := 0
  fecRecovered : Nat := 0
  abandoned : Nat := 0
  cacheDrops : Nat := 0
  unknownSsrc : Nat := 0
  rxBytes : Nat := 0
  txBytes : Nat := 0
  rtcpUnbound : Nat := 0
  otherRtcp : Nat := 0
deriving DecidableEq, Repr

/-- What seals a packet: the profile, the six session keys (R639), and the packet index. -/
structure Seal where
  profile : Nat
  keys : List (List Byte)
  index : Nat
deriving DecidableEq, Repr

/-- A frame in an egress lane (R239, R252). -/
structure TxFrame where
  leg : Option Nat
  flow : Option Nat
  cls : Nat
  len : Nat
  dt : Nat
  tag : Nat
  twcc : Option Nat
  dscp : Nat
  tci : Option Nat
  /-- What the frame carries. -/
  body : EthBody
  cells : Nat
  /-- The leg whose packet a forwarded frame carries (R71). -/
  src : Option Nat := none
  /-- What seals the RTP or RTCP packet in it. -/
  lock : Option Seal := none
deriving DecidableEq, Repr

/-- A leg queue and its shaper (R238 to R261). -/
structure LegEgress where
  lanes : List (List TxFrame) := List.replicate 8 []
  weight : Nat := 64
  shapeBurst : Nat := 16384
  qlimit : Nat := 524288
  ageAudioMs : Nat := 100
  ageVideoMs : Nat := 400
  shaperKbps : Nat := 1250
  /-- Bucket in bytes × 8 × 65,536 × 10^6. -/
  bucket : Int := 0
  bucketDt : Nat := 0
  txFrames : Nat := 0
  qlimitDrops : Nat := 0
  poolDrops : Nat := 0
  ageDrops : Nat := 0
  linkDownDrops : Nat := 0
  oversizeDrops : Nat := 0
  depthSample : Nat := 0
  holSample : Nat := 0
  bucketSample : Int := 0
  fecRepairs : Nat := 0
deriving DecidableEq, Repr

/-- A transport-wide record of one sent packet (R217, R218). -/
structure TwccRecord where
  seq : Nat
  /-- Send DT once its first byte has left; none while queued. -/
  sent : Option Nat
  bytes : Nat
  /-- Not sent at all (R240). -/
  dropped : Bool
  /-- Reported: the arrival instant in 250 µs units, or lost. -/
  report : Option (Option Nat)
  used : Bool
deriving DecidableEq, Repr

/-- The states of the estimator (R220). -/
inductive EstState where
  | normal | overuse | underuse
deriving DecidableEq, Repr

/-- Adaptation of a leg (R217 to R229). Rates in kbit/s. -/
structure Adapt where
  initKbps : Nat := 1000
  fecMin : Nat := 0
  fecMax : Nat := 50
  maxE : Nat := 3
  maxS : Nat := 3
  maxT : Nat := 3
  /-- E of R221 in millionths of kbit/s, so that no fraction is lost between runs. -/
  est : Nat := 1000000000
  /-- The acknowledged rate A in millionths of kbit/s. -/
  ack : Nat := 0
  lossPpm : Nat := 0
  slope : Int := 0
  state : EstState := .normal
  overs : Nat := 0
  lastLossCut : Option Nat := none
  lastFeedback : Nat := 0
  halvings : Nat := 0
  feedbackLost : Bool := false
  lastRun : Nat := 0
  eff : Nat := 0
  audio : Nat := 0
  video : Nat := 0
  fec : Nat := 0
  ovrMask : Nat := 0
  ovrRate : Nat := 0
  ovrFec : Nat := 0
  ovrE : Nat := 0
  ovrS : Nat := 0
  ovrT : Nat := 0
  nextTwcc : Nat := 0
  records : List TwccRecord := []
  fbLate : Nat := 0
  overruns : Nat := 0
  /-- E at past instants, for events 144 and 145, and the limits held since. -/
  history : List (Nat × Nat) := []
  dropFrom : Option Nat := none
  lossHigh : Bool := false
  atMinSince : Option Nat := none
  atMaxSince : Option Nat := none
  minTold : Bool := false
  maxTold : Bool := false
  audioOnly : Bool := false
deriving DecidableEq, Repr

/-- RTCP settings of a leg (R210, R212). -/
structure RtcpState where
  intervalMs : Nat := 1000
  /-- The SSRC under which a leg without a send flow reports (R640). -/
  ssrc : Nat := 0
  flags : Nat := 0
  cname : List Byte := []
  /-- DT of the last compound packet of the interval. -/
  lastDt : Nat := 0
  rtt : Nat := 0
  /-- Transport-wide sequence numbers received and not fed back yet. -/
  twccSeen : List (Nat × Nat) := []
  twccDt : Nat := 0
  /-- Send flows that sent media in the interval. -/
  sentMedia : List Nat := []
deriving DecidableEq, Repr

/-- Cascade settings of a leg (R233, R236). -/
structure Cascade where
  grains : Nat := 4
  role : Nat := 0
  pend : Option (Nat × Nat × Nat) := none
  /-- Last ELZC value sent, and when, by receive flow (R230). -/
  sentCaps : Tbl ((Nat × Nat × Nat) × Nat) := []
  /-- Caps the remote package asked for, by send flow. -/
  caps : Tbl (Nat × Nat × Nat) := []
  late : Nat := 0
  lateReturns : Nat := 0
deriving DecidableEq, Repr

/-- DTLS settings and handshake of a leg (R622 to R627). -/
structure Dtls where
  set : Bool := false
  client : Bool := false
  versions : Nat := 0
  profiles : Nat := 0
  fp : List Byte := []
  generation : Nat := 0
  /-- A handshake in progress, and its retransmission interval in s. -/
  running : Bool := false
  started : Nat := 0
  retryS : Nat := 1
  lastFlight : Nat := 0
  /-- SRTP profile and master keys of the session, receive and send (R624). -/
  session : Option (Nat × List Byte × List Byte) := none
deriving DecidableEq, Repr

/-- Beacon state of a leg (R398 to R404). -/
structure LegBeacon where
  /-- Co-located with this tag (R401). -/
  coloc : Option Nat := none
  tagA : Nat := 0
  tagB : Nat := 0
  /-- Appearances of each tracked tag in the last 3 periods, bit 0 the latest. -/
  seenA : Nat := 0
  seenB : Nat := 0
  /-- Strength of the last valid frame of each tracked tag. -/
  vA : Nat := 255
  vB : Nat := 255
  /-- DT of the sync word of the last appearance of each. -/
  atA : Nat := 0
  atB : Nat := 0
  /-- The tag of the last valid frame. -/
  lastTag : Nat := 0
  strength : Nat := 255
  room : Nat := 0xFFFF
  watch : Bool := false
  held : Bool := false
  /-- DT at the start of the last period, and whether the leg has been scanned. -/
  lastScan : Nat := 0
  scanned : Bool := false
  frames : Nat := 0
deriving DecidableEq, Repr

/-- COLOC of LEG_STATS and BEACON_LEG_QUERY: 2 co-located, 1 candidate, 0 none (R400, R404). -/
def LegBeacon.code (b : LegBeacon) : Nat :=
  if b.coloc.isSome then 2 else if b.seenA % 8 + b.seenB % 8 > 0 then 1 else 0

/-- A leg (Tables 02-3, 02-6, 02-12). -/
structure Leg where
  tenant : Nat
  conf : Nat
  typ : LegType
  state : LegState
  created : Nat
  hold : Nat := 0
  holdPend : Option (Nat × Nat) := none
  /-- The grain start from which the hold mask is in force, and the mask before it (R151). -/
  holdAt : Nat := 0
  holdOld : Nat := 0
  /-- The mask that the mix of the present grain applies: playout grains are processed one grain later (R92, R49). -/
  holdMix : Nat := 0
  movePend : Option (Nat × Nat) := none
  netPort : Nat := 0
  flags : Nat := 0
  vlan : Nat := 0
  localUdp : Nat := 0
  remoteUdp : Nat := 0
  localAddr : Nat := 0
  remoteIp : Nat := 0
  typeObj : Nat := 0
  slotMask : Nat := 0
  /-- Masks to come: effective playout grain and mask, oldest first (R368). -/
  slotPend : List (Nat × Nat) := []
  /-- The mask before the one in force, while a crossfade under R369 is due. -/
  slotOld : Option Nat := none
  maxKbps : Nat := 0
  minKbps : Nat := 0
  /-- DT from which CONNECT_LIMIT runs (R70, R617). -/
  connectFrom : Nat := 0
  /-- The instant the leg entered CLOSING, the replies that wait, and whether its packets past the
  classifier and its video have been let go (R71, R72). -/
  closeAt : Nat := 0
  closeReply : List ReplyTo := []
  /-- The frame interval of its slowest video output as it entered CLOSING (R72). -/
  closeGap : Nat := 0
  ing : LegIngress := {}
  ice : Ice := {}
  cur : Metrics := {}
  last : Metrics := {}
  egr : LegEgress := {}
  ada : Adapt := {}
  rtcp : RtcpState := {}
  casc : Cascade := {}
  dtls : Dtls := {}
  cip : Crypto := {}
  bcn : LegBeacon := {}
deriving DecidableEq, Repr

/-- A packet as the buffers behind the rings hold it. -/
structure Packet where
  flow : Nat
  stamp : Nat
  len : Nat
  ext : Nat
  rtp : Rtp
  recovered : Nat
deriving DecidableEq, Repr

/-- Jitter buffer of an audio receive flow (R166 to R171). -/
structure JitterBuf where
  minMs : Nat := 20
  maxMs : Nat := 200
  pend : Option (Nat × Nat × Nat) := none
  /-- Anchor: RTP timestamp and playout DT. -/
  anchor : Option (Nat × Nat) := none
  reanchorAt : Option Nat := none
  /-- Packets held for the re-anchoring, the first of which sets the new anchor. -/
  waiting : List Packet := []
  /-- Extended sequence number and timestamp of the last packet, the timestamps counted on from 2^32. -/
  lastTs : Option (Nat × Nat) := none
  /-- Target and actual depth in grains; the target is JB_MIN until the first window boundary. -/
  target : Nat := 8
  depth : Nat := 0
  /-- The highest extended sequence number played. -/
  played : Option Nat := none
  /-- Packet interval in 1/65,536 ns, from successive timestamps. -/
  interval : Nat := 0
  /-- Extended sequence numbers taken so far, of the last 1,024: a further copy of one is a duplicate (R167, R179). -/
  taken : List Nat := []
  /-- Buffered packets by playout grain. -/
  packets : List (Nat × Packet) := []
  silentNow : Bool := false
deriving DecidableEq, Repr

/-- One missing packet of a gap (R173). -/
structure Gap where
  ext : Nat
  revealed : Nat
  nackAt : Option Nat
  nacks : Nat
  abandonAt : Nat
deriving DecidableEq, Repr

/-- Reorder buffer of a video receive flow (R172 to R177). -/
structure Reorder where
  mode : Nat := 0
  retries : Nat := 3
  delayUs : Nat := 2000
  limitMs : Nat := 150
  pend : Option (Nat × Nat × Nat × Nat) := none
  gaps : List Gap := []
  held : List Packet := []
  next : Option Nat := none
deriving DecidableEq, Repr

/-- FlexFEC recovery of a FEC receive flow (R178, R182). -/
structure FecRecv where
  enable : Bool := false
  windowMs : Nat := 1000
  /-- FEC_SET waiting for the next frame boundary of the flow's sink (R182). -/
  pend : Option (Bool × Nat) := none
  told : Bool := false
  /-- Repair packets kept, with their arrival, and copies of the protected packets (R178). -/
  repairs : List (FecHdr × Nat) := []
  copies : List Packet := []
deriving DecidableEq, Repr

/-- Key-frame request state of a receive flow (R203, R204). -/
structure KeyReq where
  wanted : Bool := false
  lastPli : Option Nat := none
  unanswered : Nat := 0
  /-- The last PLI has found no answer yet, and has not been counted as unanswered. -/
  awaits : Bool := false
  firSeq : Nat := 0
deriving DecidableEq, Repr

/-- States of a forwarded send flow (Table 05-8). -/
inductive FwdState where
  | forwarding | pending | paused | suspended | unbound
deriving DecidableEq, Repr

/-- A layer triple E, S, T. -/
structure Target where
  e : Nat := 0
  s : Nat := 0
  t : Nat := 0
deriving DecidableEq, Repr

/-- A replacement binding, to a source or to a slot with the source that ranks for it, that waits for the first switch
point of its source (R185). -/
structure FwdNext where
  source : Nat
  slot : Nat
  slotSource : Option Nat := none
  prio : Nat
  caps : Target
deriving DecidableEq, Repr

/-- A picture of a source as it is forwarded: the flow it comes in, the source number of its first packet and its timestamp,
the target it is forwarded under, whether only with T = 0 (R193) and whether at all, and whether a packet of it was sent. -/
structure FwdPic where
  src : Nat
  ext : Nat
  ts : Nat
  tgt : Target
  base : Bool := false
  go : Bool := true
  sent : Bool := false
deriving DecidableEq, Repr

/-- Frame bytes of the packets of layers S, T that certain further targets need (R189). -/
structure LayerBytes where
  s : Nat
  t : Nat
  needs : List (Nat × Nat) := []
  bytes : Nat
deriving DecidableEq, Repr

/-- A forwarding binding of a send flow (R183 to R202). -/
structure Fwd where
  bound : Bool := false
  source : Nat := 0
  /-- A replacement waiting for its first switch point (R185). -/
  next : Option FwdNext := none
  slot : Nat := 0
  slotSource : Option Nat := none
  prio : Nat := 0
  caps : Target := {}
  cur : Target := {}
  tgt : Target := {}
  state : FwdState := .unbound
  /-- DT at which a pending change of E was asked for. -/
  since : Nat := 0
  /-- Runs in succession in which each target has fitted within 0.9 × the share, at most 20 (R226). -/
  fits : List (Target × Nat) := []
  outSeq : Nat := 0
  tsOff : Nat := 0
  /-- The offset of frame numbers (picture IDs), kept continuous with the timestamps (R200). -/
  frOff : Int := 0
  /-- The same for TL0PICIDX. -/
  tl0Off : Int := 0
  /-- Of the last frame sent: its output timestamp, frame number and TL0PICIDX, and the stamp of its first packet. -/
  lastTs : Nat := 0
  lastStamp : Nat := 0
  lastFrame : Option Int := none
  lastTl0 : Option Int := none
  /-- Output timestamp of the last packet sent (R198). -/
  sentTs : Nat := 0
  /-- Pictures of the source, newest first, as far back as the reservations reach (R198). -/
  pics : List FwdPic := []
  /-- The flow and timestamp of a picture in progress, whose rest is still forwarded although its binding has gone (R50,
  R93). -/
  tail : Option (Nat × Nat) := none
  framesOut : Nat := 0
  /-- Highest source number forwarded from, and the output numbers kept for missing ones. -/
  srcHigh : Option Nat := none
  kept : List (Nat × Nat) := []
  e2eeBoundary : Bool := false
  started : Bool := false
  pkts : Nat := 0
  padding : Nat := 0
  rtxSent : Nat := 0
  rtxMiss : Nat := 0
  lastSource : Nat := 0
  silentTold : Bool := false
  shed : Bool := false
deriving DecidableEq, Repr

/-- A packet of the egress history (R206 to R208). -/
structure HistEntry where
  out : Nat
  sent : Nat
  len : Nat
  rtp : Rtp
  resends : Nat
  lastTx : Nat
  /-- The SRTP index under which it was first protected (R654). -/
  index : Option Nat := none
deriving DecidableEq, Repr

/-- A flow's profile (FLOW_PROFILE_SET). -/
structure Profile where
  codec : Nat := 0
  exts : List Nat := [0, 0, 0, 0, 0, 0]
  nominal : Nat := 0
deriving DecidableEq, Repr

/-- FEC generation of a KIND 3 send flow (R271 to R273). -/
structure FecGen where
  mode : Nat := 0
  flushMs : Nat := 30
  /-- The open block: its mode, L, D, flush bound, first packet's DT and its packets. -/
  blkMode : Nat := 0
  blkL : Nat := 0
  blkD : Nat := 0
  blkFlush : Nat := 0
  blkFirst : Option Nat := none
  blkPackets : List Rtp := []
deriving DecidableEq, Repr

/-- A flow (Tables 02-4, 02-5, 02-14). -/
structure Flow where
  tenant : Nat
  leg : Nat
  ssrc : Nat
  kind : Nat
  dir : Nat
  pt : Nat
  flags : Nat
  clockRate : Nat
  assoc : Nat
  mid : List Byte
  rid : List Byte
  sink : Nat
  state : FlowState
  /-- Order of creation, by which encodings are numbered (R184). -/
  order : Nat
  pinned : Bool := false
  cached : Bool := false
  used : Nat := 0
  baseSeq : Nat := 0
  /-- Highest extended sequence number, counted on from 65,536 so that none before it is negative. -/
  extSeq : Option Nat := none
  lastArr : Nat := 0
  /-- RFC 3550 jitter in 1/65,536 ns, scaled by 16. -/
  jitter : Nat := 0
  /-- Stamp and timestamp of the last RTP packet, and the RTP packets received. -/
  transit : Option (Nat × Nat) := none
  rtpRec : Nat := 0
  lastSr : Option (Nat × Nat) := none
  packets : Nat := 0
  bytes : Nat := 0
  lost : Nat := 0
  fecRec : Nat := 0
  rtxRec : Nat := 0
  authFails : Nat := 0
  replays : Nat := 0
  fcsFails : Nat := 0
  timedOut : Bool := false
  closeAt : Nat := 0
  closeReply : List ReplyTo := []
  jb : JitterBuf := {}
  ro : Reorder := {}
  fec : FecRecv := {}
  keyReq : KeyReq := {}
  /-- Measured frame bytes in steps of 25 ms, newest first, each by layers and by the further targets that need them (R189). -/
  rates : List (Nat × List LayerBytes) := []
  /-- Packets without layer information (R196). -/
  unparsed : Nat := 0
  /-- Packets expected and received as of the last report block. -/
  rrExp : Nat := 0
  rrRec : Nat := 0
  /-- The loss of a send flow that its last report block gave: the fraction in 1/256, and the cumulative count (R213). -/
  rrLoss : Nat × Nat := (0, 0)
  fwd : Fwd := {}
  hist : List HistEntry := []
  prof : Profile := {}
  /-- The values the media path uses until its next boundary (R237). -/
  profOld : Option Profile := none
  /-- When they were set, and whether the flow, of video, has carried a frame. -/
  profAt : Nat := 0
  carried : Bool := false
  cls : Nat := 5
  clsNew : Option Nat := none
  fgen : FecGen := {}
  /-- The timestamp offset of a send flow. -/
  tsBase : Nat := 0
  /-- Video output attached: encode context handle or a splice (R50). -/
  outCtx : Nat := 0
  sendSeq : Nat := 0
  /-- The last timestamp sent and the playout instant it stands for (R211). -/
  srMap : Option (Nat × Nat) := none
  cip : Crypto := {}
deriving DecidableEq, Repr

/-- The profile that the media path uses (R237). -/
def Flow.media (f : Flow) : Profile := f.profOld.getD f.prof

/-- A frame of a video flow begins: the values set last are those that the media path uses from now on (R237). -/
def Flow.frameTurn (f : Flow) : Flow := { f with profOld := none, carried := true }

/-- Quota and policy of a tenant (Table 02-15, R580). -/
structure Quota where
  confMax : Nat := 0
  confRes : Nat := 0
  legMax : Nat := 0
  legRes : Nat := 0
  flowMax : Nat := 0
  flowRes : Nat := 0
  policy : Nat := 0
deriving DecidableEq, Repr

/-- One entry of a local address table (R144). -/
structure LocalAddr where
  v6 : Bool := false
  valid : Bool := false
  ip : Nat := 0
deriving DecidableEq, Repr

/-- A gate control list (R262 to R268): its start, cycle and entries (gate state, interval), in
1/65,536 ns. An empty list stands for all gates open. -/
structure GateList where
  base : Nat
  start : Nat
  cycle : Nat
  entries : List (Nat × Nat)
deriving DecidableEq, Repr

/-- A logical network port: ingress and egress (R138, R144, R248, R262, R269, R270). -/
structure LPort where
  mac : Nat := 0
  up : Bool := false
  addrs : List LocalAddr := List.replicate 32 {}
  /-- The 16 counters of PORT_STATS, in its order. -/
  counters : List Nat := List.replicate 16 0
  /-- Echo requests and solicitations answered in a window: window, count (step 6). -/
  echoWin : Nat × Nat := (0, 0)
  oh : Nat := 20
  pfcHonour : Bool := false
  pcp : List Nat := [0, 1, 2, 3, 4, 5, 6, 7]
  dscp : List Nat := [0, 0, 0, 10, 0, 34, 46, 48]
  /-- Virtual time of each class (R253). -/
  vt : List Nat := List.replicate 8 0
  /-- Pause of each class: its end and its beginning (R270). -/
  paused : List (Option (Nat × Nat)) := List.replicate 8 none
  pauseTold : List Bool := List.replicate 8 false
  running : Option GateList := none
  pending : Option GateList := none
  /-- Gate state held until the restart of R265. -/
  frozenGates : Option Nat := none
  queue : List TxFrame := []
  portqDrops : Nat := 0
  oversize : Nat := 0
  sentFrames : List Nat := List.replicate 8 0
  sentBytes : List Nat := List.replicate 8 0
  lastSent : List Nat := List.replicate 8 0
  /-- The instant at which the link becomes free, and that of the last pause of the generator (R603). -/
  freeAt : Nat := 0
  genSent : Nat := 0
deriving DecidableEq, Repr

/-- A physical port: breakout mode, ingress MAC buffer and PFC generator (R138, R165, R603). -/
structure PhysPort where
  mode : Nat := 0
  macBuf : Nat := 0
  macPanic : Bool := false
  genOn : Bool := false
  priMask : Nat := 0
  xoff : Nat := 1572864
  xon : Nat := 1048576
  pausing : Bool := false
  pauseDt : Nat := 0
  pausesSent : Nat := 0
deriving DecidableEq, Repr

/-- An entry of an ingress ring (R159 to R163): its descriptor, with the flow, leg and tenant indices, the MAC stamp, the
extended sequence number, the length and the recovery flags, and what it holds. -/
structure RingEntry where
  id : Nat
  size : Nat
  committed : Bool
  flow : Option Nat
  leg : Nat
  tenant : Nat := 0
  /-- The creation of the flow or of the leg for which space was reserved: an object that reuses the index is another
  (R792, R15). -/
  made : Nat := 0
  /-- Recovery flags: 0 as received, 1 from RTX, 2 from FEC. -/
  recovery : Nat := 0
  stamp : Nat
  len : Nat
  body : UdpBody
  ext : Nat
deriving DecidableEq, Repr

/-- One ingress ring. -/
structure Ring where
  size : Nat
  entries : List RingEntry := []
deriving DecidableEq, Repr

/-- A packet waiting for a flow context (R78, R79). -/
structure MissEntry where
  flow : Nat
  leg : Nat
  stamp : Nat
  len : Nat
  body : UdpBody
  port : Nat
deriving DecidableEq, Repr

/-- A port pipeline: miss queue and rings (R78, R159). -/
structure Pipeline where
  miss : List MissEntry := []
  rings : List Ring := [⟨262144, []⟩, ⟨1048576, []⟩, ⟨2097152, []⟩, ⟨786432, []⟩]
deriving DecidableEq, Repr

/-- Where a packet of the cipher cluster stands: held back at its packetizer, admitted to its queue, or on an AES core
(R647, R648). -/
inductive CipPhase where
  | held | queued | running
deriving DecidableEq, Repr

/-- A job of the cipher cluster (R647, R648). -/
structure CipherJob where
  id : Nat
  pipe : Nat
  /-- Owner of the crypto state: a flow, or a leg's RTCP context. -/
  flow : Option Nat
  leg : Nat
  cls : Nat
  stamp : Nat
  len : Nat
  body : UdpBody
  fcsOk : Bool
  port : Nat
  /-- Retransmission: protect with the index first used (R654). -/
  index : Option Nat
  /-- The leg whose packet a forwarded packet carries (R71). -/
  src : Option Nat := none
  /-- The installation of keys under which it was admitted (R646). -/
  epoch : Nat := 0
  phase : CipPhase := .queued
deriving DecidableEq, Repr

/-- A clear context of the cipher cluster (R643, R644). -/
structure ClearCtx where
  /-- Handle of the owner, a flow or a leg. -/
  owner : Nat
  used : Nat
  /-- It holds state not wrapped since its last packet (R658). -/
  dirty : Bool
  /-- The six session keys, which exist only here (R639). -/
  keys : List (List Byte) := []
deriving DecidableEq, Repr

/-- The cipher cluster (R638 to R659). -/
structure CipherState where
  slots : Tbl ClearCtx := []
  gen : Nat := 1
  /-- The wraps made since the boot began (R641). -/
  wraps : Nat := 0
  inQ : List CipherJob := []
  outQ : List CipherJob := []
  nextJob : Nat := 0
  counters : List Nat := List.replicate 8 0
  /-- The window in course, with the work offered in it in units of DT, the loads and the packets (R656). -/
  win : Nat := 0
  busy : Nat := 0
  winLoads : Nat := 0
  winPackets : Nat := 0
  /-- Since when back-pressure holds a packetizer (R648). -/
  backSince : Option Nat := none
  /-- State under former keys that packets admitted before their replacement still use (R646): owner, installation. -/
  olds : List (Nat × Nat × Crypto) := []
deriving DecidableEq, Repr

/-- A flow-control output pin (R274, R275). -/
structure FcPin where
  source : Nat
  index : Nat
  high : Nat
  low : Nat
  asserted : Bool := false
deriving DecidableEq, Repr

/-- A complete frame handed to the egress enqueue (R239). -/
structure ReadyFrame where
  port : Nat
  leg : Option Nat
  flow : Option Nat
  cls : Nat
  len : Nat
  /-- A media packet, which takes a transport-wide sequence number (R217). -/
  media : Bool
  body : EthBody
  /-- The leg whose packet a forwarded frame carries (R71). -/
  src : Option Nat := none
  /-- What seals the RTP or RTCP packet in it. -/
  lock : Option Seal := none
deriving DecidableEq, Repr

/-- Packet memory and the network side as a whole. -/
structure NetState where
  ports : List LPort := List.replicate 8 {}
  phys : List PhysPort := [{}, {}]
  pipes : List Pipeline := [{}, {}]
  /-- Frames handed to the enqueue, in order. -/
  ready : List ReadyFrame := []
  poolCells : Nat := 0
  poolHigh : Bool := false
  fc : List FcPin := [⟨1, 0, 1572864, 1048576, false⟩, ⟨1, 1, 1572864, 1048576, false⟩,
    ⟨2, 0, 1879048192, 1610612736, false⟩, ⟨0, 0, 0, 0, false⟩]
  /-- The device has entered STANDBY since power-up or reset: FC_OUT follows its assignments (R602). -/
  fcOn : Bool := false
  qdelayAlarmMs : Nat := 200
  nextRing : Nat := 0
deriving DecidableEq, Repr

/-- A conference (Tables 02-2, 02-7, 02-11). Its mix program stands in the audio state. -/
structure Conf where
  tenant : Nat
  maxLegs : Nat
  media : Nat
  connectLimit : Nat
  home : Nat
  state : ConfState
  failedJoins : Nat
  /-- Replies of CONF_DELETE that wait for the last leg. -/
  reply : List ReplyTo
  /-- Home moves to come (R718): new home and its grain. -/
  homePend : List (Nat × Nat)
deriving DecidableEq, Repr

/-- What leaves the block: the model's own trace, newest first, of every write, message, frame and
pin change that the rules make the device produce. -/
inductive Out where
  /-- A completion entry written to its ring: function, queue, slot, and its 64 bytes (Table 03-4). -/
  | cqe (fn cq slot : Nat) (entry : List Byte)
  /-- An event entry written to its ring: function, slot, and its 32 bytes (Table 03-5). -/
  | eqe (fn slot : Nat) (entry : List Byte)
  /-- A write to host memory. -/
  | hostWrite (addr : Nat) (data : List Byte)
  /-- An MSI-X message of a function's vector. -/
  | msix (fn vector : Nat)
  /-- The value a register read returned. -/
  | regRead (value : Nat)
  /-- Bytes a management bus read returned. -/
  | mgmtRead (data : List Byte)
  /-- A frame on a logical port, from the destination MAC through the FCS. -/
  | frame (port : Nat) (bytes : List Byte)
  /-- A pause frame: logical port, priorities and quanta (R603). -/
  | pause (port mask quanta : Nat)
  /-- A PTP message of the master instance: logical port, kind, DT of the stamp it carries. -/
  | ptp (port kind dt : Nat)
  /-- A pin of the package changing level: name and level. -/
  | pin (name : String) (level : Bool)
  /-- What a serial audio port sends from its grain-opening edge on, or from now on: port, grain, and the 32 bits of each slot,
  by slot and then by frame. -/
  | serial (port grain : Nat) (slots : List (List Nat))
  /-- What a read of a crossing queue returned: reader island, writer island, queue, VALID, data (R599). -/
  | queueRead (reader writer queue : Nat) (valid : Bool) (word : Nat)
  /-- What a read of DRAM gave its requester: the requester, the line, its bytes, and the poison tag (R565, R572). -/
  | memRead (req line : Nat) (data : List Byte) (poison : Bool)
  /-- A write to the boot flash: slot, image type, and address. -/
  | flash (slot typ addr : Nat)
deriving DecidableEq, Repr

end Sys2Proof.Machine
end

