-- ==== Sys2Proof/Machine/PartsAudio.lean ====
section
/-! DEFINITION. State of the audio side: mixes and mix groups, DSP cores and kernels, serial audio ports
and fixed routes, the beacon modem (files 07 to 10 of spec/). -/

namespace Sys2Proof.Machine

/-! Mixing (file 07). -/

/-- A node of an Osdun graph (Table 07-3). -/
structure GNode where
  typ : Nat
  chan : Nat
  ref : Nat
  param : Nat
deriving DecidableEq, Repr

/-- An edge of an Osdun graph (Table 07-4). -/
structure GEdge where
  src : Nat
  dst : Nat
  gain : Nat
  pan : Nat
  select : Bool
deriving DecidableEq, Repr

/-- A receive audio flow's implicit contribution (R280). -/
structure Contribution where
  group : Nat
  gain : Nat
  pan : Nat
deriving DecidableEq, Repr

/-- A send audio flow's listener settings (R281, R297). -/
structure Listener where
  group : Nat
  bitrate : Nat
  ptime : Nat
  flags : Nat
  complexity : Nat
  cnPt : Nat
deriving DecidableEq, Repr

/-- A KERNEL node's instance as the compiler placed it (R339): node, kernel, core, PARAM, number. -/
structure KPlace where
  node : Nat
  kernel : Nat
  core : Nat
  param : Nat
  num : Nat
  /-- Addresses of its blocks in XMEM and YMEM. -/
  x : Nat
  y : Nat
deriving DecidableEq, Repr

/-- The whole mix configuration of a conference, kept as a set (R305). -/
structure MixSet where
  nodes : List GNode := []
  edges : List GEdge := []
  n : Nat := 3
  coloc : Nat := 3
  hang : Nat := 120
  silDb : Nat := 70
  parkS : Nat := 30
  silHold : Nat := 40
  limV : Nat := 2
  releaseMs : Nat := 50
  talkEvents : Bool := false
  noPark : Bool := false
  /-- MIX_PAN_SET; the initial mode is that of MODE 1, PAN of MIX_CONTRIBUTE. -/
  panMode : Nat := 1
  canvas : Nat := 0
  contribs : Tbl Contribution := []
  listens : Tbl Listener := []
  insts : List KPlace := []
  /-- The change to this set asks for a crossfade (R307). -/
  crossfade : Bool := false
  /-- A MIX_GRAPH_LOAD is among the changes that made this set. -/
  loaded : Bool := false
deriving DecidableEq, Repr

/-- What talker selection remembers of one source (R285, R288): successive grains below the threshold, the level of the
last grain in 0.5 dB steps, and the sums of squares of the grains measured, newest first, each with its grain. -/
structure SrcLevel where
  below : Nat := 0
  level : Int := -254
  sums : List (Nat × Nat) := []
deriving DecidableEq, Repr

/-- A grain of one channel received from another package (R231): the leg it came on, its grain, channel,
flags and source, and its 120 samples in the mix format. -/
structure CascGrain where
  leg : Nat
  grain : Nat
  chan : Nat
  flags : Nat
  src : Nat
  pcm : List Int
deriving DecidableEq, Repr

/-- What a remote package keeps of a grain until the return mix comes (R232): for each channel its sum, and
the products of each leg. -/
structure OwnGrain where
  grain : Nat
  sums : List (Nat × List Int)
  legs : List (Nat × Nat × List Int)
deriving DecidableEq, Repr

/-- What one output is encoded and limited with (R297, R298, R309): the shared encode of listeners of a mix group with
equal settings, silent or not; the encode of one send flow alone; the limiter of a slot of a port leg. Over the grain of a
crossfade the group in the old set and that in the new one may differ (R307). -/
inductive EncKey where
  | shared (old new : Option Nat) (settings : List Nat) (muted : Bool)
  | own (flow : Nat)
  | port (leg slot : Nat)
deriving DecidableEq, Repr

/-- The encoder and limiter state of an output: its encode, the grain at which the encoder state started from reset, which
a copy keeps (R298), and the limiter gain H of each channel (R309). -/
structure OutEnc where
  key : EncKey
  since : Nat
  h : List Nat := []
deriving DecidableEq, Repr

/-- A playout grain in the making: the samples decoded, by flow, those of the IN_PORT nodes of the running set and of the
one before, whether a crossfade runs over it, and the ranked candidates that are not silent, at most 16 (R232, R278, R307). -/
structure MixGrain where
  n : Nat
  /-- The target grain of its slot groups: the one after the grain of DT that processes it (R361). -/
  target : Nat := 0
  pcm : List (Nat × List Int) := []
  ports : List (Nat × List Int) := []
  oldPorts : List (Nat × List Int) := []
  fading : Bool := false
  cands : List Nat := []
deriving DecidableEq, Repr

/-- The mix of a conference (R277 to R314). -/
structure ConfMix where
  /-- Audio cluster of its mix engine, from its first mix group on (R277). -/
  cluster : Option Nat := none
  run : MixSet := {}
  /-- Grain at which the running program took effect (MIX_QUERY). -/
  runGrain : Nat := 0
  /-- Shadow sets with their effective grains, oldest first (R305). -/
  pends : List (Nat × MixSet) := []
  /-- The set before the running one, while a crossfade over the effective grain is due (R307). -/
  old : Option MixSet := none
  /-- Slot groups replaced as late whose commit is still to come: their target grain and port legs (R279, R363). -/
  overdue : Option (Nat × List Nat) := none
  parked : Bool := false
  /-- A contribution was loud, or one was added, while parked: resume at the next boundary (R313). -/
  wake : Bool := false
  /-- Successive grains in which every contribution was silent (R311). -/
  quiet : Nat := 0
  /-- Talkers in rank order: leg and last_top (R289). -/
  talkers : List (Nat × Nat) := []
  levels : Tbl SrcLevel := []
  /-- Encoder and limiter state of each listener's output, by send flow, and of each port slot. -/
  encs : Tbl OutEnc := []
  slots : List OutEnc := []
  /-- Send flows encoded for themselves (R297, R298). -/
  ownEnc : List Nat := []
  /-- The grain in the making, and the legs that are no talkers of it for want of encodes (R292). -/
  now : Option MixGrain := none
  cut : List Nat := []
  /-- The last playout grain processed, or replaced as late (R279). -/
  done : Option Nat := none
  /-- Legs to which COLOC_ACTION applies, with the tag they heard (R314). -/
  acts : List (Nat × Nat) := []
  /-- Decisions whose action starts or ends: effective grain, leg, tag, begin. -/
  actPend : List (Nat × Nat × Nat × Bool) := []
  /-- Flows decoded for the last grain (R287, R397). -/
  decoded : List Nat := []
  /-- Cascade grains received and not mixed yet, and own grains that wait for a return mix. -/
  inbox : List CascGrain := []
  own : List OwnGrain := []
  /-- Layout position of each leg shown on the canvas, as of the last grain boundary (R304). -/
  pos : List (Nat × Nat) := []
  /-- E2EE audio flows in rank order: flow and last_top (R215). -/
  e2ee : List (Nat × Nat) := []
deriving DecidableEq, Repr

/-- A mix group (R279, R310, Table 07-13). -/
structure MixGroup where
  conf : Nat
  channels : Nat
  limGrains : Nat := 0
  satSamples : Nat := 0
  decSkips : Nat := 0
  lateGrains : Nat := 0
  /-- Largest reduction in 0.5 dB steps of a window, and of the window before: window, now, last. -/
  redWin : Nat := 0
  redNow : Nat := 0
  redLast : Nat := 0
deriving DecidableEq, Repr

/-! DSP cores and kernels (file 08). -/

/-- A hardware loop in progress (R325). -/
structure LoopEntry where
  start : Nat
  end_ : Nat
  left : Nat
  rot : Bool
deriving DecidableEq, Repr

/-- An invocation in progress on a core (R336). -/
structure Invocation where
  conf : Nat
  node : Nat
  grain : Nat
  kernel : Nat
  /-- PMEM range of the kernel, windows in XMEM and YMEM (base, length) and CYC_MAX (R332, R340). -/
  code : Nat
  xs : List (Nat × Nat)
  ys : List (Nat × Nat)
  cycMax : Nat
  output : Nat
  cycles : Nat
  /-- The watchdog has requested its interrupt, which waits for an eligible boundary (R328, R340). -/
  watch : Bool
deriving DecidableEq, Repr

/-- A DSP core (Tables 08-1, 08-2, 08-7). -/
structure DspCore where
  d : List (BitVec 32) := List.replicate 32 0
  acc : List (BitVec 72) := List.replicate 8 0
  p : List (BitVec 32) := List.replicate 16 0
  m : List (BitVec 32) := List.replicate 8 0
  lc : List (BitVec 16) := [0, 0]
  rrb : Nat := 0
  aov : BitVec 8 := 0
  n : Bool := false
  z : Bool := false
  v : Bool := false
  c : Bool := false
  pc : Nat := 0
  /-- Return stack, newest first (R324). -/
  stack : List Nat := []
  /-- Hardware loops, innermost first. -/
  loops : List LoopEntry := []
  /-- Repeats still to issue of the instruction under REP (R327). -/
  rep : Option Nat := none
  /-- Delay slots still to issue, and the index control then goes to, none for a branch not taken (R324). -/
  delay : Option (Nat × Option Nat) := none
  /-- The last delay slot of a branch was issued last: the boundary before its target is not eligible (R328; DEDUCED from the
  worst case of R329). -/
  hold : Bool := false
  /-- Writes of the instruction before that its successor does not see (R322): loaded and moved D
  registers (physical number, value). -/
  late : List (Nat × BitVec 32) := []
  /-- What the present instruction still sees (R322): accumulators for MOVA, P as a move address. -/
  accOld : List (Nat × BitVec 72) := []
  pOld : List (Nat × BitVec 32) := []
  /-- The code in PMEM, by kernel (R345). -/
  pmem : Tbl (List Nat) := []
  xmem : Mem := []
  ymem : Mem := []
  inv : Option Invocation := none
  /-- Instances to run in this grain, in order: conference, node (R336). -/
  waiting : List (Nat × Nat) := []
  /-- Cycles used in the grain: grain, cycles (event 178). -/
  used : Nat × Nat := (0, 0)
deriving DecidableEq, Repr

/-- A loaded operator kernel (R345, Tables 08-9, 08-14). -/
structure Kernel where
  /-- Its instructions, as PMEM holds them once an instance is placed (Table 08-7). -/
  code : List Nat
  cycMax : Nat
  stateX : Nat
  stateY : Nat
  entry : Nat
  id : Nat
  ver : Nat
  codeHash : List Byte
  mask : Nat
  /-- The audio clusters that hold a copy of the image (R345). -/
  copies : List Nat := []
  cycPeak : Nat := 0
  watchdogs : Nat := 0
  faults : Nat := 0
  invocations : Nat := 0
deriving DecidableEq, Repr

/-- A kernel instance of a conference (R337, R339, R341). -/
structure KInst where
  kernel : Nat
  core : Nat
  param : Nat
  num : Nat
  /-- Addresses of the state blocks and buffers in XMEM and YMEM. -/
  x : Nat
  y : Nat
  disabled : Bool := false
  /-- Faults in successive grains, and the grain of the last. -/
  faults : Nat := 0
  lastFault : Option Nat := none
  /-- Output of the last invocation: playout grain and 120 samples. -/
  out : Option (Nat × List Int) := none
deriving DecidableEq, Repr

/-- A KERNEL_LOAD in progress (R343). -/
structure KernelJob where
  id : Nat
  addr : Nat
  len : Nat
  mask : Nat
deriving DecidableEq, Repr

/-- Counters of the DSP cores of one audio cluster (Table 08-15). -/
structure DspStats where
  corrected : Nat := 0
  uncorrectable : Nat := 0
  faults : Nat := 0
  /-- Largest cycles of any core in a grain: window, now, last window. -/
  peakWin : Nat := 0
  peakNow : Nat := 0
  peakLast : Nat := 0
deriving DecidableEq, Repr

/-- DSP cores, kernels and their instances. -/
structure DspState where
  cores : Tbl DspCore := []
  kernels : Tbl Kernel := []
  /-- Instances by conference × 256 + node. -/
  insts : Tbl KInst := []
  loading : List KernelJob := []
  opkBudget : Nat := 320000
  stats : Tbl DspStats := []
deriving DecidableEq, Repr

/-! Serial audio ports (file 09). -/

/-- The selector of an output slot (Table 09-4). -/
structure Route where
  sel : Nat := 1
  srcPort : Nat := 0
  srcSlot : Nat := 0
  gain : Nat := 0
deriving DecidableEq, Repr

/-- A committed slot group of an output block (R362): writer 0 the hub, or 1 + the leg. -/
structure SapGroup where
  target : Nat
  writer : Nat
  /-- Slot number and its 120 samples at 48 kHz. -/
  slots : List (Nat × List Int)
deriving DecidableEq, Repr

/-- A captured grain: playout grain, measured DT of its grain-opening edge, and the samples of each slot at 48 kHz (R359,
R360). -/
structure Captured where
  grain : Nat
  edge : Nat
  slots : List (List Int)
deriving DecidableEq, Repr

/-- The settings of a port that SAP_CONFIG gives (Table 09-8). -/
structure SapConf where
  format : Nat
  rate : Nat
  slots : Nat
  width : Nat
  flags : Nat
deriving DecidableEq, Repr

/-- A serial audio port (R348 to R375). -/
structure Sap where
  format : Nat := 0
  rate : Nat := 0
  slots : Nat := 2
  width : Nat := 24
  flags : Nat := 0
  /-- The settings that a running port takes when it stops (R373). -/
  next : Option SapConf := none
  owner : Nat := 0
  enabled : Bool := false
  /-- n0 of the last start; the port runs from that grain on. -/
  start : Nat := 0
  started : Bool := false
  /-- Grain boundary at which the port stops. -/
  stopAt : Option Nat := none
  /-- A restart at a grain boundary after a DT step (R354); zeros from the step on. -/
  realign : Option Nat := none
  /-- The restart has been counted (event 184). -/
  realigned : Bool := false
  /-- The measured DT of the last grain-opening edge (R359), and the last grain sent. -/
  edge : Nat := 0
  lastGrain : Option Nat := none
  phasePs : Int := 0
  /-- Captured grains, newest first (R360). -/
  capture : List Captured := []
  /-- Last 39 and more raw input and output samples of each slot for the filters of R357. -/
  inHist : List (List Int) := []
  outHist : List (List Int) := []
  stage : List SapGroup := []
  /-- The slot groups due for the next target grain: writer and slots, as of the boundary at which its processing began (R363). -/
  expect : List (Nat × Nat) := []
  /-- The block being sent, 32 bits a slot, by slot and then by frame; and the last bit of the block before it (R350). -/
  block : List (List Nat) := []
  lastBit : Bool := false
  routes : List Route := List.replicate 32 {}
  /-- Route sets to come: effective playout grain, routes, crossfade; oldest first (R368). -/
  routePend : List (Nat × List Route × Bool) := []
  /-- The routes before the running ones, while a crossfade is due. -/
  routeOld : Option (List Route) := none
  underruns : Nat := 0
  lateDiscards : Nat := 0
  overruns : Nat := 0
  phaseAlarms : Nat := 0
  realigns : Nat := 0
  sent : Nat := 0
deriving DecidableEq, Repr

/-- The serial audio ports and AMCLK_OUT (R355). -/
structure SapState where
  ports : List Sap := List.replicate 8 {}
  mclk : Nat := 0
  mclkPend : Option (Nat × Nat) := none
  /-- The correction of the audio PLL's rate, in parts per billion (R351, R353). -/
  pllPpb : Int := 0
deriving DecidableEq, Repr

/-! The beacon modem (file 10). -/

/-- Settings of a modulator (R385). -/
structure ModSet where
  level : Nat
  flags : Nat
  offset : Nat
deriving DecidableEq, Repr

/-- A modulator (R381 to R386). -/
structure BeaconMod where
  leg : Nat
  tag : Nat
  run : ModSet
  /-- Settings to come: effective playout grain and settings, oldest first (R385). -/
  pend : List (Nat × ModSet)
  /-- Settings of the frame in progress, and its first playout grain (R385). -/
  frame : Option (Nat × ModSet)
  /-- Detached from a grain on. -/
  detach : Option Nat
  /-- Grain from which the modulator sends. -/
  from_ : Nat
  frames : Nat := 0
  blocked : Nat := 0
  clips : Nat := 0
deriving DecidableEq, Repr

/-- States of a receiver (Table 10-2); IDLE is the absence of an assignment. -/
inductive RxState where
  | armed | search | locked
deriving DecidableEq, Repr

/-- A demodulator assigned to a leg (R387 to R398). Strengths in 0.01 dB steps, dBFS. -/
structure Demod where
  leg : Nat
  /-- 1 rota scan, 2 held, 3 watched. -/
  assign : Nat
  det : Nat
  captureDb : Nat
  sync : Nat
  state : RxState := .armed
  peakAt : Nat := 0
  peakP : Int := 0
  /-- The gain of the AGC while it is frozen, in 0.01 dB (R387). -/
  frozen : Option Nat := none
  /-- Latched strength code v, and the instant of the sync word (R391). -/
  v : Nat := 255
  syncAt : Nat := 0
  /-- First playout grain of the present period. -/
  period : Nat
  /-- The scan or hold has ended; the demodulator stays for the reception in progress (R398). -/
  ending : Bool := false
deriving DecidableEq, Repr

/-- Beacon scanning of a conference (BEACON_RX_SET). -/
structure BeaconRx where
  enable : Bool := false
  det : Nat := 55
  captureDb : Nat := 6
  pend : Option (Nat × Bool × Nat × Nat) := none
deriving DecidableEq, Repr

/-- The beacon modem. -/
structure BeaconState where
  mods : Tbl BeaconMod := []
  /-- Tags detached: tag and instant (R381). -/
  gone : List (Nat × Nat) := []
  demods : Tbl Demod := []
  rx : Tbl BeaconRx := []
  holdMax : Nat := 384
  rotaS : Nat := 30
  sync : Nat := 75
  /-- The first ten counters of BEACON_STATS, in its order. -/
  counters : List Nat := List.replicate 10 0
  /-- Longest interval between scans: window, now, last window, in s. -/
  slowWin : Nat := 0
  slowNow : Nat := 0
  slowLast : Nat := 0
deriving DecidableEq, Repr

/-- The audio side as a whole. -/
structure AudioState where
  mixes : Tbl ConfMix := []
  groups : Tbl MixGroup := []
  dsp : DspState := {}
  sap : SapState := {}
  bcn : BeaconState := {}
deriving DecidableEq, Repr

end Sys2Proof.Machine
end

