-- ==== Sys2Proof/Machine/PartsTrust.lean ====
section
/-! DEFINITION. State of the vault and the tamper monitor (file 18 of spec/). -/

namespace Sys2Proof.Machine

/-- A generation of a tenant's DTLS certificate (R619 to R623). -/
structure CertGen where
  gen : Nat
  issued : Nat
  /-- R623 has renewed it. -/
  renewed : Bool
  /-- The certificate (R620). -/
  cert : List Byte
  /-- The end of its validity has been acted on (R622). -/
  expired : Bool := false
deriving DecidableEq, Repr

/-- A tenant's DTLS key (R619). -/
structure DtlsKey where
  alg : Nat
  nextGen : Nat
  /-- At most 4 generations, oldest first (R622). -/
  gens : List CertGen
  /-- SubjectPublicKeyInfo of the key. -/
  spki : List Byte
  /-- The measurements the current generation attests, and the tenant's host-key bits (R621). -/
  measured : List Byte
  bits : Nat
deriving DecidableEq, Repr

/-- A key store entry (R614). -/
structure KeyEntry where
  tenant : Nat
  profile : Nat
  rx : List Byte
  tx : List Byte
deriving DecidableEq, Repr

/-- A detection latched while only VBAT supplied the device (R633). -/
structure Latched where
  sensor : Nat
  cls : Nat
  sec : Nat
deriving DecidableEq, Repr

/-- The vault (R606 to R637, R790). -/
structure TrustState where
  /-- Enrolment, sealed or not yet (R611). -/
  groupId : List Byte := List.replicate 16 0
  kernelKey : Option (List Byte) := none
  enrolled : Bool := false
  provisioned : Bool := false
  provisionCount : Nat := 0
  bootCount : Nat := 0
  approved : List (List Byte) := []
  dtls : Tbl DtlsKey := []
  keys : Tbl KeyEntry := []
  /-- HOSTKEY_EVER: bit t for tenant t. -/
  hostEver : Nat := 0
  /-- Class of each sensor in force (R790). -/
  classes : List Nat := [2, 2, 1, 1, 1, 0, 0, 1]
  active : Nat := 0
  t0 : Nat := 0
  t1 : Nat := 0
  t2 : Nat := 0
  t0Boot : Bool := false
  t1Boot : Bool := false
  latched : List Latched := []
  lockdownHeld : Bool := false
  meshLatch : Bool := false
  ctrHub : Nat := 0
  ctrCluster : Nat := 0
  hubImage : Option Image := none
  clusterImages : List Image := []
  rngFailed : Bool := false
  /-- Operations queued at the public-key engine, ECDHE and signature, and the instant from which each kind's next
  one runs (R610, R626). -/
  pkE : Nat := 0
  pkS : Nat := 0
  pkEDt : Nat := 0
  pkSDt : Nat := 0
  handshakes : Nat := 0
  /-- The response in progress (R632): its class and the instant of the detection that started it. -/
  response : Option (Nat × Nat) := none
  vbatMv : Nat := 3000
  vbatLoss : Bool := false
  /-- The sensor whose T2 caused the present LOCKDOWN. -/
  lockSensor : Nat := 0
  /-- The PUF-derived key has been reconstructed (R607). -/
  keysReady : Bool := false
deriving DecidableEq, Repr

end Sys2Proof.Machine
end

