-- ==== Sys2Proof/Machine/PartsUnits.lean ====
section
/-! DEFINITION. State of clusters, units, regions and die links, of castlings and of updates (files
01 and 22 of spec/). -/

namespace Sys2Proof.Machine

/-- Cluster states (Table 22-1). -/
inductive ClusterState where
  | active | spare | bench | retired
deriving DecidableEq, Repr

/-- The code of a cluster state (Table 22-1). -/
def ClusterState.code : ClusterState → Nat
  | .active => 0 | .spare => 1 | .bench => 2 | .retired => 3

/-- A cluster (R24, R25, R701). -/
structure Cluster where
  state : ClusterState := .active
  /-- Retired units, bit u for unit u (Table 01-5). -/
  failed : Nat := 0
  /-- Context epoch of each unit. -/
  epochs : List Nat := List.replicate 16 0
  castlings : Nat := 0
  gated : Bool := false
  /-- DT from which an audio cluster has had no work (R313). -/
  idleSince : Option Nat := none
  /-- A bench test in progress: its long-running command, 0 for AUTO_BENCH. -/
  benching : Option Nat := none
  /-- Which loaded cluster image runs here (index into the vault's list). -/
  image : Nat := 0
deriving DecidableEq, Repr

/-- A castling in progress in a region (Table 22-3). -/
structure Castling where
  source : Nat
  target : Nat
  /-- Long-running command, 0 for an automatic castling. -/
  id : Nat
  phase : Nat
  deferrals : Nat
  /-- It belongs to IMAGE_ACTIVATE (R713). -/
  update : Bool
  /-- The handover grain, and the grain of the last deferral (R705, R706). -/
  handover : Nat := 0
  deferredAt : Option Nat := none
deriving DecidableEq, Repr

/-- A die link (R36 to R38). -/
structure DieLink where
  replays : Nat := 0
  retrains : Nat := 0
  /-- Replays of the same flit in succession. -/
  flitFails : Nat := 0
  /-- Failed retrains in succession. -/
  trainFails : Nat := 0
  training : Bool := false
  /-- Requests for DRAM that wait for the link while it retrains, oldest first (R37). -/
  held : List DramReq := []
deriving DecidableEq, Repr

/-- Whether traffic for a link waits: it retrains, or has failed 8 replays of a flit and is about to (R37). -/
def DieLink.waits (l : DieLink) : Bool := l.training || decide (8 ≤ l.flitFails)

/-- An image being written or activated (R712 to R714). -/
structure ImageJob where
  id : Nat
  dest : Nat
  typ : Nat
  /-- Regions still to finish, and those that could not (R713). -/
  todo : List Nat
  skipped : List Nat
  /-- The hub pause has begun. -/
  paused : Bool
  /-- Length of an image being written; the pause in µs, and whether the new hub image passes its start checks. -/
  len : Nat := 0
  us : Nat := 0
  ok : Bool := true
deriving DecidableEq, Repr

/-- Clusters, regions, links, castlings and images. -/
structure UnitsState where
  clusters : List Cluster
  epochs : List Nat := List.replicate 8 1
  castling : List (Option Castling) := List.replicate 8 none
  autoCastle : Bool := true
  autoBench : Bool := true
  /-- Failed units waiting for an automatic castling: cluster and unit (R703). -/
  waiting : List (Nat × Nat) := []
  links : List DieLink := [{}, {}, {}]
  writing : Option ImageJob := none
  activating : Option ImageJob := none
  /-- Images held: in slot A, slot B and the DRAM stage, by type. -/
  held : Tbl Image := []
  regionOn : List Bool := List.replicate 8 true
deriving DecidableEq, Repr

/-- The link between two dies, 0 and 1 the media dies and 2 the hub die (Table 01-3); none within a die (R35). -/
def linkOf (a b : Nat) : Option Nat := if a = b then none else if a = 2 || b = 2 then some (min a b) else some 2

/-- The die of a requester: a unit of a cluster, or a port of the hub die from 0x8000 on. -/
def dieOf (req : Nat) : Nat := if req < 896 then req / 16 / 28 else 2

/-- The global region of a cluster (Table 01-4). -/
def regionOf (c : Nat) : Nat :=
  if c < 5 then 0 else if c < 10 then 1 else if c < 19 then 2 else if c < 28 then 3
  else if c < 33 then 4 else if c < 38 then 5 else if c < 47 then 6 else 7

/-- Whether a cluster is an audio cluster (Table 01-4). -/
def isAudioCluster (c : Nat) : Bool := regionOf c % 4 ≥ 2

/-- Whether a number is a unit of a cluster, the only parts that can be retired (R24, Table 01-5). -/
def isUnit (c u : Nat) : Bool := decide (u < if isAudioCluster c then 9 else 5) || u == 14 || u == 15

/-- The clusters of a global region (Table 01-4). -/
def regionClusters : Nat → List Nat
  | 0 => [0, 1, 2, 3, 4] | 1 => [5, 6, 7, 8, 9]
  | 2 => [10, 11, 12, 13, 14, 15, 16, 17, 18] | 3 => [19, 20, 21, 22, 23, 24, 25, 26, 27]
  | 4 => [28, 29, 30, 31, 32] | 5 => [33, 34, 35, 36, 37]
  | 6 => [38, 39, 40, 41, 42, 43, 44, 45, 46] | 7 => [47, 48, 49, 50, 51, 52, 53, 54, 55]
  | _ => []

/-- The clusters at reset: the last of each region is its SPARE (R29). -/
def resetClusters : List Cluster := (List.range 56).map fun c =>
  if [4, 9, 18, 27, 32, 37, 46, 55].contains c then { state := .spare, gated := true } else {}

end Sys2Proof.Machine
end

