-- ==== Sys2Proof/Machine/PartsDisp.lean ====
section
/-! DEFINITION. State of the Dispatcher, of the memories and of the DMA engines and queues (files 15 to 17
of spec/). -/

namespace Sys2Proof.Machine

/-! The Dispatcher (file 15). -/

/-- What a task does: the work descriptor that WORK of the task entry names. -/
inductive Work where
  | decode (ctx : Nat)
  | pass (canvas : Nat)
  | encode (ctx : Nat)
  | tile (tile : Nat)
  /-- A refresh variant of a tile: form 0 single or inter, 1 key. -/
  | variant (tile form : Nat)
  | mix (conf : Nat)
  | splice (flow : Nat)
  | other (addr : Nat)
deriving DecidableEq, Repr

/-- States of a task (Table 15-3); FREE is the absence of an entry. -/
inductive TaskSt where
  | waiting | ready | dispatched | done
deriving DecidableEq, Repr

/-- A task entry (Table 15-1). Class 0 periodic media, 1 one-shot media, 2 system, 3 user. -/
structure Task where
  st : TaskSt
  cls : Nat := 1
  level : Nat := 0
  tenant : Nat := 0
  key : Option Nat := none
  count : Nat := 0
  reload : Nat := 0
  inst : Nat := 0
  target : Nat := 0
  /-- SCOPE: a cluster, or any; and the mask of global regions allowed. -/
  cluster : Option Nat := none
  regions : Nat := 255
  succ : List Nat := []
  work : Work := .other 0
  readyDt : Nat := 0
  owner : Nat := 0
  /-- Where a DISPATCHED task runs: a unit address (R40), or 0x8000 plus an executor of the hub die. -/
  unit : Nat := 0xFFFF
  /-- DT at which it was dispatched, and the unit that hung on it. -/
  startDt : Nat := 0
  /-- The INSTANCE it was dispatched as, which its pulses carry (R525). -/
  runInst : Nat := 0
  avoid : Option Nat := none
  /-- DT at which a user task was marked urgent, and its promotions so far (R536). -/
  urgent : Option Nat := none
  promos : Nat := 0
  /-- DT at which the entry was armed. -/
  made : Nat := 0
  /-- A periodic task's period is one grain, or one frame of its owning context (R525). -/
  grain : Bool := true
deriving DecidableEq, Repr

/-- A READY entry of the user class: an accepted command, or control-core work for a tenant (R535). -/
structure UserItem where
  fn : Nat
  level : Nat
  ready : Nat
  urgent : Option Nat
deriving DecidableEq, Repr

/-- A timer of the delay lists (R530): its deadline, the task it decrements, and the tick it is set for. -/
structure Timer where
  deadline : Nat
  tick : Nat
  task : Nat
deriving DecidableEq, Repr

/-- An atomic flow (R532, R539). -/
structure AtomicFlow where
  lastDone : Option Nat := none
  firstReady : Nat := 0
  completed : Nat := 0
  stale : Bool := false
  bound : Option Nat := none
deriving DecidableEq, Repr

/-- The Dispatcher. -/
structure DispState where
  tasks : Tbl Task := []
  timers : Tbl Timer := []
  keys : Tbl AtomicFlow := []
  weights : List Nat := List.replicate 64 1
  /-- The round of each level: its tenants in their order, each with the control-core time it may still use (R535). -/
  rounds : Tbl (List (Nat × Int)) := []
  promoAgeMs : Nat := 20
  /-- Values of PROMO_AGE before: the instant until which each was in force, and it in ms, latest first (R542). -/
  agesBefore : List (Nat × Nat) := []
  storm : Nat := 1000
  staleMs : Nat := 100
  /-- DISP_SET and DISP_TENANT_SET taken at the next tick start (R542). -/
  setPend : Option (Nat × Nat × Nat) := none
  weightPend : List (Nat × Nat) := []
  orphans : Nat := 0
  stalePulses : Nat := 0
  overruns : Nat := 0
  timersLate : Nat := 0
  epochRefusals : Nat := 0
  promotions : Nat := 0
  ctrlSat : Nat := 0
  /-- Slots in succession that held back system work (R534). -/
  satRun : Nat := 0
  /-- Promotions and tasks marked urgent, by tenant. -/
  tenantProm : Tbl (Nat × Nat) := []
  /-- Longest wait in µs of a task run, by tenant: window, now, last window. -/
  waits : Tbl (Nat × Nat × Nat) := []
  /-- Timers fired at a tick: tick, count (R531). -/
  fired : Nat × Nat := (0, 0)
  /-- Units refused for their epoch, with the region epoch (event 238). -/
  refused : Tbl Nat := []
deriving DecidableEq, Repr

/-! Memories (file 16). -/

/-- A pseudo-channel. -/
structure PseudoCh where
  owed : Nat := 0
  /-- Refreshes that R552 and R554 force, and when the next one falls due; none until its interval has begun. -/
  forced : Nat := 0
  dueAt : Option Nat := none
  spares : Nat := 512
  rd : List DramReq := []
  wr : List DramReq := []
  /-- Requests that wait for room in the queues, oldest first; how many the queues have taken. -/
  behind : List DramReq := []
  taken : Nat := 0
  draining : Bool := false
  /-- The read that follows the write of its line issued last (R548). -/
  follow : Option Nat := none
  /-- Rows that R558 and R559 refresh next: bank and row. -/
  victims : List (Nat × Nat) := []
  /-- Open row of each bank. -/
  openRow : Tbl Nat := []
  /-- Pages retired, by their local address / 4,096, and pages due for it that stay in place (R571). -/
  retired : List Nat := []
  kept : List Nat := []
  /-- Activations of each group of rows in the 32 ms window, and of each requester to it (R557, R558), by twice the
  requester, and one more for a real-time port; and the RH_THRESH of the window. -/
  rhWin : Nat := 0
  rhThr : Nat := 2048
  rhCount : Tbl Nat := []
  rhBy : Tbl (Tbl Nat) := []
  /-- Requesters limited: requester, bank, last activation (R558). -/
  limited : List (Nat × Nat × Nat) := []
deriving DecidableEq, Repr

/-- An entry of a correction log (Table 16-8). -/
structure LogEntry where
  addr : Nat
  count : Nat
  /-- 0 counting, 1 written back, 2 retired or remapped, 3 poisoned. -/
  st : Nat := 0
  bit : Nat := 0
  last : Nat := 0
  /-- Corrections since the last write-back. -/
  since : Nat := 0
deriving DecidableEq, Repr

/-- A DRAM stack and its controller. Temperatures in 0.5 °C steps. -/
structure Stack where
  temp : Int := 0
  /-- Throttling stage by its temperature (Table 21-6). -/
  stage : Nat := 0
  hot : Bool := false
  corrected : Nat := 0
  uncorrectable : Nat := 0
  writebacks : Nat := 0
  retired : Nat := 0
  rhLimits : Nat := 0
  forcedRefresh : Nat := 0
  panicWin : Nat := 0
  panicNow : Nat := 0
  panicLast : Nat := 0
  log : List LogEntry := []
  /-- DT of the last refresh crossing and of the last page copy, which R550 excepts. -/
  crossAt : Option Nat := none
  copyAt : Option Nat := none
  /-- Patrol scrub: lines read in the present pass, corrections and uncorrectable lines in it. -/
  scrubAt : Nat := 0
  scrubCorr : Nat := 0
  scrubBad : Nat := 0
  /-- The last command slot issued a non-panic request under a limit of Table 21-6. -/
  spent : Bool := false
  pcs : List PseudoCh := List.replicate 32 {}
deriving DecidableEq, Repr

/-- A real-time port (Table 16-2): its buffer level, and since when it raises panic. -/
structure RtPort where
  level : Nat := 0
  panic : Option Nat := none
deriving DecidableEq, Repr

/-- DRAM, SRAM and their protection; bushels. -/
structure MemState where
  dramStacks : List Stack := List.replicate 4 {}
  /-- SRAM logs of media die 0, media die 1 and the hub die. -/
  sramLogs : List (List LogEntry) := [[], [], []]
  hubSpares : Nat := 256
  selfRefresh : Bool := false
  selfSince : Nat := 0
  /-- DT of the last request to any controller. -/
  lastReq : Nat := 0
  srIdleMs : Nat := 100
  rhThresh : Nat := 2048
  /-- Contents of DRAM as requesters see them, and the write version of each line (R563). -/
  dram : Mem := []
  versions : Tbl Nat := []
  poisoned : List Nat := []
  /-- Contents of local SRAM: clusters 0 to 55, the hub die 56. -/
  sram : Tbl Mem := []
  /-- The draws of the four controllers' keys, while they hold keys (R562). -/
  keys : List Nat := []
  /-- Bushels in use by tenant, BUSHEL_MAX of each, and bushels that wait for their zero fill: how many, when they were
  freed, and the draw that says which they are (R578, R579). -/
  use : Tbl Nat := []
  max : List Nat := List.replicate 64 1048576
  zeroing : List (Nat × Nat × Nat) := []
  low : Bool := false
  /-- Real-time ports by kind × 256 + index: 0 serial audio port, 1 egress MAC buffer, 2 splice engine, 3 mix engine. -/
  rtPorts : Tbl RtPort := []
deriving DecidableEq, Repr

/-- Whether the DRAM controllers hold keys (R562). -/
def MemState.keyed (m : MemState) : Bool := !m.keys.isEmpty

/-! DMA (file 17). -/

/-- A DMA channel (Table 17-3). -/
structure DmaCh where
  /-- 0 IDLE, 1 RUNNING, 2 PAUSING, 3 PAUSED, 4 ABORTED, 5 HALTED. -/
  st : Nat := 0
  dir : Nat := 0
  cause : Nat := 0
  irq : Bool := false
  desc : Nat := 0
  residue : Nat := 0
  fault : Nat := 0
  /-- The descriptor in progress as read: CTRL, LEN, SRC, DST, TARGET, NEXT; and bytes written. -/
  ctrl : Nat := 0
  len : Nat := 0
  src : Nat := 0
  dst : Nat := 0
  target : Nat := 0
  next : Nat := 0
  done : Nat := 0
  haltAt : Nat := 0
  /-- Bursts read and not yet written, oldest first (INFLIGHT). -/
  buf : List (List Byte) := []
  /-- The halt came from the fetch of the descriptor at `desc`, which has not been read. -/
  unread : Bool := false
deriving DecidableEq, Repr

/-- Counters of a DMA engine (Table 17-9). -/
structure DmaStats where
  bursts : Nat := 0
  busErrors : Nat := 0
  aborts : Nat := 0
  pauses : Nat := 0
  invalid : Nat := 0
  pulses : Nat := 0
deriving DecidableEq, Repr

/-- A crossing queue (R598 to R600): its words, each with the instant at which the writer committed it, those that wait, since
when a writer has waited, and when a slot of it last freed while it was full (R42). -/
structure CrossQ where
  words : List (Nat × Nat) := []
  waiting : List (Nat × Nat) := []
  since : Option Nat := none
  freed : Option Nat := none
deriving DecidableEq, Repr

/-- The DMA engines, by engine × 128 + channel, and the crossing queues, by reader × 65,536 + writer × 256 +
queue. -/
structure DmaState where
  chans : Tbl DmaCh := []
  stats : Tbl DmaStats := []
  failed : List Nat := []
  /-- The channel served last of an engine's privileged channels and of its others, by engine × 2 and one more for the
  others (R582). -/
  served : Tbl Nat := []
  queues : Tbl CrossQ := []
  /-- The lines that wait in a port FIFO, by its address (R591). -/
  fifos : Tbl (List (List Byte)) := []
deriving DecidableEq, Repr

end Sys2Proof.Machine
end

