-- ==== Sys2Proof/Machine/PartsVideo.lean ====
section
/-! DEFINITION. State of the video side: decode contexts, canvases, encode contexts, tiles and spliced outputs
(files 11 to 14 of spec/). -/

namespace Sys2Proof.Machine

/-! Decoding (file 11). -/

/-- States of a decode context (Table 11-4), with the codes of event 192. -/
inductive DecSt where
  | waitKey | decoding | noSource | shed
deriving DecidableEq, Repr

def DecSt.code : DecSt → Nat
  | .waitKey => 0 | .decoding => 1 | .noSource => 2 | .shed => 3

/-- A frame buffer that is not free (Table 11-2). `num` is the number the stream gives the frame it holds. -/
structure DecBuf where
  num : Nat
  ref : Bool := false
  out : Bool := false
  read : Nat := 0
  clean : Bool := false
  concealed : Bool := false
  taint : Bool := false
  grey : Bool := false
  /-- Decoded after a frame that carried a recovery point SEI, and past that recovery point (R426). -/
  afterSei : Bool := false
  okRef : Bool := false
  /-- Presentation DT (R422), size and format of the frame. -/
  pres : Nat := 0
  w : Nat := 0
  h : Nat := 0
  depth : Nat := 8
  /-- Its frame: 0 a key frame, 1 intra-only, 2 another (event 197). -/
  kind : Nat := 2
  pix : Pix := {}
deriving DecidableEq, Repr

/-- A frame whose packets the reorder buffer has released (R413). -/
structure DecReady where
  /-- MAC stamp of the first packet. -/
  stamp : Nat
  /-- DT at which it became ready. -/
  at_ : Nat
  complete : Bool
deriving DecidableEq, Repr

/-- A frame task (R414). -/
structure DecFrame where
  info : FrameInfo
  stamp : Nat
  at_ : Nat
  complete : Bool
  task : Nat
  late : Bool := false
  /-- It has found no free buffer (R412). -/
  waited : Bool := false
deriving DecidableEq, Repr

/-- A decode context. -/
structure DecCtx where
  tenant : Nat
  conf : Nat
  source : Option Nat
  /-- The source that a DEC_BIND asks for, until its key frame (R408). -/
  next : Option Nat := none
  codec : Nat
  prio : Nat
  freeze : Bool
  ten : Bool
  refSlots : Nat
  maxW : Nat
  maxH : Nat
  fps : Nat
  maxE : Nat
  maxS : Nat
  maxT : Nat
  /-- DEC_SET waiting for the next frame boundary (R430): PRIORITY, MAX_E, MAX_S, MAX_T. -/
  pend : Option (Nat × Nat × Nat × Nat) := none
  /-- FREEZE waiting for the next output frame (R429). -/
  freezePend : Option Bool := none
  st : DecSt
  curE : Nat := 0
  curS : Nat := 0
  curT : Nat := 0
  /-- Timestamp of the picture that its packets belong to. -/
  picTs : Option Nat := none
  /-- It loses its source, or is shed, at its next frame boundary (R93, R693). -/
  leaving : Bool := false
  shedding : Bool := false
  /-- The packets of the frame that is being gathered: its number, first stamp, and whether none was lost. -/
  gather : Option (Nat × Nat × Bool) := none
  ready : List DecReady := []
  frames : List DecFrame := []
  bufs : List DecBuf := []
  w : Nat := 0
  h : Nat := 0
  depth : Nat := 8
  /-- A frame was lost since the last key frame (Table 11-5, streams without frame numbers). -/
  doubt : Bool := false
  frozen : Bool := false
  sei : Bool := false
  /-- Frames that have become output, newest first, as far back as a consumer may still take one (R422). -/
  outs : List Nat := []
  taintedSince : Nat := 0
  bushels : Nat := 0
  key : Nat := 0
  decoded : Nat := 0
  concealed : Nat := 0
  tainted : Nat := 0
  errors : Nat := 0
  late : Nat := 0
  skipped : Nat := 0
  poolWaits : Nat := 0
  grain : Nat := 0
  /-- Pixels decoded in the present window (R420): window, pixels. -/
  pixels : Nat × Nat := (0, 0)
  /-- Largest lateness in the window, in µs: window, lateness. -/
  lateMax : Nat × Nat := (0, 0)
deriving DecidableEq, Repr

/-! Composition (file 12). -/

/-- A layer of a layout (Table 12-4). -/
structure Layer12 where
  kind : Nat
  flags : Nat
  alpha : Nat
  src : Nat
  x : Int
  y : Int
  w : Nat
  h : Nat
  cx : Nat
  cy : Nat
  cw : Nat
  ch : Nat
  fill : Nat
deriving DecidableEq, Repr

/-- An overlay image in its canvas's format (R449, R450): luma, chroma on the 4:2:0 grid, and the extended alpha a′ of
each luma sample and of each chroma sample. -/
structure Overlay where
  w : Nat
  h : Nat
  premul : Bool
  pix : Pix
  a : List Nat
  ac : List Nat
  bushels : Nat
deriving DecidableEq, Repr

/-- A guard region (R453 to R457). -/
structure Guard where
  on : Bool := false
  locked : Bool := false
  blank : Bool := false
  layer : Nat := 1
  x : Nat := 0
  y : Nat := 0
  w : Nat := 0
  h : Nat := 0
  crc : Nat := 0
  failing : Bool := false
  fails : Nat := 0
deriving DecidableEq, Repr

/-- A canvas frame: its number, samples and marks. -/
structure CanvasFrame where
  k : Nat
  pix : Pix
  concealed : Bool
  taint : Bool
deriving DecidableEq, Repr

/-- A layer as a pass takes it: the frame of its video source (R435), or its overlay. -/
structure PassLayer where
  lay : Layer12
  /-- The decode context and the number of its frame. -/
  src : Option (Nat × Nat) := none
  depth : Nat := 8
  pix : Pix := {}
  ovl : Option Overlay := none
deriving DecidableEq, Repr

/-- A pass (R435): its frame, task, layers and enabled guards. -/
structure Pass where
  k : Nat
  task : Nat
  layers : List PassLayer
  guards : List (Nat × Guard)
  concealed : Bool
  taint : Bool
  /-- Composed, and waiting for its guard readback. -/
  made : Option CanvasFrame := none
deriving DecidableEq, Repr

/-- An OVERLAY_LOAD in progress. -/
structure OverlayJob where
  id : Nat
  slot : Nat
  w : Nat
  h : Nat
  premul : Bool
  addr : Nat
  crc : Nat
  bushels : Nat
deriving DecidableEq, Repr

/-- A canvas. -/
structure Canvas where
  tenant : Nat
  conf : Nat
  w : Nat
  h : Nat
  fps : Nat
  flags : Nat
  layout : List Layer12 := []
  /-- Layouts in the shadow, with their effective frames (R440). -/
  pend : List (Nat × List Layer12) := []
  guards : List Guard := [{}, {}, {}, {}]
  guardPend : List (Nat × Nat × Guard) := []
  /-- Overlays in use, and loaded ones with the first frame that uses them. -/
  slots : Tbl Overlay := []
  slotPend : List (Nat × Nat × Option Overlay) := []
  loading : List OverlayJob := []
  shed : Bool := false
  /-- The last frame whose sample instant has passed. -/
  last : Option Nat := none
  passes : List Pass := []
  /-- What consumers read: the last frame published, and the last verified one. -/
  out : Option CanvasFrame := none
  verified : Option CanvasFrame := none
  /-- Consumers receive a black frame (R456). -/
  black : Bool := false
  published : Nat := 0
  bushels : Nat
  key : Nat
  count : Nat := 0
  skipped : Nat := 0
  guardFails : Nat := 0
deriving DecidableEq, Repr

/-! Encoding (file 13). -/

/-- Row rate control of one frame in progress (R471 to R478). -/
structure RowFrame where
  k : Nat
  isKey : Bool
  /-- Cause of the key frame or refresh. -/
  cause : Option Nat := none
  budget : Nat
  cap : Nat
  applied : Nat
  qf : Nat
  q : Nat
  /-- Budgets of the rows, and flat blocks of each row when replaced. -/
  rows : List Nat
  flat : Nat
  blocks : Nat
  r : Nat := 0
  sum : Nat := 0
  bits : List Nat := []
  weights : List Nat := []
  /-- Quantizer of the last row coded under R475. -/
  lastQ : Nat
  exhausted : Option Nat := none
  replaced : Option Nat := none
  /-- Time in ns of the row discarded under R478. -/
  discard : Nat := 0
  /-- Temporal layer, and the frame it references (R469). -/
  layer : Nat := 0
  ref : Option Nat := none
deriving DecidableEq, Repr

/-- Row rate control that a stream keeps between frames. -/
structure RateCtl where
  codec : Nat
  w : Nat
  h : Nat
  /-- Frames per second as FPS / FPS_DIV. -/
  fps : Nat
  div : Nat := 1
  kbps : Nat
  cap : Nat := 125
  keyX : Nat := 4
  qMin : Nat
  qMax : Nat
  carry : Nat := 0
  wKey : List Nat := []
  wInter : List Nat := []
  qKey : Option Nat := none
  qInter : Option Nat := none
  frame : Option RowFrame := none
  qLast : Nat := 0
  lastBits : Nat := 0
  /-- The window of the last frame, and whether every frame in it was coded at Q_MAX (R480). -/
  maxWin : Nat × Bool := (0, false)
deriving DecidableEq, Repr

/-- States of an encode context, with the codes of event 211. -/
inductive EncSt where
  | idle | encoding | shed
deriving DecidableEq, Repr

def EncSt.code : EncSt → Nat
  | .idle => 0 | .encoding => 1 | .shed => 2

/-- Settings of ENC_SET. -/
structure EncSet where
  kbps : Nat
  prio : Nat
  qMin : Nat
  qMax : Nat
  keyS : Nat
  mode1 : Bool
  cap : Nat
deriving DecidableEq, Repr

/-- An encode context. -/
structure EncCtx where
  tenant : Nat
  conf : Nat
  input : Nat
  codec : Nat
  profile : Nat
  prio : Nat
  mode1 : Bool
  div : Nat
  tlayers : Nat
  sliceRows : Nat
  keyS : Nat
  mtu : Nat
  sweep : Nat
  rc : RateCtl
  pend : Option EncSet := none
  st : EncSt := .idle
  /-- The frame that waits, with its task: number, taint, instant it became ready. -/
  wait : Option (Nat × Bool × Nat × Nat) := none
  /-- The frame in progress, with its task and the times its encoder was reset. -/
  run : Option (Nat × Bool × Nat × Nat × Nat) := none
  /-- Their inputs: the canvas frames (R465). -/
  waitPix : Pix := {}
  runPix : Pix := {}
  /-- Refresh requests that wait: cause, and whether a key frame must serve it (R482). -/
  asks : List (Nat × Bool) := []
  /-- Requests deferred to the end of REFRESH_MIN (R483). -/
  deferred : List (Nat × Bool) := []
  lastRefresh : Option Nat := none
  /-- Frames of the sweep of a gradual refresh that are still to code. -/
  sweepLeft : Nat := 0
  lastKey : Nat := 0
  /-- Place in the temporal pattern (R469). -/
  pattern : Nat := 0
  /-- Attached flows: flow, and whether its first key frame has been sent. -/
  flows : List (Nat × Bool) := []
  /-- Flows detached after the frame in progress, and the replies of ENC_DELETE that wait for it (R464, R491). -/
  leaving : List Nat := []
  delReply : List ReplyTo := []
  /-- It is shed after the frame in progress (R693). -/
  shedding : Bool := false
  /-- The last coded frame of each temporal layer (R469). -/
  lastAt : Tbl Nat := []
  /-- Bushels of all its buffers, and of those for reconstructions (R462). -/
  bushels : Nat
  pics : Nat := 0
  key : Nat
  coded : Nat := 0
  refreshes : Nat := 0
  exhausted : Nat := 0
  replaced : Nat := 0
  late : Nat := 0
  skipped : Nat := 0
  lateMax : Nat × Nat := (0, 0)
deriving DecidableEq, Repr

/-! Tiles and spliced outputs (file 14). -/

/-- States of a tile, with the codes of event 222. -/
inductive TileSt where
  | waiting | encoding | shed
deriving DecidableEq, Repr

def TileSt.code : TileSt → Nat
  | .waiting => 0 | .encoding => 1 | .shed => 2

/-- A refresh variant granted for a frame (R501 to R505): form 0 single or inter, 1 key. -/
structure Variant where
  k : Nat
  form : Nat
  task : Nat
  made : Bool := false
  lost : Bool := false
  payload : List Byte := []
deriving DecidableEq, Repr

/-- A tile frame that waits or is being coded: its number, the instant it became ready, its task, the number of the source's
frame it takes, and what the input stage makes of that (R494). -/
structure TileFrame where
  k : Nat
  at_ : Nat
  task : Nat
  src : Nat
  input : Pix := {}
deriving DecidableEq, Repr

/-- The payload of a tile's coded frame and the reconstruction of the frame. -/
structure TileCoded where
  k : Nat
  payload : List Byte
  recon : Pix
deriving DecidableEq, Repr

/-- The samples that a cell holds at every viewer that has received its output whole: a flat fill, or what a tile's payloads
decode to. -/
inductive Area where
  | flat (fill : Nat)
  | tile (p : Pix)
deriving DecidableEq, Repr

/-- A tile. -/
structure Tile where
  tenant : Nat
  conf : Nat
  source : Nat
  cls : Nat
  rung : Nat
  rc : RateCtl
  /-- TILE_SET: effective frames, each with RATE_KBPS. -/
  pend : List (Nat × Nat) := []
  st : TileSt := .waiting
  /-- The next frame coded is a start frame (R495). -/
  start : Bool := true
  wait : Option TileFrame := none
  run : Option TileFrame := none
  /-- The last frame whose ready instant has passed, and the last ones at which its source had no output, newest first. -/
  seen : Option Nat := none
  idle : List Nat := []
  /-- The last coded frames, newest first, each with whether it is a start frame. -/
  coded : List (Nat × Bool) := []
  /-- Their payloads and reconstructions, newest first. -/
  store : List TileCoded := []
  variants : List Variant := []
  bushels : Nat
  key : Nat
  frames : Nat := 0
  skipped : Nat := 0
  refreshes : Nat := 0
  refreshBits : Nat := 0
deriving DecidableEq, Repr

/-- A layout of a spliced output (R507). A cell names a tile index, or nothing for a fill. -/
structure Grid where
  cols : List Nat
  rows : List Nat
  fill : Nat
  cells : List (Option Nat)
deriving DecidableEq, Repr

/-- A cell's history entry (R511): its rectangle, the tile whose picture it holds or nothing for a fill, LAST,
and the frame from which a refresh has been pending. -/
structure CellHist where
  rect : Nat × Nat × Nat × Nat
  tile : Option Nat
  last : Nat := 0
  /-- A single-cell request: the tile wanted and when it became pending (R504, R517). -/
  ask : Option (Nat × Nat) := none
  area : Area := .flat 0
deriving DecidableEq, Repr

/-- An atomic request (R512 to R514): the layout, whether it needs a key picture, when it became pending, its
first frame and the frames it was deferred. -/
structure Atomic where
  grid : Option Grid
  fir : Bool
  since : Nat
  eff : Nat
  deferred : Nat := 0
  /-- The frame for which its refreshes are granted, and whether in fallback. -/
  granted : Option (Nat × Bool) := none
deriving DecidableEq, Repr

/-- A spliced output. -/
structure Splice where
  tenant : Nat
  codec : Nat
  fps : Nat
  mtu : Nat
  engine : Nat
  grid : Option Grid := none
  atomic : Option Atomic := none
  cells : List CellHist := []
  level : Nat := 0
  minL : Nat := 0
  maxL : Nat := 2
  setPend : Option (Nat × Nat) := none
  /-- Runs in succession in which a higher level fitted (R516). -/
  fits : Nat := 0
  /-- It is shed, from this picture on (R520, R693). -/
  shed : Bool := false
  shedFrom : Nat := 0
  /-- The last picture sent, its size, and what each of its cells carried (Table 14-4, by row from 0). -/
  frame : Option Nat := none
  size : Nat × Nat := (0, 0)
  content : List Nat := []
  /-- The next picture. -/
  next : Option Nat := none
  /-- SPLICE_DELETE was accepted while this picture was in progress (R519). -/
  ending : Option Nat := none
  pliAt : Option Nat := none
  pictures : Nat := 0
  keys : Nat := 0
  fallbacks : Nat := 0
  late : Nat := 0
deriving DecidableEq, Repr

/-- The video side as a whole. -/
structure VideoState where
  decs : Tbl DecCtx := []
  canvases : Tbl Canvas := []
  encs : Tbl EncCtx := []
  tiles : Tbl Tile := []
  splices : Tbl Splice := []
  decHangs : Nat := 0
  decLate : Nat := 0
  compHangs : Nat := 0
  compSkipped : Nat := 0
  encHangs : Nat := 0
  encLate : Nat := 0
  taintedIn : Nat := 0
  granted : Nat := 0
  deferred : Nat := 0
  fallbacks : Nat := 0
  /-- By frame rate, the last tile frame for which refreshes have been allocated. -/
  alloc : Tbl Nat := []
  /-- Pixels in a window, by kind (decoded, composed, coded): window, now, last. -/
  load : List (Nat × Nat × Nat) := [(0, 0, 0), (0, 0, 0), (0, 0, 0)]
  /-- Hangs in succession of each unit (R417, R438, R486). -/
  unitHangs : Tbl Nat := []
deriving DecidableEq, Repr

end Sys2Proof.Machine
end

