-- ==== Sys2Proof/Machine/State.lean ====
section
/-! DEFINITION. The state of the block, its reset value, and the reasons a command can stop. -/

namespace Sys2Proof.Machine

/-- Why the model stops with a fault. -/
inductive Fault where
  /-- A DSP command names a core, of the 288, that the package does not have. Raised by the meanings
  of the DSP rows. Safe: the hardware has no such core to execute it. -/
  | noSuchCore
deriving DecidableEq, Repr

/-- Why the model refuses a command. -/
inductive Refusal where
  /-- The command has no meaning in this model yet. Raised by the arms of `exec`. Safe. -/
  | notModelled (mnemonic : String)
deriving DecidableEq, Repr

/-- The state of the package, and the queue of the commands that wait for it. -/
structure State where
  /-- Commands waiting, first in, first out. -/
  pending : List Instr := []
  /-- What has left the block, newest first. -/
  out : List Out := []
  /-- Counts the free values taken (a field of the model's own). -/
  fresh : Nat := 0
  time : TimeUnit := {}
  sys : SysState := {}
  host : HostState
  cp : CmdProc := {}
  evt : EvtState := {}
  rcd : RecordState := {}
  quotas : List Quota
  confs : Tbl Conf := []
  legs : Tbl Leg := []
  flows : Tbl Flow := []
  net : NetState := {}
  cip : CipherState := {}
  trust : TrustState := {}
  aud : AudioState := {}
  units : UnitsState
  disp : DispState := {}
  mem : MemState := {}
  dma : DmaState := {}
  vid : VideoState := {}
deriving DecidableEq, Repr

/-- The mask words in which every assigned event index is enabled (R722, R19). -/
def allEventMasks : List Nat :=
  [0xFFFFFFFF, 0xFFFFFFFF, 0xFFFFFFFF, 0xFFFFFFFF, 0xFFFFFFFF, 0xFFFFFFFF, 0xFFFFFFFF,
   0x00FFFFFF, 0x0000FFFF, 0xFFFFFFFF]

/-- A function as it is after reset. -/
def Func.reset (top : Nat) : Func := { mask := allEventMasks, topLevel := top }

/-- The package right after reset: mode INIT, nothing created, no queue enabled. -/
def State.reset : State where
  host := { funcs := Func.reset 0 :: List.replicate 63 (Func.reset 2) }
  quotas := { confMax := 8192, legMax := 65536, flowMax := 1048576, policy := 2 } ::
    List.replicate 63 {}
  units := { clusters := resetClusters }

end Sys2Proof.Machine
end

