-- ==== Sys2Proof/Machine/Ops.lean ====
section
/-! DEFINITION. The named operations on the state: Device Time, free values, objects and handles,
events and their routing, record entries, completions and long-running commands. -/

namespace Sys2Proof.Machine

/-! Device Time. -/

/-- One nanosecond of DT, in its unit of 1/65,536 ns (R660). -/
def nsU : Nat := 65536
/-- One microsecond of DT. -/
def usU : Nat := 65536000
/-- One millisecond of DT. -/
def msU : Nat := 65536000000
/-- One second of DT. -/
def secU : Nat := 65536000000000
/-- One Dispatcher tick, 10 µs (R45). -/
def tickU : Nat := 655360000
/-- One grain, 2.5 ms, which is 250 ticks (R45). -/
def grainU : Nat := 163840000000

/-- The seconds of an instant. -/
def dtSec (t : Nat) : Nat := t / secU
/-- The nanoseconds of an instant, from 0 to 999,999,999. -/
def dtNs (t : Nat) : Nat := (t % secU) / nsU
/-- The grain that contains an instant (R661). -/
def grainOf (t : Nat) : Nat := t / grainU
/-- The Dispatcher tick that contains an instant (R661). -/
def tickOf (t : Nat) : Nat := t / tickU
/-- The 1 s window that contains an instant (R89). -/
def windowOf (t : Nat) : Nat := t / secU
/-- The first grain boundary after an instant: the index of the grain it opens. -/
def nextGrain (t : Nat) : Nat := t / grainU + 1
/-- The first tick start at or after an instant (R530). -/
def tickAtOrAfter (t : Nat) : Nat := (t + tickU - 1) / tickU

/-- DT as it stands when a command of instant `t` reaches the block. DT never runs backward (R660). -/
def State.advance (s : State) (t : Nat) : State :=
  { s with time := { s.time with dt := max s.time.dt t } }

/-- DT now. -/
def State.now (s : State) : Nat := s.time.dt

/-! Free values. -/

/-- A free value, and the state in which the next one is another. -/
def State.free (s : State) : Nat × State := (Config.freeNat s.fresh, { s with fresh := s.fresh + 1 })

/-! Trace and functions. -/

/-- The state after something has left the block. -/
def State.emit (s : State) (o : Out) : State := { s with out := o :: s.out }

/-- The PCIe function of a tenant. -/
def State.func (s : State) (fn : Nat) : Func := s.host.funcs.getD fn {}

/-- The state with one function changed. -/
def State.modFunc (s : State) (fn : Nat) (f : Func → Func) : State :=
  { s with host := { s.host with funcs := modAt s.host.funcs fn f } }

/-- Whether a function exists (R738). -/
def State.fnExists (s : State) (fn : Nat) : Bool :=
  fn == 0 || (s.host.pcie.vfEnable && decide (fn ≤ s.host.pcie.numVfs) && decide (fn < 64))

/-- Whether a function may master the bus: it exists, in D0, with Bus Master Enable set (R740). -/
def State.fnMasters (s : State) (fn : Nat) : Bool :=
  s.fnExists fn && (s.func fn).busMaster && !(s.func fn).d3

/-! Objects by handle. -/

/-- A handle of a type and an index (R11). -/
def mkHandle (ty idx : Nat) : Nat := ty * 268435456 + idx
/-- The type code of a handle (R11). -/
def hType (h : Nat) : Nat := h / 268435456
/-- The index of a handle (R11). -/
def hIdx (h : Nat) : Nat := h % 268435456

/-- Handle of a conference. -/
def confH (i : Nat) : Nat := mkHandle 1 i
/-- Handle of a leg. -/
def legH (i : Nat) : Nat := mkHandle 2 i
/-- Handle of a flow. -/
def flowH (i : Nat) : Nat := mkHandle 3 i

/-- A conference by index. -/
def State.conf (s : State) (i : Nat) : Option Conf := tget s.confs i
/-- A leg by index. -/
def State.leg (s : State) (i : Nat) : Option Leg := tget s.legs i
/-- A flow by index. -/
def State.flow (s : State) (i : Nat) : Option Flow := tget s.flows i
/-- The state with a conference changed. -/
def State.modConf (s : State) (i : Nat) (f : Conf → Conf) : State := { s with confs := tmod s.confs i f }
/-- The state with a leg changed. -/
def State.modLeg (s : State) (i : Nat) (f : Leg → Leg) : State := { s with legs := tmod s.legs i f }
/-- The state with a flow changed. -/
def State.modFlow (s : State) (i : Nat) (f : Flow → Flow) : State := { s with flows := tmod s.flows i f }
/-- The state with a leg's ingress counters changed. -/
def State.modIng (s : State) (i : Nat) (f : LegIngress → LegIngress) : State :=
  s.modLeg i fun l => { l with ing := f l.ing }

/-- The flows of a leg, by index. -/
def State.flowsOf (s : State) (leg : Nat) : Tbl Flow := s.flows.filter fun p => p.2.leg == leg
/-- The leg of a flow. -/
def State.flowLeg (s : State) (f : Nat) : Nat := match s.flow f with | some x => x.leg | none => 0

/-- The legs of a conference, by index. -/
def State.legsOf (s : State) (conf : Nat) : Tbl Leg := s.legs.filter fun p => p.2.conf == conf

/-! Cascade roles (R232, R233). -/

/-- The cascade legs of a conference in a role: 0 home side, 1 remote side. -/
def State.cascLegs (s : State) (conf role : Nat) : Tbl Leg :=
  s.legs.filter fun p => p.2.conf == conf && p.2.typ == .cascade && p.2.casc.role == role && p.2.state != .closing

/-- CASCADE_GRAINS of a conference's cascade legs in a role; 0 without one. R233 has one D: of several legs the largest is
taken, so that no leg's grains are mixed before their limit (DESIGN CHOICE). -/
def State.cascD (s : State) (conf role : Nat) : Nat := (s.cascLegs conf role).foldl (fun d p => max d p.2.casc.grains) 0

/-- Grains by which a home package's mixing lags (R233). -/
def State.mixLag (s : State) (conf : Nat) : Nat := s.cascD conf 0

/-- Grains by which what a conference gives its listeners lags: the lag of a home package, and 2 × D at a remote one (R233). -/
def State.outLag (s : State) (conf : Nat) : Nat := s.cascD conf 0 + 2 * s.cascD conf 1

/-! Events. -/

/-- The leg of a beacon channel: of a demodulator's assignment, or a modulator's room leg. -/
def State.beaconLeg (s : State) (ch : Nat) : Option Nat :=
  if ch < 512 then (tget s.aud.bcn.demods ch).map fun d => d.leg
  else (tget s.aud.bcn.mods ch).map fun m => m.leg

/-- The tenants whose functions receive an event about a handle (R720). -/
def State.evtTenants (s : State) (h : Nat) : List Nat :=
  if s.sys.mode = .fieldReturn then [0] else
  match hType h with
  | 1 => match s.conf (hIdx h) with | some x => [x.tenant] | none => [0]
  | 2 => match s.leg (hIdx h) with | some x => [x.tenant] | none => [0]
  | 3 => match s.flow (hIdx h) with | some x => [x.tenant] | none => [0]
  | 4 => match tget s.vid.decs (hIdx h) with | some x => [x.tenant] | none => [0]
  | 5 => match tget s.vid.encs (hIdx h) with | some x => [x.tenant] | none => [0]
  | 6 => match tget s.vid.canvases (hIdx h) with | some x => [x.tenant] | none => [0]
  | 7 => match tget s.vid.tiles (hIdx h) with | some x => [x.tenant] | none => [0]
  | 8 => match tget s.aud.groups (hIdx h) with
    | some g => match s.conf g.conf with | some x => [x.tenant] | none => [0]
    | none => [0]
  | 10 => let o := (s.aud.sap.ports.getD (hIdx h) {}).owner; if o = 0 then [0] else [0, o]
  | 11 => match s.beaconLeg (hIdx h) with
    | some l => match s.leg l with | some x => [x.tenant] | none => [0]
    | none => [0]
  | 13 => match tget s.trust.keys (hIdx h) with | some x => [x.tenant] | none => [0]
  | _ => [0]

/-- Whether an event queue can take an entry now (R134, R127, R740). -/
def State.eqTakes (s : State) (fn : Nat) : Bool :=
  let q := (s.func fn).eq
  s.fnMasters fn && q.enable && (q.pos + 1) % 2 ^ q.sizeLog2 != q.head

/-- Whether an event index is enabled in a function's mask (R722). -/
def Func.masks (f : Func) (src : Nat) : Bool := bit (f.mask.getD (src / 32) 0) (src % 32)

/-- An ordinary event for one function: masked, held, or dropped when 64 are held and the queue
cannot take one (R134, R722). The truth value says that it was dropped. -/
def State.pushEvent (s : State) (fn : Nat) (e : Event) : State × Bool :=
  let f := s.func fn
  if !f.masks e.src then (s, false)
  else if s.eqTakes fn || decide (f.eq.held.length < 64) then
    (s.modFunc fn fun f => { f with eq := { f.eq with held := f.eq.held ++ [e] } }, false)
  else (s.modFunc fn fun f => { f with eq := { f.eq with lost := true } }, true)

/-- The key under which occurrences of an event about an object are counted. -/
def evtKey (src obj : Nat) : Nat := src * 4294967296 + obj

/-- The occurrences counted in the present window, this many more included. -/
def State.countIn (s : State) (src obj n : Nat) : Nat × State :=
  let w := windowOf s.now
  let k := evtKey src obj
  let c := match tget s.evt.counts k with
    | some (v, m) => if v = w then m + n else n
    | none => n
  (c, { s with evt := { s.evt with counts := tset s.evt.counts k (w, c) } })

/-- Whether an event about an object has not been raised in the present window; it is then marked. -/
def State.firstIn (s : State) (src obj : Nat) : Bool × State :=
  let w := windowOf s.now
  let k := evtKey src obj
  if tget s.evt.first k = some w then (false, s)
  else (true, { s with evt := { s.evt with first := tset s.evt.first k w } })

/-- Event 318 for drops at a function, first per window, to tenant 0, whose own drop is counted too. -/
def State.dropped (s : State) (fn n : Nat) : State :=
  let c := s.countIn 318 fn n
  let b := c.2.firstIn 318 fn
  if !b.1 then b.2 else
  let r := b.2.pushEvent 0 ⟨318, 0, s.now, le 1 fn ++ le 4 c.1⟩
  if r.2 then (r.1.countIn 318 0 1).2 else r.1

/-- A queue that can take no entry any more keeps the oldest 64 of the events it holds; the others are dropped (R134). -/
def State.trimHeld (s : State) (fn : Nat) : State :=
  let n := (s.func fn).eq.held.length
  if s.eqTakes fn || decide (n ≤ 64) then s else
  (s.modFunc fn fun f => { f with eq := { f.eq with held := f.eq.held.take 64, lost := true } }).dropped fn (n - 64)

/-- IW_FAULT as a word (Table 24-7). -/
def SysState.faultWord (y : SysState) : Nat := y.faultCause * 16777216 + y.faultDetail

/-- The DETAIL of a record entry of kind 0 (Table 23-2). -/
def eventDetail (s : State) (handle tenant : Nat) (detail : List Byte) (fatal : Bool) : List Byte :=
  le 4 handle ++ padTo 16 detail ++ le 1 tenant ++ zeros 3 ++
    (if fatal then le 4 s.sys.faultWord else zeros 4) ++ zeros 12

/-- An entry put into the vault's queue: a tamper entry goes to its head, and an optional one finds a place only below the 64 kept for mandatory ones (R727). -/
def State.recordPut (s : State) (e : RecEntry) : State :=
  let q := s.rcd.queue
  if !e.mandatory && decide (192 ≤ q.length) then
    { s with rcd := { s.rcd with optDropped := s.rcd.optDropped + 1, optDroppedSeal := s.rcd.optDroppedSeal + 1 } }
  else
    let q := if e.tamper then
        e :: q
      else q ++ [e]
    { s with rcd := { s.rcd with queue := q } }

/-- A mandatory record entry of another kind (Table 23-3). -/
def State.recordKind (s : State) (kind : Nat) (detail : List Byte) : State :=
  s.recordPut ⟨kind, 0, s.now, detail, true, false, none⟩

/-- An optional record entry for an event whose RECORD_MASK bit is set, within RATE (R725). -/
def State.recordOptional (s : State) (src handle tenant : Nat) (detail : List Byte) : State :=
  if !bit (s.rcd.mask.getD (src / 32) 0) (src % 32) then s else
  let w := windowOf s.now
  let n := if s.rcd.rateWin.1 = w then s.rcd.rateWin.2 else 0
  if n < s.rcd.rate then
    { s with rcd := { s.rcd with rateWin := (w, n + 1) } }.recordPut
      ⟨0, src, s.now, eventDetail s handle tenant detail false, false, false, none⟩
  else
    let s := { s with rcd := { s.rcd with
      optDropped := s.rcd.optDropped + 1, optDroppedSeal := s.rcd.optDroppedSeal + 1 } }
    let c := s.countIn 309 0 1
    let b := c.2.firstIn 309 0
    if !b.1 then b.2 else
    let r := b.2.pushEvent 0 ⟨309, 0, s.now, le 4 c.1⟩
    if r.2 then r.1.dropped 0 1 else r.1

/-- An event delivered to the functions R720 names. -/
def State.deliver (s : State) (src handle : Nat) (detail : List Byte) : State :=
  (s.evtTenants handle).foldl (fun s fn =>
    let r := s.pushEvent fn ⟨src, handle, s.now, padTo 16 detail⟩
    if r.2 then r.1.dropped fn 1 else r.1) s

/-- An event raised: delivered, and recorded when RECORD_MASK asks for it. -/
def State.raise (s : State) (src handle : Nat) (detail : List Byte) : State :=
  (s.deliver src handle detail).recordOptional src handle ((s.evtTenants handle).headD 0) detail

/-- An event whose occurrence its chapter says is recorded: a mandatory entry (R725). -/
def State.raiseRec (s : State) (src handle : Nat) (detail : List Byte) (fatal tamper : Bool := false) : State :=
  (s.deliver src handle detail).recordPut
    ⟨0, src, s.now, eventDetail s handle ((s.evtTenants handle).headD 0) detail fatal, true, tamper, none⟩

/-- An event marked "first per window", for one object (R89). -/
def State.raiseW (s : State) (src handle : Nat) (detail : List Byte) : State :=
  let r := s.firstIn src handle
  if r.1 then r.2.raise src handle detail else r.2

/-- An event about a thing without a handle of its own, first per window for that thing. -/
def State.raiseWK (s : State) (src key handle : Nat) (detail : List Byte) : State :=
  let r := s.firstIn src key
  if r.1 then r.2.raise src handle detail else r.2

/-- An event first per window whose DETAIL ends with the occurrences counted in the window (4). -/
def State.raiseCount (s : State) (src key handle : Nat) (pre : List Byte) : State :=
  let c := s.countIn src key 1
  let r := c.2.firstIn src key
  if r.1 then r.2.raise src handle (pre ++ le 4 c.1) else r.2

/-- An event raised at the occurrence that brings its count in the window to a threshold. -/
def State.raiseAt (s : State) (src handle threshold : Nat) : State :=
  let c := s.countIn src handle 1
  if c.1 = threshold then c.2.raise src handle (le 4 c.1) else c.2

/-! Completions. -/

/-- Whether a waiting command is held back: by an earlier command that names an object it names and has not begun
(R68), by its own fence or a fence before it (R115), or by its predecessor (R116). -/
def CmdProc.heldBack (p : CmdProc) (id : Nat) (e : CmdEntry) : Bool :=
  let earlier := p.cmds.filter fun q => decide (q.1 < id)
  let sameSq (q : Nat × CmdEntry) : Bool := q.2.whom.fn == e.whom.fn && q.2.whom.sq == e.whom.sq
  (earlier.any fun q => !q.2.begun && q.2.names.any fun h => e.names.contains h) ||
  (e.fence && earlier.any sameSq) ||
  (earlier.any fun q => sameSq q && q.2.fence) ||
  (e.chained && e.predSts.isNone)

/-- The commands that nothing holds back any more become READY (R537). -/
def CmdProc.wake (p : CmdProc) (now : Nat) : CmdProc :=
  { p with cmds := p.cmds.map fun q =>
    if q.2.begun || q.2.ready.isSome || p.heldBack q.1 q.2 then q else (q.1, { q.2 with ready := some now }) }

/-- The command's number marked final with a status: its entry leaves the table, a chained successor
learns the status, and so does the queue's memory of its last entry (R116). -/
def State.finalize (s : State) (whom : ReplyTo) (sts : Nat) : State :=
  if whom.id = 0 then s else
  let cmds := (tdel s.cp.cmds whom.id).map fun p =>
    (p.1, if p.2.pred = some whom.id then { p.2 with predSts := some sts } else p.2)
  let s := { s with cp := ({ s.cp with cmds := cmds } : CmdProc).wake s.now }
  let note (q : Sq) : Sq := if q.lastId = some whom.id then { q with lastSts := some sts } else q
  s.modFunc whom.fn fun f => { f with sqs := modAt f.sqs whom.sq note }

/-- The reply of a command: made ready for its completion queue, unless QUIET_OK drops it (R119), the
queue is disabled (R750), or the function has been reset since (R99). -/
def State.reply (s : State) (whom : ReplyTo) (sts : Nat) (payload : List Byte) : State :=
  let c : Completion := ⟨whom, sts, if sts < 0x100 then payload else [], s.now⟩
  let s := { s with cp := { s.cp with last := some c } }
  if whom.quiet && sts == 0 && payload.isEmpty then s
  else if !((s.func whom.fn).cqs.getD whom.sq {}).enable || (s.func whom.fn).epoch != whom.epoch then s
  else s.modFunc whom.fn fun f => { f with cqs := modAt f.cqs whom.sq fun q =>
    { q with waiting := q.waiting ++ [c] } }

/-- The final completion of a command by its reply (R120). -/
def State.complete (s : State) (whom : ReplyTo) (sts : Nat) (payload : List Byte) : State :=
  (s.reply whom sts payload).finalize whom sts

/-- Several commands completed with one status. -/
def State.completeAll (s : State) (l : List ReplyTo) (sts : Nat) : State :=
  l.foldl (fun s whom => s.complete whom sts []) s

/-- A long-running command begun: it replies ACCEPTED, and its number, event and handle are kept for
its completion event (R125). -/
def State.startLong (s : State) (whom : ReplyTo) (evt handle : Nat) : Nat × State :=
  let id := if whom.id = 0 then s.cp.nextId else whom.id
  let whom := { whom with id := id }
  (id, { s with cp := { s.cp with
    longs := tset s.cp.longs id ⟨whom, evt, handle⟩, nextId := max s.cp.nextId (id + 1) } })

/-- The completion event of a long-running command (Table 03-7): never dropped, kept apart from the
ordinary events (R127), and routed to the function whose SQ held the command (R720). -/
def State.finishLong (s : State) (id sts : Nat) (result : List Byte) : State :=
  match tget s.cp.longs id with
  | none => s
  | some l =>
    let e : Event := ⟨l.evt, l.handle, s.now,
      le 2 l.whom.tag ++ le 1 l.whom.sq ++ zeros 1 ++ le 2 sts ++ le 2 l.whom.opc ++ padTo 8 result⟩
    let fn := if s.sys.mode = .fieldReturn then 0 else l.whom.fn
    let s := { s with cp := { s.cp with longs := tdel s.cp.longs id } }
    let s := s.modFunc fn fun f => { f with eq := { f.eq with comps := f.eq.comps ++ [e] } }
    (s.recordOptional l.evt l.handle l.whom.fn e.detail).finalize l.whom sts

/-- The outstanding long-running commands of a tenant (R126): accepted and waiting, begun, and those
whose completion event is not written yet. -/
def State.outstanding (s : State) (fn : Nat) (isLong : Nat → Bool) : Nat :=
  countOf s.cp.cmds (fun p => p.2.whom.fn == fn && isLong p.2.whom.opc && !p.2.begun) +
  countOf s.cp.longs (fun p => p.2.whom.fn == fn) + (s.func fn).eq.comps.length

/-! The pool and flow-control outputs (R243, R274, R275, R601, R602). -/

/-- Cells of a frame (R243). -/
def cellsOf (len : Nat) : Nat := (len + 255) / 256
/-- Cells of the egress pool, 2 GiB. -/
def poolSizeCells : Nat := 8388608

/-- The level of a source of Table 06-2. -/
def State.fcLevel (s : State) (src idx : Nat) : Nat :=
  match src with
  | 1 => (s.net.phys.getD idx {}).macBuf
  | 2 => s.net.poolCells * 256
  | 3 => sumOf s.legs fun p => sumOf (p.2.egr.lanes.getD idx []) fun f => f.len
  | _ => 0

/-- The FC_OUT pins brought to their levels, with events 137 and 138; they follow their
assignments from the entry into STANDBY on (R602). -/
def State.fcUpdate (s : State) : State :=
  (List.range 4).foldl (fun (s : State) i =>
    let p := s.net.fc.getD i ⟨0, 0, 0, 0, false⟩
    let level := s.fcLevel p.source p.index
    let on := p.source != 0 && s.net.fcOn &&
      (if p.asserted then decide (p.low < level) else decide (p.high ≤ level))
    if on = p.asserted then s else
    let s := { s with net := { s.net with fc := modAt s.net.fc i fun (p : FcPin) => { p with asserted := on } } }
    (s.emit (.pin "FC_OUT" on)).raise (if on then 137 else 138) 0 (le 1 i ++ le 8 level)) s

/-- Cells taken from the pool, or given back, with event 129 when it passes 1.75 GiB. -/
def State.poolTo (s : State) (cells : Nat) : State :=
  let bytes := cells * 256
  let high := decide (1879048192 < bytes)
  let told := s.net.poolHigh
  let s := { s with net := { s.net with poolCells := cells, poolHigh := high } }
  if high && !told then s.raise 129 0 (le 8 bytes) else s

/-- Cells of frames that left their queues given back to the pool. -/
def State.poolFreed (s : State) (cells : Nat) : State := (s.poolTo (s.net.poolCells - cells)).fcUpdate

end Sys2Proof.Machine
end

