-- ==== Sys2Proof/Machine/Opcodes.lean ====
section
/-! DEFINITION. The opcode table of the command processor: for each opcode the objects it accepts,
its lengths, its largest reply, its marks (operator, long-running, query, delete) and its modes. -/

namespace Sys2Proof.Machine

/-- The lengths an opcode allows (R110, check 2): one, those of a count, or a range. -/
inductive LenRule where
  | exact (n : Nat)
  | steps (lo step hi : Nat)
  | range (lo hi : Nat)
deriving DecidableEq, Repr

/-- The marks of an owning chapter that decide acceptance in RIDETHROUGH and on CLOSING objects. -/
inductive OpKind where
  | query | delete | other
deriving DecidableEq, Repr

/-- Where an owning chapter states otherwise than Table 03-6 (R113). -/
inductive ModeRule where
  | default
  /-- R180. -/
  | sbyServDeg
  /-- R637. -/
  | servDeg
  | provSbyServDeg
  /-- R611. -/
  | provOnly
  /-- R612, R635. -/
  | sbyLock
  /-- R737. -/
  | sbyOnly
  /-- R736. -/
  | returnOnly
  /-- R762. -/
  | diagOnly
  /-- Also accepted in STANDBY (R180, R276, R375). -/
  | alsoStandby
  /-- Of the 0x10xx commands, one that LOCKDOWN answers (R635). -/
  | alsoLockdown
deriving DecidableEq, Repr

/-- One row of an opcode table. -/
structure OpInfo where
  opc : Nat
  name : String
  objs : List Nat
  lens : LenRule
  maxReply : Nat
  operator : Bool
  long : Bool
  kind : OpKind
  modes : ModeRule
deriving DecidableEq, Repr

/-- The opcodes 0x00xx. -/
def opcodes00 : List OpInfo := [
  ⟨0x0000, "MODE_SET", [0], .exact 4, 0, true, false, .other, .default⟩,
  ⟨0x0001, "MODE_QUERY", [0], .exact 0, 32, false, false, .query, .default⟩,
  ⟨0x0010, "POWER_SET", [0], .exact 8, 0, true, false, .other, .default⟩,
  ⟨0x0011, "THERMAL_QUERY", [0], .exact 0, 32, false, false, .query, .default⟩,
  ⟨0x0020, "DEV_RESET", [0], .exact 4, 0, true, false, .other, .default⟩]

/-- The opcodes 0x01xx. -/
def opcodes01 : List OpInfo := [
  ⟨0x0100, "CONF_CREATE", [0], .exact 12, 4, false, false, .other, .default⟩,
  ⟨0x0101, "CONF_DELETE", [1], .exact 4, 0, false, false, .delete, .default⟩,
  ⟨0x0102, "CONF_QUERY", [1], .exact 0, 16, false, false, .query, .default⟩,
  ⟨0x0110, "LEG_CREATE", [1], .exact 48, 4, false, false, .other, .default⟩,
  ⟨0x0111, "LEG_DELETE", [2], .exact 0, 0, false, false, .delete, .default⟩,
  ⟨0x0112, "LEG_MOVE", [2], .exact 8, 8, false, false, .other, .default⟩,
  ⟨0x0113, "LEG_SET_STATE", [2], .exact 4, 8, false, false, .other, .default⟩,
  ⟨0x0114, "LEG_STATS", [2], .exact 0, 64, false, false, .query, .default⟩,
  ⟨0x0120, "FLOW_CREATE", [2], .exact 40, 4, false, false, .other, .default⟩,
  ⟨0x0121, "FLOW_DELETE", [3], .exact 0, 0, false, false, .delete, .default⟩,
  ⟨0x0122, "FLOW_QUERY", [3], .exact 0, 32, false, false, .query, .default⟩,
  ⟨0x0130, "TENANT_SET_QUOTA", [0], .exact 28, 0, true, false, .other, .default⟩,
  ⟨0x0131, "TENANT_QUERY", [0], .exact 4, 48, false, false, .query, .default⟩]

/-- The opcodes 0x02xx. -/
def opcodes02 : List OpInfo := [
  ⟨0x0200, "PORT_SET_MODE", [0], .exact 28, 0, true, false, .other, .sbyServDeg⟩,
  ⟨0x0201, "ADDR_SET", [0], .exact 24, 0, true, false, .other, .sbyServDeg⟩,
  ⟨0x0210, "ICE_SET_CREDENTIALS", [2], .exact 136, 0, false, false, .other, .default⟩,
  ⟨0x0211, "POLICER_SET", [2], .exact 16, 0, false, false, .other, .default⟩,
  ⟨0x0220, "JB_SET", [3], .exact 8, 8, false, false, .other, .default⟩,
  ⟨0x0221, "REORDER_SET", [3], .exact 8, 0, false, false, .other, .default⟩,
  ⟨0x0222, "FEC_SET", [3], .exact 8, 0, false, false, .other, .default⟩,
  ⟨0x0230, "INGRESS_STATS", [2], .exact 0, 64, false, false, .query, .default⟩,
  ⟨0x0231, "PORT_STATS", [0], .exact 4, 128, true, false, .query, .alsoStandby⟩,
  ⟨0x0232, "REMOTE_QUERY", [2], .exact 0, 24, false, false, .query, .default⟩]

/-- The opcodes 0x03xx. -/
def opcodes03 : List OpInfo := [
  ⟨0x0300, "FWD_BIND", [3], .exact 16, 0, false, false, .other, .default⟩,
  ⟨0x0301, "FWD_UNBIND", [3], .exact 0, 0, false, false, .delete, .default⟩,
  ⟨0x0302, "FWD_QUERY", [3], .exact 0, 32, false, false, .query, .default⟩,
  ⟨0x0310, "FLOW_PROFILE_SET", [3], .exact 16, 0, false, false, .other, .default⟩,
  ⟨0x0311, "RTCP_SET", [2], .exact 40, 0, false, false, .other, .default⟩,
  ⟨0x0312, "KEYFRAME_REQUEST", [3], .exact 4, 0, false, false, .other, .default⟩,
  ⟨0x0320, "ADAPT_SET", [2], .exact 16, 0, false, false, .other, .default⟩,
  ⟨0x0321, "ADAPT_OVERRIDE", [2], .exact 16, 0, true, false, .other, .default⟩,
  ⟨0x0322, "ADAPT_QUERY", [2], .exact 0, 48, false, false, .query, .default⟩,
  ⟨0x0330, "CASCADE_SET", [2], .exact 8, 8, false, false, .other, .default⟩]

/-- The opcodes 0x04xx. -/
def opcodes04 : List OpInfo := [
  ⟨0x0400, "EGRESS_LEG_SET", [2], .exact 16, 0, false, false, .other, .default⟩,
  ⟨0x0401, "EGRESS_CLASS_SET", [3], .exact 4, 0, false, false, .other, .default⟩,
  ⟨0x0410, "PORT_EGRESS_SET", [0], .exact 20, 0, true, false, .other, .alsoStandby⟩,
  ⟨0x0411, "GCL_SET", [0], .steps 24 8 2072, 24, true, false, .other, .alsoStandby⟩,
  ⟨0x0412, "GCL_QUERY", [0], .exact 4, 48, true, false, .query, .alsoStandby⟩,
  ⟨0x0420, "FEC_GEN_SET", [3], .exact 4, 0, false, false, .other, .default⟩,
  ⟨0x0430, "FC_SET", [0], .exact 16, 0, true, false, .other, .alsoStandby⟩,
  ⟨0x0440, "EGRESS_STATS", [2], .exact 0, 48, false, false, .query, .default⟩,
  ⟨0x0441, "EGRESS_PORT_STATS", [0], .exact 4, 128, true, false, .query, .alsoStandby⟩]

/-- The opcodes 0x05xx. -/
def opcodes05 : List OpInfo := [
  ⟨0x0500, "MIX_GROUP_CREATE", [1], .exact 8, 4, false, false, .other, .default⟩,
  ⟨0x0501, "MIX_GROUP_DELETE", [8], .exact 0, 0, false, false, .delete, .default⟩,
  ⟨0x0502, "MIX_CONTRIBUTE", [3], .exact 8, 8, false, false, .other, .default⟩,
  ⟨0x0503, "MIX_LISTEN", [3], .exact 16, 8, false, false, .other, .default⟩,
  ⟨0x0504, "MIX_UNLISTEN", [3], .exact 0, 8, false, false, .delete, .default⟩,
  ⟨0x0510, "MIX_GRAPH_LOAD", [1], .range 32 4080, 8, false, false, .other, .default⟩,
  ⟨0x0511, "MIX_SET", [1], .exact 16, 8, false, false, .other, .default⟩,
  ⟨0x0512, "MIX_PAN_SET", [1], .exact 8, 8, false, false, .other, .default⟩,
  ⟨0x0520, "MIX_QUERY", [1], .exact 0, 88, false, false, .query, .default⟩,
  ⟨0x0521, "MIX_STATS", [8], .exact 0, 40, false, false, .query, .default⟩]

/-- The opcodes 0x06xx. -/
def opcodes06 : List OpInfo := [
  ⟨0x0600, "KERNEL_LOAD", [0], .exact 24, 0, true, true, .other, .default⟩,
  ⟨0x0601, "KERNEL_UNLOAD", [9], .exact 0, 0, true, false, .delete, .default⟩,
  ⟨0x0602, "KERNEL_QUERY", [9], .exact 0, 48, false, false, .query, .default⟩,
  ⟨0x0603, "KERNEL_RESET", [9], .exact 4, 0, true, false, .other, .default⟩,
  ⟨0x0610, "DSP_SET", [0], .exact 8, 0, true, false, .other, .default⟩,
  ⟨0x0611, "DSP_STATS", [12], .exact 0, 32, false, false, .query, .default⟩]

/-- The opcodes 0x07xx. -/
def opcodes07 : List OpInfo := [
  ⟨0x0700, "SAP_CONFIG", [10], .exact 8, 8, true, false, .other, .alsoStandby⟩,
  ⟨0x0701, "SAP_MCLK_SET", [0], .exact 4, 8, true, false, .other, .alsoStandby⟩,
  ⟨0x0702, "SAP_QUERY", [10], .exact 0, 48, false, false, .query, .alsoStandby⟩,
  ⟨0x0703, "SAP_FILTER_QUERY", [0], .exact 0, 80, false, false, .query, .alsoStandby⟩,
  ⟨0x0710, "ROUTE_SET", [10], .steps 16 8 264, 8, true, false, .other, .default⟩,
  ⟨0x0711, "ROUTE_QUERY", [10], .exact 0, 256, true, false, .query, .alsoStandby⟩,
  ⟨0x0720, "PORT_LEG_MASK_SET", [2], .exact 8, 8, false, false, .other, .default⟩,
  ⟨0x0730, "SAP_STATS", [10], .exact 0, 40, false, false, .query, .alsoStandby⟩]

/-- The opcodes 0x08xx. -/
def opcodes08 : List OpInfo := [
  ⟨0x0800, "BEACON_MOD_ATTACH", [2], .exact 8, 16, false, false, .other, .default⟩,
  ⟨0x0801, "BEACON_MOD_SET", [11], .exact 8, 8, false, false, .other, .default⟩,
  ⟨0x0802, "BEACON_MOD_DETACH", [11], .exact 0, 8, false, false, .delete, .default⟩,
  ⟨0x0803, "BEACON_MOD_QUERY", [11], .exact 0, 24, false, false, .query, .default⟩,
  ⟨0x0810, "BEACON_RX_SET", [1], .exact 8, 8, false, false, .other, .default⟩,
  ⟨0x0811, "BEACON_WATCH", [2], .exact 4, 0, false, false, .other, .default⟩,
  ⟨0x0812, "BEACON_MODEM_SET", [0], .exact 8, 0, true, false, .other, .default⟩,
  ⟨0x0820, "BEACON_LEG_QUERY", [2], .exact 0, 32, false, false, .query, .default⟩,
  ⟨0x0821, "BEACON_STATS", [0], .exact 0, 48, true, false, .query, .default⟩]

/-- The opcodes 0x09xx. -/
def opcodes09 : List OpInfo := [
  ⟨0x0900, "DEC_CREATE", [1], .exact 24, 4, false, false, .other, .default⟩,
  ⟨0x0901, "DEC_DELETE", [4], .exact 0, 0, false, false, .delete, .default⟩,
  ⟨0x0902, "DEC_BIND", [4], .exact 4, 0, false, false, .other, .default⟩,
  ⟨0x0903, "DEC_SET", [4], .exact 8, 0, false, false, .other, .default⟩,
  ⟨0x0904, "DEC_QUERY", [4], .exact 0, 48, false, false, .query, .default⟩,
  ⟨0x0910, "DEC_STATS", [0], .exact 0, 32, true, false, .query, .default⟩]

/-- The opcodes 0x0Axx. -/
def opcodes0A : List OpInfo := [
  ⟨0x0A00, "CANVAS_CREATE", [1], .exact 8, 4, false, false, .other, .default⟩,
  ⟨0x0A01, "CANVAS_DELETE", [6], .exact 0, 0, false, false, .delete, .default⟩,
  ⟨0x0A02, "CANVAS_LAYOUT_SET", [6], .steps 72 32 264, 8, false, false, .other, .default⟩,
  ⟨0x0A03, "OVERLAY_LOAD", [6], .exact 24, 0, false, true, .other, .default⟩,
  ⟨0x0A04, "GUARD_SET", [6], .exact 16, 8, false, false, .other, .default⟩,
  ⟨0x0A05, "CANVAS_QUERY", [6], .exact 0, 48, false, false, .query, .default⟩,
  ⟨0x0A10, "COMP_STATS", [0], .exact 0, 32, true, false, .query, .default⟩]

/-- The opcodes 0x0Bxx. -/
def opcodes0B : List OpInfo := [
  ⟨0x0B00, "ENC_CREATE", [1], .exact 32, 4, false, false, .other, .default⟩,
  ⟨0x0B01, "ENC_DELETE", [5], .exact 0, 0, false, false, .delete, .default⟩,
  ⟨0x0B02, "ENC_SET", [5], .exact 16, 8, false, false, .other, .default⟩,
  ⟨0x0B03, "ENC_ATTACH", [5], .exact 8, 8, false, false, .other, .default⟩,
  ⟨0x0B04, "ENC_DETACH", [5], .exact 8, 0, false, false, .delete, .default⟩,
  ⟨0x0B05, "ENC_REFRESH", [5], .exact 4, 8, false, false, .other, .default⟩,
  ⟨0x0B06, "ENC_QUERY", [5], .exact 0, 48, false, false, .query, .default⟩,
  ⟨0x0B10, "ENC_STATS", [0], .exact 0, 32, true, false, .query, .default⟩]

/-- The opcodes 0x0Cxx. -/
def opcodes0C : List OpInfo := [
  ⟨0x0C00, "TILE_CREATE", [1], .exact 16, 4, false, false, .other, .default⟩,
  ⟨0x0C01, "TILE_DELETE", [7], .exact 0, 0, false, false, .delete, .default⟩,
  ⟨0x0C02, "TILE_SET", [7], .exact 8, 8, false, false, .other, .default⟩,
  ⟨0x0C03, "TILE_QUERY", [7], .exact 0, 32, false, false, .query, .default⟩,
  ⟨0x0C10, "SPLICE_CREATE", [3], .exact 8, 0, false, false, .other, .default⟩,
  ⟨0x0C11, "SPLICE_DELETE", [3], .exact 0, 0, false, false, .delete, .default⟩,
  ⟨0x0C12, "SPLICE_LAYOUT_SET", [3], .steps 52 4 560, 8, false, false, .other, .default⟩,
  ⟨0x0C13, "SPLICE_SET", [3], .exact 4, 0, false, false, .other, .default⟩,
  ⟨0x0C14, "SPLICE_QUERY", [3], .exact 0, 48, false, false, .query, .default⟩,
  ⟨0x0C20, "SPLICE_STATS", [0], .exact 0, 32, true, false, .query, .default⟩]

/-- The opcodes 0x0Dxx. -/
def opcodes0D : List OpInfo := [
  ⟨0x0D00, "DISP_SET", [0], .exact 16, 0, true, false, .other, .default⟩,
  ⟨0x0D01, "DISP_TENANT_SET", [0], .exact 4, 0, true, false, .other, .default⟩,
  ⟨0x0D02, "DISP_QUERY", [0], .exact 0, 64, true, false, .query, .default⟩,
  ⟨0x0D03, "DISP_TENANT_QUERY", [0], .exact 4, 32, false, false, .query, .default⟩,
  ⟨0x0D04, "DISP_KEY_QUERY", [0], .exact 4, 32, true, false, .query, .default⟩,
  ⟨0x0D05, "DISP_KEY_RESET", [0], .exact 4, 4, true, false, .other, .default⟩]

/-- The opcodes 0x0Exx. -/
def opcodes0E : List OpInfo := [
  ⟨0x0E00, "MEM_QUERY", [0], .exact 4, 48, true, false, .query, .default⟩,
  ⟨0x0E01, "MEM_LOG_READ", [0], .exact 4, 1024, true, false, .query, .default⟩,
  ⟨0x0E10, "MEM_SET", [0], .exact 8, 0, true, false, .other, .default⟩,
  ⟨0x0E11, "MEM_TENANT_SET", [0], .exact 8, 0, true, false, .other, .default⟩,
  ⟨0x0E12, "MEM_TENANT_QUERY", [0], .exact 4, 16, false, false, .query, .default⟩]

/-- The opcodes 0x0Fxx. -/
def opcodes0F : List OpInfo := [
  ⟨0x0F00, "DMA_QUERY", [0], .exact 4, 32, true, false, .query, .default⟩,
  ⟨0x0F01, "DMA_STATS", [0], .exact 4, 32, true, false, .query, .default⟩,
  ⟨0x0F10, "PFC_GEN_SET", [0], .exact 12, 0, true, false, .other, .default⟩]

/-- The opcodes 0x10xx. -/
def opcodes10 : List OpInfo := [
  ⟨0x1000, "ATTEST_REPORT", [0], .exact 36, 416, false, false, .query, .alsoLockdown⟩,
  ⟨0x1001, "ID_CERT_READ", [0], .exact 0, 2048, false, false, .query, .alsoLockdown⟩,
  ⟨0x1010, "PROVISION_SET", [0], .exact 84, 0, true, false, .other, .provOnly⟩,
  ⟨0x1011, "PROVISION_DONE", [0], .exact 0, 4, true, false, .other, .provOnly⟩,
  ⟨0x1012, "TRUST_REPROVISION", [0], .exact 4, 0, true, false, .other, .sbyLock⟩,
  ⟨0x1013, "PEER_MEAS_SET", [0], .steps 8 48 392, 0, true, false, .other, .default⟩,
  ⟨0x1020, "DTLS_KEY_CREATE", [0], .exact 4, 2, false, false, .other, .provSbyServDeg⟩,
  ⟨0x1021, "DTLS_CERT_READ", [0], .exact 4, 1024, false, false, .query, .default⟩,
  ⟨0x1022, "DTLS_LEG_SET", [2], .exact 40, 2, false, false, .other, .servDeg⟩,
  ⟨0x1030, "KEY_IMPORT", [0], .exact 104, 4, false, false, .other, .sbyServDeg⟩,
  ⟨0x1031, "KEY_DELETE", [13], .exact 0, 0, false, false, .delete, .default⟩,
  ⟨0x1032, "TRUNK_KEY_SET", [2], .exact 4, 0, false, false, .other, .servDeg⟩,
  ⟨0x1040, "TAMPER_SET", [0], .exact 4, 0, true, false, .other, .default⟩,
  ⟨0x1041, "TAMPER_QUERY", [0], .exact 0, 48, false, false, .query, .alsoLockdown⟩,
  ⟨0x1050, "IMAGE_COMMIT", [0], .exact 4, 2, true, false, .other, .default⟩]

/-- The opcodes 0x11xx. -/
def opcodes11 : List OpInfo := [
  ⟨0x1100, "CIPHER_FLOW_QUERY", [3, 2], .exact 0, 32, false, false, .query, .default⟩,
  ⟨0x1101, "CIPHER_PIN", [3], .exact 4, 0, true, false, .other, .default⟩,
  ⟨0x1110, "CIPHER_STATS", [0], .exact 0, 64, true, false, .query, .default⟩]

/-- The opcodes 0x12xx. -/
def opcodes12 : List OpInfo := [
  ⟨0x1200, "TIME_REF_SET", [0], .exact 16, 0, true, false, .other, .default⟩,
  ⟨0x1201, "TIME_ALLOW_STEP", [0], .exact 0, 16, true, false, .other, .default⟩,
  ⟨0x1202, "TIME_PPS_SECONDS", [0], .exact 8, 0, true, false, .other, .default⟩,
  ⟨0x1203, "PPS_OUT_SET", [0], .exact 4, 0, true, false, .other, .default⟩,
  ⟨0x1204, "TIME_UTC_SET", [0], .exact 4, 0, true, false, .other, .default⟩,
  ⟨0x1205, "TIME_QUERY", [0], .exact 0, 48, false, false, .query, .default⟩]

/-- The opcodes 0x13xx. -/
def opcodes13 : List OpInfo := [
  ⟨0x1300, "CASTLE", [12], .exact 0, 0, true, true, .other, .default⟩,
  ⟨0x1301, "CLUSTER_BENCH", [12], .exact 0, 0, true, true, .other, .default⟩,
  ⟨0x1302, "CLUSTER_SET_STATE", [12], .exact 4, 0, true, false, .other, .default⟩,
  ⟨0x1303, "CLUSTER_QUERY", [12], .exact 0, 16, true, false, .query, .default⟩,
  ⟨0x1310, "REPAIR_SET", [0], .exact 4, 0, true, false, .other, .default⟩,
  ⟨0x1320, "IMAGE_WRITE", [0], .exact 16, 0, true, true, .other, .default⟩,
  ⟨0x1321, "IMAGE_ACTIVATE", [0], .exact 4, 0, true, true, .other, .default⟩,
  ⟨0x1330, "CONF_HOME_SET", [1], .exact 16, 0, false, false, .other, .default⟩]

/-- The opcodes 0x14xx. -/
def opcodes14 : List OpInfo := [
  ⟨0x1400, "EVT_MASK_SET", [0], .exact 8, 0, false, false, .other, .default⟩,
  ⟨0x1401, "EVT_MASK_QUERY", [0], .exact 0, 40, false, false, .query, .default⟩,
  ⟨0x1410, "RECORD_SET", [0], .exact 48, 0, true, false, .other, .default⟩,
  ⟨0x1411, "RECORD_QUERY", [0], .exact 0, 32, true, false, .query, .default⟩,
  ⟨0x1412, "RECORD_READ", [0], .exact 8, 4032, true, false, .query, .default⟩,
  ⟨0x1413, "RECORD_EXPORT", [0], .exact 48, 0, true, true, .other, .default⟩,
  ⟨0x1414, "RECORD_SEAL", [0], .exact 0, 4, true, false, .other, .default⟩,
  ⟨0x1420, "RETURN_CHALLENGE", [0], .exact 0, 96, true, false, .other, .default⟩,
  ⟨0x1421, "RETURN_ARM", [0], .exact 104, 0, true, false, .other, .default⟩,
  ⟨0x1422, "RETURN_ENTER", [0], .exact 4, 0, true, false, .other, .sbyOnly⟩,
  ⟨0x1423, "RETURN_EXIT", [0], .exact 104, 0, true, false, .other, .returnOnly⟩]

/-- The opcodes 0x15xx. -/
def opcodes15 : List OpInfo := [
  ⟨0x1500, "TENANT_HOST_SET", [0], .exact 8, 0, true, false, .other, .default⟩,
  ⟨0x1501, "TENANT_HOST_QUERY", [0], .exact 4, 16, false, false, .query, .default⟩,
  ⟨0x1510, "HOST_LINK_QUERY", [0], .exact 0, 32, true, false, .query, .default⟩,
  ⟨0x1520, "DIAG_LOOPBACK", [0], .exact 8, 0, true, true, .other, .diagOnly⟩,
  ⟨0x1530, "MGMT_SET", [0], .exact 4, 0, true, false, .other, .default⟩]

/-- The opcode table of all chapters. -/
def opcodeTable : List OpInfo :=
  opcodes00 ++ opcodes01 ++ opcodes02 ++ opcodes03 ++ opcodes04 ++ opcodes05 ++ opcodes06 ++ opcodes07 ++ opcodes08 ++ opcodes09 ++ opcodes0A ++
  opcodes0B ++ opcodes0C ++ opcodes0D ++ opcodes0E ++ opcodes0F ++ opcodes10 ++ opcodes11 ++ opcodes12 ++ opcodes13 ++ opcodes14 ++ opcodes15

/-- The row of an opcode, if it is defined. -/
def opInfo (opc : Nat) : Option OpInfo := opcodeTable.find? fun o => o.opc == opc

/-- Whether an opcode is long-running (R125). -/
def opIsLong (opc : Nat) : Bool := match opInfo opc with | some o => o.long | none => false

/-- Whether an opcode is a query (R69). -/
def opIsQuery (opc : Nat) : Bool := match opInfo opc with | some o => o.kind == .query | none => false

/-- Table 03-6: the default acceptance of an opcode range in a mode. The command processor serves no
queue in the modes before the end of BOOT (R98). -/
def rangeAccepts (range : Nat) (kind : OpKind) : Mode → Bool
  | .off => false | .keepalive => false | .init => false | .boot => false
  | .provision => range == 0x00 || range == 0x14 || range == 0x15 || range == 0x10
  | .standby => range == 0x00 || range == 0x14 || range == 0x15 || range == 0x10 ||
      range == 0x0E || range == 0x0F || range == 0x12
  | .service => true
  | .degraded => true
  | .ridethrough => range == 0x00 || range == 0x14 || range == 0x15 || range == 0x10 ||
      range == 0x0E || range == 0x0F || range == 0x12 ||
      (((1 ≤ range && range ≤ 0x0D) || range == 0x11) && kind != .other)
  | .diagnostic => range == 0x00 || range == 0x14 || range == 0x15 || range == 0x10 ||
      range == 0x0E || range == 0x0F || range == 0x12 || range == 0x13
  | .lockdown => range == 0x00 || range == 0x14 || range == 0x15
  | .fieldReturn => range == 0x00 || range == 0x14 || range == 0x15

/-- Whether a mode accepts an opcode (R113, and R180, R276, R375, R611, R612, R635, R637, R736, R737,
R762 where they state otherwise). -/
def OpInfo.accepts (o : OpInfo) (m : Mode) : Bool :=
  let d := rangeAccepts (o.opc / 256) o.kind m
  match o.modes with
  | .default => d
  | .sbyServDeg => m == .standby || m == .service || m == .degraded
  | .servDeg => m == .service || m == .degraded
  | .provSbyServDeg => m == .provision || m == .standby || m == .service || m == .degraded
  | .provOnly => m == .provision
  | .sbyLock => m == .standby || m == .lockdown
  | .sbyOnly => m == .standby
  | .returnOnly => m == .fieldReturn
  | .diagOnly => m == .diagnostic
  | .alsoStandby => d || m == .standby
  | .alsoLockdown => d || m == .lockdown

/-- Whether a length passes check 2 of R110. -/
def LenRule.allows : LenRule → Nat → Bool
  | .exact n, len => len == n
  | .steps lo step hi, len => lo ≤ len && len ≤ hi && (len - lo) % step == 0
  | .range lo hi, len => lo ≤ len && len ≤ hi

end Sys2Proof.Machine
end

