-- ==== Sys2Proof/Machine/Operands.lean ====
section
/-! DEFINITION. The operands of Belex commands: the fields of a parameter block and the checks of
R10 on them, and the handle checks of R13. -/

namespace Sys2Proof.Machine

/-! The common statuses (Table 03-8). -/

def stDone : Nat := 0x0000
def stAccepted : Nat := 0x0001
def stWarn : Nat := 0x0002
def stBadOpcode : Nat := 0x0100
def stBadLength : Nat := 0x0101
def stBadParam : Nat := 0x0102
def stNoObject : Nat := 0x0103
def stWrongState : Nat := 0x0104
def stNoResource : Nat := 0x0105
def stNotPermitted : Nat := 0x0106
def stBusy : Nat := 0x0107
def stWrongMode : Nat := 0x0108
def stFencedOut : Nat := 0x0109
def stTimeout : Nat := 0x010A
def stIntegrity : Nat := 0x010B

end Sys2Proof.Machine

namespace Sys2Proof

open Machine

/-! Fields of a parameter block (Notation; R7). -/

/-- The `n` parameter bytes at an offset. Bytes beyond the parameters read 0. -/
def Cmd.bytes (c : Cmd) (off n : Nat) : List Byte := padTo n (c.params.drop off)

/-- The unsigned little-endian field of `n` bytes at an offset. -/
def Cmd.u (c : Cmd) (off n : Nat) : Nat := ofLe (c.bytes off n)

/-- The signed field of `n` bytes at an offset. -/
def Cmd.i (c : Cmd) (off n : Nat) : Int := toSigned (8 * n) (c.u off n)

/-- The big-endian number of `n` bytes at an offset, as addresses are written. -/
def Cmd.big (c : Cmd) (off n : Nat) : Nat := ofBe (c.bytes off n)

/-- A field that must be 0 in the case at hand is 0 (R10). -/
def Cmd.zero (c : Cmd) (off n : Nat) : Bool := c.u off n == 0

/-- A field lies in a range, both ends included. -/
def Cmd.rng (c : Cmd) (off n lo hi : Nat) : Bool := decide (lo ≤ c.u off n) && decide (c.u off n ≤ hi)

/-- A field is 0, which selects its default, or lies in a range. -/
def Cmd.rng0 (c : Cmd) (off n lo hi : Nat) : Bool := c.u off n == 0 || c.rng off n lo hi

/-- A field whose 0 selects a default value. -/
def Cmd.dflt (c : Cmd) (off n d : Nat) : Nat := if c.u off n = 0 then d else c.u off n

/-- The bits of a field outside a mask of `n` bytes are 0 (R10). -/
def Cmd.mask (c : Cmd) (off n m : Nat) : Bool := c.u off n &&& m == c.u off n

/-- A string field of `n` bytes holds nothing but zeros beyond its length (R10). -/
def Cmd.padded (c : Cmd) (off len n : Nat) : Bool := c.u (off + len) (n - len) == 0

/-- Bits of a field. -/
def Cmd.fld (c : Cmd) (off n hi lo : Nat) : Nat := bits (c.u off n) hi lo

/-- Bit `i` of a field. -/
def Cmd.flag (c : Cmd) (off n i : Nat) : Bool := bit (c.u off n) i

end Sys2Proof

namespace Sys2Proof.Machine

/-- What running a command gives: the state, the status, the reply payload, and whether the reply
waits for work that follows (R72, R792). -/
structure Res where
  st : State
  sts : Nat
  pay : List Byte := []
  deferred : Bool := false

/-- A command that fails has no effect (R136). -/
def Res.fail (s : State) (sts : Nat) : Res := ⟨s, sts, [], false⟩

/-- A command that completes with DONE. -/
def Res.ok (s : State) (pay : List Byte := []) : Res := ⟨s, stDone, pay, false⟩

/-- A long-running command that has begun. -/
def Res.accepted (s : State) : Res := ⟨s, stAccepted, [], false⟩

/-- A command whose reply waits. -/
def Res.wait (s : State) : Res := ⟨s, stDone, [], true⟩

/-- The range of indices of a handle type (Table 00-4); the key store holds 16,384 entries (R614). -/
def indexLimit : Nat → Nat
  | 0 => 1 | 1 => 8192 | 2 => 65536 | 3 => 1048576 | 4 => 4096 | 5 => 4096 | 6 => 2048 | 7 => 16384
  | 8 => 16384 | 9 => 256 | 10 => 8 | 11 => 768 | 12 => 56 | 13 => 16384 | _ => 0

end Sys2Proof.Machine
end

