-- ==== Sys2Proof/Machine/Modes.lean ====
section
/-! DEFINITION. Shared operations on the operating mode: the throughput accounting of R715 that
decides SERVICE or DEGRADED, the closing of every conference (R684), the ending of commands that a
new mode does not accept (R114), the mode change itself (R681) and the fatal fault (R683). -/

namespace Sys2Proof.Machine

/-- A cluster by number. -/
def State.cluster (s : State) (c : Nat) : Cluster := s.units.clusters.getD c { state := .retired }

/-- The state with one cluster changed. -/
def State.modCluster (s : State) (c : Nat) (f : Cluster → Cluster) : State :=
  { s with units := { s.units with clusters := modAt s.units.clusters c f } }

/-- The unit numbers of a kind within a cluster: 0 DSP, 1 mix, 2 decode, 3 encode, 4 compose (Table
01-5), as in event 301. -/
def kindUnits (kind : Nat) (audio : Bool) : List Nat :=
  match kind, audio with
  | 0, true => [0, 1, 2, 3, 4, 5, 6, 7]
  | 1, true => [8]
  | 2, false => [0, 1]
  | 3, false => [2, 3]
  | 4, false => [4]
  | _, _ => []

/-- The full-service count of a unit kind (R715). -/
def fullUnits : Nat → Nat
  | 0 => 256 | 1 => 32 | 2 => 32 | 3 => 32 | 4 => 16 | _ => 0

/-- The working units of a kind in ACTIVE clusters (R715). -/
def State.activeUnits (s : State) (kind : Nat) : Nat :=
  sumOf (List.range 56) fun c =>
    let k := s.cluster c
    if k.state = .active then
      countOf (kindUnits kind (isAudioCluster c)) fun u => !bit k.failed u
    else 0

/-- The mode that SERVICE stands for: DEGRADED while any kind is below full service (R685). -/
def State.serviceMode (s : State) : Mode :=
  if [0, 1, 2, 3, 4].all fun k => decide (fullUnits k ≤ s.activeUnits k) then .service else .degraded

/-- No castling belongs to IMAGE_ACTIVATE any more: it goes on as an ordinary one. -/
def UnitsState.endActivation (u : UnitsState) : UnitsState :=
  { u with activating := none,
           castling := u.castling.map fun k => k.map fun (x : Castling) => { x with update := false } }

/-- Long-running work that ends because the new mode does not accept its command (R114): the work's
own state is dropped, and the command ends with WRONG_MODE. -/
def State.dropLong (s : State) (id : Nat) : State :=
  let s := { s with rcd := { s.rcd with exporting :=
    (match s.rcd.exporting with | some j => if j.id = id then none else some j | none => none) } }
  let clear (j : Option ImageJob) : Option ImageJob :=
    match j with | some x => if x.id = id then none else some x | none => none
  let s := { s with
    aud := { s.aud with dsp := { s.aud.dsp with loading := s.aud.dsp.loading.filter fun j => j.id != id } },
    vid := { s.vid with canvases := tmap s.vid.canvases fun _ c =>
      { c with loading := c.loading.filter fun j => j.id != id } },
    host := { s.host with pcie := { s.host.pcie with loopback := s.host.pcie.loopback.filter fun p => p.2.1 != id } } }
  let s := match s.units.activating with
    | some j => if j.id = id then { s with units := s.units.endActivation } else s
    | none => s
  let s := { s with units := { s.units with
    writing := clear s.units.writing,
    clusters := s.units.clusters.map fun (c : Cluster) =>
      if c.benching = some id then { c with benching := none } else c } }
  s.finishLong id stWrongMode []

/-- The commands that the mode now in force does not accept: those waiting complete with WRONG_MODE,
and long-running ones of a range not accepted end with it (R114). -/
def State.endUnaccepted (s : State) : State :=
  let m := s.sys.mode
  let waiting := s.cp.cmds.filter fun p => !p.2.begun &&
    (match opInfo p.2.whom.opc with | some o => !o.accepts m | none => false)
  let s := waiting.foldl (fun s p => s.complete p.2.whom stWrongMode []) s
  let ended := s.cp.longs.filter fun p => !rangeAccepts (p.2.whom.opc / 256) .other m
  ended.foldl (fun s p => s.dropLong p.1) s

/-- A region that IMAGE_ACTIVATE cannot finish (R713). -/
def State.regionSkipped (s : State) (region : Nat) : State :=
  match s.units.activating with
  | none => s
  | some j =>
    if !j.todo.contains region then s else
    let j : ImageJob := { j with todo := j.todo.filter fun r => r != region, skipped := j.skipped ++ [region] }
    ({ s with units := { s.units with activating := some j } } : State).raise 300 0 (le 1 region)

/-- The castling of a region abandoned before its handover (R708): the target goes back to SPARE, or
to BENCH when it is the one that failed, event 290 is raised and the command ends. -/
def State.abandonCastling (s : State) (region cause sts : Nat) (targetFailed : Bool) : State :=
  match s.units.castling.getD region none with
  | none => s
  | some k =>
    let s := { s with units := { s.units with castling := setAt s.units.castling region none } }
    let s := s.modCluster k.target fun c =>
      if targetFailed then { c with state := .bench, gated := false }
      else { c with state := .spare, gated := true }
    let s := s.raise 290 (mkHandle 12 k.source) (le 1 cause ++ le 1 k.phase)
    let s := if k.update && cause != 2 then s.regionSkipped region else s
    if k.id = 0 then s else s.finishLong k.id sts (le 1 k.target)

/-- Every castling abandoned by a mode change or a fatal fault: before handover the source keeps its
load; after it the load stays on the target and the source enters BENCH untested (R708). -/
def State.abandonCastlings (s : State) (cause sts : Nat) : State :=
  (List.range 8).foldl (fun s r =>
    match s.units.castling.getD r none with
    | none => s
    | some k =>
      if k.phase < 4 then s.abandonCastling r cause sts false
      else
        let s := { s with units := { s.units with castling := setAt s.units.castling r none } }
        let s := s.modCluster k.source fun c => { c with state := .bench, benching := none }
        let s := s.raise 290 (mkHandle 12 k.source) (le 1 cause ++ le 1 k.phase)
        let s := if k.update && cause != 2 then s.regionSkipped r else s
        if k.id = 0 then s else s.finishLong k.id sts (le 1 k.target)) s

/-- The replies of deletes that wait on conferences, legs and flows. -/
def State.deleteReplies (s : State) : List ReplyTo :=
  (s.flows.flatMap fun p => p.2.closeReply) ++ (s.legs.flatMap fun p => p.2.closeReply) ++
    (s.confs.flatMap fun p => p.2.reply)

/-- The bushels of the video objects, by tenant (R684). -/
def State.videoBushels (s : State) : List (Nat × Nat) :=
  (s.vid.decs.map fun p => (p.2.tenant, p.2.bushels)) ++ (s.vid.canvases.map fun p => (p.2.tenant, p.2.bushels)) ++
    (s.vid.encs.map fun p => (p.2.tenant, p.2.bushels)) ++ (s.vid.tiles.map fun p => (p.2.tenant, p.2.bushels))

/-- The atomic keys of the video objects. -/
def VideoState.keys (v : VideoState) : List Nat :=
  (v.decs.map fun p => p.2.key) ++ (v.canvases.map fun p => p.2.key) ++ (v.encs.map fun p => p.2.key) ++
    (v.tiles.map fun p => p.2.key)

/-- The mix groups, instances, beacon channels and staged port outputs of all conferences are gone; kernels, port
settings and fixed routes stay (R684). -/
def AudioState.cleared (a : AudioState) (now : Nat) : AudioState :=
  let gone := (a.bcn.mods.map fun p => (p.2.tag, now)) ++ a.bcn.gone
  let core (c : DspCore) : DspCore := { c with inv := none, waiting := [] }
  let port (p : Sap) : Sap := { p with stage := p.stage.filter fun g => g.writer == 0 }
  { a with
    mixes := [], groups := [],
    dsp := { a.dsp with insts := [], cores := a.dsp.cores.map fun p => (p.1, core p.2) },
    sap := { a.sap with ports := a.sap.ports.map port },
    bcn := { a.bcn with mods := [], demods := [], rx := [], gone := gone } }

/-- The video objects of all conferences are gone; the counters of the units stay. -/
def VideoState.cleared (v : VideoState) : VideoState :=
  { v with decs := [], canvases := [], encs := [], tiles := [], splices := [], alloc := [] }

/-- The tasks, timers and atomic flows of the objects of conferences are gone. -/
def DispState.cleared (d : DispState) (keys : List Nat) : DispState :=
  let tasks := d.tasks.filter fun p => !(decide (1 ≤ hType p.2.owner) && decide (hType p.2.owner ≤ 8))
  { d with tasks := tasks, timers := d.timers.filter fun p => (tget tasks p.2.task).isSome
           keys := d.keys.filter fun p => !keys.contains p.1 }

/-- Bushels given back to the pool; they wait for their zero fill (R579). One draw names them all. -/
def MemState.giveBack (m : MemState) (now draw : Nat) (l : List (Nat × Nat)) : MemState :=
  let m := l.foldl (fun (m : MemState) p => { m with use := tset m.use p.1 ((tget m.use p.1).getD 0 - p.2) }) m
  let n := sumOf l fun p => p.2
  if n = 0 then m else { m with zeroing := m.zeroing ++ [(n, now, draw)] }

/-- Every conference of every tenant closed at once, with its legs, flows and media objects; no BYE
is sent, and the egress queues are discarded (R684). The number of conferences goes into event 0. -/
def State.freeAll (s : State) : State :=
  let left := sumOf (s.net.ports.flatMap fun (p : LPort) => p.queue) fun (f : TxFrame) => f.cells
  let s := { s with
    confs := [], legs := [], flows := [],
    aud := s.aud.cleared s.now, vid := s.vid.cleared, disp := s.disp.cleared s.vid.keys,
    mem := s.mem.giveBack s.now (Config.freeNat s.fresh) s.videoBushels, fresh := s.fresh + 1,
    net := { s.net with
      ready := s.net.ready.filter fun (f : ReadyFrame) => f.leg.isNone
      pipes := s.net.pipes.map fun (p : Pipeline) =>
        ({ miss := [], rings := p.rings.map fun (r : Ring) => ({ r with entries := [] } : Ring) } : Pipeline) },
    cip := { s.cip with slots := [], inQ := [], outQ := [], olds := [], backSince := none } }
  s.poolFreed (s.net.poolCells - left)

/-- All stacks leave self-refresh, with event 79 (R560). -/
def State.srExit (s : State) : State :=
  if !s.mem.selfRefresh then s else
  let cold (p : PseudoCh) : PseudoCh := { p with owed := 0, forced := 0, dueAt := none }
  let wake (x : Stack) : Stack := { x with pcs := x.pcs.map cold }
  let s := { s with mem := { s.mem with selfRefresh := false, dramStacks := s.mem.dramStacks.map wake } }
  s.raise 79 0 (le 4 ((s.now - s.mem.selfSince) / msU))

/-- ALERT_CAUSE (Table 24-11): bits 0, 4 and 5 follow their state, bits 1 to 3 are latched. -/
def State.alertCause (s : State) : Nat :=
  b2n (s.sys.faultCause != 0) + s.host.mgmt.cause + b2n (s.sys.mode == .ridethrough) * 16 +
  b2n (s.sys.mode == .lockdown) * 32

/-- ALERT_N brought up to date: it asserts when a bit newly set in ALERT_CAUSE is not masked (R756). -/
def State.alertUpdate (s : State) : State :=
  let now := s.alertCause
  let m := s.host.mgmt
  let newly := (List.range 8).any fun i => bit now i && !bit m.seen i && !bit m.alertMask i
  let s := { s with host := { s.host with mgmt :=
    { m with seen := now, alertN := if newly then false else m.alertN } } }
  if newly && m.alertN then s.emit (.pin "ALERT_N" false) else s

/-- A latched cause of ALERT_CAUSE set: 1 stage 2 or above, 2 tamper response, 3 rail alarm. -/
def State.latchAlert (s : State) (b : Nat) : State :=
  if bit s.host.mgmt.cause b then s
  else { s with host := { s.host with mgmt := { s.host.mgmt with cause := s.host.mgmt.cause + 2 ^ b } } }.alertUpdate

/-- A change of mode (R681): event 0 with a record entry; the castlings and commands that the new mode does not accept end
(R114, R708). `closed` counts the conferences closed under R684. Entry into LOCKDOWN sets LOCKDOWN_HELD (R636). -/
def State.setMode (s : State) (new : Mode) (cause closed : Nat) : State :=
  let old := s.sys.mode
  let s := if old = Mode.standby then s.srExit else s
  let s := { s with sys := { s.sys with
    prev := old, mode := new, cause := cause, modeDt := s.now,
    ride := if new = Mode.ridethrough then s.sys.ride else none } }
  let s := if new = Mode.standby then { s with net := { s.net with fcOn := true } } else s
  let s := if new = Mode.lockdown then { s with trust := { s.trust with lockdownHeld := true } } else s
  let s := s.raiseRec 0 0 (le 1 old.code ++ le 1 new.code ++ le 1 cause ++ le 4 closed)
  let s := if rangeAccepts 0x13 .other new then s else s.abandonCastlings 2 stWrongMode
  s.endUnaccepted.alertUpdate

/-- A mode change that halts media: DIAGNOSTIC by a fatal fault, or LOCKDOWN (R684). Deletes that
waited on the freed objects reply at the mode change. -/
def State.haltInto (s : State) (new : Mode) (cause : Nat) : State :=
  let n := s.confs.length
  let replies := s.deleteReplies
  let s := s.freeAll
  let s := s.abandonCastlings (if cause = 4 then 3 else 2) stWrongMode
  (s.setMode new cause n).completeAll replies stDone

/-- A fatal fault (R683): latched in IW_FAULT when it is the first since INIT (R749), recorded, raised
as event 15. In INIT, BOOT, LOCKDOWN and RETURN the device stays in its mode; in modes 4 to 9 it
enters DIAGNOSTIC with media halted. -/
def State.fatal (s : State) (cause detail : Nat) : State :=
  let s := if s.sys.faultCause = 0 then
      { s with sys := { s.sys with faultCause := cause, faultDetail := detail % 65536 } }
    else s
  let word := cause * 16777216 + detail % 65536
  let s := (s.raiseRec 15 0 (le 4 word) true).alertUpdate
  match s.sys.mode with
  | .provision | .standby | .service | .degraded | .ridethrough => s.haltInto .diagnostic 4
  | .init | .boot => { s with sys := { s.sys with stuck := true } }
  | _ => s

/-- The accounting of a kind changed: event 301 for each kind that differs from before, and the change
between SERVICE and DEGRADED at the same instant (R685, R715). -/
def State.recount (before s : State) : State :=
  let s := [0, 1, 2, 3, 4].foldl (fun s k =>
    if before.activeUnits k = s.activeUnits k then s
    else s.raise 301 0 (le 1 k ++ le 2 (s.activeUnits k))) s
  if (s.sys.mode = .service ∨ s.sys.mode = .degraded) ∧ s.sys.mode ≠ s.serviceMode then
    s.setMode s.serviceMode 1 0
  else s

/-- A unit retired (R24): event 292 with its cause, and the accounting that follows. -/
def State.retireUnit (s : State) (c u cause : Nat) : State :=
  if bit (s.cluster c).failed u || !isUnit c u then s else
  let before := s
  let s := s.modCluster c fun k => { k with failed := k.failed + 2 ^ u }
  let s := s.raiseRec 292 (mkHandle 12 c) (le 2 (c * 16 + u) ++ le 1 cause)
  before.recount s

/-- A unit of an ACTIVE cluster marked failed in service: it is retired, and the cluster waits for an
automatic castling, or keeps the unit retired in place with event 294 (R703). -/
def State.unitFailed (s : State) (c u cause : Nat) : State :=
  if !isUnit c u then s else
  let s := s.retireUnit c u cause
  if (s.cluster c).state ≠ .active then s
  else
    let s := if s.units.waiting.contains (c, u) then s
      else { s with units := { s.units with waiting := s.units.waiting ++ [(c, u)] } }
    let hasSpare := (regionClusters (regionOf c)).any fun k => (s.cluster k).state == .spare
    if s.units.autoCastle && hasSpare && rangeAccepts 0x13 .other s.sys.mode then s
    else s.raiseW 294 (mkHandle 12 c) (le 2 (c * 16 + u))

/-- Advance of a region epoch, carrying the current units of the region's ACTIVE clusters (R710,
R711). Causes: 0 handover, 1 image, 2 bench exit. -/
def State.advanceEpoch (s : State) (region cause : Nat) : State :=
  let old := s.units.epochs.getD region 0
  let new := (old + 1) % 65536
  let s := { s with units := { s.units with epochs := setAt s.units.epochs region new } }
  let carry (c : Cluster) : Cluster :=
    if c.state = .active && !c.gated then
      { c with epochs := (List.range 16).map fun u =>
          (if c.epochs.getD u 0 = old && !bit c.failed u then new else c.epochs.getD u 0) }
    else c
  let s := (regionClusters region).foldl (fun s c => s.modCluster c carry) s
  s.raise 295 0 (le 1 region ++ le 2 new ++ le 1 cause)

/-- Whether a unit's context epoch is its region's (R25, R528); hub-die executors have none. -/
def State.epochOk (s : State) (unit : Nat) : Bool :=
  decide (0x8000 ≤ unit) ||
  (s.cluster (unit / 16)).epochs.getD (unit % 16) 0 == s.units.epochs.getD (regionOf (unit / 16)) 0

/-- Whether a unit takes work of a grain: it has not failed, and its epoch is its region's (R25). -/
def State.unitWorks (s : State) (cluster u : Nat) : Bool := !bit (s.cluster cluster).failed u && s.epochOk (cluster * 16 + u)

end Sys2Proof.Machine
end

