-- ==== Sys2Proof/Machine/DspOps.lean ====
section
/-! DEFINITION. The DSP core: instruction formats and what makes an instruction illegal, the arithmetic of
each operation, moves, loops and branches (file 08 of spec/). -/

namespace Sys2Proof.Machine

/-! Cores. -/

/-- The cluster of a DSP core: cores are numbered 8 to an audio cluster, clusters in order (Table 01-4). -/
def coreCluster (core : Nat) : Nat := if core / 8 < 18 then 10 + core / 8 else 20 + core / 8

/-- The number of a DSP core within the package. -/
def coreNumber (cluster unit : Nat) : Nat :=
  8 * (if cluster < 28 then cluster - 10 else cluster - 20) + unit

/-- The unit address of a core (R23). -/
def coreUnit (core : Nat) : Nat := coreCluster core * 16 + core % 8

def State.core (s : State) (c : Nat) : DspCore := (tget s.aud.dsp.cores c).getD {}

def State.setCore (s : State) (c : Nat) (k : DspCore) : State :=
  { s with aud := { s.aud with dsp := { s.aud.dsp with cores := tset s.aud.dsp.cores c k } } }

def State.modKernel (s : State) (i : Nat) (f : Kernel → Kernel) : State :=
  { s with aud := { s.aud with dsp := { s.aud.dsp with kernels := tmod s.aud.dsp.kernels i f } } }

def State.modInst (s : State) (key : Nat) (f : KInst → KInst) : State :=
  { s with aud := { s.aud with dsp := { s.aud.dsp with insts := tmod s.aud.dsp.insts key f } } }

/-- Counters of an audio cluster changed. -/
def State.modDspStats (s : State) (cluster : Nat) (f : DspStats → DspStats) : State :=
  let x := (tget s.aud.dsp.stats cluster).getD {}
  { s with aud := { s.aud with dsp := { s.aud.dsp with stats := tset s.aud.dsp.stats cluster (f x) } } }

/-- What is added to a conference's index for the instances of the program before, which run on over the grain of a
crossfade (R307). -/
def oldConf : Nat := 65536

/-- The conference of an instance's index. -/
def confOfInst (conf : Nat) : Nat := conf % oldConf

/-! Formats (Table 08-3). -/

/-- An instruction by its fields. -/
inductive DspIns where
  | dual (a b : DspSlot) (x y : DspMove)
  | imm (op dst src imm : Nat)
  | ctrl (op cond cnt addr : Nat)
  | alu (op dst srcA srcB sh acc : Nat) (x : DspMove)
deriving DecidableEq, Repr

/-- A slot field of 15 bits (Table 08-4). -/
def slotOfBits (w : Nat) : DspSlot := ⟨bits w 14 11, bits w 10 8, bits w 7 4, bits w 3 0⟩

/-- A move field of 15 bits (Table 08-5); its bits [1:0] must be 0. -/
def moveOfBits (w : Nat) : DspMove := ⟨bit w 14, bits w 13 9, bits w 8 5, bits w 4 2⟩

/-- The instruction of a 64-bit word (Table 08-3); none for a reserved format or a reserved bit set. -/
def dspDecode (w : Nat) : Option DspIns :=
  match bits w 63 61 with
  | 0 =>
    if bit w 0 || bits w 17 16 != 0 || bits w 2 1 != 0 then none
    else some (.dual (slotOfBits (bits w 60 46)) (slotOfBits (bits w 45 31))
      (moveOfBits (bits w 30 16)) (moveOfBits (bits w 15 1)))
  | 1 => if bits w 44 32 != 0 then none
         else some (.imm (bits w 60 55) (bits w 54 50) (bits w 49 45) (bits w 31 0))
  | 2 => if bits w 51 48 != 0 then none
         else some (.ctrl (bits w 60 56) (bits w 55 52) (bits w 47 32) (bits w 31 0))
  | 3 => if bits w 15 0 != 0 || bits w 17 16 != 0 then none
         else some (.alu (bits w 60 55) (bits w 54 50) (bits w 49 45) (bits w 44 40) (bits w 39 34)
           (bits w 33 31) (moveOfBits (bits w 30 16)))
  | _ => none

/-- A slot field as its 15 bits (Table 08-4). -/
def slotWord (o : DspSlot) : Nat := o.op * 2048 + o.acc * 256 + o.a * 16 + o.b

/-- A move field as its 15 bits (Table 08-5). -/
def moveWord (m : DspMove) : Nat := b2n m.store * 16384 + m.d * 512 + m.p * 32 + m.mod * 4

/-- The 64-bit word of an instruction (Table 08-3). -/
def DspIns.word : DspIns → Nat
  | .dual a b x y => slotWord a * 2 ^ 46 + slotWord b * 2 ^ 31 + moveWord x * 2 ^ 16 + moveWord y * 2
  | .imm op dst src v => 2 ^ 61 + op * 2 ^ 55 + dst * 2 ^ 50 + src * 2 ^ 45 + v
  | .ctrl op cond cnt addr => 2 * 2 ^ 61 + op * 2 ^ 56 + cond * 2 ^ 52 + cnt * 2 ^ 32 + addr
  | .alu op dst a b sh acc x =>
    3 * 2 ^ 61 + op * 2 ^ 55 + dst * 2 ^ 50 + a * 2 ^ 45 + b * 2 ^ 40 + sh * 2 ^ 34 + acc * 2 ^ 31 + moveWord x * 2 ^ 16

/-- Whether a slot field is legal by itself (Table 08-4). -/
def slotLegal (o : DspSlot) : Bool :=
  decide (o.acc < 8) && decide (o.a < 16) && decide (o.b < 16) &&
  (match o.op with
   | 0 => o.acc == 0 && o.a == 0 && o.b == 0
   | 1 => true | 2 => true | 3 => true | 4 => true
   | 5 => o.a == 0 && o.b == 0
   | _ => false)

/-- Whether a move field is legal by itself (Table 08-5). -/
def moveLegal (m : DspMove) : Bool :=
  decide (m.d < 32) && decide (m.p < 16) &&
  (match m.mod with
   | 0 => true | 1 => true | 2 => true | 3 => true
   | 4 => decide (m.p < 8)
   | 7 => !m.store && m.d == 0 && m.p == 0
   | _ => false)

/-- Whether a move loads its D register. -/
def moveLoads (m : DspMove) : Bool := m.mod != 7 && !m.store

/-- Whether an ALU operation writes D[DST]. -/
def aluWrites (op : Nat) : Bool := (decide (op ≤ 0x0D) && op != 0x0B) || op == 0x13 || op == 0x14

/-- Whether the fields of an ALU operation are legal: those it does not use are 0 (R321). -/
def aluLegal (op dst a b sh acc : Nat) : Bool :=
  decide (dst < 32) && decide (a < 32) && decide (b < 32) && decide (sh < 64) && decide (acc < 8) &&
  (match op with
   | 0x00 => sh == 0 && acc == 0 | 0x01 => sh == 0 && acc == 0 | 0x02 => sh == 0 && acc == 0
   | 0x03 => sh == 0 && acc == 0 | 0x04 => sh == 0 && acc == 0
   | 0x05 => b == 0 && acc == 0 | 0x06 => b == 0 && acc == 0 | 0x07 => b == 0 && acc == 0
   | 0x08 => b == 0 && sh == 0 && acc == 0
   | 0x09 => sh == 0 && acc == 0 | 0x0A => sh == 0 && acc == 0
   | 0x0B => dst == 0 && sh == 0 && acc == 0
   | 0x0C => b == 0 && sh == 0 && acc == 0 | 0x0D => b == 0 && sh == 0 && acc == 0
   | 0x10 => dst == 0 && decide (a < 8) && b == 0 && sh == 0
   | 0x11 => dst == 0 && a == 0 && b == 0 | 0x12 => dst == 0 && a == 0 && b == 0
   | 0x13 => a == 0 && b == 0 && sh == 0 | 0x14 => a == 0 && b == 0 && sh == 0
   | 0x15 => dst == 0 && b == 0 && sh == 0
   | 0x16 => dst == 0 && a == 0 && b == 0 && sh == 0
   | _ => false)

/-- Whether an immediate operation is legal (Table 08-16). -/
def immLegal (op dst src imm : Nat) : Bool :=
  decide (dst < 32) && decide (src < 32) && decide (imm < 4294967296) &&
  (match op with
   | 0 => src == 0 | 1 => decide (dst < 16) && src == 0 | 2 => decide (dst < 8) && src == 0
   | 3 => decide (dst < 2) && src == 0 && decide (imm < 65536)
   | 4 => true | 5 => decide (dst < 16) && decide (src < 16)
   | 6 => dst == 0 && imm == 0 | 7 => src == 0 && imm == 0
   | 8 => dst == 0 && src == 0 && imm == 0
   | _ => false)

/-- Whether a control operation is legal (Tables 08-16, 08-17). -/
def ctrlLegal (op cond cnt addr : Nat) : Bool :=
  decide (cond < 16) && decide (cnt < 65536) && decide (addr < 4294967296) &&
  (match op with
   | 0 => cond == 0 && cnt == 0 && addr == 0
   | 1 => cond == 0 && cnt == 0
   | 2 => decide (cond < 12) && cnt == 0
   | 3 => cond == 0 && cnt == 0
   | 4 => cond == 0 && cnt == 0 && addr == 0
   | 5 => decide (cond < 2)
   | 6 => decide (cond < 4) && cnt == 0
   | 7 => cond == 0 && decide (cnt < 4096) && addr == 0
   | 8 => cond == 0 && cnt == 0 && addr == 0
   | 9 => cond == 0 && cnt == 0 && addr == 0
   | _ => false)

/-- Whether an instruction is legal whatever is around it (R319, R321). -/
def DspIns.legal : DspIns → Bool
  | .dual a b x y =>
    slotLegal a && slotLegal b && moveLegal x && moveLegal y &&
    !(a.op != 0 && b.op != 0 && a.acc == b.acc) && !(moveLoads x && moveLoads y && x.d == y.d)
  | .imm op dst src v => immLegal op dst src v
  | .ctrl op cond cnt addr => ctrlLegal op cond cnt addr
  | .alu op dst a b sh acc x =>
    aluLegal op dst a b sh acc && moveLegal x && !(aluWrites op && moveLoads x && x.d == dst)

/-! Registers. -/

/-- The physical register of Dn (R317). -/
def physD (rrb n : Nat) : Nat := if n < 16 then n else 16 + (n - 16 + rrb) % 16

def DspCore.readD (k : DspCore) (n : Nat) : BitVec 32 := k.d.getD (physD k.rrb n) 0

def DspCore.writeD (k : DspCore) (n : Nat) (v : BitVec 32) : DspCore :=
  { k with d := setAt k.d (physD k.rrb n) v }

def DspCore.readAcc (k : DspCore) (i : Nat) : BitVec 72 := k.acc.getD i 0

/-- An accumulator as MOVA sees it: a multiply-accumulate of the instruction before is not seen (R322). -/
def DspCore.movaAcc (k : DspCore) (i : Nat) : BitVec 72 := (tget k.accOld i).getD (k.readAcc i)

/-- A P register as a move address: an immediate write of the instruction before is not seen (R322). -/
def DspCore.addrP (k : DspCore) (i : Nat) : BitVec 32 := (tget k.pOld i).getD (k.p.getD i 0)

/-- SR (Table 08-2). -/
def DspCore.sr (k : DspCore) : BitVec 32 :=
  BitVec.ofNat 32 (k.rrb * 65536 + k.loops.length * 16384 + b2n k.rep.isSome * 8192 + k.aov.toNat * 16 +
    b2n k.n * 8 + b2n k.z * 4 + b2n k.v * 2 + b2n k.c)

/-- A write of SR: RO fields keep their values, AOV bits written 1 are cleared. -/
def DspCore.writeSr (k : DspCore) (w : BitVec 32) : DspCore :=
  let x := w.toNat
  { k with rrb := bits x 19 16, aov := k.aov &&& ~~~(BitVec.ofNat 8 (bits x 11 4)),
           n := bit x 3, z := bit x 2, v := bit x 1, c := bit x 0 }

/-- N and Z from a result. -/
def DspCore.flagsNZ (k : DspCore) (r : BitVec 32) : DspCore := { k with n := r.msb, z := r == 0 }

/-- An accumulator written with an exact value: it wraps at 72 bits, and then its AOV bit sets. -/
def DspCore.writeAcc (k : DspCore) (i : Nat) (v : Int) : DspCore :=
  let w := BitVec.ofInt 72 v
  { k with acc := setAt k.acc i w,
           aov := if w.toInt = v then k.aov else k.aov ||| BitVec.ofNat 8 (2 ^ i) }

/-! The register ALU (Table 08-16). `free` is a free value: the carry after a subtraction, and a shift by
more than 31, are not stated. -/

/-- The clamp to 24 bits (Table 07-5). -/
def sat24 (x : Int) : Int := if x < -8388608 then -8388608 else if 8388607 < x then 8388607 else x

/-- Result and flags of an operation 0x00 to 0x0D: the value and the core with its flags. -/
def DspCore.aluOp (k : DspCore) (op a b sh free : Nat) : BitVec 32 × DspCore :=
  let x := k.readD a
  let y := k.readD b
  let fc := bit free 0
  let fv := BitVec.ofNat 32 (free / 2)
  let shifted (r : BitVec 32) (last : Bool) : BitVec 32 × DspCore :=
    if sh < 32 then (r, { k.flagsNZ r with c := last }) else (fv, { k.flagsNZ fv with c := fc })
  match op with
  | 0x00 =>
    let r := x + y
    (r, { k.flagsNZ r with v := decide (r.toInt ≠ x.toInt + y.toInt), c := decide (2 ^ 32 ≤ x.toNat + y.toNat) })
  | 0x01 =>
    let r := x - y
    (r, { k.flagsNZ r with v := decide (r.toInt ≠ x.toInt - y.toInt), c := fc })
  | 0x02 => let r := x &&& y; (r, k.flagsNZ r)
  | 0x03 => let r := x ||| y; (r, k.flagsNZ r)
  | 0x04 => let r := x ^^^ y; (r, k.flagsNZ r)
  | 0x05 => shifted (x.sshiftRight sh) (decide (0 < sh) && x.getLsbD (sh - 1))
  | 0x06 => shifted (x >>> sh) (decide (0 < sh) && x.getLsbD (sh - 1))
  | 0x07 => shifted (x <<< sh) (decide (0 < sh) && x.getLsbD (32 - sh))
  | 0x08 =>
    let low := x == BitVec.ofNat 32 0x80000000
    let r := if low then BitVec.ofNat 32 0x7FFFFFFF else if x.msb then -x else x
    (r, { k.flagsNZ r with v := low })
  | 0x09 => let r := if x.toInt ≤ y.toInt then x else y; (r, k.flagsNZ r)
  | 0x0A => let r := if x.toInt ≤ y.toInt then y else x; (r, k.flagsNZ r)
  | 0x0B =>
    let r := x - y
    (r, { k.flagsNZ r with v := decide (r.toInt ≠ x.toInt - y.toInt), c := fc })
  | 0x0C =>
    let r := -x
    (r, { k.flagsNZ r with v := x == BitVec.ofNat 32 0x80000000, c := fc })
  | 0x0D =>
    let r := BitVec.ofInt 32 (sat24 x.toInt)
    (r, { k.flagsNZ r with v := r != x })
  | _ => (0, k)

/-- Saturation of MOVAS (R320): the value bits [62:31] stand for, or the end of the Q1.31 range. -/
def movasOf (a : BitVec 72) : BitVec 32 :=
  let v := a.toInt / 2147483648
  if v < -2147483648 then BitVec.ofNat 32 0x80000000
  else if 2147483647 < v then BitVec.ofNat 32 0x7FFFFFFF else BitVec.ofInt 32 v

/-! Moves (Table 08-5). -/

/-- P after a move's update; circular mode wraps within [P(k + 8), P(k + 8) + length). -/
def DspCore.nextP (k : DspCore) (m : DspMove) : BitVec 32 :=
  let p := k.addrP m.p
  let mk := k.m.getD (m.p % 8) 0
  let step := BitVec.signExtend 32 (BitVec.extractLsb' 0 16 mk)
  match m.mod with
  | 1 => p + 4
  | 2 => p - 4
  | 3 => p + step
  | 4 =>
    let len := (BitVec.extractLsb' 16 16 mk).toNat
    let base := (k.p.getD (m.p + 8) 0).toNat
    let q : Int := (p.toNat : Int) + step.toInt
    let q := if q < base then q + len else if (base : Int) + len ≤ q then q - len else q
    BitVec.ofInt 32 q
  | _ => p

/-- Whether a move may touch an address: aligned, and within a window of the invocation, or within the
memory when none runs (R332). -/
def moveOk (win : Option (List (Nat × Nat))) (a : Nat) : Bool :=
  a % 4 == 0 &&
  (match win with
   | none => decide (a < 65536)
   | some l => l.any fun w => decide (w.1 ≤ a) && decide (a + 4 ≤ w.1 + w.2))

/-- Whether the moves of an instruction are allowed. -/
def DspCore.movesOk (k : DspCore) (x y : DspMove) : Bool :=
  (x.mod == 7 || moveOk (k.inv.map fun v => v.xs) (k.addrP x.p).toNat) &&
  (y.mod == 7 || moveOk (k.inv.map fun v => v.ys) (k.addrP y.p).toNat)

/-- The effects of the moves of an instruction, all operands read from `k`, put into `r`: stores at once,
loads late (R322, R323). Two updates of one P that differ leave it a free value. -/
def DspCore.moves (k r : DspCore) (x y : DspMove) (free : Nat) : DspCore :=
  let ax := (k.addrP x.p).toNat
  let ay := (k.addrP y.p).toNat
  let r := if x.mod != 7 && x.store then { r with xmem := k.xmem.write32 ax (k.readD x.d) } else r
  let r := if y.mod != 7 && y.store then { r with ymem := k.ymem.write32 ay (k.readD y.d) } else r
  let r := if moveLoads x then { r with late := r.late ++ [(physD k.rrb x.d, k.xmem.read32 ax)] } else r
  let r := if moveLoads y then { r with late := r.late ++ [(physD k.rrb y.d, k.ymem.read32 ay)] } else r
  let upd (m : DspMove) : Bool := m.mod != 7 && m.mod != 0
  let r := if upd x then { r with p := setAt r.p x.p (k.nextP x) } else r
  if !upd y then r
  else if upd x && x.p == y.p && k.nextP x != k.nextP y then { r with p := setAt r.p y.p (BitVec.ofNat 32 free) }
  else { r with p := setAt r.p y.p (k.nextP y) }

/-! One instruction. -/

/-- A slot operation (Table 08-4); operands from `k`. -/
def DspCore.slotOp (k r : DspCore) (o : DspSlot) : DspCore :=
  let a := (k.readD (16 + o.a)).toInt
  let b := (k.readD o.b).toInt
  let old := k.readAcc o.acc
  let put (v : Int) : DspCore := let w := r.writeAcc o.acc v; { w with accOld := tset w.accOld o.acc old }
  match o.op with
  | 1 => put (old.toInt + a * b)
  | 2 => put (old.toInt - a * b)
  | 3 => put (a * b)
  | 4 => put (-(a * b))
  | 5 => put 0
  | _ => r

/-- An ALU-format operation; operands from `k`. -/
def DspCore.aluIns (k r : DspCore) (op dst a b sh acc free : Nat) : DspCore :=
  let av := k.readAcc acc
  match op with
  | 0x10 => r.writeAcc acc (av.toInt + (k.readAcc a).toInt)
  | 0x11 => r.writeAcc acc (av.toInt * 2 ^ sh)
  | 0x12 => r.writeAcc acc (av.toInt / 2 ^ sh)
  | 0x13 => { r with late := r.late ++ [(physD k.rrb dst, BitVec.extractLsb' 31 32 (k.movaAcc acc))] }
  | 0x14 => { r with late := r.late ++ [(physD k.rrb dst, movasOf (k.movaAcc acc))] }
  | 0x15 => r.writeAcc acc ((k.readD a).toInt * 2147483648)
  | 0x16 => { r with aov := r.aov &&& ~~~(BitVec.ofNat 8 (2 ^ acc)) }
  | _ =>
    let q := k.aluOp op a b sh free
    let r := { r with n := q.2.n, z := q.2.z, v := q.2.v, c := q.2.c }
    if op = 0x0B then r else { r with d := setAt r.d (physD k.rrb dst) q.1 }

/-- RRB decreased by 1 modulo 16 (R318). -/
def DspCore.rotate (k : DspCore) : DspCore := { k with rrb := (k.rrb + 15) % 16 }

/-- An immediate operation; operands from `k`. -/
def DspCore.immIns (k r : DspCore) (op dst src imm : Nat) : DspCore :=
  let w := BitVec.ofNat 32 imm
  let putP (v : BitVec 32) : DspCore :=
    { r with p := setAt r.p dst v, pOld := tset r.pOld dst (k.p.getD dst 0) }
  match op with
  | 0 => { r with d := setAt r.d (physD k.rrb dst) w }
  | 1 => putP w
  | 2 => { r with m := setAt r.m dst w }
  | 3 => { r with lc := setAt r.lc dst (BitVec.ofNat 16 imm) }
  | 4 => { r with d := setAt r.d (physD k.rrb dst) (k.readD src + w) }
  | 5 => putP (k.p.getD src 0 + w)
  | 6 => r.writeSr (k.readD src)
  | 7 => { r with d := setAt r.d (physD k.rrb dst) k.sr }
  | 8 => r.rotate
  | _ => r

/-- A branch condition (Table 08-17). -/
def DspCore.condHolds (k : DspCore) (cond : Nat) : Bool :=
  match cond with
  | 0 => k.z | 1 => !k.z | 2 => k.n | 3 => !k.n | 4 => k.v | 5 => !k.v | 6 => k.c | 7 => !k.c
  | 8 => k.n != k.v | 9 => k.n == k.v | 10 => !k.z && k.n == k.v | 11 => k.z || k.n != k.v
  | _ => false

/-- What an instruction comes to besides registers: it goes on, faults with a cause (event 174), or ends
the invocation. -/
inductive DspEnd where
  | on | fault (cause : Nat) | halt
deriving DecidableEq, Repr

/-- A control operation: the core with its loop, stack, repeat or delay state changed, and the next index
when it is not the one that follows. -/
def DspCore.ctrlIns (k r : DspCore) (op cond cnt addr : Nat) : DspCore × Option Nat × DspEnd :=
  let branch (r : DspCore) (target : Nat) : DspCore × Option Nat × DspEnd :=
    ({ r with delay := some (2, some target) }, none, .on)
  let loop (count : Nat) : DspCore × Option Nat × DspEnd :=
    if 2 ≤ k.loops.length then (r, none, .fault 3)
    else if count = 0 then (r, some (addr + 1), .on)
    else ({ r with loops := ⟨k.pc + 1, addr, count, bit cond 0⟩ :: r.loops }, none, .on)
  match op with
  | 1 => branch r addr
  | 2 => if k.condHolds cond then branch r addr else ({ r with delay := some (2, none) }, none, .on)
  | 3 => if 8 ≤ k.stack.length then (r, none, .fault 3)
         else branch { r with stack := (k.pc + 3) :: r.stack } addr
  | 4 => match k.stack with
    | [] => (r, none, .fault 3)
    | a :: rest => branch { r with stack := rest } a
  | 5 => loop cnt
  | 6 => loop (k.lc.getD (cond / 2) 0).toNat
  | 7 => match k.loops with
    | l :: _ => if l.end_ = k.pc then (r, none, .fault 1) else ({ r with rep := some (cnt + 1) }, none, .on)
    | [] => ({ r with rep := some (cnt + 1) }, none, .on)
  | 8 => ({ r with loops := r.loops.drop 1 }, none, .on)
  | 9 => (r, none, .halt)
  | _ => (r, none, .on)

/-- The end of an iteration at index `at_`, of the innermost loop and of any that ends with it (R318,
R325): the next index, and the cycles a long body costs. -/
def DspCore.loopEnd (at_ : Nat) : Nat → DspCore → DspCore × Nat × Nat
  | 0, k => (k, at_ + 1, 0)
  | fuel + 1, k =>
    match k.loops with
    | [] => (k, at_ + 1, 0)
    | l :: rest =>
      if l.end_ ≠ at_ then (k, at_ + 1, 0)
      else
        let cost := if 64 < l.end_ + 1 - l.start then 2 else 0
        let k := if l.rot then k.rotate else k
        if 1 < l.left then ({ k with loops := { l with left := l.left - 1 } :: rest }, l.start, cost)
        else
          let r := DspCore.loopEnd at_ fuel { k with loops := rest }
          (r.1, r.2.1, cost + r.2.2)

/-- Where control goes after an instruction at `k.pc`: repeats, delay slots, loop ends, the next index. The delay slots of a
branch not taken are followed by what comes after them. -/
def DspCore.advancePc (k r : DspCore) (jump : Option Nat) : DspCore × Nat :=
  let onward (r : DspCore) : DspCore × Nat :=
    let e := DspCore.loopEnd k.pc 2 r
    ({ e.1 with pc := e.2.1 }, e.2.2)
  let r := { r with hold := match k.delay with | some (n, _) => decide (n ≤ 1) | none => false }
  match k.rep with
  | some (n + 2) => ({ r with rep := some (n + 1), pc := k.pc }, 0)
  | other =>
    let r := if other.isSome then { r with rep := none } else r
    match k.delay with
    | some (2, some t) => ({ r with delay := some (1, some t), pc := k.pc + 1 }, 0)
    | some (_, some t) =>
      let out := match r.loops with
        | l :: _ => decide (t < l.start) || decide (l.end_ < t)
        | [] => false
      ({ r with delay := none, pc := t, loops := if out then r.loops.drop 1 else r.loops }, 0)
    | some (n, none) => onward { r with delay := if n = 2 then some (1, none) else none }
    | none =>
      match jump with
      | some t =>
        let e := DspCore.loopEnd (t - 1) 2 r
        ({ e.1 with pc := e.2.1 }, e.2.2)
      | none =>
        let taken := match r.delay with | some (_, t) => t.isSome | none => false
        if taken || r.rep.isSome && k.rep.isNone then ({ r with pc := k.pc + 1 }, 0) else onward r

/-- Whether an instruction is illegal where it stands: a control instruction in a delay slot (R324), or
after a REP anything but DUAL and ALU (R327). -/
def DspCore.misplaced (k : DspCore) : DspIns → Bool
  | .ctrl _ _ _ _ => k.delay.isSome || k.rep.isSome
  | .imm _ _ _ _ => k.rep.isSome
  | _ => false

/-- One legal instruction executed: the core after it, what it came to, and its cycles. -/
def DspCore.execIns (k : DspCore) (i : DspIns) (free : Nat) : DspCore × DspEnd × Nat :=
  let base := { k with d := k.late.foldl (fun d w => setAt d w.1 w.2) k.d, late := [], accOld := [], pOld := [] }
  let fin (r : DspCore) (jump : Option Nat) : DspCore × DspEnd × Nat :=
    let e := k.advancePc r jump
    (e.1, .on, 1 + e.2)
  match i with
  | .dual a b x y =>
    if !k.movesOk x y then (k, .fault 2, 1)
    else fin (k.moves (k.slotOp (k.slotOp base a) b) x y free) none
  | .alu op dst sa sb sh acc x =>
    if !k.movesOk x {} then (k, .fault 2, 1)
    else fin (k.moves (k.aluIns base op dst sa sb sh acc free) x {} free) none
  | .imm op dst src imm => fin (k.immIns base op dst src imm) none
  | .ctrl op cond cnt addr =>
    let r := k.ctrlIns base op cond cnt addr
    match r.2.2 with
    | .on => fin r.1 r.2.1
    | e => (r.1, e, 1)

/-! Samples. -/

/-- The captured samples that an IN_PORT node reads for a grain: the CHAN-th set bit of a port leg's mask
(Table 07-5). -/
def nthSetBit (mask n : Nat) : Option Nat := ((List.range 32).filter fun i => bit mask i)[n]?

/-- The 120 samples of a port's slot in a captured grain; `none` when the ring does not hold it (R360). -/
def Sap.captured (p : Sap) (grain slot : Nat) : Option (List Int) :=
  (p.capture.find? fun g => g.grain == grain).map fun g => g.slots.getD slot (List.replicate 120 0)

end Sys2Proof.Machine
end

