-- ==== Sys2Proof/Machine/Belex.lean ====
section
/-! DEFINITION. How a Belex command runs: the checks of acceptance (R110), the checks at the start of
execution (R111, R13, R69), and its completion (R120). Every row of the Belex opcode table runs through
`runBelex`; a command fetched from a queue runs through the same `executeCmd`. -/

namespace Sys2Proof.Machine

/-- Who owns an object: `none` when no such object exists; otherwise the tenant, or nobody in
particular for a kernel, a serial audio port or a cluster. -/
def State.owner (s : State) (ty idx : Nat) : Option (Option Nat) :=
  match ty with
  | 0 => some none
  | 1 => (s.conf idx).map fun x => some x.tenant
  | 2 => (s.leg idx).map fun x => some x.tenant
  | 3 => (s.flow idx).map fun x => some x.tenant
  | 4 => (tget s.vid.decs idx).map fun x => some x.tenant
  | 5 => (tget s.vid.encs idx).map fun x => some x.tenant
  | 6 => (tget s.vid.canvases idx).map fun x => some x.tenant
  | 7 => (tget s.vid.tiles idx).map fun x => some x.tenant
  | 8 => (tget s.aud.groups idx).bind fun g => (s.conf g.conf).map fun x => some x.tenant
  | 9 => (tget s.aud.dsp.kernels idx).map fun _ => none
  | 10 => some none
  | 11 => (s.beaconLeg idx).bind fun l => (s.leg l).map fun x => some x.tenant
  | 12 => some none
  | 13 => (tget s.trust.keys idx).map fun x => some x.tenant
  | _ => none

/-- The conference an object belongs to (R62). -/
def State.confOf (s : State) (h : Nat) : Option Nat :=
  match hType h with
  | 1 => some (hIdx h)
  | 2 => (s.leg (hIdx h)).map fun l => l.conf
  | 3 => (s.flow (hIdx h)).bind fun f => (s.leg f.leg).map fun l => l.conf
  | 4 => (tget s.vid.decs (hIdx h)).map fun x => x.conf
  | 5 => (tget s.vid.encs (hIdx h)).map fun x => x.conf
  | 6 => (tget s.vid.canvases (hIdx h)).map fun x => x.conf
  | 7 => (tget s.vid.tiles (hIdx h)).map fun x => x.conf
  | 8 => (tget s.aud.groups (hIdx h)).map fun g => g.conf
  | _ => none

/-- The handle checks of R13, in their order, for a handle named in OBJ or in a parameter: type and
range, existence, tenant. Commands that may name an object of any tenant skip the last (R14). 0 means
that all passed. -/
def checkHandle (s : State) (fn : Nat) (anyTenant : Bool) (types : List Nat) (h : Nat) : Nat :=
  let ty := hType h
  let idx := hIdx h
  if !types.contains ty || decide (indexLimit ty ≤ idx) then stBadParam else
  match s.owner ty idx with
  | none => stNoObject
  | some none => 0
  | some (some t) => if t = fn || anyTenant then 0 else stNoObject

/-- Whether an object is in state CLOSING (R69). -/
def State.isClosing (s : State) (h : Nat) : Bool :=
  match hType h with
  | 1 => match s.conf (hIdx h) with | some x => x.state == .closing | none => false
  | 2 => match s.leg (hIdx h) with | some x => x.state == .closing | none => false
  | 3 => match s.flow (hIdx h) with | some x => x.state == .closing | none => false
  | _ => false

/-- Handle and CLOSING checks of an object named in a parameter. -/
def checkParam (s : State) (fn : Nat) (types : List Nat) (h : Nat) : Nat :=
  let r := checkHandle s fn false types h
  if r ≠ 0 then r else if s.isClosing h then stWrongState else 0

/-- The length that the count in the parameters gives, for the opcodes of check 4 of R110. -/
def countedLen (opc : Nat) (c : Cmd) : Option Nat :=
  if opc = 0x0411 then some (24 + 8 * c.u 2 2)
  else if opc = 0x0710 then some (8 + 8 * c.u 0 1)
  else if opc = 0x0A02 then some (8 + 32 * c.u 0 1)
  else if opc = 0x0C12 then some (48 + 4 * (c.u 0 1 * c.u 1 1))
  else if opc = 0x1013 then some (8 + 48 * c.u 0 1)
  else none

/-- Check 5 of R110: the header, R100 and R102. -/
def headerOk (o : OpInfo) (c : Cmd) : Bool :=
  decide (c.pri ≤ 7) && decide (c.flg < 8) && c.aux == 0 &&
  (if c.len ≤ 32 then c.paramAddr == 0 else c.paramAddr % 8 == 0) &&
  (decide (o.maxReply ≤ 48) || (c.resultAddr != 0 && c.resultAddr % 8 == 0))

/-- The checks of acceptance in their order (R110); `none` when the command is accepted. -/
def acceptCheck (o : OpInfo) (c : Cmd) (s : State) : Option Nat :=
  if 4080 < c.len || !o.lens.allows c.len then some stBadLength
  else if 32 < c.len && c.fetchErr then some stIntegrity
  else if (match countedLen o.opc c with | some n => n != c.len | none => false) then some stBadLength
  else if !headerOk o c then some stBadParam
  else if o.operator && c.fn != 0 then some stNotPermitted
  else if !o.accepts s.sys.mode then some stWrongMode
  else if o.long && decide (256 ≤ s.outstanding c.fn opIsLong) then some stBusy
  else none

/-- Opcodes whose OBJ may name an object of any tenant: the operator commands (R14). GUARD_SET, SAP_QUERY,
SAP_STATS and KERNEL_QUERY have rules of their own on who may name the object, checked in their bodies. -/
def anyTenantOp (o : OpInfo) : Bool :=
  o.operator || o.opc == 0x0A04 || o.opc == 0x0702 || o.opc == 0x0730 || o.opc == 0x0602

/-- The create commands with a parent: they check its state after their parameters (R88). -/
def createOps : List Nat := [0x0110, 0x0120, 0x0500, 0x0900, 0x0A00, 0x0B00, 0x0C00]

/-- The checks at the start of execution (R111): the mode, the handle checks of R13, and the refusal
of all but queries on a CLOSING object (R69). -/
def startCheck (o : OpInfo) (c : Cmd) (s : State) : Option Nat :=
  if !o.accepts s.sys.mode then some stWrongMode else
  if 0x0801 ≤ o.opc && o.opc ≤ 0x0803 && hIdx c.obj < 512 then some stBadParam else
  let r := checkHandle s c.fn (anyTenantOp o) o.objs c.obj
  if r ≠ 0 then some r
  else if s.isClosing c.obj && o.kind != .query && !createOps.contains o.opc then some stWrongState
  else none

/-- What a command does once the checks of R111 up to its owning chapter's have passed. -/
abbrev Body := ReplyTo → Cmd → State → Res

/-- Where the reply of a command goes. -/
def replyTo (s : State) (opc : Nat) (c : Cmd) (id : Nat) : ReplyTo :=
  ⟨c.fn, c.sq, c.tag, opc, bit c.flg 1, c.resultAddr, id, (s.func c.fn).epoch⟩

/-- Execution of an accepted command: the checks of R111, then its body, then its completion: a reply
that is final, a reply ACCEPTED with the completion event to follow, or a reply that waits. -/
def executeCmd (o : OpInfo) (body : Body) (whom : ReplyTo) (c : Cmd) (s : State) : State :=
  match startCheck o c s with
  | some sts => s.complete whom sts []
  | none =>
    let r := body whom c s
    if r.deferred then r.st
    else if r.sts = stAccepted then r.st.reply whom r.sts []
    else r.st.complete whom r.sts r.pay

/-- Whether the Belex queues are served: in modes 4 to 11 (R98), and not while a reset is in progress (R692). -/
def State.serving (s : State) : Bool := decide (4 ≤ s.sys.mode.code) && !s.sys.inReset

/-- A Belex command given to the block: accepted under R110 and executed at its instant. A command
that fails a check completes with that check's status and has no effect (R136). -/
def runBelex (opc : Nat) (body : Body) (c : Cmd) (s : State) : Host.Outcome State Fault Refusal :=
  let s := s.advance c.at_
  let whom := replyTo s opc c 0
  if !s.serving then .next s else
  match opInfo opc with
  | none => .next (s.complete whom stBadOpcode [])
  | some o =>
    match acceptCheck o c s with
    | some sts => .next (s.complete whom sts [])
    | none => .next (executeCmd o body whom c s)

end Sys2Proof.Machine
end

