-- ==== Sys2Proof/Machine/DispOps.lean ====
section
/-! DEFINITION. Shared operations of the Dispatcher and on bushels: task entries, pulses, atomic flows and their
bindings, allocation and release of DRAM (files 15 and 16 of spec/). -/

namespace Sys2Proof.Machine

/-! Bushels (R577 to R580). -/

/-- The free pool: 988,928 bushels but for those in use and those waiting for their zero fill. -/
def State.freeBushels (s : State) : Nat :=
  988928 - sumOf s.mem.use (fun p => p.2) - sumOf s.mem.zeroing fun p => p.1

/-- Bushels in use by a tenant. -/
def State.bushelUse (s : State) (t : Nat) : Nat := (tget s.mem.use t).getD 0

/-- Whether an allocation of `n` bushels would succeed (R578). -/
def State.bushelsFit (s : State) (t n : Nat) : Bool :=
  decide (n ≤ s.freeBushels) && decide (s.bushelUse t + n ≤ s.mem.max.getD t 0)

/-- The state after a failed allocation: event 84 when BUSHEL_MAX was the reason (R580). -/
def State.bushelRefused (s : State) (t n : Nat) : State :=
  if s.mem.max.getD t 0 < s.bushelUse t + n then s.raiseWK 84 t 0 (le 1 t ++ le 4 (s.bushelUse t)) else s

/-- `n` bushels charged to a tenant; event 83 when the free pool falls below 10,486. -/
def State.takeBushels (s : State) (t n : Nat) : State :=
  let s := { s with mem := { s.mem with use := tset s.mem.use t (s.bushelUse t + n) } }
  if s.freeBushels < 10486 && !s.mem.low then
    { s with mem := { s.mem with low := true } }.raise 83 0 (le 4 s.freeBushels)
  else s

/-- `n` bushels of a tenant freed: they wait for their zero fill (R579). -/
def State.freeBushel (s : State) (t n : Nat) : State :=
  if n = 0 then s else
  let (draw, s) := s.free
  { s with mem := s.mem.giveBack s.now draw [(t, n)] }

/-- Bushels that a number of bytes takes. -/
def bushelsOf (bytes : Nat) : Nat := (bytes + 65535) / 65536

/-- Bushels of a picture buffer of `w` × `h`: 1.5 bytes per pixel for 8-bit, 3 for 10-bit (R411). -/
def pictureBushels (w h : Nat) (ten : Bool) : Nat := bushelsOf (if ten then w * h * 3 else w * h * 3 / 2)

/-! Tasks (R522 to R526). -/

def State.modDisp (s : State) (f : DispState → DispState) : State := { s with disp := f s.disp }

def State.modTask (s : State) (i : Nat) (f : Task → Task) : State :=
  s.modDisp fun d => { d with tasks := tmod d.tasks i f }

/-- Task entries in use: those of the table, and those of accepted commands. -/
def State.tasksUsed (s : State) : Nat := s.disp.tasks.length + s.cp.cmds.length

/-- A flow of the keys changed; an unknown key starts fresh. -/
def State.modKey (s : State) (k : Nat) (f : AtomicFlow → AtomicFlow) : State :=
  s.modDisp fun d => { d with keys := tset d.keys k (f ((tget d.keys k).getD {})) }

/-- The tasks of a key in given states. -/
def State.keyTasks (s : State) (k : Nat) (p : TaskSt → Bool) : Tbl Task :=
  s.disp.tasks.filter fun t => t.2.key == some k && p t.2.st

/-- Whether a key has a task READY or DISPATCHED. -/
def State.keyBusy (s : State) (k : Nat) : Bool :=
  !(s.keyTasks k fun st => st == .ready || st == .dispatched).isEmpty

/-- A task becomes READY now (R523). -/
def State.makeReady (s : State) (i : Nat) : State :=
  match tget s.disp.tasks i with
  | none => s
  | some t =>
    let s := match t.key with
      | some k => if s.keyBusy k || (tget s.disp.keys k).isSome then s
                  else s.modKey k fun f => { f with firstReady := s.now }
      | none => s
    s.modTask i fun t => { t with st := .ready, readyDt := s.now }

/-- A task entry allocated and armed: WAITING, or READY when RELOAD is 0. A full table refuses it, with event
225; event 224 reports a table nearly full (R522). -/
def State.newTask (s : State) (t : Task) : Option Nat × State :=
  if 262144 ≤ s.tasksUsed then
    (none, s.raiseCount 225 0 0 [])
  else
    let (r, s) := s.free
    let i := freeIndex (tkeys s.disp.tasks) 262144 r
    let s := s.modDisp fun d => { d with tasks := tset d.tasks i { t with st := .waiting, count := t.reload, made := s.now } }
    let s := if 235930 < s.tasksUsed then s.raiseWK 224 0 0 (le 4 s.tasksUsed) else s
    (some i, if t.reload = 0 then s.makeReady i else s)

/-- An atomic key that firmware chooses for a new context: one that no context uses. -/
def State.newKey (s : State) : Nat × State :=
  let (r, s) := s.free
  let used := (s.vid.decs.map fun p => p.2.key) ++ (s.vid.canvases.map fun p => p.2.key) ++
    (s.vid.encs.map fun p => p.2.key) ++ (s.vid.tiles.map fun p => p.2.key)
  (freeIndex used 1048576 r, s)

/-- The binding of a key released when it has no task READY or DISPATCHED (R532). -/
def State.unbind (s : State) (k : Nat) : State :=
  if s.keyBusy k then s else s.modKey k fun f => { f with bound := none }

/-- The binding of a key whose cluster a castling has taken out of service: it moves to the target once no task of the
key runs (R707, R532), or falls when the castling itself is gone. -/
def State.bindFollow (s : State) (k : Nat) : State :=
  match (tget s.disp.keys k).bind fun f => f.bound with
  | none => s
  | some c =>
    if (s.cluster c).state == .active || !(s.keyTasks k fun st => st == .dispatched).isEmpty then s else
    match s.units.castling.getD (regionOf c) none with
    | some x =>
      if x.source = c && x.phase = 4 then
        (s.modKey k fun f => { f with bound := some x.target }).raise 231 (mkHandle 12 c) (le 1 c ++ le 1 x.target ++ le 4 1)
      else s.modKey k fun f => { f with bound := none }
    | none => s.modKey k fun f => { f with bound := none }

/-- A completion pulse reaching a task, carrying an INSTANCE (R523 to R525): an orphan, a stale pulse, or a
decrement of COUNT that may make the task READY. -/
def State.pulse (s : State) (i inst kind : Nat) : State :=
  let orphan (s : State) : State :=
    (s.modDisp fun d => { d with orphans := d.orphans + 1 }).raiseWK 226 i 0 (le 4 i ++ le 1 kind)
  match tget s.disp.tasks i with
  | none => orphan s
  | some t =>
    if t.cls = 0 && t.inst != inst % 256 then s.modDisp fun d => { d with stalePulses := d.stalePulses + 1 }
    else if t.count = 0 then orphan s
    else
      let s := s.modTask i fun t => { t with count := t.count - 1 }
      if t.count = 1 && t.st == .waiting then s.makeReady i else s

/-- Progress of a flow: it leaves stalemate, with event 237 (R540). -/
def State.keyDone (s : State) (k : Nat) : State :=
  let f := (tget s.disp.keys k).getD {}
  let s := s.modKey k fun f => { f with lastDone := some s.now, completed := f.completed + 1, stale := false }
  let s := if f.stale then
      s.raise 237 (match f.bound with | some c => mkHandle 12 c | none => 0) (le 4 k ++ le 1 0)
    else s
  (s.unbind k).bindFollow k

/-- A DISPATCHED task completes: FREE, or DONE when it is periodic; one pulse goes to each successor
(Table 15-3, Table 15-4). -/
def State.taskDone (s : State) (i : Nat) : State :=
  match tget s.disp.tasks i with
  | none => s
  | some t =>
    let s := if t.cls = 0 then s.modTask i fun t => { t with st := .done }
      else s.modDisp fun d => { d with tasks := tdel d.tasks i }
    let s := t.succ.foldl (fun s j => s.pulse j t.runInst 0) s
    match t.key with | some k => s.keyDone k | none => s

/-- A task discarded: its entry is free, and its flow's binding is released when nothing is left. -/
def State.taskDrop (s : State) (i : Nat) : State :=
  match tget s.disp.tasks i with
  | none => s
  | some t =>
    let s := s.modDisp fun d => { d with tasks := tdel d.tasks i }
    match t.key with | some k => s.unbind k | none => s

/-- The tasks of an object that is deleted are discarded (Table 15-3). -/
def State.dropOwned (s : State) (h : Nat) : State :=
  (s.disp.tasks.filter fun p => p.2.owner == h).foldl (fun s p => s.taskDrop p.1) s

/-- A period boundary of a periodic task (R525, R526): the old instance of a task still WAITING or READY is an
overrun. A task still DISPATCHED runs on, and its pulses are stale. -/
def State.periodBoundary (s : State) (i : Nat) : State :=
  match tget s.disp.tasks i with
  | none => s
  | some t =>
    if t.cls ≠ 0 then s else
    let s := if t.st == .waiting || t.st == .ready then
        (s.modDisp fun d => { d with overruns := d.overruns + 1 }).raiseWK 227 i
          (match t.cluster with | some c => mkHandle 12 c | none => 0) (le 4 i ++ le 4 t.owner)
      else s
    let s := s.modTask i fun t => { t with inst := (t.inst + 1) % 256, count := t.reload
                                           st := if t.st == .dispatched then .dispatched else .waiting }
    let s := if t.reload = 0 && t.st != .dispatched then s.makeReady i else s
    match t.key with | some k => s.unbind k | none => s

/-- Timers in use: those of firmware, and those of every missing packet of a reorder buffer (R174). -/
def State.timersUsed (s : State) : Nat :=
  s.disp.timers.length + sumOf s.flows fun p => sumOf p.2.ro.gaps fun g => if g.nackAt.isSome then 2 else 1

/-- The tick on which a timer set now for a deadline fires; none when the deadline lies too far ahead (R530). -/
def State.timerTick (s : State) (deadline : Nat) : Option Nat :=
  if tickOf s.now + 16777216 ≤ tickOf deadline then none
  else some (if deadline ≤ s.now then tickOf s.now + 1 else tickAtOrAfter deadline)

/-- A timer set for a task (R530): refused when its deadline lies too far ahead or all timers are in use, with
event 229. -/
def State.setTimer (s : State) (deadline task : Nat) : State :=
  match s.timerTick deadline with
  | none => s
  | some tick =>
    if 262144 ≤ s.timersUsed then s.raiseCount 229 0 0 []
    else
      let (r, s) := s.free
      let i := freeIndex (tkeys s.disp.timers) 262144 r
      s.modDisp fun d => { d with timers := tset d.timers i ⟨deadline, tick, task⟩ }

/-- What firmware does to a timer. A cancel or a change takes hold before the start of the timer's tick, and later finds it
fired (R531); a change to a refused deadline leaves the timer as it is (DESIGN CHOICE). -/
def State.timerOp (s : State) (o : TimerOp) : State :=
  let live (i : Nat) : Option Timer := (tget s.disp.timers i).filter fun x => decide (s.now < x.tick * tickU)
  match o with
  | .set deadline task => s.setTimer deadline task
  | .cancel i => if (live i).isSome then s.modDisp fun d => { d with timers := tdel d.timers i } else s
  | .change i deadline =>
    match live i, s.timerTick deadline with
    | some x, some tick => s.modDisp fun d => { d with timers := tset d.timers i ⟨deadline, tick, x.task⟩ }
    | _, _ => s

/-! The user class (R535 to R538). -/

/-- An accepted command as an entry of the user class, while it is READY. -/
def CmdEntry.item (e : CmdEntry) : Option UserItem :=
  if e.begun then none else e.ready.map fun r => ⟨e.whom.fn, e.level, r, e.urgent⟩

/-- Control-core work for a tenant as an entry of the user class, while it is READY. -/
def Task.item (t : Task) : Option UserItem :=
  if t.cls = 3 && t.target = 0 && t.st == .ready then some ⟨t.tenant, t.level, t.readyDt, t.urgent⟩ else none

/-- The READY entries of the user class. -/
def State.userItems (s : State) : List UserItem :=
  (s.cp.cmds.filterMap fun p => p.2.item) ++ s.disp.tasks.filterMap fun p => p.2.item

/-- Whether one entry goes before another by R535: by its level; urgent ones first, in the order in which they became so; of one
tenant, in the order in which they became READY. -/
def UserItem.before (a b : UserItem) : Bool :=
  decide (a.level < b.level) ||
  (a.level == b.level &&
    match a.urgent, b.urgent with
    | some x, some y => decide (x < y)
    | some _, none => true
    | none, some _ => false
    | none, none => a.fn == b.fn && decide (a.ready < b.ready))

/-- The tenants of a level that have a READY task there that is not urgent: those of its round in their order, and behind them,
with nothing left to use, those that come to it, in order of their index (DESIGN CHOICE: R535 names deficit round robin only). -/
def State.round (s : State) (level : Nat) : List (Nat × Int) :=
  let live := (s.userItems.filter fun i => i.level == level && i.urgent.isNone).map fun i => i.fn
  let old := ((tget s.disp.rounds level).getD []).filter fun p => live.contains p.1
  old ++ ((List.range 64).filter fun n => live.contains n && !old.any fun p => p.1 == n).map fun n => (n, 0)

/-- A tenant's quantum: WEIGHT × 100 µs of control-core time (R535). -/
def State.quantum (s : State) (fn : Nat) : Int := (s.disp.weights.getD fn 1 * 100 * usU : Nat)

/-- The visits that a tenant of a round still needs until it has time to use. -/
def State.visits (s : State) (p : Nat × Int) : Nat :=
  if 0 < p.2 then 0 else (-p.2 / max 1 (s.quantum p.1)).toNat + 1

/-- The round of a level, turned to the tenant served next: each tenant passed on the way has its quantum added. -/
def State.turned (s : State) (level : Nat) : List (Nat × Int) :=
  let r := s.round level
  let least := (r.map s.visits).foldl min ((r.map s.visits).headD 0)
  let k := r.findIdx fun p => s.visits p == least
  let add (n : Nat) (p : Nat × Int) : Nat × Int := (p.1, p.2 + n * s.quantum p.1)
  (r.drop k).take 1 |>.map (add least) |> fun head =>
    head ++ (r.drop (k + 1)).map (add (least - 1)) ++ (r.take k).map (add least)

/-- Whether an entry is the next of the user class to run (R535). -/
def State.userNext (s : State) (i : UserItem) : Bool :=
  !(s.userItems.any fun x => x.before i) &&
    (i.urgent.isSome || (s.turned i.level).head?.any fun p => p.1 == i.fn)

/-- An entry that begins uses control-core time of its tenant, a free amount; a tenant with none left goes to the end of its
round (R535). -/
def State.userCharge (s : State) (i : UserItem) : State :=
  if i.urgent.isSome then s else
  match s.turned i.level with
  | [] => s
  | p :: rest =>
    let (used, s) := s.free
    let p : Nat × Int := (p.1, p.2 - used)
    s.modDisp fun d => { d with rounds := tset d.rounds i.level (if 0 < p.2 then p :: rest else rest ++ [p]) }

/-- The entries of a tenant that wait in its user-class queues (R538). -/
def State.userWaiting (s : State) (fn : Nat) : Nat :=
  (countOf s.cp.cmds fun p => p.2.whom.fn == fn && !p.2.begun) +
    countOf s.disp.tasks fun p => p.2.cls == 3 && p.2.tenant == fn && (p.2.st == .waiting || p.2.st == .ready)

/-- The wait of an entry of the user class that runs, noted for its tenant (Table 15-10). -/
def State.noteWait (s : State) (fn us : Nat) : State :=
  let w := windowOf s.now
  let (win, now, last) := (tget s.disp.waits fn).getD (0, 0, 0)
  let (now, last) := if win = w then (now, last) else (0, if win + 1 = w then now else 0)
  { s with disp := { s.disp with waits := tset s.disp.waits fn (w, max now us, last) } }

/-- An entry of the user class begins: its wait noted, its control-core time charged. -/
def State.userBegin (s : State) (i : UserItem) : State :=
  (s.userCharge i).noteWait i.fn ((s.now - i.ready) / usU)

/-- The unit kind of an executor kind (Table 15-2), as `kindUnits` names them; none for others. -/
def unitsOfTarget (target : Nat) (audio : Bool) : List Nat :=
  match target with
  | 1 => kindUnits 0 audio | 2 => kindUnits 1 audio | 3 => kindUnits 2 audio | 4 => kindUnits 3 audio
  | 5 => kindUnits 4 audio | 6 => [14] | 9 => [15] | _ => []

/-- Whether an executor has a task. -/
def State.execBusy (s : State) (unit : Nat) : Bool :=
  s.disp.tasks.any fun p => p.2.st == .dispatched && p.2.unit == unit

/-- The executor on which a task runs. -/
def State.unitOf (s : State) (task : Nat) : Option Nat :=
  match tget s.disp.tasks task with
  | some t => if t.st == .dispatched then some t.unit else none
  | none => none

/-- A unit that is reset or woken: its epoch is the region epoch minus 1 until its controller has reloaded it (R711). -/
def State.unitStale (s : State) (c u : Nat) : State :=
  let e := (s.units.epochs.getD (regionOf c) 0 + 65535) % 65536
  s.modCluster c fun k => { k with epochs := setAt k.epochs u e }

/-- A hang of a unit (R417, R438, R486): it is reset, and its task goes back to READY. A unit reset twice in
succession is retired. The truth value says that it was. -/
def State.unitHang (s : State) (unit task : Nat) : Bool × State :=
  let n := (tget s.vid.unitHangs unit).getD 0 + 1
  let s := { s with vid := { s.vid with unitHangs := tset s.vid.unitHangs unit n } }
  let s := s.modTask task fun t => { t with st := .ready, readyDt := s.now, avoid := some unit }
  let s := match (tget s.disp.tasks task).bind fun t => t.key with | some k => s.bindFollow k | none => s
  let s := s.unitStale (unit / 16) (unit % 16)
  if 2 ≤ n then (true, s.unitFailed (unit / 16) (unit % 16) 1) else (false, s)

/-- A unit has completed a frame: its resets are no longer in succession. -/
def State.unitGood (s : State) (unit : Nat) : State :=
  { s with vid := { s.vid with unitHangs := tdel s.vid.unitHangs unit } }

/-- Pixels added to the load of a kind in the present window: 0 decoded, 1 composed, 2 coded. -/
def State.addLoad (s : State) (kind px : Nat) : State :=
  let w := windowOf s.now
  let add (x : Nat × Nat × Nat) : Nat × Nat × Nat :=
    if x.1 = w then (w, x.2.1 + px, x.2.2) else (w, px, if x.1 + 1 = w then x.2.1 else 0)
  { s with vid := { s.vid with load := modAt s.vid.load kind add } }

/-- The load of the last window, in Mpixel/s. -/
def State.lastLoad (s : State) (kind : Nat) : Nat :=
  let x := s.vid.load.getD kind (0, 0, 0)
  let w := windowOf s.now
  (if x.1 = w then x.2.2 else if x.1 + 1 = w then x.2.1 else 0) / 1000000

end Sys2Proof.Machine
end

