-- ==== Sys2Proof/Machine/Memory.lean ====
section
/-! DEFINITION. DRAM and SRAM: controllers, refresh, row activation counting, error correction, scrubbing, self-refresh,
bushels, and the 0x0Exx commands (file 16 of spec/). -/

namespace Sys2Proof.Machine

/-! Addresses (R543, R544). -/

def dramStack (a : Nat) : Nat := bits a 12 11
/-- The pseudo-channel of an address within its stack: channel × 2 + pseudo-channel. -/
def dramPc (a : Nat) : Nat := bits a 16 13 * 2 + bits a 17 17
def dramBank (a : Nat) : Nat := bits a 21 18
def dramRow (a : Nat) : Nat := bits a 35 22
/-- The first byte of the line of an address. -/
def lineOf (a : Nat) : Nat := a / 64 * 64
/-- The local address of a byte within its pseudo-channel. -/
def dramLocal (a : Nat) : Nat := bits a 35 18 * 2048 + a % 2048

def State.modMem (s : State) (f : MemState → MemState) : State := { s with mem := f s.mem }

def State.modLink (s : State) (k : Nat) (f : DieLink → DieLink) : State :=
  { s with units := { s.units with links := modAt s.units.links k f } }

def State.stack (s : State) (k : Nat) : Stack := s.mem.dramStacks.getD k {}

def State.modStack (s : State) (k : Nat) (f : Stack → Stack) : State :=
  s.modMem fun m => { m with dramStacks := modAt m.dramStacks k f }

def State.modPc (s : State) (k p : Nat) (f : PseudoCh → PseudoCh) : State :=
  s.modStack k fun x => { x with pcs := modAt x.pcs p f }

def State.pc (s : State) (k p : Nat) : PseudoCh := (s.stack k).pcs.getD p {}

/-! Correction logs (R568 to R573). Logs 0 to 3 are the stacks', 4 to 6 the dies' SRAM. -/

def State.errLog (s : State) (log : Nat) : List LogEntry :=
  if log < 4 then (s.stack log).log else s.mem.sramLogs.getD (log - 4) []

def State.setLog (s : State) (log : Nat) (l : List LogEntry) : State :=
  if log < 4 then s.modStack log fun x => { x with log := l }
  else s.modMem fun m => { m with sramLogs := setAt m.sramLogs (log - 4) l }

def State.modEntry (s : State) (log addr : Nat) (f : LogEntry → LogEntry) : State :=
  s.setLog log ((s.errLog log).map fun e => if e.addr = addr then f e else e)

def State.entryOf (s : State) (log addr : Nat) : Option LogEntry := (s.errLog log).find? fun e => e.addr == addr

/-- The entry that a new word replaces in a full log: the fewest corrections among those not written back, else the one
updated longest ago; ties to the latter. -/
def logVictim (l : List LogEntry) : Option Nat :=
  let open_ := l.filter fun e => e.st == 0
  let pick (l : List LogEntry) (before : LogEntry → LogEntry → Bool) : Option Nat := ((sortBy before l).head?).map fun e => e.addr
  if open_.isEmpty then pick l fun a b => decide (a.last < b.last)
  else pick open_ fun a b => if a.count = b.count then decide (a.last < b.last) else decide (a.count < b.count)

/-- A correction entered in a log (R568). -/
def State.logCorrection (s : State) (log addr bitNo : Nat) : State :=
  match s.entryOf log addr with
  | some _ => s.modEntry log addr fun e =>
      { e with count := satN 8 (e.count + 1), since := e.since + 1, last := s.now, bit := bitNo }
  | none =>
    let new : LogEntry := { addr := addr, count := 1, bit := bitNo, last := s.now, since := 1 }
    let l := s.errLog log
    if l.length < 64 then s.setLog log (l ++ [new]) else
    let victim := logVictim l
    let s := s.setLog log ((l.filter fun e => some e.addr != victim) ++ [new])
    let c := s.countIn 71 log 1
    c.2.raiseWK 71 log 0 (le 1 log ++ le 4 c.1)

/-- A page of DRAM retired (R570, R571): remapped while a spare is left, else it stays in place with event 68. -/
def State.retirePage (s : State) (addr : Nat) : State :=
  let k := dramStack addr
  let p := dramPc addr
  let page := dramLocal addr / 4096
  let x := s.pc k p
  if x.retired.contains page || x.kept.contains page then s
  else if x.spares = 0 then
    (s.modPc k p fun y => { y with kept := y.kept ++ [page] }).raise 68 0 (le 1 k ++ le 1 (p / 2) ++ le 1 (p % 2))
  else
    let s := s.modPc k p fun y => { y with spares := y.spares - 1, retired := y.retired ++ [page] }
    let s := s.modStack k fun y => { y with retired := y.retired + 1, copyAt := some s.now }
    let s := s.modEntry k (addr / 8 * 8) fun e => if e.st = 3 then e else { e with st := 2 }
    let s := s.raiseRec 66 0 (le 1 k ++ le 8 (addr / 8 * 8) ++ le 2 (x.spares - 1))
    if x.spares - 1 < 64 then s.raise 67 0 (le 1 k ++ le 1 (p / 2) ++ le 1 (p % 2) ++ le 2 (x.spares - 1)) else s

/-- A corrected word of DRAM (R568, R570). -/
def State.dramCorrected (s : State) (addr bitNo : Nat) : State :=
  let k := dramStack addr
  let s := s.modStack k fun x => { x with corrected := x.corrected + 1 }
  let c := s.countIn 64 k 1
  let s := if c.1 = 1000 then c.2.raise 64 0 (le 1 k ++ le 4 c.1) else c.2
  let s := s.logCorrection k addr bitNo
  match s.entryOf k addr with
  | some e => if e.st = 1 && e.since = 2 then s.retirePage addr else s
  | none => s

/-- An uncorrectable line: poisoned, its page retired at once (R572). -/
def State.dramPoison (s : State) (addr req : Nat) : State :=
  let k := dramStack addr
  let line := lineOf addr
  let s := s.modMem fun m => if m.poisoned.contains line then m else { m with poisoned := line :: m.poisoned }
  let s := s.modStack k fun x => { x with uncorrectable := x.uncorrectable + 1 }
  let s := if (s.entryOf k addr).isSome then s
    else (s.logCorrection k addr 0).modEntry k addr fun e => { e with count := 0, since := 0 }
  let s := s.modEntry k addr fun e => { e with st := 3, last := s.now }
  (s.raiseRec 69 0 (le 1 k ++ le 8 addr ++ le 2 req)).retirePage addr

/-- What a poisoned or uncorrectable read does to its requester: an instruction fetch traps its unit (R572). -/
def State.fetchTrap (s : State) (r : DramReq) : State :=
  if r.fetch && decide (r.req < 896) then s.unitFailed (r.req / 16) (r.req % 16) 0 else s

/-- A read of a line under its check bits (R565, R568, R572). The truth value says that it gave good data. -/
def State.dramCheck (s : State) (r : DramReq) (ecc : Ecc) : Bool × State :=
  let line := lineOf r.addr
  if s.mem.poisoned.contains line then
    (false, (s.raiseWK 70 0 0 (le 8 r.addr ++ le 2 r.req)).fetchTrap r)
  else match ecc with
    | .good => (true, s)
    | .corrected w b => (true, s.dramCorrected (line + w % 8 * 8) (b % 72))
    | .uncorrectable w => (false, (s.dramPoison (line + w % 8 * 8) r.req).fetchTrap r)

/-- Whether DRAM can be used: its controllers hold keys, and INIT has filled it (R562, R575). -/
def State.dramLive (s : State) : Bool := s.mem.keyed && s.sys.mode != .init

/-- The counter block of a 16-byte block, by the address that the requester sees, and the write version of its line (R561). -/
def counterBlock (a version : Nat) : BitVec 128 := BitVec.ofNat 32 (a / 16) ++ BitVec.ofNat 26 version ++ 0#70

/-- A byte as DRAM stores it: its plaintext under the keystream of its block, the block's first byte the most significant
(PRESUMED); none without keys. -/
def State.storedByte (s : State) (a : Nat) : Option Byte :=
  match s.mem.keys[dramStack a]? with
  | none => none
  | some k =>
    let stream := Config.dramAes k (counterBlock a ((tget s.mem.versions (lineOf a)).getD 0))
    some (s.mem.dram.read a ^^^ (stream >>> (8 * (15 - a % 16))).setWidth 8)

/-- The version of a line advanced by one write (R563). -/
def MemState.bumpVersion (m : MemState) (line : Nat) : MemState :=
  let v := ((tget m.versions line).getD 0 + 1) % 2 ^ 26
  { m with versions := if v = 0 then tdel m.versions line else tset m.versions line v }

/-- The byte enables of a write, all set when none are given. -/
def enabledAt (r : DramReq) (i : Nat) : Bool := r.enables.isEmpty || r.enables.getD i false

/-- Bytes of a line written under their enables. -/
def writeLine (m : Mem) (line : Nat) (r : DramReq) : Mem :=
  (List.range 64).foldl (fun m i => if enabledAt r i then m.write (line + i) (r.data.getD i 0) else m) m

/-- A write of a line (R547, R563, R566, R567): a write of the whole line clears a poison; one of part of it is a
read-modify-write, which an uncorrectable read turns into a poisoned line. A write counts as a due write-back (R569). -/
def State.dramWrite (s : State) (r : DramReq) (ecc : Ecc) : State :=
  let line := lineOf r.addr
  let k := dramStack r.addr
  let full := (List.range 64).all fun i => enabledAt r i
  let chk := if full then (true, s) else s.dramCheck r ecc
  let s := chk.2.modMem fun m => m.bumpVersion line
  let s := if full || chk.1 then s.modMem fun m =>
      { m with dram := writeLine m.dram line r
               poisoned := if full then m.poisoned.filter fun l => l != line else m.poisoned }
    else s
  let due := (s.errLog k).filter fun e => lineOf e.addr == line && e.st == 0 && decide (4 ≤ e.count)
  due.foldl (fun (s : State) e =>
    (s.modEntry k e.addr fun e => { e with st := 1, since := 0 }).modStack k fun x => { x with writebacks := x.writebacks + 1 }) s

/-! The controllers (R546 to R551, R557 to R559). -/

/-- The refresh interval of a hot stack (R553). -/
def hotInterval : Nat := 1950 * nsU

/-- Whether two requests are to one line. -/
def sameLine (a b : DramReq) : Bool := lineOf a.addr == lineOf b.addr

/-- The pending write that a write merges into (R547): the last of its line, unless a read of the line that came after it waits,
which R548 gives the value before. -/
def PseudoCh.mergesWith (p : PseudoCh) (r : DramReq) : Option DramReq :=
  ((p.wr.filter fun w => sameLine w r).getLast?).filter fun w => !p.rd.any fun x => sameLine x r && decide (w.ord < x.ord)

/-- A write with a later one to its line merged into it: the later data for every enabled byte (R547). -/
def mergedWrite (w r : DramReq) : DramReq :=
  { w with data := (List.range 64).map fun i => if enabledAt r i then r.data.getD i 0 else w.data.getD i 0
           enables := (List.range 64).map fun i => enabledAt w i || enabledAt r i }

/-- A request taken into a pseudo-channel's queues of 64 entries each; it waits while there is no room for it (R546). -/
def PseudoCh.take (p : PseudoCh) (r : DramReq) : PseudoCh :=
  let r := { r with ord := p.taken }
  let p' := { p with taken := p.taken + 1 }
  if !p.behind.isEmpty then { p with behind := p.behind ++ [r] }
  else if !r.write then (if p.rd.length < 64 then { p' with rd := p.rd ++ [r] } else { p with behind := [r] })
  else match p.mergesWith r with
    | some w => { p' with wr := p.wr.map fun x => if x.ord = w.ord then mergedWrite x r else x }
    | none => if p.wr.length < 64 then { p' with wr := p.wr ++ [r] } else { p with behind := [r] }

/-- The requests that waited for room, taken as far as there is room. -/
def PseudoCh.refill (p : PseudoCh) : PseudoCh := p.behind.foldl PseudoCh.take { p with behind := [] }

/-- Whether the controller drains writes now (R547). -/
def PseudoCh.drains (p : PseudoCh) : Bool :=
  let panicRead := p.rd.any fun r => r.panic
  !p.wr.isEmpty && !panicRead && (p.draining && p.wr.length != 16 || decide (48 ≤ p.wr.length) || p.rd.isEmpty)

/-- Whether a request's row is open. -/
def PseudoCh.rowOpen (p : PseudoCh) (r : DramReq) : Bool := tget p.openRow (dramBank r.addr) == some (dramRow r.addr)

/-- Whether the limit of R558 holds a request back. -/
def PseudoCh.held (p : PseudoCh) (now : Nat) (r : DramReq) : Bool :=
  !p.rowOpen r && p.rhWin == now / (32 * msU) && p.limited.any fun l => l.1 == r.req && l.2.1 == dramBank r.addr && decide (now < l.2.2 + 500 * nsU)

/-- The oldest of some requests. -/
def oldest (l : List DramReq) : Option DramReq := (sortBy (fun (a b : DramReq) => decide (a.at_ < b.at_)) l).head?

/-- The request that R546 chooses among some. -/
def PseudoCh.choose (p : PseudoCh) (now : Nat) (l : List DramReq) : Option DramReq :=
  let l := l.filter fun r => !p.held now r
  let rules : List (List DramReq) :=
    [l.filter fun r => r.panic, l.filter fun r => decide (r.at_ + 2 * usU < now), l.filter fun r => p.rowOpen r, l]
  (rules.find? fun x => !x.isEmpty).bind oldest

/-- The request that R546 and R547 choose: the read that follows a write of its line, panic first and alone (R551), writes while
they drain, else reads. -/
def PseudoCh.chosen (p : PseudoCh) (now : Nat) : Option DramReq :=
  let all := p.rd ++ p.wr
  match p.follow.bind fun o => p.rd.find? fun r => r.ord == o with
  | some r => some r
  | none =>
    let panics := all.filter fun r => r.panic
    p.choose now (if !panics.isEmpty then panics else if p.drains then p.wr else p.rd)

/-- The request that goes before a chosen one: of its line, a write that came before a read, and anything that came before a write,
so that a read gives the value of the last write that came before it (R548). -/
def PseudoCh.first (p : PseudoCh) (r : DramReq) : DramReq :=
  let before := (p.rd ++ p.wr).filter fun x => sameLine x r && decide (x.ord < r.ord)
  if r.write || before.any fun x => x.write then
    ((sortBy (fun (a b : DramReq) => decide (a.ord < b.ord)) before).head?).getD r
  else r

/-- The next request of a pseudo-channel (R546 to R548, R551). -/
def PseudoCh.nextReq (p : PseudoCh) (now : Nat) : Option DramReq := (p.chosen now).map p.first

/-- A group of rows that reaches RH_THRESH: the rows beside it are refreshed, and the requester with the most activations to it is
limited, with event 75, unless it is a real-time port; of that, they are refreshed at each further multiple too (R558, R559). -/
def State.rowHammer (s : State) (k p group n most : Nat) : State :=
  let bank := group / 2048
  let row := group % 2048 * 8
  let who := most / 2
  let x := s.pc k p
  if x.rhThr < n && most % 2 == 0 then s else
  let s := s.modPc k p fun x => { x with victims := x.victims ++
    ((if row = 0 then [] else [(bank, row - 1)]) ++ if row + 8 < 16384 then [(bank, row + 8)] else []) }
  if x.rhThr < n then s else
  let limit := most % 2 == 0 && !(x.limited.any fun l => l.1 == who && l.2.1 == bank)
  let s := if limit then
      (s.modPc k p fun x => { x with limited := x.limited ++ [(who, bank, s.now)] }).modStack k fun y =>
        { y with rhLimits := y.rhLimits + 1 }
    else s
  s.raiseWK 75 who 0 (le 1 k ++ le 2 (p * 16 + bank) ++ le 2 who)

/-- The activation that a request needs, counted for its group of rows (R557 to R559). -/
def State.activate (s : State) (k p : Nat) (r : DramReq) : State :=
  let x := s.pc k p
  if x.rowOpen r then s else
  let win := s.now / (32 * msU)
  let bank := dramBank r.addr
  let group := bank * 2048 + dramRow r.addr / 8
  let x := if x.rhWin = win then x
    else { x with rhWin := win, rhCount := [], rhBy := [], limited := [], rhThr := s.mem.rhThresh }
  let n := (tget x.rhCount group).getD 0 + 1
  let by_ := (tget x.rhBy group).getD []
  let who := 2 * r.req + b2n r.port.isSome
  let by_ := tset by_ who ((tget by_ who).getD 0 + 1)
  let limited := x.limited.map fun l => if l.1 = r.req && l.2.1 = bank then (l.1, l.2.1, s.now) else l
  let x : PseudoCh := { x with openRow := tset x.openRow bank (dramRow r.addr), rhCount := tset x.rhCount group n
                               rhBy := tset x.rhBy group by_, limited := limited }
  let s := s.modPc k p fun _ => x
  if n % x.rhThr = 0 then s.rowHammer k p group n (by_.foldl (fun (b : Nat × Nat) q => if b.2 < q.2 then q else b) (who, 0)).1
  else s

/-- Since when the port of a request has raised panic, if it does (R549). -/
def State.panicSince (s : State) (r : DramReq) : Option Nat := r.port.bind fun p => (tget s.mem.rtPorts p).bind fun x => x.panic

/-- What R550 excepts from its bound, in ns: a refresh crossing within its 4,250 ns, a page copy within its 2 µs, and a retraining
of the link that the request crosses. -/
def State.panicExcept (s : State) (k : Nat) (from_ : Nat) (r : DramReq) : Nat :=
  let x := s.stack k
  let near (e : Option Nat) (ns : Nat) : Nat :=
    match e with | some e => if from_ ≤ e + ns * nsU then ns else 0 | none => 0
  near x.crossAt 4250 + near x.copyAt 2000 +
    match linkOf (dieOf r.req) (k / 2) with
    | some l => if (s.units.links.getD l {}).training then 50000 else 0
    | none => 0

/-- The wait of a panic request that issues, from its arrival or from the raise of the panic (R550, R551, Table 16-7). -/
def State.panicWait (s : State) (k : Nat) (r : DramReq) : State :=
  match s.panicSince r with
  | none => s
  | some since =>
    let from_ := max r.at_ since
    let ns := (s.now - from_) / nsU
    let w := windowOf s.now
    let s := s.modStack k fun x =>
      let x := if x.panicWin = w then x
        else { x with panicWin := w, panicNow := 0, panicLast := if x.panicWin + 1 = w then x.panicNow else 0 }
      { x with panicNow := max x.panicNow ns }
    if 600 + s.panicExcept k from_ r < ns then s.raiseWK 77 k 0 (le 1 k ++ le 4 (s.stack k).panicNow) else s

/-- The link that a request crosses to a stack, where it retrains or has kept requests of before waiting (R35, R37). -/
def State.heldLink (s : State) (stack : Nat) (r : DramReq) : Option Nat :=
  (linkOf (dieOf r.req) (stack / 2)).filter fun k => let l := s.units.links.getD k {}; l.waits || !l.held.isEmpty

/-- A request on its way to a pseudo-channel: it enters the queues (R545, R547), or waits at its link (R37). -/
def State.dramOffer (s : State) (stack pc : Nat) (r : DramReq) : State :=
  match s.heldLink stack r with
  | some k => s.modLink k fun l => { l with held := l.held ++ [r] }
  | none => s.modPc stack pc fun p => p.take { r with at_ := min r.at_ s.now }

/-- The requests to a pseudo-channel that waited at a link which does not retrain any more, in their order (R37). -/
def State.dramRelease (s : State) (stack pc : Nat) : State :=
  let mine (r : DramReq) : Bool := dramStack r.addr == stack && dramPc r.addr == pc
  (List.range 3).foldl (fun (s : State) k =>
    let l := s.units.links.getD k {}
    if l.waits then s else
    let s := s.modLink k fun l => { l with held := l.held.filter fun r => !mine r }
    s.modPc stack pc fun p => (l.held.filter mine).foldl (fun (p : PseudoCh) r => p.take { r with at_ := s.now }) p) s

/-- Every request of a pseudo-channel marked by what its port raises now (R549). -/
def State.flagPanics (s : State) (stack pc : Nat) : State :=
  let flag (r : DramReq) : DramReq := { r with panic := (s.panicSince r).isSome }
  s.modPc stack pc fun p => { p with rd := p.rd.map flag, wr := p.wr.map flag }

/-- Requests that have arrived enter the queues of a pseudo-channel, those that waited first. -/
def State.dramTake (s : State) (stack pc : Nat) (mine : List DramReq) : State :=
  (mine.foldl (fun (s : State) r => s.dramOffer stack pc r)
    ((s.dramRelease stack pc).modPc stack pc PseudoCh.refill)).flagPanics stack pc

/-- What a read gives its requester: the line, or, with a poison tag, bytes that are open (R565, R572). -/
def State.readData (s : State) (r : DramReq) (good : Bool) : State :=
  let line := lineOf r.addr
  if good then s.emit (.memRead r.req line (s.mem.dram.readN line 64) false)
  else
    let (open_, s) := s.free
    s.emit (.memRead r.req line (le 64 open_) true)

/-- A request issued: the row it needs, its wait, and its read or write of the array (R546 to R551, R557). -/
def State.dramIssue (s : State) (stack pc : Nat) (r : DramReq) (ecc : Ecc) : State :=
  let s := s.modPc stack pc fun p => { p with draining := p.drains }
  let s := (s.activate stack pc r).panicWait stack r
  let s := s.modPc stack pc fun p =>
    if r.write then { p with wr := p.wr.erase r } else { p with rd := p.rd.erase r }
  if r.write then s.dramWrite r ecc
  else
    let c := s.dramCheck r ecc
    c.2.readData r c.1

/-- A refresh of a pseudo-channel: it closes the rows. With the last of those that a crossing forces, the next interval begins
when it ends, 350 ns later (R552 to R554). -/
def State.refreshIssue (s : State) (stack pc : Nat) : State :=
  let hot := (s.stack stack).hot
  s.modPc stack pc fun p => { p with
    owed := p.owed - 1, forced := p.forced - 1, openRow := []
    dueAt := if hot && decide (p.forced = 1) then some (s.now + 350 * nsU + hotInterval) else p.dueAt }

/-- Whether a stack's non-panic requests are limited to half of its command slots: from stage 2 on of its media die, by the die's
own temperature, by its stacks' or by the power cap (Table 21-6, R699). -/
def State.halved (s : State) (stack : Nat) : Bool := decide (2 ≤ (s.sys.thermal.getD (stack / 2) {}).stage)

/-- The next command of a pseudo-channel: a refresh that is forced, or owed with nothing queued, rows beside one that was
activated too often, or the chosen request (R546, R552, R558). Where half of the slots is the limit, every other one stays
empty that a non-panic request would have (DESIGN CHOICE: Table 21-6 does not say which). -/
def State.dramNext (s : State) (stack pc : Nat) (ecc : Ecc) : State :=
  let x := s.pc stack pc
  if 0 < x.forced || (x.rd.isEmpty && x.wr.isEmpty && decide (0 < x.owed)) then s.refreshIssue stack pc
  else match x.victims with
    | (bank, _) :: more => s.modPc stack pc fun p => { p with victims := more, openRow := tdel p.openRow bank }
    | [] => match x.chosen s.now with
      | none => s
      | some c =>
        let limited := s.halved stack && !c.panic
        if limited && (s.stack stack).spent then s.modStack stack fun y => { y with spent := false } else
        let s := s.modStack stack fun y => { y with spent := limited }
        let r := x.first c
        let s := s.modPc stack pc fun p => { p with follow := if r.ord = c.ord then none else some c.ord }
        s.dramIssue stack pc r ecc

/-- The requests to a line that wait in its queues issued in their order, so that an access that finds it in DRAM finds what was
written before (R548, R588). -/
def State.dramSettle (s : State) (a : Nat) : State :=
  let k := dramStack a
  let p := dramPc a
  let mine := ((s.pc k p).rd ++ (s.pc k p).wr).filter fun r => lineOf r.addr == lineOf a
  if mine.any fun r => r.write then
    (sortBy (fun (x y : DramReq) => decide (x.ord < y.ord)) mine).foldl (fun (s : State) r => s.dramIssue k p r .good) s
  else s

/-- DRAM_COMMAND_ISSUE: requests that have arrived enter the queues of a pseudo-channel, and its controller issues the
next command: a refresh that is forced, or owed with nothing queued, or the request that R546 to R551 choose. -/
def execDramCommandIssue (t stack pc : Nat) (arrive : List DramReq) (ecc : Ecc) (s : State) :
    Host.Outcome State Fault Refusal :=
  let s := s.advance t
  if 4 ≤ stack || 32 ≤ pc || !s.dramLive then .next s else
  let mine := arrive.filter fun r => dramStack r.addr == stack && dramPc r.addr == pc && decide (r.addr < 2 ^ 36)
  let s := if mine.isEmpty then s else s.srExit.modMem fun m => { m with lastReq := s.now }
  if s.mem.selfRefresh then .next s else .next ((s.dramTake stack pc mine).dramNext stack pc ecc)

/-! Refresh and temperature (R552 to R556). -/

def Stack.ceil (x : Stack) : Nat := if x.hot then 4 else 8

/-- The refresh interval (R552, R553). -/
def Stack.interval (x : Stack) : Nat := if x.hot then hotInterval else 3900 * nsU

/-- Whether a refresh of a pseudo-channel falls due by now. The phase of the first is open (R552): it is that of its row. -/
def State.refreshIsDue (s : State) (stack pc : Nat) : Bool :=
  !s.mem.selfRefresh && (match (s.pc stack pc).dueAt with | some d => decide (d ≤ s.now) | none => true)

/-- A refresh that falls due: one more is owed, and what exceeds CEIL is forced; the next falls due an interval later. -/
def State.refreshOwed (s : State) (stack pc : Nat) : State :=
  let x := s.stack stack
  s.modPc stack pc fun p => { p with
    owed := p.owed + 1, forced := max p.forced (p.owed + 1 - x.ceil), dueAt := some (p.dueAt.getD s.now + x.interval) }

/-- REFRESH_DUE: a refresh falls due on a pseudo-channel (R552). -/
def execRefreshDue (t stack pc : Nat) (s : State) : Host.Outcome State Fault Refusal :=
  let s := s.advance t
  .next (if s.refreshIsDue stack pc then s.refreshOwed stack pc else s)

/-- A stack's temperature sample in 0.5 °C steps (R553 to R556). -/
def State.stackTemp (s : State) (k : Nat) (temp : Int) : State :=
  let x := s.stack k
  let hot := if x.hot then !decide (temp < 166) else decide (170 ≤ temp)
  let s := s.modStack k fun x => { x with temp := temp, hot := hot }
  if x.hot = hot then s
  else if !hot then s.raise 73 0 (le 1 k ++ leI 2 temp)
  else
    let excess (p : PseudoCh) : Nat := 2 * p.owed - 4
    let most := x.pcs.foldl (fun m p => max m (excess p)) 0
    let all := sumOf x.pcs excess
    let s := s.modStack k fun x => { x with
      forcedRefresh := x.forcedRefresh + all, crossAt := some s.now
      pcs := x.pcs.map fun p => { p with
        owed := 2 * p.owed, forced := max p.forced (excess p), openRow := []
        dueAt := p.dueAt.map fun d => min d (s.now + hotInterval) } }
    (s.raise 72 0 (le 1 k ++ leI 2 temp)).raise 74 0 (le 1 k ++ le 1 most)

/-! Write-back and patrol scrub (R569, R573, R574). -/

/-- A logged word written back: of a DRAM stack counted, with event 65 (R569). -/
def State.writtenBack (s : State) (log addr : Nat) : State :=
  let s := s.modEntry log addr fun e => { e with st := 1, since := 0 }
  if log < 4 then
    (s.modStack log fun x => { x with writebacks := x.writebacks + 1 }).raise 65 0 (le 1 log ++ le 8 addr)
  else s

/-- SCRUB_WRITEBACK: the corrected line of a word is written back, which keeps its ciphertext and version (R569); a word
of a page that could not be retired, after every further 4 corrections (R571). -/
def execScrubWriteback (t log addr : Nat) (s : State) : Host.Outcome State Fault Refusal :=
  let s := s.advance t
  match s.entryOf log addr with
  | none => .next s
  | some e =>
    let again := e.st == 1 && decide (4 ≤ e.since)
    if log < 4 && (s.mem.selfRefresh || !s.dramLive) || !((e.st == 0 && decide (4 ≤ e.count)) || again) then .next s else
    .next (s.writtenBack log addr)

/-- The die number of an SRAM log in the events: media dies 0 and 1, the hub die 2. -/
def logDie (log : Nat) : Nat := log - 4

/-- The cluster of a log's die, if the one named is (R32): an error of a die is handled in that die only. -/
def logCluster (log : Nat) (cluster : Option Nat) : Option Nat := cluster.filter fun k => decide (k < 56) && k / 28 == logDie log

/-- A corrected SRAM word (R568, R573); `cluster` is the cluster whose SRAM it is, if any. The spare words are the hub die's. -/
def State.sramCorrected (s : State) (log addr bitNo : Nat) (cluster : Option Nat) : State :=
  let c := s.countIn 85 log 1
  let s := if c.1 = 1000 then c.2.raise 85 0 (le 1 (logDie log) ++ le 4 c.1) else c.2
  let s := s.logCorrection log addr bitNo
  match s.entryOf log addr with
  | none => s
  | some e =>
    if !(e.st == 1 && e.since == 2) then s else
    match logCluster log cluster with
    | none =>
      if s.mem.hubSpares = 0 || log ≠ 6 then s else
      let s := (s.modEntry log addr fun e => { e with st := 2 }).modMem fun m => { m with hubSpares := m.hubSpares - 1 }
      s.raise 87 0 (le 1 (logDie log) ++ le 4 addr ++ le 1 0)
    | some k =>
      let s := (s.modEntry log addr fun e => { e with st := 2 }).raise 87 (mkHandle 12 k) (le 1 (logDie log) ++ le 4 addr ++ le 1 1)
      if s.units.autoCastle && (s.cluster k).state == .active && !(s.units.waiting.any fun w => w.1 == k) then
        { s with units := { s.units with waiting := s.units.waiting ++ [(k, 16)] } }
      else s

/-- Lines of a stack. -/
def stackLines : Nat := 268435456

/-- An SRAM word that the scrubber reads (R573, R574). -/
def State.scrubSram (s : State) (log addr : Nat) (cluster : Option Nat) (ecc : Ecc) (who : Nat) : State :=
  match ecc with
  | .good => s
  | .corrected _ b => s.sramCorrected log (addr / 8 * 8) (b % 72) cluster
  | .uncorrectable _ => s.raise 86 0 (le 1 (logDie log) ++ le 4 addr ++ le 2 who)

/-- Whether the scrubber may read a line of a stack: an idle slot, no write of the line pending and no panic (R574). -/
def State.scrubIdle (s : State) (log addr : Nat) : Bool :=
  let p := s.pc log (dramPc addr)
  !s.mem.selfRefresh && dramStack addr == log && s.dramLive && !(p.wr.any fun w => lineOf w.addr == lineOf addr) &&
    !((p.rd ++ p.wr).any fun q => q.panic)

/-- A DRAM line that the scrubber reads; the last line of a stack ends its pass with event 82 (R574). -/
def State.scrubLine (s : State) (log addr : Nat) (ecc : Ecc) (who : Nat) : State :=
  let bad := s.mem.poisoned.contains (lineOf addr) || (match ecc with | .uncorrectable _ => true | _ => false)
  let fixed := match ecc with | .corrected _ _ => true | _ => false
  let s := (s.dramCheck { addr := addr, req := who } ecc).2
  let s := s.modStack log fun x => { x with scrubAt := x.scrubAt + 1, scrubCorr := x.scrubCorr + b2n fixed
                                            scrubBad := x.scrubBad + b2n bad }
  let x := s.stack log
  if x.scrubAt < stackLines then s
  else (s.modStack log fun x => { x with scrubAt := 0, scrubCorr := 0, scrubBad := 0 }).raise 82 0
    (le 1 log ++ le 4 x.scrubCorr ++ le 4 x.scrubBad)

/-- PATROL_SCRUB: the scrubber reads a DRAM line (logs 0 to 3) or an SRAM word (4 to 6) in an idle slot (R574). The
requester that events 69 and 86 name for it is not given: a free value. -/
def execPatrolScrub (t log addr : Nat) (cluster : Option Nat) (ecc : Ecc) (s : State) : Host.Outcome State Fault Refusal :=
  let s := s.advance t
  let r := s.free
  let who := r.1 % 65536
  let s := r.2
  if 4 ≤ log then
    if 7 ≤ log then .next s else .next (s.scrubSram log addr cluster ecc who)
  else if !s.scrubIdle log addr then .next s else .next (s.scrubLine log addr ecc who)

/-! Self-refresh and bushels (R560, R579). -/

/-- Whether no request has come for SR_IDLE in STANDBY (R560). -/
def State.memIdle (s : State) : Bool :=
  let busy := s.mem.dramStacks.any fun x => x.pcs.any fun p => !p.rd.isEmpty || !p.wr.isEmpty
  s.sys.mode == .standby && !s.mem.selfRefresh && !busy && decide (s.mem.lastReq + s.mem.srIdleMs * msU ≤ s.now)

/-- SELF_REFRESH_ENTER: no request for SR_IDLE in STANDBY (R560). -/
def execSelfRefreshEnter (t : Nat) (s : State) : Host.Outcome State Fault Refusal :=
  let s := s.advance t
  if s.memIdle then
    .next ((s.modMem fun m => { m with selfRefresh := true, selfSince := s.now }).raise 78 0 (le 4 (dtSec s.now)))
  else .next s

/-- The first address of a bushel that a draw names in a place: one of the free pool, behind those reserved (R577, R578). -/
def bushelAddr (draw i : Nat) : Nat := (59648 + Config.bushelAt draw i % 988928) * 65536

/-- A bushel filled with zeros: each of its lines written once (R563, R579). -/
def MemState.zeroFill (m : MemState) (a : Nat) : MemState :=
  let m := { m with dram := m.dram.clear a 65536, poisoned := m.poisoned.filter fun l => decide (l < a) || decide (a + 65536 ≤ l) }
  (List.range 1024).foldl (fun (m : MemState) i => m.bumpVersion (a + 64 * i)) m

/-- Bushels of one freed allocation filled with zeros and free again. -/
def MemState.refilled (m : MemState) : MemState :=
  match m.zeroing with
  | [] => m
  | (n, _, draw) :: more => (List.range n).foldl (fun (m : MemState) i => m.zeroFill (bushelAddr draw i)) { m with zeroing := more }

/-- BUSHEL_ZERO_FILL: the oldest freed bushels have been filled with zeros and are free again (R579). -/
def execBushelZeroFill (t : Nat) (s : State) : Host.Outcome State Fault Refusal :=
  let s := s.advance t
  let s := s.modMem MemState.refilled
  .next (if 10486 ≤ s.freeBushels then s.modMem fun m => { m with low := false } else s)

/-! Commands. -/

/-- MEM_QUERY (Table 16-7). -/
def bodyMemQuery : Body := fun _ c s =>
  if !(c.rng 0 1 0 3 && c.zero 1 3) then .fail s stBadParam else
  let x := s.stack (c.u 0 1)
  let w := windowOf s.now
  let panic := if x.panicWin = w then x.panicLast else if x.panicWin + 1 = w then x.panicNow else 0
  .ok s (le 1 (b2n s.mem.selfRefresh) ++ leI 1 (x.temp / 2) ++ le 1 (b2n x.hot) ++ zeros 1 ++ le 4 x.corrected ++
    le 4 x.uncorrectable ++ le 4 x.writebacks ++ le 4 x.retired ++ le 4 (sumOf x.pcs fun p => p.spares) ++
    le 4 x.rhLimits ++ le 4 x.forcedRefresh ++ le 4 panic ++ le 4 (x.scrubAt * 1000000 / stackLines) ++
    le 4 s.freeBushels ++ zeros 4)

/-- MEM_LOG_READ (Table 16-8). -/
def bodyMemLogRead : Body := fun _ c s =>
  if !(c.rng 0 1 0 6 && c.zero 1 3) then .fail s stBadParam else
  .ok s (padTo 1024 ((s.errLog (c.u 0 1)).flatMap fun e =>
    le 8 e.addr ++ le 1 e.count ++ le 1 e.st ++ le 1 e.bit ++ zeros 1 ++ le 4 (dtSec e.last)))

/-- MEM_SET: at acceptance; RH_THRESH from the next 32 ms window (R581). -/
def bodyMemSet : Body := fun _ c s =>
  if !(c.rng0 0 2 256 16384 && c.rng0 2 2 10 10000 && c.zero 4 4) then .fail s stBadParam
  else .ok (s.modMem fun m => { m with rhThresh := c.dflt 0 2 2048, srIdleMs := c.dflt 2 2 100 })

/-- MEM_TENANT_SET (R580). -/
def bodyMemTenantSet : Body := fun _ c s =>
  if !(c.rng 0 1 0 63 && c.zero 1 3 && c.rng 4 4 0 1048576) then .fail s stBadParam
  else .ok (s.modMem fun m => { m with max := setAt m.max (c.u 0 1) (c.u 4 4) })

/-- MEM_TENANT_QUERY (R581). -/
def bodyMemTenantQuery : Body := fun _ c s =>
  let n := c.u 0 1
  if !(c.rng 0 1 0 63 && c.zero 1 3) then .fail s stBadParam else
  if c.fn ≠ 0 && c.fn ≠ n then .fail s stNotPermitted else
  .ok s (le 4 (s.mem.max.getD n 0) ++ le 4 (s.bushelUse n) ++ le 4 s.freeBushels ++ zeros 4)

end Sys2Proof.Machine
end

