-- ==== Sys2Proof/Machine/Wire.lean ====
section
/-! DEFINITION. What leaves on a port, as bytes: session keys and the sealing of SRTP and SRTCP (R5, R639), and the frames of
Ethernet, ARP, IP, ICMP, UDP, RTP, RTCP, STUN, DTLS and PTP in network byte order (R8). The layouts are those of the standards
that the spec names (PRESUMED); fields that neither fixes are open values of the frame. -/

namespace Sys2Proof.Machine

/-! Keys (R638, R639, Table 19-2). -/

/-- The tag length of a profile for SRTP and SRTCP (Table 19-2). -/
def tagLen (profile : Nat) (rtcp : Bool) : Nat :=
  match profile with
  | 1 => 10 | 2 => if rtcp then 10 else 4 | 3 => 10 | 4 => 16 | 5 => 16 | _ => 0

/-- The lengths of a profile's session keys: cipher key, authentication key (the profiles with HMAC-SHA-1) and salt. -/
def keyLens (profile : Nat) : List Nat :=
  match profile with
  | 1 | 2 | 3 => [16, 20, 14] | 4 => [16, 0, 12] | 5 => [32, 0, 12] | _ => [0, 0, 0]

/-- The six session keys of a crypto state, for SRTP and then for SRTCP, each cipher key, authentication key and salt, derived
from the master key and salt with the key derivation rate 0 (R639). -/
def Crypto.sessionKeys (c : Crypto) : List (List Byte) :=
  (keyLens c.profile ++ keyLens c.profile).zipIdx.map fun q =>
    (List.range q.1).map fun i => Config.kdfByte c.profile c.keySalt q.2 i

/-- A packet's payload sealed: the ciphertext, then the tag; in the clear where nothing seals it. -/
def sealed (k : Option Seal) (rtcp : Bool) (head body : List Byte) : List Byte :=
  match k with
  | none => body
  | some k => (List.range (body.length + tagLen k.profile rtcp)).map (Config.srtpByte k.profile k.keys k.index head body)

/-! Checks. -/

/-- The sum of the 16-bit words of a byte string. -/
def sum16 : List Byte → Nat
  | [] => 0
  | [a] => a.toNat * 256
  | a :: b :: r => a.toNat * 256 + b.toNat + sum16 r

/-- The Internet checksum of a byte string. -/
def inetSum (l : List Byte) : Nat :=
  let fold (x : Nat) : Nat := x / 65536 + x % 65536
  65535 - fold (fold (sum16 l))

/-- One bit of a CRC-32 register of IEEE 802.3. -/
def fcsBit (c : Nat) : Nat := if c % 2 = 1 then (c >>> 1) ^^^ 0xEDB88320 else c >>> 1

/-- CRC-32 of IEEE 802.3. -/
def crc32 (l : List Byte) : Nat :=
  let byte (c : Nat) (b : Byte) : Nat := fcsBit (fcsBit (fcsBit (fcsBit (fcsBit (fcsBit (fcsBit (fcsBit (c ^^^ b.toNat))))))))
  (l.foldl byte 0xFFFFFFFF) ^^^ 0xFFFFFFFF

/-- Zeros up to a multiple of `n` bytes. -/
def padMul (n : Nat) (l : List Byte) : List Byte := l ++ zeros ((n - l.length % n) % n)

/-! RTP (RFC 3550, RFC 8285). -/

/-- The bytes of a Dependency Descriptor: the 3 that every one has, and with a template structure or a mask of active decode
targets 5 flags, the mask and the structure. The template and the mask are open. -/
def ddWire (l : Layer) (o : Nat → Nat) : List Byte :=
  be 1 (b2n l.first * 128 + b2n l.last * 64 + o 8 % 64) ++ be 2 l.frame ++
    be ((5 + l.targets + 7) / 8) ((b2n (!l.tpl.isEmpty) * 16 + 8) * 2 ^ ((5 + l.targets + 7) / 8 * 8 - 5) + o 9 % 2 ^ l.targets) ++ l.tpl

/-- The header extension elements that a packet carries, each with its index in EXT_IDS. -/
def extElems (p : Rtp) (o : Nat → Nat) : List (Nat × List Byte) :=
  (match p.level with | some v => [(0, be 1 v)] | none => []) ++
  (match p.twcc with | some n => [(1, be 2 n)] | none => []) ++
  (if p.mid.isEmpty then [] else [(2, p.mid)]) ++ (if p.rid.isEmpty then [] else [(3, p.rid)]) ++
  (if p.layer.dd.isSome then [(5, ddWire p.layer o)] else [])

/-- Whether the extensions take the two-byte form: an ID above 14, or an element of more than 16 bytes (Table 05-7). -/
def twoByte (p : Rtp) : Bool := (extElems p fun _ => 0).any fun e => decide (14 < p.ids.getD e.1 0) || decide (16 < e.2.length)

/-- The header extension block of a packet, in the one-byte or the two-byte form, in whole words. -/
def extWire (p : Rtp) (o : Nat → Nat) : List Byte :=
  let two := twoByte p
  let elem (e : Nat × List Byte) : List Byte :=
    let id := p.ids.getD e.1 0
    (if two then be 1 id ++ be 1 e.2.length else be 1 (id * 16 + (e.2.length - 1))) ++ e.2
  let l := padMul 4 ((extElems p o).flatMap elem)
  if l.isEmpty then [] else be 2 (if two then 0x1000 else 0xBEDE) ++ be 2 (l.length / 4) ++ l

/-- The smallest FlexFEC mask, of 15, 46 or 109 bits, that covers packets at some distances from the first (R272). -/
def fecMaskBits (dist : List Nat) : Nat :=
  let m := dist.foldl max 0
  if m < 15 then 15 else if m < 46 then 46 else 109

/-- The mask of a flexible repair packet, its first bit the first packet: 15 bits, 31 more, and 63 more, each part after a
bit that says whether it is the last (RFC 8627). -/
def fecMask (seqs : List Nat) : List Byte :=
  let base := seqs.headD 0
  let dist := seqs.map fun n => (n + 65536 - base % 65536) % 65536
  let part (from_ n : Nat) : Nat :=
    dist.foldl (fun a d => if from_ ≤ d && decide (d < from_ + n) then a ||| 2 ^ (n - 1 - (d - from_)) else a) 0
  match fecMaskBits dist with
  | 15 => be 2 (32768 + part 0 15)
  | 46 => be 2 (part 0 15) ++ be 4 (2 ^ 31 + part 15 31)
  | _ => be 2 (part 0 15) ++ be 4 (part 15 31) ++ be 8 (2 ^ 63 + part 46 63)

/-- The repair header and parity of a FlexFEC packet (RFC 8627): F = 1 with L and D, or F = 0 with a mask (R272). -/
def fecWire (h : FecHdr) : List Byte :=
  be 1 (b2n h.fixed.isSome * 64 + h.cc % 16) ++ be 1 (b2n h.marker * 128 + h.pt) ++ be 2 h.len ++ be 4 h.ts ++
    be 2 (h.seqs.headD 0) ++
    (match h.fixed with | some (l, d) => be 1 l ++ be 1 d | none => fecMask h.seqs) ++
    h.csrc.flatMap (be 4) ++ h.payload

/-- The header of an RTP packet, which SRTP authenticates and leaves in the clear (R638). A repair packet names the source it
protects in its CSRC list. -/
def rtpHead (p : Rtp) (o : Nat → Nat) : List Byte :=
  let csrc := match p.fec with | some h => [h.ssrc] | none => p.csrc
  let ext := extWire p o
  be 1 (128 + b2n (p.pad != 0) * 32 + b2n (!ext.isEmpty) * 16 + csrc.length) ++ be 1 (b2n p.marker * 128 + p.pt) ++
    be 2 p.seq ++ be 4 p.ts ++ be 4 p.ssrc ++ csrc.flatMap (be 4) ++ ext

/-- The payload of an RTP packet: of a repair packet its repair header and parity, of an RTX packet the original sequence
number and the original payload (RFC 4588); then the padding. -/
def rtpBody (p : Rtp) : List Byte :=
  (match p.fec with | some h => fecWire h | none => (match p.osn with | some n => be 2 n | none => []) ++ p.payload) ++
    (if p.pad = 0 then [] else zeros (p.pad - 1) ++ be 1 p.pad)

/-- Bytes of an RTP packet before protection. -/
def rtpBytes (p : Rtp) : Nat := (rtpHead p fun _ => 0).length + (rtpBody p).length

/-! RTCP (RFC 3550, RFC 4585, RFC 5104, and the transport-wide feedback that browsers use). -/

/-- An RTCP packet: count or format, type, and its body in whole words. -/
def rtcpPart (count typ : Nat) (body : List Byte) : List Byte :=
  let l := padMul 4 body
  be 1 (128 + count) ++ be 1 typ ++ be 2 (l.length / 4) ++ l

/-- Two bits a packet, seven packets a chunk: lost, or its delta small or large (transport-wide feedback). -/
def twccChunks : Nat → List Nat → List Byte
  | 0, _ => []
  | fuel + 1, l =>
    if l.isEmpty then [] else
    be 2 (49152 + (((List.range 7).map fun i => l.getD i 0).foldl (fun a x => a * 4 + x) 0)) ++ twccChunks fuel (l.drop 7)

/-- Symbols and deltas of marks: each delta counts 250 µs steps from the mark before that arrived. -/
def twccSymbols : Nat → List (Nat × Option Nat) → List (Nat × List Byte)
  | _, [] => []
  | last, (_, none) :: r => (0, []) :: twccSymbols last r
  | last, (_, some t) :: r =>
    let d : Int := (t : Int) - last
    (if 0 ≤ d && d ≤ 255 then (1, be 1 d.toNat) else (2, (leI 2 d).reverse)) :: twccSymbols t r

/-- Transport-wide feedback: base, count, reference time in 64 ms steps, feedback count (open), chunks and deltas. -/
def twccWire (marks : List (Nat × Option Nat)) (o : Nat → Nat) : List Byte :=
  let first := (marks.findSome? fun m => m.2).getD 0 / 256
  let sym := twccSymbols (first * 256) marks
  be 2 ((marks.head?.map fun m => m.1).getD 0) ++ be 2 marks.length ++ be 3 (first % 2 ^ 24) ++ be 1 (o 10) ++
    twccChunks sym.length (sym.map fun x => x.1) ++ sym.flatMap fun x => x.2

/-- A report block (RFC 3550). -/
def blockWire : RtcpItem → List Byte
  | .block ssrc lost total ext jitter lsr dlsr =>
    be 4 ssrc ++ be 1 lost ++ be 3 total ++ be 4 ext ++ be 4 jitter ++ be 4 lsr ++ be 4 dlsr
  | _ => []

/-- An RTCP item as the packet that it begins, with the report blocks that follow it: `ssrc` is the sender. The packet and
octet counts of a sender report are open. -/
def itemWire (ssrc : Nat) (o : Nat → Nat) (blocks : List RtcpItem) : RtcpItem → List Byte
  | .sr x ntp rtp =>
    rtcpPart blocks.length 200 (be 4 x ++ be 8 ntp ++ be 4 rtp ++ be 4 (o 11) ++ be 4 (o 12) ++ blocks.flatMap blockWire)
  | .rr => rtcpPart blocks.length 201 (be 4 ssrc ++ blocks.flatMap blockWire)
  | .block _ _ _ _ _ _ _ => []
  | .sdes c => rtcpPart 1 202 (be 4 ssrc ++ be 1 1 ++ be 1 c.length ++ c ++ be 1 0)
  | .nack x l => rtcpPart 1 205 (be 4 ssrc ++ be 4 x ++ l.flatMap fun n => be 2 n ++ be 2 0)
  | .pli x => rtcpPart 1 206 (be 4 ssrc ++ be 4 x)
  | .fir x n => rtcpPart 4 206 (be 4 ssrc ++ be 4 0 ++ be 4 x ++ be 1 n ++ be 3 0)
  | .twcc _ m => rtcpPart 15 205 (be 4 ssrc ++ be 4 0 ++ twccWire m o)
  | .elzc x e s t => rtcpPart 0 204 (be 4 ssrc ++ [0x45, 0x4C, 0x5A, 0x43] ++ be 4 x ++ be 1 e ++ be 1 s ++ be 1 t ++ be 1 0)
  | .bye x => rtcpPart 1 203 (be 4 x)
  | .other => []

/-- Whether an item is a report block. -/
def isBlock : RtcpItem → Bool
  | .block _ _ _ _ _ _ _ => true
  | _ => false

/-- A compound RTCP packet before protection. -/
def rtcpItems (ssrc : Nat) (o : Nat → Nat) : List RtcpItem → List Byte
  | [] => []
  | i :: r => itemWire ssrc o (r.takeWhile isBlock) i ++ rtcpItems ssrc o r

/-- Bytes of an SRTCP packet but for its tag: its items, and the word with the E bit and the index. -/
def rtcpBytes (p : Rtcp) : Nat := (rtcpItems p.ssrc (fun _ => 0) p.items).length + 4

/-- An SRTCP packet: the first 8 bytes in the clear, the E bit with the index, and the tag: after the index with HMAC-SHA-1
(RFC 3711), before it with GCM (RFC 7714). -/
def srtcpWire (k : Option Seal) (p : Rtcp) (o : Nat → Nat) : List Byte :=
  let l := rtcpItems p.ssrc o p.items
  let e := be 4 (b2n p.encrypted * 2 ^ 31 + p.index)
  let c := sealed k true (l.take 8) (l.drop 8)
  match k with
  | none => l
  | some k => if 4 ≤ k.profile then l.take 8 ++ c ++ e else l.take 8 ++ c.take (l.length - 8) ++ e ++ c.drop (l.length - 8)

/-! STUN (RFC 8489), PTP (IEEE 1588-2019). -/

/-- A STUN Binding response: XOR-MAPPED-ADDRESS, MESSAGE-INTEGRITY and FINGERPRINT (R152). -/
def stunWire (v6 : Bool) (m : Stun) : List Byte :=
  let cookie := be 4 0x2112A442
  let tid := be 12 m.transaction
  let head (len : Nat) : List Byte := be 2 0x0101 ++ be 2 len ++ cookie ++ tid
  let xor (a b : List Byte) : List Byte := (a.zip b).map fun q => q.1 ^^^ q.2
  let mapped := match m.mapped with
    | some (ip, port) => be 2 0x0020 ++ be 2 (if v6 then 20 else 8) ++ be 1 0 ++ be 1 (if v6 then 2 else 1) ++
        xor (be 2 port) cookie ++ xor (if v6 then be 16 ip else be 4 ip) (cookie ++ tid)
    | none => []
  let n := mapped.length
  let mac := (List.range 20).map (Config.hmacSha1Byte m.integrityPwd (head (n + 24) ++ mapped))
  let body := mapped ++ be 2 0x0008 ++ be 2 20 ++ mac
  let whole := head (n + 32) ++ body
  whole ++ be 2 0x8028 ++ be 2 4 ++ be 4 (crc32 whole ^^^ 0x5354554E)

/-- An instant as a PTP timestamp: 48 bits of seconds and 32 of nanoseconds. -/
def ptpStamp (t : Nat) : List Byte := be 6 (dtSec t) ++ be 4 (dtNs t)

/-- The common header of a PTP message: its type, its length, its domain; flags, correction, sequence number and interval are
open, and the port identity is the clock's one port. -/
def ptpHead (typ len domain flags : Nat) (o : Nat → Nat) : List Byte :=
  be 1 typ ++ be 1 2 ++ be 2 len ++ be 1 domain ++ be 1 0 ++ be 2 flags ++ be 8 (o 13) ++ be 4 0 ++ be 8 Config.clockIdentity ++ be 2 1 ++
    be 2 (o 16) ++ be 1 (o 17) ++ be 1 (o 18)

/-- A PTP message (R670). -/
def ptpWire (domain : Nat) (m : Ptp) (o : Nat → Nat) : List Byte :=
  match m with
  | .announce id cls acc var p1 p2 steps utc valid l61 l59 =>
    ptpHead 11 64 domain (b2n l61 + b2n l59 * 2 + b2n valid * 4 + 8) o ++ zeros 10 ++ be 2 utc ++ be 1 0 ++ be 1 p1 ++ be 1 cls ++
      be 1 acc ++ be 2 var ++ be 1 p2 ++ be 8 id ++ be 2 steps ++ be 1 (o 19)
  | .sync _ origin _ => ptpHead 0 44 domain 512 o ++ ptpStamp origin
  | .followUp origin => ptpHead 8 44 domain 0 o ++ ptpStamp origin
  | .delayReq _ => ptpHead 1 44 domain 0 o ++ zeros 10
  | .pdelayReq _ => ptpHead 2 54 domain 0 o ++ zeros 20
  | .pdelayResp peer received => ptpHead 3 54 domain 512 o ++ ptpStamp received ++ be 8 peer ++ be 2 (o 20)
  | .pdelayFollowUp peer origin => ptpHead 10 54 domain 0 o ++ ptpStamp origin ++ be 8 peer ++ be 2 (o 20)
  | .delayResp peer received => ptpHead 9 54 domain 0 o ++ ptpStamp received ++ be 8 peer ++ be 2 (o 20)
  | .other => []

/-! IP and Ethernet. -/

/-- What a UDP datagram carries. -/
def udpBody (k : Option Seal) (v6 : Bool) (o : Nat → Nat) : UdpBody → List Byte
  | .stun m => stunWire v6 m
  | .dtls r => r
  | .rtp p => rtpHead p o ++ sealed k false (rtpHead p o) (rtpBody p)
  | .rtcp p => srtcpWire k p o
  | .ptp d _ m => ptpWire d m o
  | .other => []

/-- The pseudo-header of an upper-layer checksum. -/
def pseudoHead (v6 : Bool) (src dst proto len : Nat) : List Byte :=
  if v6 then be 16 src ++ be 16 dst ++ be 4 len ++ be 4 proto else be 4 src ++ be 4 dst ++ be 1 0 ++ be 1 proto ++ be 2 len

/-- A UDP datagram. -/
def udpWire (v6 : Bool) (src dst sp dp : Nat) (body : List Byte) : List Byte :=
  let n := 8 + body.length
  let head := be 2 sp ++ be 2 dp ++ be 2 n
  let c := inetSum (pseudoHead v6 src dst 17 n ++ head ++ be 2 0 ++ body)
  head ++ be 2 (if c = 0 then 65535 else c) ++ body

/-- An ICMP or ICMPv6 message, whose checksum is its third and fourth byte. -/
def icmpWire (v6 : Bool) (src dst typ : Nat) (rest : List Byte) : List Byte :=
  let n := 4 + rest.length
  let c := inetSum ((if v6 then pseudoHead true src dst 58 n else []) ++ be 1 typ ++ be 1 0 ++ be 2 0 ++ rest)
  be 1 typ ++ be 1 0 ++ be 2 c ++ rest

/-- The protocol of an IP packet that is sent, and its payload: a datagram, an echo reply (whose data is open), or a neighbour
advertisement. -/
def ipPayload (k : Option Seal) (v6 : Bool) (src dst mac len : Nat) (o : Nat → Nat) : IpBody → Nat × List Byte
  | .udp sp dp _ _ b => (17, udpWire v6 src dst sp dp (udpBody k v6 o b))
  | .echoRequest i q =>
    (if v6 then 58 else 1, icmpWire v6 src dst (if v6 then 129 else 0) (be 2 i ++ be 2 q ++
      (List.range (len - (if v6 then 66 else 46))).map fun i => BitVec.ofNat 8 (o (32 + i))))
  | .neighbourSolicit target =>
    (58, icmpWire true src dst 136 (be 4 0x60000000 ++ be 16 target ++ be 1 2 ++ be 1 1 ++ be 6 mac))
  | _ => (0, [])

/-- The IP header of a packet that is sent: its DSCP (R269), its length and protocol; identification, lifetime and flow label
are open. -/
def ipHead (v6 : Bool) (dscp src dst proto len : Nat) (o : Nat → Nat) : List Byte :=
  if v6 then be 4 (6 * 2 ^ 28 + dscp * 2 ^ 22 + o 1 % 2 ^ 20) ++ be 2 len ++ be 1 proto ++ be 1 (o 2) ++ be 16 src ++ be 16 dst
  else
    let head (c : Nat) : List Byte :=
      be 1 0x45 ++ be 1 (dscp * 4) ++ be 2 (20 + len) ++ be 2 (o 1) ++ be 2 (o 3 % 2 * 16384) ++ be 1 (o 2) ++ be 1 proto ++ be 2 c ++
        be 4 src ++ be 4 dst
    head (inetSum (head 0))

/-- The EtherType of a frame and what follows it. -/
def ethBody (k : Option Seal) (dscp mac len : Nat) (o : Nat → Nat) : EthBody → Nat × List Byte
  | .ip v6 _ _ _ src dst b =>
    let q := ipPayload k v6 src dst mac len o b
    (if v6 then 0x86DD else 0x0800, ipHead v6 dscp src dst q.1 q.2.length o ++ q.2)
  | .arp request m sip tip =>
    (0x0806, be 2 1 ++ be 2 0x0800 ++ be 1 6 ++ be 1 4 ++ be 2 (if request then 1 else 2) ++ be 6 m ++ be 4 sip ++ be 6 (o 0) ++ be 4 tip)
  | .pfc q =>
    (0x8808, be 2 0x0101 ++ be 2 (q.foldl (fun a x => a ||| 2 ^ x.1) 0) ++
      (List.range 8).flatMap fun p => be 2 (((q.find? fun x => x.1 == p).map fun x => x.2).getD 0))
  | .other => (0, [])

/-- The destination MAC of a frame: that of a multicast address (RFC 1112, RFC 2464), else open. -/
def destMac (o : Nat → Nat) : EthBody → Nat
  | .ip false _ _ _ _ dst _ => if dst / 2 ^ 28 = 14 then 0x01005E000000 + dst % 2 ^ 23 else o 0
  | .ip true _ _ _ _ dst _ => if dst / 2 ^ 120 = 255 then 0x333300000000 + dst % 2 ^ 32 else o 0
  | _ => o 0

/-- A frame that is sent, from the destination MAC through the FCS (R8): the source is the port's; the tag of a tagged leg
carries its PCP (R269). -/
def frameWire (mac : Nat) (o : Nat → Nat) (f : TxFrame) : List Byte :=
  let b := ethBody f.lock f.dscp mac f.len o f.body
  let tag := match f.tci with | some t => be 2 0x8100 ++ be 2 t | none => []
  let l := be 6 (destMac o f.body) ++ be 6 mac ++ tag ++ be 2 b.1 ++ b.2
  let l := l ++ zeros (60 - l.length)
  l ++ le 4 (crc32 l)

end Sys2Proof.Machine
end

