-- ==== Sys2Proof/Machine/NetOps.lean ====
section
/-! DEFINITION. Shared operations of the network side: keys of a leg, building and handing on of
frames, RTCP, tokens of the policers, jitter and window metrics, flow-cache sets. -/

namespace Sys2Proof.Machine

/-! Sequence numbers and timestamps. -/

/-- The extended number of a sequence number, nearest to the highest one. -/
def nearest (high : Option Nat) (n : Nat) (bits : Nat) : Nat :=
  match high with
  | none => 2 ^ bits + n
  | some x =>
    let d := (n + 2 ^ bits - x % 2 ^ bits) % 2 ^ bits
    if d < 2 ^ (bits - 1) then x + d else x + d - 2 ^ bits

/-- The extended number of a packet of a flow whose highest is `high`: one less than 1,024 behind it, the size of a reorder
buffer, is an earlier packet; any other lies ahead, at a jump when that is more than 32,768 (R176; where the two part is
DEDUCED). -/
def seqExt (high : Option Nat) (n : Nat) : Nat :=
  match high with
  | none => 65536 + n
  | some x =>
    let d := (n + 65536 - x % 65536) % 65536
    if 65536 < d + 1024 then x + d - 65536 else x + d

/-- The difference of two 32-bit timestamps, signed. -/
def tsDiff (a b : Nat) : Int := toSigned 32 ((a + 2 ^ 32 - b % 2 ^ 32) % 2 ^ 32)

/-! Keys. -/

/-- The SRTP profile and master keys (receive, send) a leg is keyed with: a host key named by the leg
(R614), or the session of its last handshake (R624). -/
def State.legKeys (s : State) (l : Leg) : Option (Nat × List Byte × List Byte) :=
  if (l.typ == .trunk || l.typ == .stream) && l.typeObj != 0 then
    match tget s.trust.keys (hIdx l.typeObj) with
    | some k => some (k.profile, k.rx, k.tx)
    | none => none
  else l.dtls.session

/-- Fresh crypto state for a direction under a profile and master key; the counts of R655 restart. The
counters of the owner are kept. -/
def Crypto.install (c : Crypto) (gen profile : Nat) (key : List Byte) : Crypto :=
  { c with profile := profile, keySalt := key, gen := gen, epoch := c.epoch + 1, bound := none, warned := false,
           ended := false, sL := 0, roc := 0, rtpWin := 0, started := false, rtcpIndex := 0,
           rtcpWin := 0, used := 0, usedRtcp := 0 }

/-- Whether a context is keyless: no key, or state of an earlier wrap generation (R642). -/
def Crypto.keyless (c : Crypto) (gen : Nat) : Bool := c.profile == 0 || c.gen != gen

/-! Frames. -/

/-- The frame bytes around a UDP payload on a leg's transport: Ethernet, tag, IP, UDP and FCS. -/
def Leg.overhead (l : Leg) : Nat :=
  14 + (if bit l.flags 1 then 4 else 0) + (if bit l.flags 0 then 40 else 20) + 8 + 4

/-- The local IP address of a leg (R63). -/
def State.localIp (s : State) (l : Leg) : Nat :=
  ((s.net.ports.getD l.netPort {}).addrs.getD l.localAddr {}).ip

/-- The Ethernet body of a UDP datagram sent on a leg. -/
def State.legBody (s : State) (l : Leg) (b : UdpBody) : EthBody :=
  .ip (bit l.flags 0) true 0 false (s.localIp l) l.remoteIp (.udp l.localUdp l.remoteUdp false true b)

/-- A packet as a flow with these EXT_IDS carries it: an extension without an ID is not carried. -/
def withExts (p : Rtp) (ids : List Nat) : Rtp :=
  let on (k : Nat) : Bool := ids.getD k 0 != 0
  { p with ids := ids, level := if on 0 then p.level else none, twcc := if on 1 then some 0 else none
           mid := if on 2 then p.mid else [], rid := if on 3 then p.rid else []
           layer := { p.layer with dd := if on 5 then p.layer.dd else none } }

/-- The slots that a port leg holds, in force or from a grain on (R91). -/
def Leg.slotsHeld (l : Leg) : Nat := l.slotPend.foldl (fun m p => m ||| p.2) l.slotMask

/-- A frame handed to the egress enqueue (R239). -/
def State.hand (s : State) (f : ReadyFrame) : State :=
  { s with net := { s.net with ready := s.net.ready ++ [f] } }

/-- A frame of a leg that takes no SRTP (STUN responses, DTLS records), in class 7 (Table 06-1). -/
def State.sendPlain (s : State) (leg : Nat) (b : UdpBody) (bytes : Nat) : State :=
  match s.leg leg with
  | none => s
  | some l => s.hand ⟨l.netPort, some leg, none, 7, l.overhead + bytes, false, s.legBody l b, none, none⟩

/-- A frame that belongs to no leg, for the port queue (R248). -/
def State.sendPort (s : State) (port len : Nat) (b : EthBody) : State :=
  s.hand ⟨port, none, none, 7, len, false, b, none, none⟩

/-- The crypto state under which a packet of a leg is processed: that of a flow, or the leg RTCP context. -/
def State.crypto (s : State) (leg : Nat) (flow : Option Nat) : Crypto :=
  match flow with
  | some i => (match s.flow i with | some f => f.cip | none => {})
  | none => (match s.leg leg with | some l => l.cip | none => {})

/-- The leg and the flow that a handle of crypto state names. -/
def State.ownerOf (s : State) (h : Nat) : Nat × Option Nat :=
  if hType h = 3 then (s.flowLeg (hIdx h), some (hIdx h)) else (hIdx h, none)

/-- That crypto state changed. -/
def State.modCrypto (s : State) (leg : Nat) (flow : Option Nat) (f : Crypto → Crypto) : State :=
  match flow with
  | some i => s.modFlow i fun x => { x with cip := f x.cip }
  | none => s.modLeg leg fun l => { l with cip := f l.cip }

/-- Crypto state before wrapping (Table 19-3). -/
def Crypto.bytes (c : Crypto) : List Byte :=
  le 1 c.profile ++ le 1 (b2n c.bound.isSome + 2 * b2n c.warned) ++ le 2 c.sL ++ le 4 c.roc ++ le 8 c.rtpWin ++ le 4 c.rtcpIndex ++
    le 4 c.rtcpWin ++ padTo 44 c.keySalt

/-- The nonce of a wrap: wrap generation, index of the owner and wrap counter (R641). -/
def wrapNonce (gen h count : Nat) : List Byte := le 12 (gen % 65536 * 2 ^ 80 + hIdx h * 2 ^ 60 + count % 2 ^ 60)

/-- A counter of CIPHER_STATS raised. -/
def State.cipCount (s : State) (i n : Nat) : State :=
  { s with cip := { s.cip with counters := modAt s.cip.counters i (· + n) } }

/-- An owner's crypto state wrapped into its context, with a new nonce (R641, R644); its handle and tenant are authenticated. -/
def State.wrap (s : State) (h : Nat) : State :=
  let o := s.ownerOf h
  let tenant := (s.leg o.1).map fun l => l.tenant
  let n := s.cip.wraps + 1
  let s := { s with cip := { s.cip with wraps := n } }.cipCount 4 1
  s.modCrypto o.1 o.2 fun c =>
    let nonce := wrapNonce c.gen h n
    let aad := le 4 h ++ le 1 (tenant.getD 0)
    { c with wrapped := nonce ++ (List.range 84).map (Config.wrapByte c.gen nonce aad c.bytes) }

/-- The cipher cluster's window brought up to now: events 63 and 55 for the one that has ended (R656). The 48 cores give
48 s of work in a window. -/
def State.cipWindow (s : State) : State :=
  let c := s.cip
  let w := windowOf s.now
  if c.win = w then s else
  let s := { s with cip := { c with win := w, busy := 0, winLoads := 0, winPackets := 0 } }
  let s := if 90 * 48 * secU < 100 * c.busy then s.raise 63 0 (le 4 (c.busy * 1000 / (48 * secU))) else s
  if c.winPackets < 5 * c.winLoads then s.raise 55 0 (le 4 c.winLoads ++ le 4 c.winPackets) else s

/-- Work offered to the AES cores: a packet of so many bytes (R656). -/
def State.offer (s : State) (bytes : Nat) : State :=
  let s := s.cipWindow
  { s with cip := { s.cip with busy := s.cip.busy + max (bytes * nsU / 5) (40 * nsU) } }

/-- The slot of an owner's clear context. -/
def State.slotOf (s : State) (h : Nat) : Option Nat := (s.cip.slots.find? fun p => p.2.owner == h).map fun p => p.1

/-- The handle of the owner of a packet's crypto state. -/
def CipherJob.owner (j : CipherJob) : Nat := match j.flow with | some f => flowH f | none => legH j.leg

/-- The state of a packet's keys: the present ones, or those under which it was admitted (R646). -/
def State.jobCtx (s : State) (j : CipherJob) : Crypto :=
  let c := s.crypto j.leg j.flow
  if c.epoch = j.epoch then c else
  match s.cip.olds.find? fun o => o.1 == j.owner && o.2.1 == j.epoch with | some o => o.2.2 | none => {}

/-- Whether a packet is the first of its flow in a queue (R647). -/
def CipherJob.leads (j : CipherJob) (q : List CipherJob) : Bool :=
  match q.find? fun x => x.owner == j.owner with | some x => x.id == j.id | none => false

/-- The packets that back-pressure holds enter the egress queue, in their order, as far as it has room: it has 16,384
places, and the last 512 are for class 7 (R648). -/
def CipherState.fill (c : CipherState) : CipherState :=
  let held := c.outQ.filter fun j => j.phase == .held
  if held.isEmpty then c else
  let r := held.foldl (fun (a : List CipherJob × List CipherJob) j =>
    if a.1.length < (if j.cls = 7 then 16384 else 15872) then (a.1 ++ [{ j with phase := .queued }], a.2)
    else (a.1, a.2 ++ [j])) (c.outQ.filter fun j => j.phase != .held, [])
  { c with outQ := r.1 ++ r.2 }

/-- Back-pressure on the packetizers (R648): its beginning and end, and event 53 past 100 µs. -/
def State.backCheck (s : State) (pipe : Nat) : State :=
  let s := match s.cip.backSince with
    | some t => if t + 100 * usU < s.now then s.raiseWK 53 pipe 0 (le 1 pipe ++ le 4 ((s.now - t) / usU)) else s
    | none => s
  let since (q : CipherState) : Option Nat :=
    if !(q.outQ.any fun j => j.phase == .held) then none else match q.backSince with | some t => some t | none => some s.now
  { s with cip := { s.cip with backSince := since s.cip } }

/-- Whether a packet of a queue can go on a core: it is its flow's first (R647), and its clear context is loaded (R643), or
it has no keys to wait for. -/
def State.canRun (s : State) (q : List CipherJob) (j : CipherJob) : Bool :=
  let c := s.jobCtx j
  j.phase == .queued && j.leads q && ((s.slotOf j.owner).isSome || c.keyless s.cip.gen || c.ended)

/-- The packet that a free AES core takes: of the ring classes in their order on ingress, of class 7 down to class 0 on
egress, within a class by admission; where both directions have work, of the one with fewer of the 48 cores (R648). A core
on a packet finishes it before it takes another, so a direction whose work begins late comes to its 24 cores one by one
(DESIGN CHOICE, also that the loads of R643 are only counted as work offered). -/
def State.cipNext (s : State) : Option CipherJob :=
  let on (q : List CipherJob) : Nat := countOf q fun j => j.phase == .running
  let i := on s.cip.inQ
  let e := on s.cip.outQ
  if 48 ≤ i + e then none else
  let first (q : List CipherJob) (before : CipherJob → CipherJob → Bool) : Option CipherJob :=
    (sortBy before (q.filter (s.canRun q))).head?
  match first s.cip.inQ fun a b => decide (a.cls < b.cls), first s.cip.outQ fun a b => decide (b.cls < a.cls) with
  | some a, some b => some (if i ≤ e then a else b)
  | some a, none => some a
  | none, b => b

/-- Packets go on the free cores; at most 48 can. -/
def State.cipFill : Nat → State → State
  | 0, s => s
  | n + 1, s =>
    match s.cipNext with
    | none => s
    | some j =>
      let go (q : List CipherJob) : List CipherJob := q.map fun x => if x.id = j.id then { x with phase := .running } else x
      State.cipFill n { s with cip := { s.cip with inQ := go s.cip.inQ, outQ := go s.cip.outQ } }

def State.cipRun (s : State) : State := State.cipFill 48 s

/-- An egress packet for the cipher cluster, RTP of a send flow or RTCP: it is admitted, or held back (R648). -/
def State.protect (s : State) (leg : Nat) (flow : Option Nat) (cls len : Nat) (b : UdpBody)
    (index : Option Nat) (src : Option Nat := none) : State :=
  let port := match s.leg leg with | some l => l.netPort | none => 0
  let beyond := match s.leg leg with | some l => l.overhead | none => 0
  let s := s.offer (len - beyond)
  let j : CipherJob :=
    ⟨s.cip.nextJob, port / 4, flow, leg, cls, s.now, len, b, true, port, index, src, (s.crypto leg flow).epoch, .held⟩
  let s := { s with cip := { s.cip with nextJob := s.cip.nextJob + 1, outQ := s.cip.outQ ++ [j] }.fill }
  (s.backCheck (port / 4)).cipRun

/-- The first send flow of a leg, under whose context its RTCP is protected (R640). -/
def State.rtcpFlow (s : State) (leg : Nat) : Option Nat :=
  ((s.flowsOf leg).find? fun p => p.2.dir == 2 && p.2.state != .closing).map fun p => p.1

/-- An RTCP packet of a leg, in the control traffic class (Table 06-1). -/
def State.sendRtcp (s : State) (leg : Nat) (items : List RtcpItem) : State :=
  match s.leg leg with
  | none => s
  | some l =>
    let p : Rtcp := { ssrc := (match s.rtcpFlow leg with
        | some f => (match s.flow f with | some x => x.ssrc | none => l.rtcp.ssrc)
        | none => l.rtcp.ssrc), items := items }
    s.protect leg (s.rtcpFlow leg) 7 (l.overhead + rtcpBytes p + tagLen l.cip.profile true) (.rtcp p) none

/-- NACK, PLI and FIR leave at once: alone when the leg allows reduced-size RTCP, else in a compound packet with an RR
(R212). -/
def State.sendFeedback (s : State) (leg : Nat) (item : RtcpItem) : State :=
  match s.leg leg with
  | none => s
  | some l => s.sendRtcp leg (if bit l.rtcp.flags 0 then [item] else [.rr, item])

/-- A PLI or FIR to the source of a receive flow, in the control traffic class. -/
def State.sendPli (s : State) (flow : Nat) (fir : Bool) : State :=
  match s.flow flow with
  | none => s
  | some f =>
    let upd (k : KeyReq) : KeyReq :=
      { k with lastPli := some s.now, awaits := !fir, unanswered := if fir then 0 else k.unanswered,
               firSeq := if fir then k.firSeq + 1 else k.firSeq }
    (s.modFlow flow fun f => { f with keyReq := upd f.keyReq }).sendFeedback f.leg
      (if fir then RtcpItem.fir f.ssrc (f.keyReq.firSeq % 256) else RtcpItem.pli f.ssrc)

/-- A key-frame request to a source receive flow (R203): requests are combined, and one PLI goes out at most every
200 ms, which is KEYREQ_MIN (R204). -/
def State.keyRequest (s : State) (flow : Nat) : State :=
  match s.flow flow with
  | none => s
  | some f =>
    let s := s.modFlow flow fun f => { f with keyReq := { f.keyReq with wanted := true } }
    match f.keyReq.lastPli with
    | some p => if f.keyReq.wanted || decide (s.now < p + 200 * msU) then s else s.sendPli flow false
    | none => s.sendPli flow false

/-- Round trip of a flow's leg. -/
def State.flowRtt (s : State) (f : Flow) : Nat := match s.leg f.leg with | some l => l.rtcp.rtt * usU | none => 0

/-- Until when a key frame answers a PLI sent at `p` (R204). -/
def State.pliLimit (s : State) (f : Flow) (p : Nat) : Nat := p + max (2 * s.flowRtt f) (100 * msU)

/-- The last PLI of a flow found unanswered; the second in succession brings a FIR, with event 122 (R204). -/
def State.pliFailed (s : State) (flow : Nat) : State :=
  match s.flow flow with
  | none => s
  | some f =>
    let n := f.keyReq.unanswered + 1
    let s := s.modFlow flow fun f => { f with keyReq := { f.keyReq with unanswered := n, awaits := false } }
    if 2 ≤ n then (s.sendPli flow true).raise 122 (flowH flow) (le 1 n) else s

/-- A key frame of a receive flow has arrived at a stamp: it ends the requests, and answers a PLI whose time has not run
out (R204). -/
def State.keyArrived (s : State) (flow stamp : Nat) : State :=
  match s.flow flow with
  | none => s
  | some f =>
    let late := match f.keyReq.lastPli with | some p => f.keyReq.awaits && decide (s.pliLimit f p < stamp) | none => false
    let s := if late then s.pliFailed flow
      else s.modFlow flow fun f => { f with keyReq := { f.keyReq with unanswered := 0, awaits := false } }
    s.modFlow flow fun f => { f with keyReq := { f.keyReq with wanted := false } }

/-- A media packet of a send flow, protected and queued in the flow's class. -/
def State.sendRtp (s : State) (flow : Nat) (p : Rtp) (index : Option Nat) (src : Option Nat := none) : State :=
  match s.flow flow with
  | none => s
  | some f =>
    match s.leg f.leg with
    | none => s
    | some l =>
      let p := withExts p f.media.exts
      s.protect f.leg (some flow) f.cls (l.overhead + rtpBytes p + tagLen f.cip.profile false) (.rtp p) index src

/-- Whether a flow's leg sends now: it is connected, and send is not held (Table 02-3). -/
def State.legSends (s : State) (f : Flow) : Bool :=
  f.state != .closing && match s.leg f.leg with
    | some l => l.state == .active || (l.state == .held && !bit l.hold 0)
    | none => false

/-- A packet kept in the egress history: for 1,000 ms, and at most 2,048 of them (R206). -/
def State.keepHist (s : State) (flow : Nat) (p : Rtp) : State :=
  s.modFlow flow fun f =>
    let old := f.hist.filter fun h => decide (s.now < h.sent + 1000 * msU)
    let all := old ++ [⟨p.seq, s.now, rtpBytes p, p, 0, s.now, none⟩]
    { f with hist := all.drop (all.length - 2048) }

/-- The packets of a coded frame or spliced picture, sent on a flow under its own SSRC and sequence numbers (R489,
R490): the M bit on the last, RTP timestamp floor(S × 90,000) + TS_OFF. -/
def State.sendPicture (s : State) (flow at_ : Nat) (l : Layer) (pkts : List (List Byte)) : State :=
  let ts (f : Flow) : Nat := (at_ * 90000 / secU + f.tsBase) % 2 ^ 32
  let n := pkts.length
  let s := s.modFlow flow fun f => { f.frameTurn with srMap := some (ts f, at_), fwd := { f.fwd with tail := none } }
  (pkts.zipIdx).foldl (fun (s : State) q =>
    match s.flow flow with
    | none => s
    | some f =>
      let dd := if f.media.codec = 16 then some (0, l.t) else none
      let p : Rtp := { ssrc := f.ssrc, seq := f.sendSeq % 65536, ts := ts f, pt := f.pt, marker := q.2 + 1 == n,
                       mid := f.mid, payload := q.1, layer := { l with first := q.2 == 0, last := q.2 + 1 == n, dd := dd } }
      let s := (s.modFlow flow fun f => { f with sendSeq := f.sendSeq + 1 }).keepHist flow p
      s.sendRtp flow p none) s

/-- The IP multicast addresses of PTP, with that of peer delay after each (Table 20-1). -/
def ptpIps : List Nat := [0xE0000181, 0xE000006B, 0xFF0E0000000000000000000000000181, 0xFF02000000000000000000000000006B]

/-! Tokens. An amount of bytes is kept in byte × 8 × 65,536 × 10^6, and one kbit/s over one unit of
1/65,536 ns gives 1 of it: no part of an interval is lost (R148, R660). -/

/-- One byte of tokens. -/
def byteTok : Nat := 524288000000
/-- One packet of control tokens, in packets × 65,536 × 10^9. -/
def pktTok : Nat := 65536000000000

/-- The media bucket of a leg refilled up to a stamp (R147, R148). -/
def LegIngress.refill (g : LegIngress) (t : Nat) : LegIngress :=
  { g with
    mediaTokens := min (g.mediaBurst * byteTok) (g.mediaTokens + (t - g.mediaDt) * g.mediaKbps)
    mediaDt := max g.mediaDt t
    ctrlTokens := min (g.ctrlBurst * pktTok) (g.ctrlTokens + (t - g.ctrlDt) * g.ctrlPps)
    ctrlDt := max g.ctrlDt t }

/-- The default media policer rate of a leg (R148). -/
def mediaDefault (maxKbps : Nat) : Nat := if maxKbps = 0 then 50000 else 2 * maxKbps

/-! Metrics. -/

/-- The metrics of a leg brought to the window of an instant: the last complete window is kept (R89). -/
def Leg.roll (l : Leg) (t : Nat) : Leg :=
  let w := windowOf t
  if l.cur.window = w then l
  else
    let last : Metrics := if l.cur.window + 1 = w then l.cur else { window := w - 1, jitter := l.cur.jitter }
    { l with last := last, cur := { window := w, jitter := l.cur.jitter } }

/-- The present window's metrics of a leg changed. -/
def State.metric (s : State) (leg : Nat) (f : Metrics → Metrics) : State :=
  s.modLeg leg fun l => let l := l.roll s.now; { l with cur := f l.cur }

/-- The receive flows of a leg of a kind, first created first. -/
def State.rxFlows (s : State) (leg kind : Nat) : Tbl Flow :=
  sortBy (fun a b => decide (a.2.order < b.2.order))
    ((s.flowsOf leg).filter fun p => p.2.dir == 1 && p.2.kind == kind)

/-- The jitter of a leg (Table 02-8) in 1/65,536 ns: of its first audio receive flow, else of its first
video receive flow. -/
def State.legJitter (s : State) (leg : Nat) : Nat :=
  match s.rxFlows leg 1 with
  | (_, f) :: _ => f.jitter / 16
  | [] => match s.rxFlows leg 2 with
    | (_, f) :: _ => f.jitter / 16
    | [] => 0

/-! Sources, layers and switch points (R183, R184, R191, Table 05-2). -/

/-- The flows of a source: those of its leg with its KIND and MID, numbered by creation (R183, R184). -/
def State.sourceSet (s : State) (flow : Nat) : List Nat :=
  match s.flow flow with
  | none => []
  | some f => ((s.rxFlows f.leg f.kind).filter fun p => p.2.mid == f.mid && p.2.state != .closing).map fun p => p.1

/-- Whether a flow is end-to-end encrypted without the DD extension, so that only its marker bit can be read
(Table 05-2). -/
def Flow.opaque_ (f : Flow) : Bool := f.kind == 2 && bit f.flags 2 && f.media.exts.getD 5 0 == 0

/-- The rows of Table 05-2. -/
inductive SwitchRow where
  | dd | vp9 | vp8 | hevc | h264 | marker
deriving DecidableEq, Repr

/-- The row of Table 05-2 that holds for a flow: by its codec, or for end-to-end encrypted video by its extensions. -/
def Flow.switchRow (f : Flow) : SwitchRow :=
  if f.opaque_ then .marker else if bit f.flags 2 then .dd else
  match f.media.codec with
  | 16 => .dd | 17 => .hevc | 19 => .vp8 | 20 => .vp9 | _ => .h264

/-- Whether a target needs a frame of its encoding: one within its layers, or one on which such a frame depends. -/
def Target.needs (x : Target) (l : Layer) : Bool :=
  decide (l.s ≤ x.s) && decide (l.t ≤ x.t) || l.needs.contains (x.s, x.t)

/-- The layers of a target followed within an encoding, at a packet that begins a picture: down at once, up at the switch
point that Table 05-2 gives (R191). That a change is made with a whole picture is DEDUCED from R201. -/
def Target.follow (row : SwitchRow) (cur tgt : Target) (l : Layer) : Target :=
  let down : Target := { cur with s := min cur.s tgt.s, t := min cur.t tgt.t }
  if !l.first then down else
  let tUp : Bool := l.tUp && match row with
    | .vp9 | .hevc => l.t == tgt.t
    | .vp8 => decide (l.t ≤ tgt.t)
    | _ => false
  match row with
  | .dd => if l.dti.contains (tgt.s, tgt.t) then { cur with s := tgt.s, t := tgt.t } else down
  | .vp9 => { down with s := if l.inter0.contains tgt.s then tgt.s else down.s, t := if tUp then tgt.t else down.t }
  | _ => { down with t := if tUp then tgt.t else down.t }

/-! The flow cache (R77 to R83, R791). -/

/-- The jitter of a leg noted in its window (R89). -/
def State.noteJitter (s : State) (leg : Nat) : State := s.metric leg fun m => { m with jitter := s.legJitter leg / usU }

/-- Packets dropped for an SSRC that names no flow of the leg, counted for good and in the window. -/
def State.dropUnknown (s : State) (leg n : Nat) : State :=
  (s.modIng leg fun g => { g with unknownSsrc := g.unknownSsrc + n }).metric leg fun m => { m with drops := m.drops + n }

/-- A packet dropped at a full miss queue (R80), counted for good and in the window. -/
def State.dropCache (s : State) (leg : Nat) : State :=
  (s.modIng leg fun g => { g with cacheDrops := g.cacheDrops + 1 }).metric leg fun m => { m with drops := m.drops + 1 }

/-- The cache set of a leg and an SSRC (R791). -/
def cacheSet (leg ssrc : Nat) : Nat := crc32c (le 4 leg ++ le 4 ssrc) % 4096

/-- The set a flow occupies: a LEARNING flow that of SSRC 0 (R791). -/
def Flow.set (f : Flow) : Nat := cacheSet f.leg (if f.state = .learning then 0 else f.ssrc)

/-- The flows pinned in a set; a flow that closes has lost its entry, and its pin with it (R792). -/
def State.pinnedIn (s : State) (set : Nat) : Nat :=
  countOf s.flows fun p => p.2.pinned && p.2.set == set

/-- A flow brought into its set of the cache: with the 16 ways taken, the least recently used unpinned
flow of the set leaves it (R81). -/
def State.cacheIn (s : State) (flow : Nat) : State :=
  match s.flow flow with
  | none => s
  | some f =>
    let others := s.flows.filter fun p => p.1 != flow && p.2.cached && p.2.set == f.set
    let s := if others.length < 16 then s else
      match (sortBy (fun a b => decide (a.2.used < b.2.used)) (others.filter fun p => !p.2.pinned)) with
      | (v, _) :: _ => s.modFlow v fun f => { f with cached := false }
      | [] => s
    s.modFlow flow fun f => { f with cached := true, used := s.now }

/-! Legs on their transport. -/

/-- Whether a leg can be matched on the network: it is live and not a port leg (R71, Table 04-3). -/
def Leg.matchable (l : Leg) : Bool := l.state != .closing && l.typ != .port

/-- The VLAN ID that identifies a leg (R63). -/
def Leg.vid (l : Leg) : Option Nat := if bit l.flags 1 then some (l.vlan % 4096) else none

/-- Whether two legs have the same identifying values (R63). -/
def sameTransport (a b : Leg) : Bool :=
  a.netPort == b.netPort && a.localAddr == b.localAddr && a.vid == b.vid && a.localUdp == b.localUdp &&
  a.remoteUdp == b.remoteUdp && a.remoteIp == b.remoteIp && bit a.flags 0 == bit b.flags 0

/-- Whether a logical port is provided by its physical port's mode (Table 04-1). -/
def State.portProvided (s : State) (n : Nat) : Bool :=
  match (s.net.phys.getD (n / 4) {}).mode with
  | 0 => n % 4 == 0
  | 1 => decide (n % 4 < 2)
  | _ => true

/-- The rate of a logical port in Gbit/s (Table 04-1). -/
def State.portGbps (s : State) (n : Nat) : Nat :=
  match (s.net.phys.getD (n / 4) {}).mode with
  | 0 => 400 | 1 => 200 | _ => 100

/-- A counter of a list raised by an amount. -/
def bump (l : List Nat) (i n : Nat) : List Nat := modAt l i (· + n)

/-- A counter of PORT_STATS raised (Table 04-6, PORT_STATS order). -/
def State.portCount (s : State) (port i n : Nat) : State :=
  { s with net := { s.net with ports := modAt s.net.ports port fun (p : LPort) =>
    { p with counters := bump p.counters i n } } }

/-- A logical port changed. -/
def State.modPort (s : State) (port : Nat) (f : LPort → LPort) : State :=
  { s with net := { s.net with ports := modAt s.net.ports port f } }

/-- A physical port changed. -/
def State.modPhys (s : State) (p : Nat) (f : PhysPort → PhysPort) : State :=
  { s with net := { s.net with phys := modAt s.net.phys p f } }

/-! Shedding (R693, R697): the union of RIDETHROUGH and of the thermal stages. -/

/-- What is shed: background contexts, spliced and composed video, forwarded video. -/
def State.shedNow (s : State) : Bool × Bool × Bool :=
  let ride := match s.sys.ride with | some r => r.stage | none => 0
  let hot := s.sys.thermal.foldl (fun (m : Nat) (t : Thermal) => max m t.stage) 0
  (decide (1 ≤ ride) || decide (1 ≤ hot), decide (2 ≤ ride) || decide (3 ≤ hot), decide (3 ≤ ride))

/-- Whether a context of a priority is shed: background ones first, the others with composed video. -/
def shedPrio (x : Bool × Bool × Bool) (prio : Nat) : Bool := if prio = 2 then x.1 else x.2.1

/-- Forwarded video shed in stage 3 of RIDETHROUGH: its send flows send nothing (R188). -/
def State.fwdShed (s : State) : State :=
  { s with flows := tmap s.flows fun _ f =>
    if f.fwd.bound && f.kind == 2 then { f with fwd := { f.fwd with shed := true } } else f }

/-- Shed send flows on return: each resumes at the next key frame of its source, which is requested (R188, R191). -/
def State.fwdResume (s : State) : State :=
  s.flows.foldl (fun (s : State) p =>
    if !p.2.fwd.shed then s else
    let s := s.modFlow p.1 fun f => { f with fwd := { f.fwd with shed := false, started := false, state := .pending, since := s.now } }
    match (s.sourceSet p.2.fwd.source)[p.2.fwd.tgt.e]? with | some x => s.keyRequest x | none => s) s

/-- Whether a conference may form audio or video at all in the present mode: media runs in SERVICE,
DEGRADED and RIDETHROUGH. -/
def State.mediaOn (s : State) : Bool :=
  s.sys.mode == .service || s.sys.mode == .degraded || s.sys.mode == .ridethrough

end Sys2Proof.Machine
end

