-- ==== Sys2Proof/Machine/Dma.lean ====
section
/-! DEFINITION. DMA engines, crossing queues and the priority flow control generators, and the 0x0Fxx commands (file 17 of
spec/). -/

namespace Sys2Proof.Machine

def stWatermarkInvalid : Nat := 0x8F00

/-! Engines: 0 to 55 the clusters', 56 the hub's. -/

def engineChans (e : Nat) : Nat := if e = 56 then 128 else 32
/-- An engine in the events: its unit address, or 0x8000. -/
def engineAddr (e : Nat) : Nat := if e = 56 then 0x8000 else e * 16 + 14
def engineHandle (e : Nat) : Nat := if e = 56 then 0 else mkHandle 12 e
def chanKey (e ch : Nat) : Nat := e * 128 + ch

def State.modDma (s : State) (f : DmaState → DmaState) : State := { s with dma := f s.dma }
def State.chan (s : State) (e ch : Nat) : DmaCh := (tget s.dma.chans (chanKey e ch)).getD {}
def State.modChan (s : State) (e ch : Nat) (f : DmaCh → DmaCh) : State :=
  s.modDma fun d => { d with chans := tset d.chans (chanKey e ch) (f ((tget d.chans (chanKey e ch)).getD {})) }
def State.modDmaStats (s : State) (e : Nat) (f : DmaStats → DmaStats) : State :=
  s.modDma fun d => { d with stats := tset d.stats e (f ((tget d.stats e).getD {})) }

/-- The local SRAM of an engine. -/
def State.localSram (s : State) (e : Nat) : Mem := (tget s.mem.sram e).getD []
def State.setSram (s : State) (e : Nat) (m : Mem) : State := s.modMem fun x => { x with sram := tset x.sram e m }

/-! Spaces (Table 17-1). -/

def spaceOf (a : Nat) : Nat := bits a 63 60
def addrOf (a : Nat) : Nat := bits a 59 0

/-- Bytes of an engine's space. -/
def spaceSize (e sp : Nat) : Nat :=
  match sp with
  | 0 => 2 ^ 36
  | 1 => if e = 56 then 64 * 2 ^ 20 else if isAudioCluster e then 2 * 2 ^ 20 else 8 * 2 ^ 20
  | _ => 2 ^ 60

/-- Whether an engine has a space. -/
def spaceAllowed (e sp : Nat) : Bool :=
  sp == 0 || sp == 1 || (sp == 2 && e == 56) || sp == 3 || (sp == 4 && decide (e < 56) && isAudioCluster e)

/-- Whether a range of an allowed space breaks R584 or R587: it wraps past the top, or is a port-FIFO range that is not
of whole lines, or names no DSP memory. -/
def rangeBad (e a len : Nat) : Bool :=
  let x := addrOf a
  match spaceOf a with
  | 3 => x % 64 != 0 || len % 64 != 0
  | 4 => bits x 17 16 == 3 || decide (65536 < x % 65536 + len) || decide (7 < x / 262144)
  | sp => decide (x < spaceSize e sp) && decide (spaceSize e sp < x + len)

/-- Whether a channel's descriptor is invalid (R584). -/
def DmaCh.invalid (c : DmaCh) (e : Nat) : Bool :=
  !bit c.ctrl 31 || bits c.ctrl 27 24 != 0 || bits c.ctrl 13 0 != 0 || bits c.len 31 25 != 0 || c.len == 0 ||
  bits c.target 31 26 != 0 || !spaceAllowed e (spaceOf c.src) || !spaceAllowed e (spaceOf c.dst) || c.desc % 32 != 0 ||
  decide (16777216 < c.len) || rangeBad e c.src c.len || rangeBad e c.dst c.len

/-- A channel halted by a bus error (R595): 0 PCIe error, 1 poisoned data, 2 outside space, 3 link failed, 4 PCIe timeout. -/
def State.busError (s : State) (e ch : Nat) (write : Bool) (cause line : Nat) : State :=
  let s := s.modChan e ch fun c =>
    { c with st := 5, dir := b2n write, cause := cause, irq := true, fault := line, haltAt := s.now, buf := [] }
  let s := s.modDmaStats e fun x => { x with busErrors := x.busErrors + 1 }
  s.raise 88 (engineHandle e) (le 2 (engineAddr e) ++ le 1 ch ++ le 1 (b2n write) ++ le 1 cause ++ le 8 line)

/-- A channel takes a descriptor (R583, R584): an invalid one halts it, with event 89. -/
def State.loadDesc (s : State) (e ch a : Nat) : State :=
  if spaceSize e 1 ≤ a then
    (s.modChan e ch fun c => { c with desc := a, ctrl := 0, len := 0, residue := 0, done := 0, unread := true }).busError
      e ch false 2 (lineOf a)
  else
  let m := s.localSram e
  let f (off n : Nat) : Nat := ofLe (m.readN (a + off) n)
  let s := s.modChan e ch fun c => { c with
    st := 1, cause := 0, irq := false, desc := a, ctrl := f 0 4, len := f 4 4, residue := f 4 4, src := f 8 8,
    dst := f 16 8, target := f 24 4, next := f 28 4, done := 0, buf := [], unread := false }
  if (s.chan e ch).invalid e then
    let s := s.modChan e ch fun c => { c with st := 5, cause := 5, haltAt := s.now }
    let s := s.modDmaStats e fun x => { x with invalid := x.invalid + 1 }
    s.raise 89 (engineHandle e) (le 2 (engineAddr e) ++ le 1 ch ++ le 4 a)
  else s

/-- A descriptor written back (R585): VALID clear, OUTCOME, and LEN the residue. One whose fetch failed lies outside the SRAM. -/
def State.writeBack (s : State) (e ch outcome : Nat) : State :=
  let c := s.chan e ch
  if c.unread then s else
  let ctrl := bits c.ctrl 30 16 * 65536 + outcome * 16384
  s.setSram e (((s.localSram e).writeN c.desc (le 4 ctrl)).writeN (c.desc + 4) (le 4 c.residue))

/-! Real-time ports (R549, R551, Table 16-2). -/

def rtRaise : Nat → Nat
  | 0 => 512 | 1 => 65536 | 2 => 16384 | _ => 8192
def rtClear : Nat → Nat
  | 0 => 1536 | 1 => 131072 | 2 => 32768 | _ => 16384

/-- A real-time port's level, and the panic it raises or clears. -/
def State.rtLevel (s : State) (l : Nat × Nat × Nat) : State :=
  let key := l.1 * 256 + l.2.1
  let p := (tget s.mem.rtPorts key).getD {}
  let panic := match p.panic with
    | some d => if rtClear l.1 ≤ l.2.2 then none else some d
    | none => if l.2.2 < rtRaise l.1 then some s.now else none
  s.modMem fun m => { m with rtPorts := tset m.rtPorts key ⟨l.2.2, panic⟩ }

/-- Panics held for more than 1 ms: event 76, or 139 of an egress MAC buffer. -/
def State.panicLong (s : State) : State :=
  s.mem.rtPorts.foldl (fun (s : State) p =>
    match p.2.panic with
    | none => s
    | some d =>
      if s.now ≤ d + msU then s else
      let us := (s.now - d) / usU
      match p.1 / 256 with
      | 1 => s.raiseWK 139 p.1 0 (le 1 (p.1 % 256))
      | k => s.raiseWK 76 p.1 0 (le 1 (if k = 0 then 0 else k - 1) ++ le 1 (p.1 % 256) ++ le 4 us)) s

/-- Channels halted for more than 10 ms: event 90 (R596). -/
def State.haltLong (s : State) : State :=
  s.dma.chans.foldl (fun (s : State) p =>
    if p.2.st = 5 && decide (p.2.haltAt + 10 * msU < s.now) then
      let e := p.1 / 128
      s.raiseWK 90 p.1 (engineHandle e) (le 2 (engineAddr e) ++ le 1 (p.1 % 128) ++ le 4 ((s.now - p.2.haltAt) / msU))
    else s) s

/-! Port FIFOs (R587, R591). -/

/-- The lines that a port FIFO holds, by the address that names it. -/
def fifoDepth (a : Nat) : Nat := 1 + Config.fifoExtra a
def State.fifo (s : State) (a : Nat) : List (List Byte) := (tget s.dma.fifos a).getD []
def State.setFifo (s : State) (a : Nat) (l : List (List Byte)) : State :=
  s.modDma fun d => { d with fifos := tset d.fifos a l }

/-- A port FIFO's request: at least one line of its space is free (R591). -/
def State.fifoRoom (s : State) (a : Nat) : Bool := decide ((s.fifo a).length < fifoDepth a)

/-- A request line of an engine: the free space of the FIFO that drives it (R591), or as given where no FIFO does. -/
def State.requested (s : State) (e req : Nat) (given : Bool) : Bool :=
  match Config.reqFifo e req with
  | some a => s.fifoRoom a
  | none => given

/-! Bursts (R582 to R591). -/

/-- The SRAM log of the die of an engine (Table 16-8). -/
def engineLog (e : Nat) : Nat := if e = 56 then 6 else 4 + dieOf (engineAddr e)

/-- DRAM is used by an engine: the stacks wake, and what waits at the controllers for the lines is done first (R548, R560). -/
def State.dmaReach (s : State) (x n : Nat) : State :=
  let s := s.srExit.modMem fun m => { m with lastReq := s.now }
  (s.dramSettle x).dramSettle (x + n - 1)

/-- The lines of DRAM that a burst reads, under their check bits; with the first that is uncorrectable (R565, R572). -/
def State.dmaLines (s : State) (e x n : Nat) (ecc : Ecc) : Option Nat × State :=
  let one (a : Nat) (ecc : Ecc) (s : State) : Option Nat × State :=
    let c := s.dramCheck { addr := lineOf a, req := engineAddr e } ecc
    (if c.1 then none else some (lineOf a), c.2)
  let r := one x ecc s
  if r.1.isSome || lineOf (x + n - 1) = lineOf x then r else one (x + n - 1) .good r.2

/-- A read of an engine's own SRAM under its check bits (R573); the truth value says that it gave good data. The die's byte address
of the word is taken as the engine's (PRESUMED). -/
def State.dmaSram (s : State) (e x : Nat) (ecc : Ecc) : Bool × State :=
  match ecc with
  | .good => (true, s)
  | .corrected w b =>
    (true, s.sramCorrected (engineLog e) (lineOf x + w % 8 * 8) (b % 72) (if e < 56 then some e else none))
  | .uncorrectable w =>
    (false, s.raise 86 0 (le 1 (logDie (engineLog e)) ++ le 4 (lineOf x + w % 8 * 8) ++ le 2 (engineAddr e)))

/-- `n` bytes read from a space; the data of a host, port-FIFO or PMEM source comes with the row. With the line that is poisoned or
uncorrectable, if one is. -/
def State.dmaRead (s : State) (e a n : Nat) (given : List Byte) (ecc : Ecc) : List Byte × Option Nat × State :=
  let x := addrOf a
  match spaceOf a with
  | 0 =>
    let s := s.dmaReach x n
    let r := s.dmaLines e x n ecc
    (r.2.mem.dram.readN x n, r)
  | 1 =>
    let r := s.dmaSram e x ecc
    ((s.localSram e).readN x n, if r.1 then none else some (lineOf x), r.2)
  | 4 =>
    let core := coreNumber e (x / 262144)
    match bits x 17 16 with
    | 1 => ((s.core core).xmem.readN (x % 65536) n, none, s)
    | 2 => ((s.core core).ymem.readN (x % 65536) n, none, s)
    | _ => (padTo n given, none, s)
  | _ => (padTo n given, none, s)

/-- A write of DRAM by an engine, within one line, with the enables of its bytes (R566, R586). -/
def dmaWriteReq (e x : Nat) (d : List Byte) : DramReq :=
  let off := x % 64
  { addr := lineOf x, write := true, req := engineAddr e, data := zeros off ++ d
    enables := (List.range 64).map fun i => decide (off ≤ i) && decide (i < off + d.length) }

/-- Bytes written to a space, within one line. A port FIFO is named by the address at which its range begins (DESIGN CHOICE),
which is `first`. -/
def State.dmaWrite (s : State) (e first a : Nat) (d : List Byte) (rmw : Ecc) : State :=
  let x := addrOf a
  match spaceOf a with
  | 0 => (s.dmaReach x d.length).dramWrite (dmaWriteReq e x d) rmw
  | 1 => s.setSram e ((s.localSram e).writeN x d)
  | 2 => s.emit (.hostWrite x d)
  | 3 => s.setFifo (addrOf first) (s.fifo (addrOf first) ++ [d])
  | 4 =>
    let core := coreNumber e (x / 262144)
    let k := s.core core
    match bits x 17 16 with
    | 1 => s.setCore core { k with xmem := k.xmem.writeN (x % 65536) d }
    | 2 => s.setCore core { k with ymem := k.ymem.writeN (x % 65536) d }
    | _ => s
  | _ => s

/-- Whether a partial write of a DRAM line reads it without error; a write of the whole line reads nothing (R566, R567). -/
def State.rmwGood (s : State) (a n : Nat) (rmw : Ecc) : Bool :=
  spaceOf a != 0 || n == 64 ||
    (!s.mem.poisoned.contains (lineOf (addrOf a)) && match rmw with | .uncorrectable _ => false | _ => true)

/-- The bytes of the burst of a channel that begins at a place in its range: to the end of the destination line. -/
def DmaCh.burstAt (c : DmaCh) (pos : Nat) : Nat := min (64 - (addrOf c.dst + pos) % 64) (c.len - pos)

/-- How far a channel has read its range. -/
def DmaCh.readTo (c : DmaCh) : Nat := c.done + sumOf c.buf fun d => d.length

/-- Bursts in flight of an engine, and how many it may have (R582). -/
def State.inFlight (s : State) (e : Nat) : Nat := sumOf (s.dma.chans.filter fun p => p.1 / 128 == e) fun p => p.2.buf.length
def maxInFlight (e : Nat) : Nat := if e = 56 then 64 else 16

/-- The next burst of a running channel read. -/
def State.dmaReadNext (s : State) (e ch : Nat) (given : List Byte) (ecc : Ecc) : State :=
  let c := s.chan e ch
  let src := c.src + c.readTo
  if c.st ≠ 1 || c.len ≤ c.readTo || maxInFlight e ≤ s.inFlight e then s
  else if spaceSize e (spaceOf c.src) ≤ addrOf src then s.busError e ch false 2 (lineOf (addrOf src))
  else
    let (d, bad, s) := s.dmaRead e src (c.burstAt c.readTo) given ecc
    match bad with
    | some line => s.busError e ch false 1 line
    | none => s.modChan e ch fun c => { c with buf := c.buf ++ [d] }

/-- The bursts that a channel has read by the time it writes one: that one, and those read ahead of it. A paced channel starts one
burst at a time (R590). -/
def State.dmaFill (s : State) (e ch : Nat) (x : DmaIn) : State :=
  let c := s.chan e ch
  if c.st ≠ 1 then s else
  let s := if c.buf.isEmpty then s.dmaReadNext e ch x.data x.ecc else s
  if bit c.ctrl 28 then s else x.ahead.foldl (fun (s : State) d => s.dmaReadNext e ch d .good) s

/-- The oldest burst in flight of a channel written: the residue falls by its bytes (R587). -/
def State.dmaWriteNext (s : State) (e ch : Nat) (d : List Byte) (more : List (List Byte)) (rmw : Ecc) : State :=
  let c := s.chan e ch
  let dst := c.dst + c.done
  if spaceSize e (spaceOf c.dst) ≤ addrOf dst then s.busError e ch true 2 (lineOf (addrOf dst)) else
  let good := s.rmwGood dst d.length rmw
  let s := s.dmaWrite e c.dst dst d rmw
  if !good then s.busError e ch true 1 (lineOf (addrOf dst)) else
  let s := s.modChan e ch fun c => { c with
    done := c.done + d.length, residue := c.residue - d.length, buf := more
    st := if c.st = 2 && more.isEmpty then 3 else c.st }
  s.modDmaStats e fun x => { x with bursts := x.bursts + 1 }

/-- The channels of a kind: privileged ones, or the others (R583). -/
def kindOf (ch : Nat) : Nat := if ch < 8 then 0 else 1

/-- One burst of a channel. -/
def State.dmaBurst (s : State) (e ch : Nat) (x : DmaIn) : State :=
  let s := s.modDma fun d => { d with served := tset d.served (2 * e + kindOf ch) ch }
  let c := s.chan e ch
  match x.err with
  | some (w, cause) => s.busError e ch w (cause % 5) (lineOf (addrOf (if w then c.dst + c.done else c.src + c.readTo)))
  | none =>
    let s := s.dmaFill e ch x
    match (s.chan e ch).buf with
    | [] => s
    | d :: more => if (s.chan e ch).st = 5 then s else s.dmaWriteNext e ch d more x.rmw

/-- An uncorrectable error in an engine's own channel state (R597). -/
def State.engineFail (s : State) (e ch : Nat) : State :=
  if s.dma.failed.contains e then s else
  let s := s.modDma fun d => { d with failed := d.failed ++ [e] }
  if e = 56 then (s.fatal 4 ch).raise 91 0 (le 2 0x8000 ++ le 1 0)
  else
    let spare := (regionClusters (regionOf e)).any fun k => (s.cluster k).state == .spare
    let castled := s.units.autoCastle && spare
    (s.unitFailed e 14 0).raise 91 (engineHandle e) (le 2 (engineAddr e) ++ le 1 (b2n castled))

/-- What comes to an engine with a burst: the levels of real-time ports, the lines taken out of port FIFOs, and what firmware
stored in its SRAM. -/
def State.dmaIn (s : State) (e : Nat) (x : DmaIn) : State :=
  let s := x.levels.foldl (fun (s : State) l => s.rtLevel l) s
  let s := x.taken.foldl (fun (s : State) (q : Nat × Nat) => s.setFifo q.1 ((s.fifo q.1).drop q.2)) s
  let s := s.panicLong.haltLong
  x.sram.foldl (fun (s : State) p => s.setSram e ((s.localSram e).writeN p.1 p.2)) s

/-- Firmware starts an idle or aborted channel at a descriptor (R583). -/
def State.dmaStart (s : State) (e ch : Nat) (start : Option Nat) : State :=
  match start with
  | some a => if (s.chan e ch).st = 0 || (s.chan e ch).st = 4 then s.loadDesc e ch a else s
  | none => s

/-- Whether an engine's access to an address crosses a link that retrains (R35, R37). -/
def State.linkBusy (s : State) (e a : Nat) : Bool :=
  spaceOf a == 0 &&
  (match linkOf (dieOf (engineAddr e)) (dramStack (addrOf a) / 2) with
   | some k => (s.units.links.getD k {}).waits
   | none => false)

/-- Whether a channel has a burst ready: it is running or writes out what it has read before it pauses, with bytes left, room for
a burst in flight, requested where it is paced (R590), no link it crosses retrains (R37), the port FIFO it writes to has room, and
DRAM can be used if it takes part. -/
def State.chanReady (s : State) (e ch : Nat) (request : Bool) : Bool :=
  let c := s.chan e ch
  (c.st == 1 && (!c.buf.isEmpty || decide (s.inFlight e < maxInFlight e)) || c.st == 2 && !c.buf.isEmpty) && c.residue != 0 && (!bit c.ctrl 28 || s.requested e (bits c.ctrl 23 16) request) &&
    (spaceOf c.dst != 3 || s.fifoRoom (addrOf c.dst)) &&
    (s.dramLive || spaceOf c.src != 0 && spaceOf c.dst != 0) &&
    !s.linkBusy e (c.src + c.done) && !s.linkBusy e (c.dst + c.done)

/-- Whether a channel from 0 to 7 of an engine has a burst ready, which comes before every other channel (R582). -/
def State.privReady (s : State) (e : Nat) : Bool := (List.range 8).any fun ch => s.chanReady e ch false

/-- Whether it is a channel's turn among those of its kind, which are served round robin: none that is ready stands between it and
the channel served last (R582). A paced channel whose request line no FIFO drives is not known to be ready. -/
def State.roundTurn (s : State) (e ch : Nat) : Bool :=
  let lo := if ch < 8 then 0 else 8
  let n := if ch < 8 then 8 else engineChans e - 8
  let last := (tget s.dma.served (2 * e + kindOf ch)).getD (lo + n - 1)
  let place (c : Nat) : Nat := (c + n - last + n - 1) % n
  (List.range n).all fun i => decide (place ch ≤ place (lo + i)) || !s.chanReady e (lo + i) false

/-- Whether a channel's next burst may run: it is ready, and no channel before it is (R582). -/
def State.burstReady (s : State) (e ch : Nat) (request : Bool) : Bool :=
  s.chanReady e ch request && !(decide (8 ≤ ch) && s.privReady e) && s.roundTurn e ch

/-- DMA_BURST: one 64-byte burst of a channel: the next destination line is written with the bytes in range (R582 to
R591, R595, R597). Firmware may start an idle channel with it. -/
def execDmaBurst (t e ch : Nat) (x : DmaIn) (s : State) : Host.Outcome State Fault Refusal :=
  let s := s.advance t
  if 56 < e || engineChans e ≤ ch || s.dma.failed.contains e then .next s else
  let s := s.dmaIn e x
  if x.stateErr then .next (s.engineFail e ch) else
  let s := s.dmaStart e ch x.start
  if s.burstReady e ch x.request then .next (s.dmaBurst e ch x) else .next s

/-- A descriptor done: its pulse, and the end of the chain or the next descriptor (R585, R588). -/
def State.descDone (s : State) (e ch : Nat) (c : DmaCh) : State :=
  let s := if bit c.ctrl 30 then
      (s.modDmaStats e fun x => { x with pulses := x.pulses + 1 }).pulse (bits c.target 17 0) (bits c.target 25 18) 1
    else s
  if bit c.ctrl 29 then s.modChan e ch fun c => { c with st := 0 } else s.loadDesc e ch c.next

/-- DMA_DESCRIPTOR_DONE: the last write burst of a descriptor has been accepted: its pulse, and the next descriptor or
the end of the chain (R585, R588). -/
def execDmaDescriptorDone (t e ch : Nat) (s : State) : Host.Outcome State Fault Refusal :=
  let s := s.advance t
  let c := s.chan e ch
  if c.st ≠ 1 || c.residue ≠ 0 || c.len = 0 then .next s else .next (s.descDone e ch c)

/-- A channel aborted: its descriptor written back with the outcome, its interrupt raised (R585, R593). -/
def State.dmaAbort (s : State) (e ch outcome : Nat) : State :=
  let s := (s.writeBack e ch outcome).modChan e ch fun c => { c with st := 4, irq := true, buf := [] }
  s.modDmaStats e fun x => { x with aborts := x.aborts + 1 }

/-- A privileged channel pauses: it reads nothing further, and is PAUSED once every burst it has read is written (R592). -/
def State.dmaPause (s : State) (e ch : Nat) : State :=
  (s.modChan e ch fun c => { c with st := if c.buf.isEmpty then 3 else 2 }).modDmaStats e fun x => { x with pauses := x.pauses + 1 }

/-- DMA_STOP_REQUEST: a privileged channel pauses, another aborts (R592 to R594). -/
def execDmaStopRequest (t e ch : Nat) (s : State) : Host.Outcome State Fault Refusal :=
  let s := s.advance t
  if (s.chan e ch).st ≠ 1 then .next s
  else if ch < 8 then .next (s.dmaPause e ch)
  else .next (s.dmaAbort e ch 2)

/-- DMA_RESUME: firmware resumes a paused or halted channel, or aborts it (R592, R596). -/
def execDmaResume (t e ch : Nat) (abort : Bool) (s : State) : Host.Outcome State Fault Refusal :=
  let s := (s.advance t).haltLong
  let c := s.chan e ch
  if c.st ≠ 3 && c.st ≠ 5 then .next s
  else if abort then .next (s.dmaAbort e ch (if c.st = 5 then 3 else 2))
  else if (c.cause = 5 || c.unread) && c.st = 5 then
    .next (s.loadDesc e ch c.desc)
  else .next (s.modChan e ch fun c => { c with st := 1, cause := 0, irq := false })

/-! Crossing queues (R598 to R600). -/

def queueKey (reader writer q : Nat) : Nat := reader * 65536 + writer * 256 + q

/-- The words a queue holds: from 8 to 64. -/
def queueDepth (reader writer q : Nat) : Nat := 8 + Config.queueExtra reader writer q % 57

def State.crossQ (s : State) (k : Nat) : CrossQ := (tget s.dma.queues k).getD {}
def State.setCrossQ (s : State) (k : Nat) (x : CrossQ) : State := s.modDma fun d => { d with queues := tset d.queues k x }

/-- The clock of an island in kHz (Table 01-6; R600 numbers the islands); the serial ports' is that of their PLL. -/
def islandKhz (i : Nat) : Nat :=
  if i < 56 then (if isAudioCluster i then 1600000 else 1200000)
  else if i < 64 then 2000000 else if i < 70 then 1500000 else 983040

/-- `n` cycles of an island's clock in 1/65,536 ns. -/
def cyclesU (i n : Nat) : Nat := n * 65536000000 / islandKhz i

/-- Whether the writer sees the queue as full: always while it is, and for up to 3 of its cycles after a slot has freed
(R42); how long is free. -/
def CrossQ.looksFull (x : CrossQ) (writer depth now : Nat) (late : Bool) : Bool :=
  decide (depth ≤ x.words.length) || late && (match x.freed with | some f => decide (now < f + cyclesU writer 3) | none => false)

/-- Whether the reader sees the queue as empty: a word crosses in 2 to 4 of its cycles (R43), and is seen at most 3 cycles
after it has arrived (R42); how long either takes is free. -/
def CrossQ.looksEmpty (x : CrossQ) (reader now : Nat) (late : Bool) : Bool :=
  match x.words with
  | [] => true
  | (_, d) :: _ => decide (now < d + cyclesU reader 2) || late && decide (now < d + cyclesU reader 7)

/-- The first words that wait enter a queue while its writer sees room. -/
def CrossQ.settle (writer depth now : Nat) (late : Bool) : Nat → CrossQ → CrossQ
  | 0, x => x
  | n + 1, x =>
    match x.waiting with
    | [] => x
    | (v, _) :: more =>
      if x.looksFull writer depth now late then x else
      CrossQ.settle writer depth now late n
        { x with words := x.words ++ [(v, now)], waiting := more, since := (more.head?).map fun p => p.2 }

/-- Every queue whose writer is sure to see its room by now takes the words that wait. -/
def State.queuesSettle (s : State) : State :=
  let settle (k : Nat) (x : CrossQ) : CrossQ :=
    CrossQ.settle (k / 256 % 256) (queueDepth (k / 65536) (k / 256 % 256) (k % 256)) s.now true x.waiting.length x
  s.modDma fun d => { d with queues := tmap d.queues settle }

/-- Queues that have held back a writer for more than 100 µs, or a word for 1 ms: events 92 and 93. -/
def State.queueChecks (s : State) : State :=
  let s := s.queuesSettle
  s.dma.queues.foldl (fun (s : State) p =>
    let reader := p.1 / 65536
    let writer := p.1 / 256 % 256
    let q := p.1 % 256
    let s := match p.2.since with
      | some d => if s.now ≤ d + 100 * usU then s
        else s.raiseWK 92 p.1 0 (le 1 writer ++ le 1 reader ++ le 1 q ++ le 4 ((s.now - d) / usU))
      | none => s
    match p.2.words with
    | (_, d) :: _ => if s.now < d + msU then s
      else s.raiseWK 93 p.1 0 (le 1 reader ++ le 1 q ++ le 4 ((s.now - d) / usU))
    | [] => s) s

/-- A word put into a queue: behind the others, or waiting while its writer sees the queue as full (R598). -/
def CrossQ.put (x : CrossQ) (full : Bool) (word now : Nat) : CrossQ :=
  if full || !x.waiting.isEmpty then { x with waiting := x.waiting ++ [(word, now)], since := some (x.since.getD now) }
  else { x with words := x.words ++ [(word, now)] }

/-- The queue after its first word is read. -/
def CrossQ.pull (x : CrossQ) (depth now : Nat) : CrossQ :=
  { x with words := x.words.drop 1, freed := if depth ≤ x.words.length then some now else x.freed }

/-- QUEUE_WRITE: a word written to a crossing queue; the writer waits while it sees the queue as full (R42, R598). -/
def execQueueWrite (t reader writer q word : Nat) (s : State) : Host.Outcome State Fault Refusal :=
  let s := (s.advance t).queueChecks
  if 70 < reader || 70 < writer || 255 < q then .next s else
  let r := s.free
  let k := queueKey reader writer q
  let x := s.crossQ k
  .next (r.2.setCrossQ k (x.put (x.looksFull writer (queueDepth reader writer q) s.now (bit r.1 0)) word s.now))

/-- QUEUE_READ: a word read from a crossing queue, or VALID clear where the reader sees it as empty (R42, R43, R599); a writer
that waits then completes, at once or once it sees the room. -/
def execQueueRead (t reader writer q : Nat) (s : State) : Host.Outcome State Fault Refusal :=
  let s := (s.advance t).queueChecks
  if 70 < reader || 70 < writer || 255 < q then .next s else
  let r := s.free
  let k := queueKey reader writer q
  let d := queueDepth reader writer q
  let x := s.crossQ k
  if x.looksEmpty reader s.now (bit r.1 0) then .next (r.2.emit (.queueRead reader writer q false 0)) else
  .next ((r.2.setCrossQ k (CrossQ.settle writer d s.now (bit r.1 1) 1 (x.pull d s.now))).emit
    (.queueRead reader writer q true ((x.words.map fun w => w.1).headD 0)))

/-! Priority flow control generators (R603, R604). -/

/-- A pause frame with a time on every logical port of a physical port whose link is up. -/
def State.sendPauses (s : State) (phys time : Nat) : State :=
  let mask := (s.net.phys.getD phys {}).priMask
  ((List.range 4).map (4 * phys + ·)).foldl (fun (s : State) p =>
    if (s.net.ports.getD p {}).up then (s.modPort p fun x => { x with genSent := s.now }).emit (.pause p mask time) else s) s

/-- Whether a pause of a logical port is due again: half its time of 0xFFFF has passed, and the level stays above XON
(R603). -/
def State.pauseDue (s : State) (port : Nat) : Bool :=
  let p := s.net.phys.getD (port / 4) {}
  let l := s.net.ports.getD port {}
  decide (port < 8) && p.genOn && p.pausing && decide (p.xon < p.macBuf) && l.up &&
    decide (l.genSent + 65535 * 256 * nsU / s.portGbps port ≤ s.now)

/-- That pause sent again. -/
def State.pauseRepeat (s : State) (port : Nat) : State :=
  let s := s.modPhys (port / 4) fun p => { p with pausesSent := p.pausesSent + 1 }
  (s.modPort port fun x => { x with genSent := s.now }).emit (.pause port (s.net.phys.getD (port / 4) {}).priMask 0xFFFF)

/-- The generator of a physical port at its buffer's level. -/
def State.pfcUpdate (s : State) (phys : Nat) : State :=
  let p := s.net.phys.getD phys {}
  if !p.genOn then s
  else if !p.pausing then
    if p.xoff ≤ p.macBuf then
      let s := s.modPhys phys fun p => { p with pausing := true, pauseDt := s.now, pausesSent := p.pausesSent + 1 }
      (s.sendPauses phys 0xFFFF).raise 94 0 (le 1 phys ++ le 1 p.priMask ++ le 4 p.macBuf)
    else s
  else if p.macBuf ≤ p.xon then
    let s := s.modPhys phys fun p => { p with pausing := false }
    (s.sendPauses phys 0).raise 95 0 (le 1 phys ++ le 4 ((s.now - p.pauseDt) / usU))
  else s

/-- A generator set (R604): a level above the new XOFF sends a pause at once, during a pause as well; one at or below the
new XON ends a pause. -/
def State.pfcSet (s : State) (phys : Nat) (on : Bool) (mask xoff xon : Nat) : State :=
  let s := s.modPhys phys fun p => { p with
    genOn := on, priMask := mask, xoff := xoff, xon := xon, pausing := p.pausing && on }
  let p := s.net.phys.getD phys {}
  if p.pausing && decide (xoff < p.macBuf) then
    (s.modPhys phys fun p => { p with pausesSent := p.pausesSent + 1 }).sendPauses phys 0xFFFF
  else s.pfcUpdate phys

/-! Commands. -/

/-- DMA_QUERY (Table 17-8). -/
def bodyDmaQuery : Body := fun _ c s =>
  let e := c.u 0 1
  if !(c.rng 0 1 0 56 && decide (c.u 1 1 < engineChans e) && c.zero 2 2) then .fail s stBadParam else
  let k := s.chan e (c.u 1 1)
  .ok s (le 4 (k.st * 536870912 + k.dir * 268435456 + k.cause * 16777216 + k.buf.length * 131072 +
    b2n k.irq) ++ le 4 k.desc ++ le 4 k.residue ++
    zeros 4 ++ le 8 k.fault ++ zeros 8)

/-- DMA_STATS (Table 17-9). -/
def bodyDmaStats : Body := fun _ c s =>
  if !(c.rng 0 1 0 56 && c.zero 1 3) then .fail s stBadParam else
  let x := (tget s.dma.stats (c.u 0 1)).getD {}
  .ok s (le 8 x.bursts ++ le 4 x.busErrors ++ le 4 x.aborts ++ le 4 x.pauses ++ le 4 x.invalid ++ le 4 x.pulses ++ zeros 4)

/-- PFC_GEN_SET (R603, R604). -/
def bodyPfcGenSet : Body := fun _ c s =>
  if !(c.rng 0 1 0 1 && c.mask 1 1 1 && c.zero 3 1) then .fail s stBadParam else
  let xoff := c.dflt 4 4 1572864
  let xon := c.dflt 8 4 1048576
  if xoff ≤ xon || 2097152 < xoff then .fail s stWatermarkInvalid else
  .ok (s.pfcSet (c.u 0 1) (c.flag 1 1 0) (c.u 2 1) xoff xon)

def execMemQuery (c : Cmd) (s : State) := runBelex 0x0E00 bodyMemQuery c s
def execMemLogRead (c : Cmd) (s : State) := runBelex 0x0E01 bodyMemLogRead c s
def execMemSet (c : Cmd) (s : State) := runBelex 0x0E10 bodyMemSet c s
def execMemTenantSet (c : Cmd) (s : State) := runBelex 0x0E11 bodyMemTenantSet c s
def execMemTenantQuery (c : Cmd) (s : State) := runBelex 0x0E12 bodyMemTenantQuery c s
def execDmaQuery (c : Cmd) (s : State) := runBelex 0x0F00 bodyDmaQuery c s
def execDmaStats (c : Cmd) (s : State) := runBelex 0x0F01 bodyDmaStats c s
def execPfcGenSet (c : Cmd) (s : State) := runBelex 0x0F10 bodyPfcGenSet c s

end Sys2Proof.Machine
end

