-- ==== Sys2Proof/Machine/EgressOps.lean ====
section
/-! DEFINITION. Shared operations of egress (file 06 of spec/): gates and the guard band, finish tags, shapers, the
egress pool, flow-control outputs, FEC blocks, the enqueue and the scheduler. -/

namespace Sys2Proof.Machine

/-! Gates (R262 to R267). -/

/-- The entry of a list in force at a position of its cycle: its index, its gates and the position at which it ends. -/
def entryAt (cycle : Nat) : List (Nat × Nat) → Nat → Nat → Nat → Nat × Nat × Nat
  | [], i, _, _ => (i, 255, cycle)
  | [e], i, _, _ => (i, e.1, cycle)
  | e :: r, i, acc, p => if p < acc + e.2 then (i, e.1, min cycle (acc + e.2)) else entryAt cycle r (i + 1) (acc + e.2) p

/-- The entry of a list at an instant not before its start: index, gates, the instant at which it ends. -/
def GateList.at_ (g : GateList) (t : Nat) : Nat × Nat × Nat :=
  let p := (t - g.start) % g.cycle
  let e := entryAt g.cycle g.entries 0 0 p
  (e.1, e.2.1, t - p + e.2.2)

/-- The gates of a port at an instant: those of the running list, held while it restarts after a step (R265); every gate
is open with no list in force. -/
def LPort.gates (p : LPort) (t : Nat) : Nat :=
  match p.running with
  | none => 255
  | some g => match p.frozenGates with
    | some x => if t < g.start then x else (g.at_ t).2.1
    | none => (g.at_ t).2.1

/-- The first instant from `t` on at which a class is closed in a list, over `fuel` entries; none when it never is. -/
def GateList.closeFrom (g : GateList) (c : Nat) : Nat → Nat → Option Nat
  | 0, _ => none
  | fuel + 1, t => let e := g.at_ t; if bit e.2.1 c then g.closeFrom c fuel e.2.2 else some t

/-- close(c, t) of R267: from the running list and, from its start on, from the pending one; none when the class is not
closed again. -/
def LPort.close (p : LPort) (c t : Nat) : Option Nat :=
  let scan (g : GateList) (u : Nat) : Option Nat :=
    if g.entries.isEmpty then none else g.closeFrom c (2 * g.entries.length + 2) u
  let run := match p.running with
    | none => none
    | some g => if t < g.start then (if bit (p.gates t) c then scan g g.start else some t) else scan g t
  match p.pending with
  | none => run
  | some q =>
    let early := match run with | some x => decide (x < q.start) | none => false
    if early || decide (q.start ≤ t) then run else scan q q.start

/-- The entries of a list with the time for which each is in force in a cycle of it, from a position on. -/
def entrySpans (cycle : Nat) : List (Nat × Nat) → Nat → List (Nat × Nat)
  | [], _ => []
  | [e], acc => [(e.1, cycle - min cycle acc)]
  | e :: r, acc => (e.1, min e.2 (cycle - min cycle acc)) :: entrySpans cycle r (acc + e.2)

/-- The longest window of a class in a list: none when the class is always open, 0 when it has none (R268). An entry that the
end of the cycle cuts off whole is never in force. -/
def GateList.longest (g : GateList) (c : Nat) : Option Nat :=
  let l := (entrySpans g.cycle g.entries 0).filter fun e => decide (0 < e.2)
  if l.all fun e => bit e.1 c then none else
  some ((l ++ l).foldl (fun (a : Nat × Nat) e => if bit e.1 c then (a.1 + e.2, max a.2 (a.1 + e.2)) else (0, a.2)) (0, 0)).2

/-- The transmission time of a frame on a port, in 1/65,536 ns (R266). -/
def State.txTime (s : State) (port len : Nat) : Nat :=
  let n := (len + (s.net.ports.getD port {}).oh) * 8 * 65536
  let r := s.portGbps port
  (n + r - 1) / r

/-! Finish tags (R251 to R254). -/

/-- Whether tag `a` is before tag `b` (R254). -/
def tagBefore (a b : Nat) : Bool := decide (2 ^ 63 ≤ (a + 2 ^ 64 - b) % 2 ^ 64)

/-! Shapers (R256 to R259). -/

/-- A leg's bucket refilled up to an instant. -/
def LegEgress.refill (e : LegEgress) (t : Nat) : LegEgress :=
  { e with bucket := min ((e.shapeBurst * byteTok : Nat) : Int) (e.bucket + ((t - e.bucketDt) * e.shaperKbps : Nat))
           bucketDt := max e.bucketDt t }

/-- The shaper rate of a leg changed: the content of its bucket is kept (R258). -/
def State.setShaper (s : State) (leg kbps : Nat) : State :=
  s.modLeg leg fun l => { l with egr := { (l.egr.refill s.now) with shaperKbps := kbps } }

/-! Sent packets' records (R217, R240). -/

/-- The record of a transport-wide sequence number changed: the latest of that number. -/
def State.modRecord (s : State) (leg : Nat) (twcc : Option Nat) (f : TwccRecord → TwccRecord) : State :=
  match twcc with
  | none => s
  | some n => s.modLeg leg fun l => { l with ada := { l.ada with
      records := l.ada.records.map fun r => if r.seq = n then f r else r } }

/-- Frames of a leg that leave its queue unsent: their cells are free and their records marked not sent. -/
def State.dropFrames (s : State) (leg : Nat) (l : List TxFrame) : State :=
  let s := s.poolFreed (sumOf l fun f => f.cells)
  l.foldl (fun (s : State) f => s.modRecord leg f.twcc fun r => { r with dropped := true }) s

/-- A leg's egress changed. -/
def State.modEgr (s : State) (leg : Nat) (f : LegEgress → LegEgress) : State := s.modLeg leg fun l => { l with egr := f l.egr }

/-- A logical port's link that is up goes down: event 97, the frames queued on the port discarded, and event 140 (R246). -/
def State.linkLost (s : State) (port : Nat) : State :=
  let p := s.net.ports.getD port {}
  if !p.up then s else
  let s := s.modPort port fun p => { p with up := false, queue := [] }
  let s := (s.portCount port 15 1).raise 97 0 (le 1 port)
  let s := s.poolTo (s.net.poolCells - sumOf p.queue fun f => f.cells)
  let r := s.legs.foldl (fun (a : Nat × State) l =>
    let q := l.2.egr.lanes.flatten
    if l.2.netPort ≠ port || q.isEmpty then a else
    (a.1 + q.length, (a.2.modEgr l.1 fun e => { e with
      lanes := List.replicate 8 [], linkDownDrops := e.linkDownDrops + q.length }).dropFrames l.1 q)) (p.queue.length, s)
  (r.2.raise 140 0 (le 1 port ++ le 4 r.1)).fcUpdate

/-- The links of a physical port go down. -/
def State.linksLost (s : State) (phys : Nat) : State :=
  [0, 1, 2, 3].foldl (fun (s : State) k => s.linkLost (4 * phys + k)) s

/-- A lane of a leg replaced. -/
def LegEgress.setLane (e : LegEgress) (c : Nat) (q : List TxFrame) : LegEgress := { e with lanes := setAt e.lanes c q }

/-! FEC blocks (R271 to R273). -/

/-- Exclusive or of byte strings, the shorter filled with zeros. -/
def xorBytes : List Byte → List Byte → List Byte
  | [], b => b
  | a, [] => a
  | x :: a, y :: b => (x ^^^ y) :: xorBytes a b

/-- Exclusive or of lists of words, the shorter filled with zeros. -/
def xorNats : List Nat → List Nat → List Nat
  | [], b => b
  | a, [] => a
  | x :: a, y :: b => (x ^^^ y) :: xorNats a b

/-- The parity of packets as a repair packet carries it (RFC 8627). -/
def fecParity (ssrc : Nat) (fixed : Option (Nat × Nat)) (l : List Rtp) : FecHdr :=
  l.foldl (fun (h : FecHdr) p => { h with
    seqs := h.seqs ++ [p.seq], marker := h.marker != p.marker, pt := h.pt ^^^ p.pt, len := h.len ^^^ p.payload.length
    ts := h.ts ^^^ p.ts, level := h.level ^^^ (match p.level with | some v => 128 + v | none => 0)
    cc := h.cc ^^^ p.csrc.length, csrc := xorNats h.csrc p.csrc, payload := xorBytes h.payload p.payload }) { ssrc := ssrc, fixed := fixed }

/-- Round half up of a ratio. -/
def roundDiv (a b : Nat) : Nat := (2 * a + b) / (2 * b)

/-- The size L, D of a block for an overhead in percent (R271). -/
def fecSize (mode f : Nat) : Nat × Nat :=
  if mode = 0 then (max 2 (min 32 (roundDiv 100 f)), 1)
  else let l := max 4 (min 10 (roundDiv 200 f)); (l, l)

/-- The rows and columns of a full block; one set for a block closed early. -/
def fecSets (mode l d : Nat) (full : Bool) (q : List Rtp) : List (Option (Nat × Nat) × List Rtp) :=
  if !full then [(none, q)]
  else
    let rows := (List.range d).map fun r => (some (l, 1), (q.drop (r * l)).take l)
    let cols := if mode = 0 then [] else (List.range l).map fun c =>
      (some (l, d), (List.range d).filterMap fun r => q[r * l + c]?)
    rows ++ cols

/-- A block closed: its repair packets take the KIND 3 flow's sequence numbers and its protection. -/
def State.fecClose (s : State) (k : Nat) (full : Bool) : State :=
  match s.flow k with
  | none => s
  | some f =>
    let g := f.fgen
    let ssrc := match s.flow (hIdx f.assoc) with | some v => v.ssrc | none => 0
    let sets := fecSets g.blkMode g.blkL g.blkD full g.blkPackets
    let s := s.modFlow k fun f => { f with fgen := { f.fgen with blkFirst := none, blkPackets := [] } }
    sets.foldl (fun (s : State) q =>
      match s.flow k with
      | none => s
      | some f =>
        let p : Rtp := { ssrc := f.ssrc, seq := f.sendSeq % 65536, pt := f.pt, mid := f.mid,
                         ts := (s.now * f.clockRate / secU + f.tsBase) % 2 ^ 32, fec := some (fecParity ssrc q.1 q.2) }
        ((s.modFlow k fun f => { f with sendSeq := f.sendSeq + 1 }).modEgr f.leg fun e =>
          { e with fecRepairs := e.fecRepairs + 1 }).sendRtp k p none) s

/-- A protected packet added to its block, which opens with it, and closes when it is full. -/
def State.fecAdd (s : State) (k kbps : Nat) (p : Rtp) : State :=
  match s.flow k with
  | none => s
  | some f =>
    let g := f.fgen
    if g.blkFirst.isNone && kbps == 0 then s else
    let size := fecSize g.mode kbps
    let g := if g.blkFirst.isSome then g else
      { g with blkMode := g.mode, blkL := size.1, blkD := size.2, blkFlush := g.flushMs, blkFirst := some s.now }
    let g := { g with blkPackets := g.blkPackets ++ [p] }
    let s := s.modFlow k fun f => { f with fgen := g }
    if g.blkL * g.blkD ≤ g.blkPackets.length then s.fecClose k true else s

/-- The KIND 3 send flow that protects a send flow (R224). -/
def State.fecOf (s : State) (flow : Nat) (f : Flow) : Option Nat :=
  if f.kind ≠ 2 then none else
  ((s.flowsOf f.leg).find? fun p => p.2.dir == 2 && p.2.kind == 3 && p.2.assoc == flowH flow && p.2.state != .closing).map
    fun p => p.1

/-! The enqueue (R239 to R248, R269). -/

/-- The flow whose class a frame follows: KIND 3 and KIND 4 frames go with the flow they protect (R209, R273). -/
def State.classFlow (s : State) (flow : Nat) : Nat :=
  match s.flow flow with
  | some f => if f.kind = 3 || f.kind = 4 then hIdx f.assoc else flow
  | none => flow

/-- The lane that a frame enters; a change of class waits until the old lane holds no frame of the flow (R242). -/
def State.laneFor (s : State) (l : Leg) (fr : ReadyFrame) : Nat × State :=
  match fr.cls, fr.flow with
  | 7, _ => (7, s)
  | c, none => (c, s)
  | c, some i =>
    let v := s.classFlow i
    match s.flow v with
    | none => (c, s)
    | some f => match f.clsNew with
      | none => (f.cls, s)
      | some n =>
        let busy := (l.egr.lanes.getD f.cls []).any fun x => match x.flow with | some y => s.classFlow y == v | none => false
        if busy then (f.cls, s) else (n, s.modFlow v fun f => { f with cls := n, clsNew := none })

/-- The RTP packet in a frame. -/
def rtpOf : EthBody → Option Rtp
  | .ip _ _ _ _ _ _ (.udp _ _ _ _ (.rtp p)) => some p
  | _ => none

/-- A frame body with the transport-wide sequence number written into its RTP packet (R202). -/
def setTwcc (n : Nat) : EthBody → EthBody
  | .ip a b c d e f (.udp g h i j (.rtp p)) =>
    .ip a b c d e f (.udp g h i j (.rtp (if p.twcc.isSome then { p with twcc := some n } else p)))
  | x => x

/-- A frame that belongs to no leg enters the port queue (R248). -/
def State.enqueuePort (s : State) (fr : ReadyFrame) : State :=
  let p := s.net.ports.getD fr.port {}
  let cells := cellsOf fr.len
  if !p.up then s
  else if 262144 < (sumOf p.queue fun f => f.len) + fr.len || poolSizeCells < s.net.poolCells + cells then
    s.modPort fr.port fun p => { p with portqDrops := p.portqDrops + 1 }
  else
    let x : TxFrame := ⟨none, none, 7, fr.len, s.now, 0, none, p.dscp.getD 7 0, none, fr.body, cells, none, none⟩
    let s := s.modPort fr.port fun p => { p with
      queue := p.queue ++ [x], lastSent := if p.queue.isEmpty then setAt p.lastSent 7 s.now else p.lastSent }
    (s.poolTo (s.net.poolCells + cells)).fcUpdate

/-- A frame of a leg enters its lane, or is dropped and counted. -/
def State.enqueueLeg (s : State) (leg : Nat) (fr : ReadyFrame) : State :=
  match s.leg leg with
  | none => s
  | some l =>
    let (c, s) := s.laneFor l fr
    let p := s.net.ports.getD l.netPort {}
    let cells := cellsOf fr.len
    let depth := sumOf l.egr.lanes fun q => sumOf q fun f => f.len
    if l.state = .closing && c ≠ 7 then s
    else if !p.up then s.modEgr leg fun e => { e with linkDownDrops := e.linkDownDrops + 1 }
    else if l.egr.qlimit + (if c = 7 then 16384 else 0) < depth + fr.len then
      (s.modEgr leg fun e => { e with qlimitDrops := e.qlimitDrops + 1 }).raiseCount 128 (legH leg) (legH leg) []
    else if poolSizeCells - (if c = 7 then 0 else 32768) < s.net.poolCells + cells then
      (s.modEgr leg fun e => { e with poolDrops := e.poolDrops + 1 }).raiseCount 130 0 0 []
    else
      let lane := l.egr.lanes.getD c []
      let from_ := match lane.getLast? with | some x => x.tag | none => p.vt.getD c 0
      let tag := (from_ + fr.len * 65536 / l.egr.weight) % 2 ^ 64
      let n := l.ada.nextTwcc % 65536
      let tci := if bit l.flags 1 then some (l.vlan % 8192 + p.pcp.getD c 0 * 8192) else none
      let x : TxFrame := ⟨some leg, fr.flow, c, fr.len, s.now, tag, if fr.media then some n else none,
        p.dscp.getD c 0, tci, if fr.media then setTwcc n fr.body else fr.body, cells, fr.src, fr.lock⟩
      let idle := s.legs.all fun q => q.2.netPort != l.netPort || (q.2.egr.lanes.getD c []).isEmpty
      let s := if idle then s.modPort l.netPort fun p => { p with lastSent := setAt p.lastSent c s.now } else s
      let s := s.modEgr leg fun e => e.setLane c (lane ++ [x])
      let s := if !fr.media then s else s.modLeg leg fun l => { l with ada := { l.ada with
        nextTwcc := (n + 1) % 65536
        records := (l.ada.records ++ [({ seq := n, sent := none, bytes := fr.len, dropped := false, report := none, used := false } : TwccRecord)]).drop (l.ada.records.length + 1 - 2048) } }
      let s := (s.poolTo (s.net.poolCells + cells)).fcUpdate
      match fr.flow, rtpOf fr.body with
      | some i, some r => match s.flow i with
        | some f => match s.fecOf i f with | some k => s.fecAdd k l.ada.fec r | none => s
        | none => s
      | _, _ => s

/-! The scheduler (R249 to R257). -/

/-- Head frames of a lane past their age limit leave it (R245). -/
def State.dropAged (s : State) (leg c : Nat) : State :=
  match s.leg leg with
  | none => s
  | some l =>
    let ms := if c = 6 then l.egr.ageAudioMs else l.egr.ageVideoMs
    if c ≠ 6 && c ≠ 5 then s else
    let lane := l.egr.lanes.getD c []
    let old := lane.takeWhile fun f => decide (f.dt + ms * msU < s.now)
    if old.isEmpty then s else
    let s := (s.modEgr leg fun e => { (e.setLane c (lane.drop old.length)) with ageDrops := e.ageDrops + old.length }).dropFrames leg old
    let k := s.countIn 131 (legH leg) old.length
    k.2.raiseW 131 (legH leg) (le 1 c ++ le 4 k.1)

/-- Whether a frame of a class passes the guard band of a port now (R267). -/
def State.passes (s : State) (port c len : Nat) : Bool :=
  match (s.net.ports.getD port {}).close c s.now with
  | none => true
  | some x => decide (s.now + s.txTime port len ≤ x)

/-- Whether a class of a port is paused now (R270). -/
def LPort.pausedNow (p : LPort) (c now : Nat) : Bool :=
  match p.paused.getD c none with | some x => decide (now < x.1) | none => false

/-- The eligible lane of a class with the earliest finish tag. -/
def State.bestLane (s : State) (port c : Nat) : Option (Nat × TxFrame) :=
  s.legs.foldl (fun (best : Option (Nat × TxFrame)) p =>
    if p.2.netPort ≠ port || p.2.typ == .port then best else
    match p.2.egr.lanes.getD c [] with
    | [] => best
    | f :: _ =>
      if c ≠ 7 && decide ((p.2.egr.refill s.now).bucket < 0) then best
      else if !s.passes port c f.len then best
      else match best with
        | none => some (p.1, f)
        | some b => if tagBefore f.tag b.2.tag then some (p.1, f) else best) none

/-- A frame starts on a port (R253, R257, R240, R794); it leaves as the bytes of its standards (R8), and sealed (R5). -/
def State.startFrame (s : State) (port c : Nat) (f : TxFrame) : State :=
  let t := s.txTime port f.len
  let s := s.modPort port fun p => { p with
    freeAt := s.now + t, lastSent := setAt p.lastSent c s.now
    sentFrames := bump p.sentFrames c 1, sentBytes := bump p.sentBytes c f.len }
  let r := (s.poolTo (s.net.poolCells - f.cells)).free
  r.2.emit (.frame port (frameWire (s.net.ports.getD port {}).mac (Config.openField r.1) f))

/-- The history entry of a packet sent, or resent on an RTX flow (R206, R208). -/
def State.histSent (s : State) (flow : Nat) (p : Rtp) : State :=
  let rtx := match s.flow flow with | some f => f.kind == 4 | none => false
  let owner := s.classFlow flow
  let seq := if rtx then p.osn.getD p.seq else p.seq
  s.modFlow owner fun f => { f with hist := f.hist.map fun h =>
    if h.out = seq then { h with sent := if h.resends = 0 then s.now else h.sent, lastTx := s.now } else h }

/-- The Follow_Up of a Sync, or of a Pdelay_Resp, whose first byte leaves now (R670). -/
def State.followUp (s : State) (port : Nat) : EthBody → State
  | .ip a b c d e f (.udp _ _ i j (.ptp dom _ (.sync _ _ _))) =>
    s.sendPort port (if a then 110 else 90) (.ip a b c d e f (.udp 320 320 i j (.ptp dom true (.followUp s.now))))
  | .ip a b c d e f (.udp _ _ i j (.ptp dom _ (.pdelayResp peer _))) =>
    s.sendPort port (if a then 120 else 100) (.ip a b c d e f (.udp 320 320 i j (.ptp dom true (.pdelayFollowUp peer s.now))))
  | _ => s

/-- A frame of a leg's lane starts. -/
def State.startLeg (s : State) (port c leg : Nat) (f : TxFrame) : State :=
  let s := s.modPort port fun p => { p with vt := setAt p.vt c f.tag }
  let s := s.modLeg leg fun l =>
    let e := l.egr.refill s.now
    { l with
      ing := { l.ing with txBytes := l.ing.txBytes + f.len }
      egr := { (e.setLane c ((e.lanes.getD c []).drop 1)) with
        bucket := if c = 7 then e.bucket else e.bucket - (f.len * byteTok : Nat), txFrames := e.txFrames + 1 } }
  let s := s.metric leg fun m => { m with txBytes := m.txBytes + f.len }
  let s := s.modRecord leg f.twcc fun r => { r with sent := some s.now }
  let s := match f.flow with
    | none => s
    | some i =>
      let s := s.modFlow i fun x => { x with packets := x.packets + 1, bytes := x.bytes + f.len, lastArr := s.now }
      let note (l : List Nat) : List Nat := if l.contains i then l else l ++ [i]
      match rtpOf f.body with
      | some p => (s.modLeg leg fun l => { l with rtcp := { l.rtcp with sentMedia := note l.rtcp.sentMedia } }).histSent i p
      | none => s
  (s.startFrame port c f).fcUpdate

/-- The scheduler of a port at an instant at which its link is free: the classes from 7 down (R249). -/
def State.selectFrom (s : State) (port : Nat) : List Nat → State
  | [] => s
  | c :: rest =>
    let p := s.net.ports.getD port {}
    if !bit (p.gates s.now) c || p.pausedNow c s.now then s.selectFrom port rest else
    match (if c = 7 then p.queue else []) with
    | f :: q =>
      if s.passes port 7 f.len then (((s.modPort port fun p => { p with queue := q }).startFrame port 7 f).followUp port f.body).fcUpdate
      else s.selectFrom port rest
    | [] =>
      let s := s.legs.foldl (fun (s : State) l => if l.2.netPort = port then s.dropAged l.1 c else s) s
      match s.bestLane port c with
      | some (leg, f) => s.startLeg port c leg f
      | none => s.selectFrom port rest

/-- The next frame of a port, when its link is up and free. -/
def State.select (s : State) (port : Nat) : State :=
  let p := s.net.ports.getD port {}
  if !s.portProvided port || !p.up || decide (s.now < p.freeAt) then s
  else s.selectFrom port [7, 6, 5, 4, 3, 2, 1, 0]

/-- The head of the port queue, a lane of class 7, dropped when no window of the list can hold it (R248, R268). -/
def State.portOversize (s : State) (port : Nat) (g : GateList) : State :=
  match g.longest 7, (s.net.ports.getD port {}).queue with
  | some (w + 1), f :: q =>
    if s.txTime port f.len ≤ w + 1 then s else
    ((s.modPort port fun p => { p with queue := q, oversize := p.oversize + 1 }).poolFreed f.cells).raiseW 133 0
      (le 1 7 ++ le 2 f.len)
  | _, _ => s

/-- Head frames that no window of their class in the running list can hold are dropped (R268). -/
def State.gateOversize (s : State) (port : Nat) : State :=
  match (s.net.ports.getD port {}).running with
  | none => s
  | some g =>
    let s := s.portOversize port g
    s.legs.foldl (fun (s : State) l => if l.2.netPort ≠ port then s else
      (List.range 8).foldl (fun (s : State) c =>
        match g.longest c, ((s.leg l.1).map fun x => x.egr.lanes.getD c []).getD [] with
        | some (w + 1), f :: q =>
          if s.txTime port f.len ≤ w + 1 then s else
          let s := (s.modEgr l.1 fun e => { (e.setLane c q) with oversizeDrops := e.oversizeDrops + 1 }).dropFrames l.1 [f]
          (s.modPort port fun p => { p with oversize := p.oversize + 1 }).raiseW 133 (legH l.1) (le 1 c ++ le 2 f.len)
        | _, _ => s) s) s

/-! Pauses received (R270). -/

/-- A class paused for more than 100 ms raises event 134. -/
def State.pauseTell (s : State) (port : Nat) : State :=
  (List.range 8).foldl (fun (s : State) c =>
    let p := s.net.ports.getD port {}
    match p.paused.getD c none with
    | some x => if !p.pauseTold.getD c false && decide (x.2 + 100 * msU < min s.now x.1) then
        (s.modPort port fun p => { p with pauseTold := setAt p.pauseTold c true }).raise 134 0 (le 1 port ++ le 1 c) else s
    | none => s) s

/-- Pauses whose time has run out end, with event 135 for those told of. -/
def State.pauseEnd (s : State) (port : Nat) : State :=
  let s := s.pauseTell port
  (List.range 8).foldl (fun (s : State) c =>
    let p := s.net.ports.getD port {}
    match p.paused.getD c none with
    | some x => if s.now < x.1 then s else
        let told := p.pauseTold.getD c false
        let s := s.modPort port fun p => { p with paused := setAt p.paused c none, pauseTold := setAt p.pauseTold c false }
        if told then s.raise 135 0 (le 1 port ++ le 1 c ++ le 4 ((x.1 - x.2) / usU)) else s
    | none => s) s

/-- A received pause: the quanta of each priority enabled, for every class whose PCP it is. -/
def State.pauseReceived (s : State) (port : Nat) (quanta : List (Nat × Nat)) : State :=
  let p := s.net.ports.getD port {}
  if !p.pfcHonour then s else
  let s := s.pauseEnd port
  let s := (List.range 8).foldl (fun (s : State) c =>
    match quanta.find? fun q => q.1 == p.pcp.getD c 0 with
    | none => s
    | some q =>
      let until_ := s.now + q.2 * 512 * 65536 / s.portGbps port
      let upd (x : Option (Nat × Nat)) : Option (Nat × Nat) := some (until_, match x with | some y => y.2 | none => s.now)
      s.modPort port fun p => { p with paused := modAt p.paused c upd }) s
  s.pauseEnd port

end Sys2Proof.Machine
end

