-- ==== Sys2Proof/Machine/MixOps.lean ====
section
/-! DEFINITION. Shared operations on mixes: the shadow set (R305, R306), mixed legs and the admission of
R282, the contribution limit of R294, and what the end of a flow, leg or conference does to its mix. -/

namespace Sys2Proof.Machine

def stGraphInvalid : Nat := 0x8500
def stGraphCycle : Nat := 0x8501
def stGraphLimit : Nat := 0x8502
def stGraphRef : Nat := 0x8503
def stEngineFull : Nat := 0x8504
def stGroupInUse : Nat := 0x8505
def stCodecUnsupported : Nat := 0x8506

/-- The mix of a conference; a conference without one has the defaults. -/
def State.mix (s : State) (conf : Nat) : ConfMix := (tget s.aud.mixes conf).getD {}

def State.setMix (s : State) (conf : Nat) (m : ConfMix) : State :=
  { s with aud := { s.aud with mixes := tset s.aud.mixes conf m } }

/-- A mix changed where there is one. -/
def State.modMix (s : State) (conf : Nat) (f : ConfMix → ConfMix) : State :=
  { s with aud := { s.aud with mixes := tmod s.aud.mixes conf f } }

/-- A mix group by index. -/
def State.group (s : State) (g : Nat) : Option MixGroup := tget s.aud.groups g

def State.modGroup (s : State) (g : Nat) (f : MixGroup → MixGroup) : State :=
  { s with aud := { s.aud with groups := tmod s.aud.groups g f } }

/-- The mix groups of a conference, by index. -/
def State.groupsOf (s : State) (conf : Nat) : Tbl MixGroup := s.aud.groups.filter fun p => p.2.conf == conf

/-! The contributions and listeners of a set. -/

def MixSet.node (x : MixSet) (i : Nat) : GNode := x.nodes.getD i ⟨0, 0, 0, 0⟩

/-- The node at which the path to a node starts, through KERNEL nodes; `fuel` bounds it. -/
def MixSet.startFrom (x : MixSet) : Nat → Nat → Nat
  | 0, i => i
  | fuel + 1, i =>
    if (x.node i).typ = 5 then
      match x.edges.find? fun e => e.dst == i with | some e => x.startFrom fuel e.src | none => i
    else i

def MixSet.pathStart (x : MixSet) (i : Nat) : Nat := x.startFrom x.nodes.length i

/-- A contribution to a mix group: implicit, of a flow, or an edge from a graph node. -/
structure Contrib where
  flow : Option Nat
  node : Option Nat
  gain : Nat
  pan : Nat
  select : Bool
deriving DecidableEq, Repr

/-- The flow of a contribution, when its path starts at one. -/
def MixSet.contribFlow (x : MixSet) (c : Contrib) : Option Nat :=
  match c.flow, c.node with
  | some f, _ => some f
  | none, some i =>
    let n := x.node (x.pathStart i)
    if n.typ = 1 then some (hIdx n.ref) else none
  | none, none => none

/-- The source leg of a contribution. -/
def State.contribLeg (s : State) (x : MixSet) (c : Contrib) : Option Nat :=
  match x.contribFlow c, c.node with
  | some f, _ => some (s.flowLeg f)
  | none, some i =>
    let n := x.node (x.pathStart i)
    if n.typ = 2 then some (hIdx n.ref) else none
  | none, none => none

/-- The contributions to a group: implicit ones, but of flows that IN_FLOW nodes name, and edges into its SUM node. -/
def MixSet.contribsTo (x : MixSet) (g : Nat) : List Contrib :=
  let named (f : Nat) : Bool := x.nodes.any fun n => n.typ == 1 && n.ref == flowH f
  ((x.contribs.filter fun p => p.2.group == g && !named p.1).map fun p =>
    (⟨some p.1, none, p.2.gain, p.2.pan, true⟩ : Contrib)) ++
  (x.edges.filter fun e => (x.node e.dst).typ == 4 && (x.node e.dst).ref == mkHandle 8 g).map fun e =>
    ⟨none, some e.src, e.gain, e.pan, e.select⟩

/-- The OUT_PORT nodes of a set: leg, slot ordinal, group. -/
def MixSet.outPorts (x : MixSet) : List (Nat × Nat × Nat) :=
  x.nodes.zipIdx.filterMap fun p =>
    if p.1.typ ≠ 6 then none else
    match x.edges.find? fun e => e.dst == p.2 with
    | some e => some (hIdx p.1.ref, p.1.chan, hIdx (x.node e.src).ref)
    | none => none

/-- The contributions and the listeners of a set, each with what identifies it: type of the source node, handle, channel and
group; send flow, or leg and slot, and group. -/
def MixSet.parts (x : MixSet) : List (Nat × Nat × Nat × Nat) :=
  (x.contribs.map fun p => (1, flowH p.1, 0, p.2.group)) ++
  ((x.edges.filter fun e => (x.node e.dst).typ == 4).map fun e =>
    let n := x.node (x.pathStart e.src)
    (n.typ, n.ref, n.chan, hIdx (x.node e.dst).ref)) ++
  (x.listens.map fun p => (6, flowH p.1, 0, p.2.group)) ++ x.outPorts.map fun o => (6, legH o.1, o.2.1, o.2.2)

/-- Whether a set has a contribution or listener that another has not (R313). -/
def MixSet.adds (x old : MixSet) : Bool := let was := old.parts; x.parts.any fun p => !was.contains p

/-- Listeners of a group: send flows and port slots (Table 07-6). -/
def MixSet.listeners (x : MixSet) (g : Nat) : Nat :=
  (countOf x.listens fun p => p.2.group == g) + countOf x.outPorts fun o => o.2.2 == g

/-- The set that the next change starts from: the last shadow while one waits, else the running set (R305). -/
def ConfMix.latest (m : ConfMix) : MixSet :=
  { (match m.pends.getLast? with | some p => p.2 | none => m.run) with crossfade := false, loaded := false }

/-- A change to a conference's mix configuration: complete in the shadow now, effective from the playout grain that contains
this instant, together with the changes of the same grain (R305, R306). A parked conference wakes at the next boundary when a
contribution or a listener is added (R313). -/
def State.mixChange (s : State) (conf : Nat) (crossfade : Bool) (f : MixSet → MixSet) : Nat × State :=
  let g := grainOf s.now
  let m := s.mix conf
  let x := f m.latest
  let same := match m.pends.getLast? with | some p => if p.1 = g then some p.2 else none | none => none
  let fade := crossfade || (match same with | some y => y.crossfade | none => false)
  let load := x.loaded || (match same with | some y => y.loaded | none => false)
  let rest := if same.isSome then m.pends.dropLast else m.pends
  (g, s.setMix conf { m with pends := rest ++ [(g, { x with crossfade := fade, loaded := load })]
                             wake := m.wake || (m.parked && x.adds m.latest) })

/-- The legs that a set makes mixed legs (R282): of contributing and listening flows, and of nodes that name
a slot or a flow. -/
def State.mixedIn (s : State) (m : MixSet) : List Nat :=
  let ofFlow (f : Nat) : List Nat := match s.flow f with | some x => [x.leg] | none => []
  ((m.contribs.flatMap fun p => ofFlow p.1) ++ (m.listens.flatMap fun p => ofFlow p.1) ++
    (m.nodes.flatMap fun n =>
      if n.typ = 1 then ofFlow (hIdx n.ref) else if n.typ = 2 || n.typ = 6 then [hIdx n.ref] else [])).eraseDups

/-- Mixed legs of the conferences whose mix engine is on a cluster. -/
def State.engineLegs (s : State) (cluster : Nat) : Nat :=
  sumOf s.aud.mixes fun p => if p.2.cluster = some cluster then (s.mixedIn p.2.latest).length else 0

/-- Mixed legs of the package. -/
def State.mixedLegs (s : State) : Nat := sumOf s.aud.mixes fun p => (s.mixedIn p.2.latest).length

/-- The admission check of a new set of a conference (R282): 0 when it fits. -/
def State.mixAdmit (s : State) (conf : Nat) (x : MixSet) : Nat :=
  let m := s.mix conf
  let old := (s.mixedIn m.latest).length
  let new := (s.mixedIn x).length
  if new ≤ old then 0
  else if 32768 < s.mixedLegs + (new - old) then stNoResource
  else match m.cluster with
    | some c => if 1024 < s.engineLegs c + (new - old) then stEngineFull else 0
    | none => 0

/-- Whether no SUM channel can get more than 128 contributions (R294, R302): the SELECT contributions to its group count as
N together. -/
def MixSet.fits (x : MixSet) : Bool :=
  x.nodes.all fun n => n.typ != 4 ||
    (let l := x.contribsTo (hIdx n.ref)
     decide ((countOf l fun c => !c.select) + (if l.any fun c => c.select then x.n else 0) ≤ 128))

/-- The active audio cluster with the fewest mixed legs, ties to the lower number (R277). -/
def State.placeMix (s : State) : Option Nat :=
  ((List.range 56).filter fun c => isAudioCluster c && (s.cluster c).state == .active &&
      !bit (s.cluster c).failed 8).foldl
    (fun (b : Option Nat) c => match b with
      | none => some c
      | some d => if s.engineLegs c < s.engineLegs d then some c else some d) none

/-- The graph without the nodes that a test names: their places stay, and their edges go. -/
def MixSet.dropNodes (x : MixSet) (p : GNode → Bool) : MixSet :=
  let gone (i : Nat) : Bool := p (x.nodes.getD i ⟨0, 0, 0, 0⟩)
  { x with nodes := x.nodes.map fun n => if p n then ⟨0, 0, 0, 0⟩ else n
           edges := x.edges.filter fun e => !gone e.src && !gone e.dst }

/-- The flows' settings without one flow. -/
def MixSet.dropFlow (x : MixSet) (f : Nat) : MixSet :=
  ({ x with contribs := tdel x.contribs f, listens := tdel x.listens f } : MixSet).dropNodes fun n =>
    n.typ == 1 && n.ref == flowH f

/-- A set without a leg's part: its flows' settings, and the nodes of its flows and slots. -/
def MixSet.dropLeg (x : MixSet) (leg : Nat) (flows : List Nat) : MixSet :=
  (flows.foldl (fun (x : MixSet) f => x.dropFlow f) x).dropNodes fun n => (n.typ == 2 || n.typ == 6) && n.ref == legH leg

/-- A flow leaves every set of its conference's mix: it is gone. -/
def State.mixDropFlow (s : State) (f : Nat) : State :=
  { s with aud := { s.aud with mixes := s.aud.mixes.map fun p =>
    (p.1, { p.2 with run := p.2.run.dropFlow f,
                     old := p.2.old.map fun x => x.dropFlow f,
                     pends := p.2.pends.map fun x => (x.1, x.2.dropFlow f) }) } }

/-- The kernel instances of a conference removed. -/
def State.dropInsts (s : State) (conf : Nat) : State :=
  { s with aud := { s.aud with dsp := { s.aud.dsp with
      insts := s.aud.dsp.insts.filter fun p => p.1 / 256 != conf
      cores := s.aud.dsp.cores.map fun p =>
        (p.1, { p.2 with waiting := p.2.waiting.filter fun w => w.1 != conf }) } } }

/-- The mix of a conference that is FREE is removed, with its groups and instances. -/
def State.mixFree (s : State) (conf : Nat) : State :=
  let s := s.dropInsts conf
  { s with aud := { s.aud with mixes := tdel s.aud.mixes conf,
                               groups := s.aud.groups.filter fun p => p.2.conf != conf } }

/-- The channels of a conference's groups in index order: the place of a channel among them is its number on the cascade, of
which 0 to 15 are carried (R231; DESIGN CHOICE: no rule says which channel of which group a number names, nor what becomes of
a further one, which stays within its package). -/
def State.channelsOf (s : State) (conf : Nat) : List (Nat × Nat) :=
  (s.groupsOf conf).flatMap fun p => (List.range p.2.channels).map fun c => (p.1, c)

/-- The admission check of one more mixed leg of a conference (R282). -/
def State.mixAdmitLeg (s : State) (conf leg : Nat) : Nat :=
  let m := s.mix conf
  if (s.mixedIn m.latest).contains leg then 0
  else if 32768 ≤ s.mixedLegs then stNoResource
  else match m.cluster with
    | some c => if 1024 ≤ s.engineLegs c then stEngineFull else 0
    | none => 0

end Sys2Proof.Machine
end

