-- ==== Sys2Proof/Machine/Sap.lean ====
section
/-! DEFINITION. Serial audio ports and fixed routing: settings and routes (0x07xx), sample conversion and
the half-band filters, the blocks of each grain, start and realignment (file 09 of spec/). -/

namespace Sys2Proof.Machine

def stSapInUse : Nat := 0x8700
def stSlotConflict : Nat := 0x8701
def stFormatInvalid : Nat := 0x8702
def stMaskInUse : Nat := 0x8703

def State.sapPort (s : State) (p : Nat) : Sap := s.aud.sap.ports.getD p {}

def State.modSap (s : State) (p : Nat) (f : Sap → Sap) : State :=
  { s with aud := { s.aud with sap := { s.aud.sap with ports := modAt s.aud.sap.ports p f } } }

/-- Handle of a serial audio port. -/
def sapH (p : Nat) : Nat := mkHandle 10 p

/-- The settings that a port is configured to, in force or from its restart on (R373). -/
def Sap.conf (q : Sap) : SapConf := q.next.getD ⟨q.format, q.rate, q.slots, q.width, q.flags⟩

/-- A port with settings in force. -/
def Sap.set (q : Sap) (x : SapConf) : Sap :=
  { q with format := x.format, rate := x.rate, slots := x.slots, width := x.width, flags := x.flags, next := none }

/-- Whether a slot mask is one that a port leg can have: not empty, and within the port's slots (R366). -/
def State.slotsOk (s : State) (p mask : Nat) : Bool := mask != 0 && decide (mask < 2 ^ (s.sapPort p).conf.slots)

/-- The slots of a port with a fixed route, in the running set or a shadow set (R365). -/
def State.routeMask (s : State) (p : Nat) : Nat :=
  let q := s.sapPort p
  let of (l : List Route) (i : Nat) : Bool := (l.getD i {}).sel != 1
  sumOf (List.range 32) fun i =>
    if of q.routes i || q.routePend.any fun x => of x.2.1 i then 2 ^ i else 0

/-- The port legs on a port. -/
def State.portLegs (s : State) (p : Nat) : Tbl Leg :=
  s.legs.filter fun x => x.2.typ == .port && x.2.typeObj == sapH p && x.2.state != .closing

/-- The slots of a port that port legs hold, in force or from a grain on. -/
def State.legMask (s : State) (p : Nat) (except_ : Option Nat) : Nat :=
  (s.portLegs p).foldl (fun m x =>
    if some x.1 = except_ then m
    else m ||| x.2.slotsHeld) 0

/-! Sample conversion (R356, R357). -/

/-- An internal sample from a received slot value. -/
def sapInput (width : Nat) (d : Int) : Int :=
  match width with | 16 => d * 256 | 32 => d / 256 | _ => d

/-- A transmitted slot value from an internal sample. -/
def sapOutput (width : Nat) (y : Int) : Int :=
  match width with | 16 => y / 256 | 32 => y * 256 | _ => y

/-! Slots and pins (R348 to R350). -/

/-- The 32 bits of a slot that carries a value: the data bits first, the rest 0 (R350). -/
def slotBits (width : Nat) (d : Int) : Nat := (d % (2 ^ width : Nat)).toNat * 2 ^ (32 - width)

/-- The value that the 32 bits of a slot carry: bits beyond WIDTH are ignored (R350). -/
def slotValue (width bits32 : Nat) : Int :=
  let v : Nat := bits32 % 2 ^ 32 / 2 ^ (32 - width)
  if 2 ^ (width - 1) ≤ v then (v : Int) - (2 ^ width : Nat) else (v : Int)

/-- BCLK periods from the frame-start edge to the first bit of slot 0 (Table 09-1). -/
def Sap.first (q : Sap) : Nat := match q.format with | 0 => 1 | 1 => 0 | _ => b2n (bit q.flags 4)

/-- The level of SAP_FS in a BCLK period of a grain (Table 09-1). -/
def Sap.fs (q : Sap) (n : Nat) : Bool :=
  let place := n % (32 * q.slots)
  let level := match q.format with
    | 0 => decide (32 ≤ place)
    | 1 => decide (place < 32)
    | _ => decide (place < if bit q.flags 3 then 32 else 1)
  level != bit q.flags 2

/-- The level of SAP_DOUT in a BCLK period of a grain: each slot most significant bit first (R350). -/
def Sap.dout (q : Sap) (n : Nat) : Bool :=
  if n < q.first then q.lastBit else
  let k := n - q.first
  bit ((q.block.getD (k / 32 % q.slots) []).getD (k / (32 * q.slots)) 0) (31 - k % 32)

/-- Whether a port drives its pins: it runs, from STANDBY on (R348, R371). -/
def State.sapDrives (s : State) (p : Nat) : Bool :=
  let q := s.sapPort p
  q.enabled && q.started && decide (4 ≤ s.sys.mode.code)

/-- Cycles of the audio PLL in a BCLK period (R351, Table 09-2). -/
def Sap.divider (q : Sap) : Nat := 640 / (q.slots * (q.rate + 1))

/-- Cycles of the audio PLL in a period of AMCLK_OUT, 0 when it is off (R355). -/
def mclkDivider (sel : Nat) : Nat := match sel with | 1 => 80 | 2 => 40 | 3 => 20 | _ => 0

/-- AMCLK_OUT at a cycle of the audio PLL from a grain-opening edge, which is a rising edge of it; low while off (R355). -/
def State.amclk (s : State) (cycle : Nat) : Bool :=
  let d := mclkDivider s.aud.sap.mclk
  d != 0 && decide (2 * (cycle % d) < d)

/-- SAP_BCLK, SAP_FS and SAP_DOUT of a port at a cycle of the audio PLL, counted from the port's grain-opening edge: a BCLK period
begins with the falling edge, on which SAP_DOUT changes, or with BCLK_INV the rising one (R350). A port that does not run drives
them low (R348). -/
def State.sapPins (s : State) (p cycle : Nat) : Bool × Bool × Bool :=
  let q := s.sapPort p
  let half := 2 * cycle / q.divider
  if s.sapDrives p then ((half % 2 == 1) != bit q.flags 1, q.fs (half / 2), q.dout (half / 2)) else (false, false, false)

/-- The 32 bits that a slot of a frame received: those from its first bit on (Table 09-1, R350). -/
def Sap.dinSlot (q : Sap) (x : SapIn) (slot frame : Nat) : Nat :=
  let word (i k : Nat) : Nat := (x.slots.getD i []).getD k 0 % 2 ^ 32
  if q.first = 0 then word slot frame else
  let after := if slot + 1 < q.slots then word (slot + 1) frame / 2 ^ 31
    else if frame + 1 < 120 * (q.rate + 1) then word 0 (frame + 1) / 2 ^ 31 else b2n x.next
  word slot frame % 2 ^ 31 * 2 + after

/-- The tap h(i) of the half-band filter in Q1.23, i from −39 to 39. -/
def halfBand (i : Int) : Int :=
  let a := i.natAbs
  if a = 0 then 4194304 else if a % 2 = 0 || 39 < a then 0 else Config.filterTap ((a - 1) / 2)

/-- The filter's output at the sample that lies 39 behind place `j` of a sequence, before its division. -/
def filterAt (x : List Int) (j : Nat) : Int :=
  (List.range 79).foldl (fun (a : Int) (k : Nat) => a + halfBand (Int.ofNat k - 39) * x.getD (j - k) 0) 0

/-- A 96 kHz block brought to 48 kHz: `hist` holds the 78 samples before it. -/
def decimate (hist x : List Int) : List Int :=
  let all := hist ++ x
  (List.range 120).map fun k => filterAt all (78 + 2 * k) / 8388608

/-- A 48 kHz block brought to 96 kHz: `hist` holds the 39 samples before it. -/
def interpolate (hist y : List Int) : List Int :=
  let all := (hist ++ y).flatMap fun v => [v, 0]
  (List.range 240).map fun j => 2 * filterAt all (78 + j) / 8388608

/-- The last `n` elements of a list, with zeros in front where it is shorter. -/
def lastN (n : Nat) (l : List Int) : List Int :=
  List.replicate (n - l.length) 0 ++ l.drop (l.length - n)

/-- The crossfade of R307 and R369 over a grain. -/
def crossfade (old new : List Int) : List Int :=
  (List.range 120).map fun k =>
    (old.getD k 0 * (119 - (k : Int)) + new.getD k 0 * ((k : Int) + 1)) / 120

/-- The tone table T of Table 09-4: floor(838,860 × sin(2π × j / 48)). -/
def toneTable : List Int :=
  [0, 109493, 217112, 321017, 419430, 510665, 593163, 665512, 726474, 775005, 810276, 831683,
   838860, 831683, 810276, 775005, 726474, 665512, 593163, 510665, 419430, 321017, 217112, 109493,
   0, -109494, -217113, -321018, -419430, -510666, -593164, -665513, -726475, -775006, -810277, -831684,
   -838860, -831684, -810277, -775006, -726475, -665513, -593164, -510666, -419430, -321018, -217113, -109494]

/-! Routes. -/

/-- The samples of a fixed route for playout grain `n` (Table 09-4). -/
def State.routeSamples (s : State) (r : Route) (n : Nat) : List Int :=
  match r.sel with
  | 2 =>
    let p := s.sapPort r.srcPort
    if !p.enabled then List.replicate 120 0
    else ((p.captured n r.srcSlot).getD (List.replicate 120 0)).map fun x => sat24 (x * r.gain / 32768)
  | 3 => (List.range 120).map fun k => toneTable.getD ((120 * n + k) % 48) 0
  | _ => List.replicate 120 0

/-- A slot group committed by a writer for a target grain: late at or after the start of that grain, and then discarded (R362,
R363). The staging area holds 4 grains: a group of a fifth takes the place of the grain 4 before it (DESIGN CHOICE). -/
def State.sapCommit (s : State) (p : Nat) (g : SapGroup) : State :=
  if !(s.sapPort p).enabled then s
  else if g.target * grainU ≤ s.now then
    (s.modSap p fun q => { q with lateDiscards := q.lateDiscards + 1 }).raiseWK 183 (p * 2) (sapH p)
      (le 1 0 ++ le 8 g.target)
  else s.modSap p fun q => { q with stage := (q.stage.filter fun x => x.target % 4 != g.target % 4 || x.target == g.target) ++ [g] }

/-- The hub's slot group of a port for playout grain `n`, committed for target grain n + 2 (R361, R362). A
slot that is LEG is not the hub's; under a crossfade a slot in one set only fades from or to 0 (R369). -/
def State.commitRoutes (s : State) (p n : Nat) : State :=
  let q := s.sapPort p
  let old := q.routeOld.getD q.routes
  let idx := (List.range q.slots).filter fun i => (q.routes.getD i {}).sel != 1 || (old.getD i {}).sel != 1
  if idx.isEmpty then s.modSap p fun q => { q with routeOld := none } else
  let of (l : List Route) (i : Nat) : List Int :=
    let r := l.getD i {}
    if r.sel = 1 then List.replicate 120 0 else s.routeSamples r n
  let slots := idx.map fun i =>
    (i, if old.getD i {} = q.routes.getD i {} then of q.routes i else crossfade (of old i) (of q.routes i))
  (s.sapCommit p ⟨n + 2, 0, slots⟩).modSap p fun q => { q with routeOld := none }

/-! The blocks of a grain (R359 to R363). -/

/-- The writers whose slot group a port expects of the processing that begins now: the hub for its routes in force, and each
port leg that an OUT_PORT node of its conference's program names; with the slots of each. -/
def State.sapWriters (s : State) (p : Nat) : List (Nat × Nat) :=
  let hub := sumOf (List.range 32) fun i => if ((s.sapPort p).routes.getD i {}).sel != 1 then 2 ^ i else 0
  (if hub = 0 then [] else [(0, hub)]) ++
  ((s.portLegs p).filter fun x =>
    (s.mix x.2.conf).run.nodes.any fun n => n.typ == 6 && n.ref == legH x.1).map fun x => (1 + x.1, x.2.slotMask)

/-- Whether ports carry data in the present mode (R371). -/
def State.sapData (s : State) : Bool := s.mediaOn

/-- A slot's block of a grain as 32-bit words, from its 120 samples and those before (R350, R356, R357). -/
def Sap.slotBlock (q : Sap) (hist y : List Int) : List Nat :=
  let z := if q.rate = 0 then y else interpolate (lastN 39 hist) y
  z.map fun v => slotBits q.width (sapOutput q.width v)

/-- A block of zeros of a port. -/
def Sap.zeroBlock (q : Sap) : List (List Nat) := List.replicate q.slots (List.replicate (120 * (q.rate + 1)) 0)

/-- A port with a block to send in place of the present one. -/
def Sap.sends (q : Sap) (d : List (List Nat)) : Sap :=
  { q with block := d, lastBit := bit ((q.block.getD (q.slots - 1) []).getLastD 0) 0 }

/-- Whether a port sends zeros in grain `m`: its first two grains, a mode without data (R371, R372), and the grains from a step of
DT through its restart (R354). -/
def State.sapSilent (s : State) (p m : Nat) : Bool :=
  let q := s.sapPort p
  decide (q.sent < 2) || !s.sapData || (match q.realign with | some g => decide (m ≤ g) | none => false)

/-- A port's output block for grain `m`: what was committed in time, zeros for the rest; a group that was due and is missing
is an underrun, unless its leg has gone (R361 to R363, R371, R372). -/
def State.sapSend (s : State) (p m : Nat) : State :=
  let q := s.sapPort p
  if !(q.enabled && q.started) then
    s.modSap p fun q => { q with stage := q.stage.filter fun g => decide (m < g.target) }
  else
    let silent := s.sapSilent p m
    let groups := q.stage.filter fun g => g.target == m
    let value (i : Nat) : List Int :=
      match (groups.flatMap fun g => g.slots).find? fun x => x.1 == i with
      | some x => x.2
      | none => List.replicate 120 0
    let y := (List.range q.slots).map value
    let d := if silent then q.zeroBlock else (List.range q.slots).map fun i => q.slotBlock (q.outHist.getD i []) (y.getD i [])
    let lives (w : Nat × Nat) : Bool := w.1 == 0 || (match s.leg (w.1 - 1) with | some l => l.state != .closing | none => false)
    let missing := if silent then [] else q.expect.filter fun w => lives w && !(groups.any fun g => g.writer == w.1)
    let mask := missing.foldl (fun a w => a ||| w.2) 0
    let q' : Sap := { q.sends d with
      stage := q.stage.filter fun g => decide (m < g.target)
      outHist := if silent then [] else y.map (lastN 39)
      sent := q.sent + 1, underruns := q.underruns + missing.length, lastGrain := some m
      realign := match q.realign with | some g => if g < m then none else some g | none => none }
    let s := (s.modSap p fun _ => q').emit (.serial p m d)
    if missing.isEmpty then s else s.raiseW 182 (sapH p) (le 4 mask ++ le 8 m)

/-- A port that sends zeros from now on, for the rest of its grain (R354). -/
def State.sapHush (s : State) (p : Nat) : State :=
  let q := s.sapPort p
  if !(q.enabled && q.started) then s else
  (s.modSap p fun q => { q with block := q.zeroBlock, lastBit := false, outHist := [] }).emit
    (.serial p (q.lastGrain.getD q.start) q.zeroBlock)

/-- The block captured in grain `n` put into the port's ring of 8 grains, with the measured DT of its edge (R356 to R360). -/
def State.sapCapture (s : State) (p n : Nat) (x : SapIn) : State :=
  let q := s.sapPort p
  if !(q.enabled && q.started) then s else
  let raw := (List.range q.slots).map fun i => (List.range (120 * (q.rate + 1))).map fun k =>
    sapInput q.width (slotValue q.width (q.dinSlot x i k))
  let block := if q.rate = 0 then raw
    else (List.range q.slots).map fun i => decimate (lastN 78 (q.inHist.getD i [])) (raw.getD i [])
  s.modSap p fun q => { q with capture := (⟨n, q.edge, block⟩ :: q.capture).take 8
                               inHist := raw.map (lastN 78) }

/-- The grain-opening edge of grain `m` with its phase error: its measured DT (R359); an error beyond 100 ns is an alarm
(R353). -/
def State.sapPhase (s : State) (p m : Nat) (ps : Int) : State :=
  let edge := ((m * grainU : Nat) : Int) + ps * 65536 / 1000
  let s := s.modSap p fun q => { q with phasePs := ps, edge := edge.toNat }
  if 100000 < ps.natAbs then
    (s.modSap p fun q => { q with phaseAlarms := q.phaseAlarms + 1 }).raiseW 185 (sapH p) (leI 4 ps)
  else s

/-- A port whose first grain n0 has come starts, with event 180 (R372). -/
def State.sapStartDue (s : State) (p : Nat) : State :=
  let q := s.sapPort p
  if q.enabled && !q.started && q.stopAt.isNone && decide (q.start * grainU ≤ s.now) then
    let upd (q : Sap) : Sap := { q with started := true, sent := 0 }
    (s.modSap p upd).raise 180 (sapH p) (le 8 q.start)
  else s

/-- One port at the boundary that opens grain `m`. -/
def State.sapBoundary (s : State) (p m : Nat) (x : SapIn) : State :=
  let q := s.sapPort p
  let s := s.sapCapture p (m - 1) x
  let s := match q.stopAt with
    | some b =>
      if b ≤ m then
        let on := q.conf.flags % 2 == 1
        let s := s.modSap p fun q => { q.set q.conf with
          stopAt := none, enabled := on, started := false, capture := [], stage := [], expect := [], block := [] }
        s.raise 181 (sapH p) (le 8 (m - 1))
      else s
    | none => s
  let s := s.sapStartDue p
  let s := if (s.sapPort p).enabled && (s.sapPort p).started then s.sapPhase p m x.phasePs else s
  s.sapSend p m

/-- The grains by which routes wait, so that they switch with the mix programs and masks of the same effective grain (R368): the
largest lag of a home package among the conferences with port legs (DESIGN CHOICE; R233 gives each its own). -/
def State.routeLag (s : State) : Nat :=
  s.legs.foldl (fun d x => if x.2.typ = .port then max d (s.mixLag x.2.conf) else d) 0

/-- Whether a port's restart after a DT step is due in the present grain. -/
def State.sapRealigns (s : State) (p : Nat) : Bool :=
  let q := s.sapPort p
  !q.realigned && q.realign == some (grainOf s.now)

/-- The ports whose restart after a DT step is due in the present grain: event 184, once (R354). -/
def State.sapRealignDue (s : State) : State :=
  let due := (List.range 8).filter s.sapRealigns
  if due.isEmpty then s else
  let s := due.foldl (fun s p => s.modSap p fun q => { q with realigns := q.realigns + 1, realigned := true }) s
  s.raise 184 0 (le 1 (sumOf due fun p => 2 ^ p) ++ le 8 (grainOf s.now))

/-- The time unit steers the audio PLL once per grain while a port is enabled, by rate only and within ±500 ppm; the loop's own
correction is open (R351, R353). -/
def State.sapSteer (s : State) : State :=
  if !(s.aud.sap.ports.any fun q => q.enabled) then s else
  let r := s.free
  { r.2 with aud := { r.2.aud with sap := { r.2.aud.sap with pllPpb := (r.1 % 1000001 : Nat) - 500000 } } }

/-- All ports at the boundary that opens grain `m`: blocks sent and captured, restarts, new routes and the new AMCLK_OUT
taken, route groups committed, and the groups due for the grain after noted. -/
def State.sapGrain (s : State) (m : Nat) (ins : List SapIn) : State :=
  let s := ((List.range 8).foldl (fun s p =>
    s.sapBoundary p m ((ins.find? fun x => x.port == p).getD { port := p })) s).sapRealignDue
  let lag := s.routeLag
  let s := (List.range 8).foldl (fun s p =>
    let take (q : Sap) (x : Nat × List Route × Bool) : Sap :=
      { q with routes := x.2.1, routePend := q.routePend.drop 1, routeOld := if x.2.2 then some (q.routeOld.getD q.routes) else q.routeOld }
    s.modSap p fun q => (q.routePend.filter fun x => decide (x.1 + lag < m)).foldl take q) s
  let s := (List.range 8).foldl (fun s p =>
    if (s.sapPort p).enabled then (s.commitRoutes p (m - 1)).modSap p fun q => { q with expect := s.sapWriters p } else s) s
  let s := s.sapSteer
  match s.aud.sap.mclkPend with
  | some (g, sel) =>
    if g ≤ m then
      { s with aud := { s.aud with sap := { s.aud.sap with mclk := sel, mclkPend := none } } }.emit
        (.pin "AMCLK_OUT" (sel != 0))
    else s
  | none => s

/-- An input slot read for a playout grain: zeros when the ring no longer holds it, counted, with event 183
of kind 1 (R360). -/
def State.sapRead (s : State) (p n slot : Nat) : List Int × State :=
  let q := s.sapPort p
  match q.captured n slot with
  | some l => (l, s)
  | none =>
    let z := List.replicate 120 0
    if q.started && decide (q.start ≤ n) && q.capture.any fun g => decide (n < g.grain) then
      (z, (s.modSap p fun q => { q with overruns := q.overruns + 1 }).raiseWK 183 (p * 2 + 1) (sapH p) (le 1 1 ++ le 8 n))
    else (z, s)

/-- SAP_START: framing begins at the grain-opening edge of n0 (R372). -/
def execSapStart (t port : Nat) (s : State) : Host.Outcome State Fault Refusal := .next ((s.advance t).sapStartDue port)

/-- SAP_REALIGN: after a DT step, framing restarts at the first grain boundary at least 20 µs after it; event
184 (R354). -/
def execSapRealign (t : Nat) (s : State) : Host.Outcome State Fault Refusal := .next (s.advance t).sapRealignDue

/-! Commands. -/

/-- Whether Tables 09-1 and 09-2 allow a combination of format, rate and slots. -/
def sapFormatOk (format rate slots : Nat) : Bool :=
  if format < 2 then slots == 2
  else if rate = 0 then slots == 4 || slots == 8 || slots == 16 || slots == 32
  else slots == 4 || slots == 8 || slots == 16

/-- Whether a port is in use: by a port leg, or by a fixed route that reads from it or writes to it (R373). -/
def State.sapInUse (s : State) (p : Nat) : Bool :=
  let reads (l : List Route) : Bool := l.any fun r => r.sel == 2 && r.srcPort == p
  (s.legs.any fun x => x.2.typ == .port && x.2.typeObj == sapH p) || s.routeMask p != 0 ||
  s.aud.sap.ports.any fun q => reads q.routes || q.routePend.any fun x => reads x.2.1

/-- Whether the parameters of SAP_CONFIG are in range (Table 09-7). -/
def sapConfigOk (c : Cmd) : Bool :=
  let slots := c.u 2 1
  let width := c.u 3 1
  c.rng 0 1 0 2 && c.rng 1 1 0 1 && (width == 16 || width == 24 || width == 32) && c.mask 4 2 0x1F &&
    c.rng 6 1 0 63 && c.zero 7 1 && (slots == 2 || slots == 4 || slots == 8 || slots == 16 || slots == 32)

/-- A port with the settings of SAP_CONFIG, given in grain `g`: it starts at grain g + 2, and one that runs goes on with its old
settings to the end of this grain, and stops (R372 to R374). -/
def sapSet (c : Cmd) (g : Nat) (q : Sap) : Sap :=
  let on := c.flag 4 2 0
  let x : SapConf := ⟨c.u 0 1, c.u 1 1, c.u 2 1, c.u 3 1, c.u 4 2⟩
  let q := { q with owner := c.u 6 1, start := if on then g + 2 else q.start }
  if q.enabled && q.started then { q with next := some x, stopAt := some (g + 1) }
  else { q.set x with enabled := on, started := false, stopAt := none }

/-- The grain that SAP_CONFIG replies with: the first one, or with ENABLE 0 the last one sent. A port that has never
sent a grain has no last one: that reply is a free value. -/
def State.sapReply (s : State) (c : Cmd) (p : Nat) : Nat × State :=
  let q := s.sapPort p
  let g := grainOf s.now
  if c.flag 4 2 0 then (g + 2, s) else if q.started then (g, s)
  else match q.lastGrain with | some n => (n, s) | none => s.free

/-- SAP_CONFIG (R349, R372 to R374). -/
def bodySapConfig : Body := fun _ c s =>
  let p := hIdx c.obj
  if !sapConfigOk c then .fail s stBadParam else
  if !sapFormatOk (c.u 0 1) (c.u 1 1) (c.u 2 1) then .fail s stFormatInvalid else
  if s.sapInUse p then .fail s stSapInUse else
  let r := s.sapReply c p
  .ok (r.2.modSap p (sapSet c (grainOf s.now))) (le 8 r.1)

/-- SAP_MCLK_SET (R355). -/
def bodySapMclkSet : Body := fun _ c s =>
  if !(c.rng 0 1 0 3 && c.zero 1 3) then .fail s stBadParam else
  let g := nextGrain s.now
  .ok { s with aud := { s.aud with sap := { s.aud.sap with mclkPend := some (g, c.u 0 1) } } } (le 8 g)

/-- SAP_QUERY (Table 09-9), for the port's owner and the operator (R375). -/
def bodySapQuery : Body := fun _ c s =>
  let p := hIdx c.obj
  let q := s.sapPort p
  if c.fn ≠ 0 && c.fn ≠ q.owner then .fail s stNoObject else
  let mask := (s.portLegs p).foldl (fun m x => m ||| x.2.slotMask) 0
  let routes := sumOf (List.range 32) fun i => if (q.routes.getD i {}).sel = 1 then 0 else 2 ^ i
  let x := q.conf
  .ok s (le 1 (if !q.enabled then 0 else if q.started then 2 else 1) ++ le 1 x.format ++ le 1 x.rate ++
    le 1 x.slots ++ le 1 x.width ++ le 1 q.owner ++ le 2 x.flags ++ le 8 q.start ++ le 8 (dtSec q.edge) ++
    le 4 (dtNs q.edge) ++ leI 4 q.phasePs ++ le 4 mask ++ le 4 routes ++ zeros 8)

def bodySapFilterQuery : Body := fun _ _ s =>
  .ok s ((List.range 20).flatMap fun i => leI 4 (Config.filterTap i))

/-- One entry of ROUTE_SET: its slot, route, and whether its fields are in range (Table 09-8). -/
def routeEntry (s : State) (c : Cmd) (slots i : Nat) : Nat × Route × Bool :=
  let o := 8 + 8 * i
  let r : Route := ⟨c.u (o + 1) 1, c.u (o + 2) 1, c.u (o + 3) 1, c.u (o + 4) 2⟩
  (c.u o 1, r, decide (c.u o 1 < slots) && decide (r.sel ≤ 3) && c.zero (o + 6) 2 &&
    (if r.sel = 2 then decide (r.srcPort < 8) && decide (r.srcSlot < (s.sapPort r.srcPort).conf.slots)
     else r.srcPort == 0 && r.srcSlot == 0 && r.gain == 0))

/-- The entries of a ROUTE_SET. -/
def routeEntries (s : State) (c : Cmd) (p : Nat) : List (Nat × Route × Bool) :=
  (List.range (c.u 0 1)).map (routeEntry s c (s.sapPort p).conf.slots)

/-- Whether the parameters of ROUTE_SET are in range, with no slot named twice (Table 09-8). -/
def routesOk (s : State) (c : Cmd) (p : Nat) : Bool :=
  let es := routeEntries s c p
  c.rng 0 1 1 32 && c.mask 1 1 1 && c.zero 2 6 && (es.all fun e => e.2.2) &&
    (es.map fun e => e.1).eraseDups.length == es.length

/-- A port whose shadow routes take the entries, from playout grain `g` on, together with those of the same grain (R305, R368,
R369). -/
def routeShadow (g : Nat) (x : Bool) (es : List (Nat × Route × Bool)) (q : Sap) : Sap :=
  let base := match q.routePend.getLast? with | some p => p.2.1 | none => q.routes
  let same := q.routePend.any fun p => p.1 == g && p.2.2
  { q with routePend := (q.routePend.filter fun p => p.1 != g) ++ [(g, es.foldl (fun l e => setAt l e.1 e.2.1) base, same || x)] }

/-- ROUTE_SET (R364, R365, R368, R369). -/
def bodyRouteSet : Body := fun _ c s =>
  let p := hIdx c.obj
  let es := routeEntries s c p
  if !routesOk s c p then .fail s stBadParam else
  if es.any fun e => e.2.1.sel != 1 && bit (s.legMask p none) e.1 then .fail s stSlotConflict else
  let g := grainOf s.now
  .ok (s.modSap p (routeShadow g (c.flag 1 1 0) es)) (le 8 g)

def bodyRouteQuery : Body := fun _ c s =>
  let q := s.sapPort (hIdx c.obj)
  .ok s ((List.range 32).flatMap fun i =>
    let r : Route := if i < q.conf.slots then q.routes.getD i {} else { sel := 0 }
    le 1 i ++ le 1 r.sel ++ le 1 r.srcPort ++ le 1 r.srcSlot ++ le 2 r.gain ++ zeros 2)

/-- The highest slot ordinal of a leg that the loaded program or a shadow one names, plus 1 (R370). -/
def State.maskNeeds (s : State) (conf leg : Nat) : Nat :=
  let m := s.mix conf
  let of (x : MixSet) : Nat := x.nodes.foldl (fun a n =>
    if (n.typ = 2 || n.typ = 6) && n.ref == legH leg then max a (n.chan + 1) else a) 0
  m.pends.foldl (fun a p => max a (of p.2)) (of m.run)

/-- A port leg's slots from the boundary `g` on, with a crossfade of its conference's mix or without (R368, R369). -/
def State.maskLeg (s : State) (i conf g mask : Nat) (x : Bool) : State :=
  let s := s.modLeg i fun l => { l with slotPend := (l.slotPend.filter fun p => p.1 != g) ++ [(g, mask)] }
  if x then (s.mixChange conf true fun x => x).2 else s

/-- PORT_LEG_MASK_SET (R365, R366, R368 to R370). -/
def bodyPortLegMaskSet : Body := fun _ c s =>
  let i := hIdx c.obj
  let mask := c.u 0 4
  match s.leg i with
  | none => .fail s stNoObject
  | some l =>
    let p := hIdx l.typeObj
    if !(l.typ == .port && s.slotsOk p mask && c.mask 4 1 1 && c.zero 5 3) then .fail s stBadParam else
    if (s.legMask p (some i)) &&& mask != 0 || (s.routeMask p) &&& mask != 0 then .fail s stSlotConflict else
    if (countOf (List.range 32) fun k => bit mask k) < s.maskNeeds l.conf i then .fail s stMaskInUse else
    let g := grainOf s.now
    .ok (s.maskLeg i l.conf g mask (c.flag 4 1 0)) (le 8 g)

/-- SAP_STATS (Table 09-10), for the port's owner and the operator (R375). -/
def bodySapStats : Body := fun _ c s =>
  let q := s.sapPort (hIdx c.obj)
  if c.fn ≠ 0 && c.fn ≠ q.owner then .fail s stNoObject else
  .ok s (le 4 q.underruns ++ le 4 q.lateDiscards ++ le 4 q.overruns ++ le 4 q.phaseAlarms ++ le 4 q.realigns ++
    zeros 4 ++ le 8 q.sent ++ zeros 8)

def execSapConfig (c : Cmd) (s : State) := runBelex 0x0700 bodySapConfig c s
def execSapMclkSet (c : Cmd) (s : State) := runBelex 0x0701 bodySapMclkSet c s
def execSapQuery (c : Cmd) (s : State) := runBelex 0x0702 bodySapQuery c s
def execSapFilterQuery (c : Cmd) (s : State) := runBelex 0x0703 bodySapFilterQuery c s
def execRouteSet (c : Cmd) (s : State) := runBelex 0x0710 bodyRouteSet c s
def execRouteQuery (c : Cmd) (s : State) := runBelex 0x0711 bodyRouteQuery c s
def execPortLegMaskSet (c : Cmd) (s : State) := runBelex 0x0720 bodyPortLegMaskSet c s
def execSapStats (c : Cmd) (s : State) := runBelex 0x0730 bodySapStats c s

end Sys2Proof.Machine
end

