-- ==== Sys2Proof/Machine/Time.lean ====
section
/-! DEFINITION. Time: the servo that disciplines Device Time, steps, holdover, PTP and PPS, and the 0x12xx commands (file
20 of spec/). -/

namespace Sys2Proof.Machine

def stNoStepPending : Nat := 0x9200
def stRoleInvalid : Nat := 0x9201
def stPortUnavailable : Nat := 0x9202

def State.modTime (s : State) (f : TimeUnit → TimeUnit) : State := { s with time := f s.time }

/-- A signed amount of DT in whole ns, truncated toward minus infinity (R660). -/
def nsOf (x : Int) : Int := x / (nsU : Int)

/-! States of the servo (Table 20-2). -/

/-- A change of state, with event 271. -/
def State.timeState (s : State) (st : TimeMode) : State :=
  if s.time.state = st then s else
  (s.modTime fun u => { u with state := st }).raise 271 0 (le 1 st.code ++ le 1 s.time.ref)

/-- The level of PPS_OUT: high within the pulse of a second, where the mode drives it (R679). -/
def TimeUnit.ppsOut (u : TimeUnit) : Bool :=
  (u.ppsMode == 2 || (u.ppsMode == 1 && u.state != .freerun)) && decide (u.dt < u.ppsUntil)

/-- The rate correction averaged over the 60 s before now (R675). -/
def TimeUnit.meanRate (u : TimeUnit) : Int :=
  let from_ := u.dt - 60 * secU
  let go := u.rates.foldl (fun (a : Int × Nat × Nat) r =>
    let lo := max r.1 from_
    if lo < a.2.2 then (a.1 + r.2 * ((a.2.2 - lo : Nat) : Int), a.2.1 + (a.2.2 - lo), lo) else a) (0, 0, u.dt)
  if go.2.1 = 0 then u.ratePpb else go.1 / (go.2.1 : Int)

/-- HOLDOVER entered (R675), with event 259. Causes: 0 reference lost, 1 step refused, 2 reference changed. -/
def State.enterHold (s : State) (cause : Nat) : State :=
  let upd (u : TimeUnit) : TimeUnit := { u with
    holdSince := u.dt, holdBase := u.lastOffset, holdWarned := false, ratePpb := u.meanRate, rates := [], calmSince := none,
    limitSince := none }
  let s := (s.modTime upd).raise 259 0 (le 1 cause ++ leI 4 (nsOf s.time.lastOffset))
  s.timeState .holdover

/-- SLEWING entered. -/
def State.enterSlew (s : State) : State :=
  let calm (u : TimeUnit) : Option Nat := if u.lastOffset.natAbs ≤ usU then some u.dt else none
  (s.modTime fun u => { u with calmSince := calm u, pendingStep := none, stepAt := none }).timeState .slewing

/-- The estimated error in holdover, in units of DT (R676). -/
def TimeUnit.holdError (u : TimeUnit) : Nat := (u.dt - u.holdSince) / 20000000 + u.holdBase.natAbs

/-- Event 261 when the estimate first exceeds HOLD_WARN_US. -/
def State.holdCheck (s : State) : State :=
  let u := s.time
  if u.state = .holdover && !u.holdWarned && decide (u.holdWarnUs * usU < u.holdError) then
    (s.modTime fun u => { u with holdWarned := true }).raise 261 0 (le 4 (u.holdError / usU))
  else s

/-! Steps (R671 to R674). -/

/-- The first grain opened after a step to an instant: one that begins there or later, and that has not been opened. -/
def State.grainAfterStep (s : State) (whom : Nat) : Nat := max (s.time.lastGrain + 1) ((whom + grainU - 1) / grainU)

/-- An instant moved by a step. -/
def moved (t : Nat) (d : Int) : Nat := (t + d).toNat

/-- A gate list restarted after a step (R265): at its own BASE + k × CYCLE, at least 10 µs after the step. -/
def GateList.restart (g : GateList) (now : Nat) : GateList :=
  let from_ := now + 10 * usU
  { g with start := if from_ ≤ g.base then g.base else g.base + (from_ - g.base + g.cycle - 1) / g.cycle * g.cycle }

/-- The gates of a port at a step, with event 143. -/
def State.gateStep (s : State) (port held : Nat) : State :=
  match (s.net.ports.getD port {}).running with
  | none => s
  | some g =>
    let g := g.restart s.now
    (s.modPort port fun p => { p with running := some g, frozenGates := some held }).raise 143 0 (le 1 port ++ le 8 (dtSec g.start))

/-- A step of DT by an amount, now (Table 20-3). -/
def State.dtStep (s : State) (d : Int) : State :=
  let whom := moved s.now d
  let first := s.grainAfterStep whom
  let held := (List.range 8).map fun n => (s.net.ports.getD n {}).gates s.now
  let tick (x : Nat) : Nat := tickAtOrAfter (moved x d)
  let gap (g : Gap) : Gap := { g with nackAt := g.nackAt.map fun x => moved x d, abandonAt := moved g.abandonAt d }
  let flow (f : Flow) : Flow :=
    { f with ro := { f.ro with gaps := f.ro.gaps.map gap }
             jb := if f.kind = 1 && f.dir = 1 then { f.jb with reanchorAt := some first } else f.jb }
  let edge := (whom + 20 * usU + grainU - 1) / grainU
  let port (p : Sap) : Sap := if p.enabled then { p with realign := some edge, realigned := false } else p
  let s := (List.range 8).foldl (fun (s : State) p => s.sapHush p) s
  let s := { s with
    time := { s.time with
      dt := whom, steps := s.time.steps + 1, offsets := [], lastOffset := s.time.lastOffset + d
      ppsLast := s.time.ppsLast.map fun x => moved x d, rates := s.time.rates.map fun r => (moved r.1 d, r.2)
      lastSync := moved s.time.lastSync d, pendingStep := none, stepAt := none
      ppsUntil := moved s.time.ppsUntil d, lastGrain := first - 1, leapt := s.time.leapt || decide (s.time.lastGrain + 1 < first)
      lastTick := max s.time.lastTick (tickAtOrAfter whom - 1) }
    disp := { s.disp with timers := tmap s.disp.timers fun _ x => { x with deadline := moved x.deadline d, tick := tick x.deadline } }
    flows := tmap s.flows fun _ f => flow f
    aud := { s.aud with
      sap := { s.aud.sap with ports := s.aud.sap.ports.map port }
      bcn := { s.aud.bcn with mods := tmap s.aud.bcn.mods fun _ m => { m with frame := none } } } }
  (held.zipIdx).foldl (fun (s : State) p => s.gateStep p.2 p.1) s

/-- DT_STEP_APPLY: the step that TIME_ALLOW_STEP permitted, at the first tick start after its acceptance (R673, R674). -/
def execDtStepApply (t : Nat) (s : State) : Host.Outcome State Fault Refusal :=
  let s := s.advance t
  match s.time.stepAt with
  | none => .next s
  | some (at_, d) =>
    if s.now < at_ then .next s else
    let first := s.grainAfterStep (moved s.now d)
    .next ((s.dtStep d).raise 257 0 (leI 8 (nsOf d) ++ le 8 first)).enterSlew

/-! Measurements (R671, R672). -/

/-- The mean of offsets, truncated toward minus infinity. -/
def meanOf (l : List (Int × Nat)) : Int := (l.foldl (fun a x => a + x.1) 0) / (l.length : Int)

/-- Whether offsets agree within 10 µs. -/
def agree (l : List (Int × Nat)) : Bool := l.all fun a => l.all fun b => decide ((a.1 - b.1).natAbs ≤ 10 * usU)

/-- First lock: one step by the mean, event 256, and LOCKED, or SLEWING when the step leaves an offset. -/
def State.firstLock (s : State) : State :=
  let d := -(meanOf s.time.offsets)
  let s := (s.modTime fun u => { u with locked1 := true }).dtStep d
  let s := s.raise 256 0 (le 1 s.time.ref ++ leI 8 (nsOf d))
  if s.time.lastOffset = 0 then (s.modTime fun u => { u with calmSince := some u.dt }).timeState .locked else s.enterSlew

/-- A correction by rate: how the servo derives it is left open; it stays within ±500 ppm (R671), and one held at the limit
for 1 s raises event 267. -/
def State.slew (s : State) : State :=
  let (r, s) := s.free
  let ppb : Int := (r % 1000001 : Nat) - 500000
  let keep (u : TimeUnit) : List (Nat × Int) := u.rates.filter fun x => decide (u.dt ≤ x.1 + 61 * secU)
  let lim (u : TimeUnit) : Option Nat :=
    if ppb.natAbs ≠ 500000 then none else match u.limitSince with | some x => some x | none => some u.dt
  let s := s.modTime fun u => { u with ratePpb := ppb, rates := (u.dt, ppb) :: keep u, limitSince := lim u }
  match s.time.limitSince with
  | some x => if x + secU ≤ s.now then s.raiseW 267 0 (leI 4 ppb) else s
  | none => s

/-- A valid offset within STEP_LIMIT of a device that has locked: corrected by rate. -/
def State.withinLimit (s : State) (off : Int) : State :=
  let s := s.slew
  let small := decide (off.natAbs ≤ usU)
  let calm (u : TimeUnit) : Option Nat := if !small then none else match u.calmSince with | some x => some x | none => some u.dt
  let s := s.modTime fun u => { u with calmSince := calm u }
  if s.time.state = .locked && !small then
    (s.raiseW 266 0 (leI 4 (nsOf off))).timeState .slewing
  else match s.time.calmSince with
    | some x => if s.time.state = .slewing && decide (x + 10 * secU ≤ s.now) then s.timeState .locked else s
    | none => s

/-- A valid measurement of the offset of DT from the reference. -/
def State.measure (s : State) (off : Int) : State :=
  let u := s.time
  let limit := u.stepLimitUs * usU
  let beyond (x : Int) : Bool := decide (limit < x.natAbs)
  let s := s.modTime fun u => { u with lastOffset := off }
  if u.state = .freerun then
    if u.locked1 then s else
    let l := ((off, s.now) :: u.offsets).take 4
    let s := s.modTime fun u => { u with offsets := l }
    if l.length = 4 && agree l then s.firstLock else s
  else
    let stays (x : Int × Nat) : Bool := !beyond x.1 || (beyond off && decide ((x.1 < 0) = (off < 0)))
    let kept := u.offsets.filter stays
    let l := ((off, s.now) :: kept).take 4
    let s := s.modTime fun v => { v with offsets := l, dropped := v.dropped + (u.offsets.length - kept.length) }
    let all4 := l.length == 4
    if all4 && l.all fun x => beyond x.1 then
      let d := -(meanOf l)
      let new := u.pendingStep.isNone
      let s := s.modTime fun u => { u with pendingStep := some d, refused := u.refused + b2n new }
      let s := s.raiseW 258 0 (leI 8 (nsOf d))
      if u.state = .holdover then s else s.enterHold 1
    else if beyond off then s
    else if u.state = .holdover then
      if all4 && (l.all fun x => !beyond x.1) && agree l then
        let s := s.raise 260 0 (le 4 ((s.now - u.holdSince) / msU) ++ leI 4 (nsOf off))
        s.enterSlew
      else s
    else s.withinLimit off

/-! PTP (R667 to R670). -/

/-- Whether the instance is a slave, or a master, on a port at all. -/
def TimeUnit.instance_ (u : TimeUnit) : Bool := u.ref == 1 || (u.ref == 2 && u.master)

/-- The state of the PTP port, with event 263. -/
def State.ptpPort (s : State) (code : Nat) : State :=
  if s.time.portState = code then s else
  (s.modTime fun u => { u with portState := code }).raise 263 0 (le 1 s.time.netPort ++ le 1 code)

/-- The interval 2^x s. -/
def logInterval (x : Int) : Nat := if 0 ≤ x then secU * 2 ^ x.toNat else secU / 2 ^ (-x).toNat

/-- Whether a clock is better than another by the best master clock algorithm. -/
def Grandmaster.better (a b : Grandmaster) : Bool :=
  let key (g : Grandmaster) : List Nat := [g.priority1, g.clockClass, g.accuracy, g.variance, g.priority2, g.id, g.steps]
  decide (key a < key b)

/-- UTC_OFFSET in force (R663). -/
def TimeUnit.utc (u : TimeUnit) : Nat := match u.gmUtc with | some x => x | none => u.opUtc

/-- A change of what sets UTC_OFFSET, with event 268 when its value changes. Source: 0 grandmaster, 1 operator. -/
def State.utcChange (s : State) (source : Nat) (f : TimeUnit → TimeUnit) : State :=
  let old := s.time.utc
  let s := s.modTime f
  if s.time.utc = old then s else s.raise 268 0 (le 2 old ++ le 2 s.time.utc ++ le 1 source)

/-- A leap second announced, or withdrawn (R664): the change falls on the DT instant that ends the UTC day. -/
def State.leapSeen (s : State) (leap61 leap59 : Bool) : State :=
  if !leap61 && !leap59 then s.modTime fun u => { u with leap := none }
  else if s.time.leap.isSome then s
  else
    let off := s.time.utc
    let midnight := ((dtSec s.now - off) / 86400 + 1) * 86400 + off
    let kind := if leap61 then 0 else 1
    let sec := if leap61 then midnight + 1 else midnight - 1
    (s.modTime fun u => { u with leap := some (kind, sec) }).raise 269 0 (le 1 kind ++ le 8 sec)

/-- The UTC offset moved by a leap second: kind 0 up, 1 down (R664). -/
def State.leapNow (s : State) (kind : Nat) : State :=
  let next (x : Nat) : Nat := if kind = 0 then x + 1 else x - 1
  s.utcChange (if s.time.gmUtc.isSome then 0 else 1) fun u => { u with
    leap := none, gmUtc := u.gmUtc.map next, opUtc := if u.gmUtc.isSome then u.opUtc else next u.opUtc }

/-- LEAP_SECOND: UTC_OFFSET changes by 1 s at the end of the UTC day (R664). -/
def execLeapSecond (t : Nat) (s : State) : Host.Outcome State Fault Refusal :=
  let s := s.advance t
  match s.time.leap with
  | none => .next s
  | some (kind, sec) =>
    if dtSec s.now < sec then .next s else
    .next (s.leapNow kind)

/-- An Announce message of the instance's domain. -/
def State.announce (s : State) (g : Grandmaster) (utc : Nat) (valid leap61 leap59 : Bool) : State :=
  let take := match s.time.gm with | none => true | some x => x.id == g.id || g.better x
  let new := match s.time.gm with | none => true | some x => x.id != g.id
  if !take then s else
  let s := s.modTime fun u => { u with gm := some g, lastSync := u.dt }
  let s := if new then (s.raise 262 0 (le 8 g.id ++ le 1 g.clockClass ++ le 1 g.domain)).ptpPort 8 else s
  (s.utcChange 0 fun u => { u with gmUtc := if valid then some utc else none }).leapSeen leap61 leap59

/-- A Sync of the grandmaster: the offset at it, when its path delay lies within 10 µs of the mean of the last 16 valid
delays. -/
def State.syncSeen (s : State) (origin delay : Nat) : State :=
  let u := s.time
  let mean := sumOf u.delays (fun d => d) / u.delays.length
  let ok := u.delays.isEmpty || decide (((delay : Int) - mean).natAbs ≤ 10 * usU)
  if !ok then s else
  let s := s.modTime fun u => { u with delays := (delay :: u.delays).take 16, lastSync := u.dt }
  (s.ptpPort 9).measure ((s.now : Int) - (origin + delay : Nat))

/-- A PTP message dropped and counted, with event 270 first per window. -/
def State.ptpDrop (s : State) : State :=
  (s.modTime fun u => { u with dropped := u.dropped + 1 }).raiseCount 270 0 0 []

/-- The address of a PTP message that an instance sends: the multicast group, for peer delay its own (Table 20-1). -/
def ptpGroup (v6 peer : Bool) : Nat := ptpIps.getD (2 * b2n v6 + b2n peer) 0

/-- A PTP message sent from the instance's address, in class 7: an event message to port 319, a general one to 320. -/
def State.ptpSend (s : State) (u : TimeUnit) (v4len v6len port : Nat) (peer : Bool) (m : Ptp) : State :=
  let a := (s.net.ports.getD u.netPort {}).addrs.getD u.addr {}
  s.sendPort u.netPort (if a.v6 then v6len else v4len)
    (.ip a.v6 true 0 false a.ip (ptpGroup a.v6 peer) (.udp port port false true (.ptp u.domain true m)))

/-- A slave's Delay_Req, or Pdelay_Req in the P2P profile: sent at a Sync, no more often than the interval of LOG_DELAY
(PRESUMED, IEEE 1588: the spec gives the interval alone). -/
def State.delayAsk (s : State) : State :=
  let u := s.time
  if s.now < u.delayAsked + logInterval u.logDelay then s else
  let s := s.modTime fun u => { u with delayAsked := u.dt }
  if u.profile = 1 then s.ptpSend u 100 120 319 true (.pdelayReq Config.clockIdentity)
  else s.ptpSend u 90 110 319 false (.delayReq Config.clockIdentity)

/-- A PTP message received at the instance's address (R669); the stamp is DT now. -/
def State.ptpReceive (s : State) (domain : Nat) (ok : Bool) (m : Ptp) : State :=
  let w := windowOf s.now
  let n := if s.time.ptpWin.1 = w then s.time.ptpWin.2 else 0
  let s := s.modTime fun u => { u with ptpWin := (w, n + 1) }
  if domain ≠ s.time.domain || !ok || decide (1000 ≤ n) then s.ptpDrop else
  match m with
  | .announce id cls acc var p1 p2 st utc v l61 l59 =>
    if s.time.master then s else s.announce ⟨id, cls, domain, p1, acc, var, p2, st, s.now⟩ utc v l61 l59
  | .sync id origin delay =>
    if s.time.master || (match s.time.gm with | some g => g.id != id | none => true) then s
    else (s.syncSeen origin delay).delayAsk
  | .delayReq peer =>
    if !s.time.master || s.time.profile = 1 then s else s.ptpSend s.time 100 120 320 false (.delayResp peer s.now)
  | .pdelayReq peer =>
    if !s.time.master || s.time.profile ≠ 1 then s else s.ptpSend s.time 100 120 319 true (.pdelayResp peer s.now)
  | _ => s

/-- A Sync sent (R670). -/
def State.ptpSync (s : State) (u : TimeUnit) : State :=
  (s.modTime fun x => { x with syncSent := s.now }).ptpSend u 90 110 319 false (.sync Config.clockIdentity 0 0)

/-- An Announce sent, with the clock class of the state (R670); it names the device's own clock, and its UTC_OFFSET as
valid. -/
def State.ptpAnnounce (s : State) (u : TimeUnit) : State :=
  let cls := match u.state with | .locked => 6 | .holdover => 7 | _ => 248
  (s.modTime fun x => { x with announceSent := s.now }).ptpSend u 110 130 320 false
    (.announce Config.clockIdentity cls (Config.clockQuality 0) (Config.clockQuality 1) (u.priority % 256) (u.priority / 256) 0 u.utc true (u.leap.any fun l => l.1 == 0)
      (u.leap.any fun l => l.1 == 1))

/-- PTP_SYNC_SEND: a master instance sends Sync at its interval, and Announce at its own, in class 7 (R670). The Follow_Up
is sent as the Sync leaves. -/
def execPtpSyncSend (t : Nat) (s : State) : Host.Outcome State Fault Refusal :=
  let s := s.advance t
  let u := s.time
  if u.ref ≠ 2 || !u.master || decide (s.now < u.syncSent + logInterval u.logSync) then .next s else
  let s := s.ptpSync u
  if s.now < u.announceSent + logInterval u.logAnnounce then .next s else .next (s.ptpAnnounce u)

/-- HOLDOVER entered from SLEWING or LOCKED at a lost reference (R675). -/
def State.holdIfLocked (s : State) : State :=
  if s.time.state = .slewing || s.time.state = .locked then s.enterHold 0 else s

/-- REFERENCE_LOST: no valid Sync or Announce within the announce receipt timeout of 3 intervals, or no edge within 1.5 s
of the last one (R675, R678). -/
def execReferenceLost (t : Nat) (s : State) : Host.Outcome State Fault Refusal :=
  let s := s.advance t
  let u := s.time
  if u.ref = 1 then
    if s.now < u.lastSync + 3 * logInterval u.logAnnounce then .next s else
    .next ((s.modTime fun u => { u with gm := none }).ptpPort 4).holdIfLocked
  else if u.ref = 2 then
    match u.ppsLast with
    | none => .next s
    | some l =>
      if 2 * s.now < 2 * l + 3 * secU || u.ppsLost then .next s else
      .next ((s.modTime fun u => { u with ppsLost := true }).raise 264 0 (le 8 (dtSec l))).holdIfLocked
  else .next s

/-- The whole seconds since the last edge, at least one, and whether the edge lies within 100 µs of them (R678). -/
def ppsGap (u : TimeUnit) (now : Nat) : Nat × Bool :=
  let d := match u.ppsLast with | some l => now - l | none => secU
  let k := max 1 ((d + secU / 2) / secU)
  (k, decide (((d : Int) - (k * secU : Nat)).natAbs ≤ 100 * usU))

/-- The DT second that an edge marks: the one named, the next after a known one, or the nearest. -/
def ppsSecond (u : TimeUnit) (now : Nat) : Nat :=
  match u.ppsNamed with
  | some n => n
  | none => if u.ppsKnown then u.ppsSec + (ppsGap u now).1 else (now + secU / 2) / secU

/-- An edge noted: its second, and the second that was named used up. -/
def State.ppsTake (s : State) : State :=
  s.modTime fun u => { u with
    ppsLast := some u.dt, ppsSec := ppsSecond u u.dt, ppsKnown := u.ppsKnown || u.ppsNamed.isSome, ppsNamed := none,
    ppsLost := false }

/-- An edge of the reference measured, with event 265 at a return of the edges; `u` holds the time unit before it. -/
def State.ppsMeasure (s : State) (u : TimeUnit) : State :=
  let off : Int := (s.now : Int) - (ppsSecond u s.now * secU : Nat)
  let s := if u.ppsLost then s.raise 265 0 (leI 4 (nsOf off)) else s
  if (ppsGap u s.now).2 && (s.time.ppsKnown || u.locked1) then s.measure off else s

/-- PPS_IN_EDGE: a rising edge marks the start of a DT second (R678). -/
def execPpsInEdge (t : Nat) (s : State) : Host.Outcome State Fault Refusal :=
  let s := s.advance t
  let u := s.time
  let s := s.ppsTake
  .next (if u.ref = 2 then s.ppsMeasure u else s)

/-- The settings of PPS_OUT_SET taken at a second. -/
def TimeUnit.takePps (u : TimeUnit) : TimeUnit :=
  match u.ppsPending with
  | some (m, w) => { u with ppsMode := m, ppsWidthMs := w, ppsPending := none }
  | none => u

/-- The pulse of a second, when the mode gives one. -/
def State.ppsPulse (s : State) : State :=
  let u := s.time
  if u.ppsMode = 2 || (u.ppsMode = 1 && u.state ≠ .freerun) then
    (s.modTime fun u => { u with ppsUntil := u.dt + u.ppsWidthMs * msU }).emit (.pin "PPS_OUT" true)
  else s

/-- PPS_OUT_EDGE: a DT second boundary; a change of PPS_OUT_SET takes effect at it (R679). -/
def execPpsOutEdge (t : Nat) (s : State) : Host.Outcome State Fault Refusal :=
  let s := s.advance t
  if s.now % secU ≠ 0 then .next s else .next (s.modTime TimeUnit.takePps).ppsPulse

/-! Commands. -/

/-- Whether the parameters of TIME_REF_SET are in range (Table 20-6). -/
def timeRefFields (c : Cmd) : Bool :=
  let inRange (o : Nat) (lo hi : Int) : Bool := decide (lo ≤ c.i o 1) && decide (c.i o 1 ≤ hi)
  c.rng 0 1 0 2 && c.rng 1 1 0 7 && c.rng 2 1 0 31 && c.mask 3 1 7 && decide (c.fld 3 1 1 0 ≤ 2) &&
    (c.rng 4 1 0 127 || c.u 4 1 == 255) && inRange 5 (-7) 1 && inRange 6 (-3) 3 && inRange 7 (-7) 5 &&
    c.rng0 8 4 10 1000000 && c.rng 12 2 0 60000

/-- The settings of TIME_REF_SET, and the state of the PTP port they give. A PTP instance that moves to another port, address,
profile or domain begins anew: its grandmaster is one of its domain (R668). -/
def State.refSettings (s : State) (c : Cmd) : State :=
  let ref := c.u 0 1
  let master := c.flag 3 1 2
  let profile := c.fld 3 1 1 0
  let old := s.time
  let domain := if c.u 4 1 = 255 then (if profile = 2 then 127 else 0) else c.u 4 1
  let s := s.modTime fun u => { u with
    ref := ref, netPort := c.u 1 1, addr := c.u 2 1, profile := profile, master := master, domain := domain,
    logSync := c.i 5 1, logAnnounce := c.i 6 1, logDelay := c.i 7 1, stepLimitUs := c.dflt 8 4 1000,
    holdWarnUs := c.dflt 12 2 100, priority := c.u 14 2 }
  let same := old.ref = ref && old.netPort == s.time.netPort && old.addr == s.time.addr && old.profile == profile &&
    old.domain == domain
  let s := if ref = 1 && !same then s.modTime fun u => { u with gm := none, offsets := [], delays := [] } else s
  s.ptpPort (if ref = 1 then (if !same then 4 else old.portState) else if ref = 2 && master then 6 else 3)

/-- Another reference selected: what was measured goes, and the servo enters FREERUN, or HOLDOVER once it has locked
(Table 20-2, R675); `old` is the time unit before. -/
def State.refChange (s : State) (old : TimeUnit) : State :=
  let s := s.modTime fun u => { u with
    offsets := [], delays := [], gm := none, pendingStep := none, stepAt := none, lastSync := u.dt, ppsLost := false }
  let s := s.utcChange 1 fun u => { u with gmUtc := none }
  if s.time.ref = 0 then (s.modTime fun u => { u with ratePpb := 0, rates := [], limitSince := none }).timeState .freerun
  else if old.state ≠ .freerun || old.locked1 then s.enterHold 2 else s

/-- TIME_REF_SET (R667, R668, Table 20-2). -/
def bodyTimeRefSet : Body := fun _ c s =>
  let ref := c.u 0 1
  let master := c.flag 3 1 2
  if !timeRefFields c then .fail s stBadParam else
  if master && ref ≠ 2 then .fail s stRoleInvalid else
  let a := (s.net.ports.getD (c.u 1 1) {}).addrs.getD (c.u 2 1) {}
  if (ref = 1 || master) && !(s.portProvided (c.u 1 1) && a.valid) then .fail s stPortUnavailable else
  let r := s.refSettings c
  .ok (if s.time.ref = ref then r else r.refChange s.time)

/-- Whether a step is pending on four measurements of the last 2 s (R673). -/
def State.stepAllowed (s : State) : Bool :=
  let u := s.time
  u.pendingStep.isSome && u.offsets.length == 4 && u.offsets.all fun x => decide (s.now ≤ x.2 + 2 * secU)

/-- TIME_ALLOW_STEP (R673). -/
def bodyTimeAllowStep : Body := fun _ _ s =>
  if !s.stepAllowed then .fail s stNoStepPending else
  let d := -(meanOf s.time.offsets)
  let at_ := (tickOf s.now + 1) * tickU
  .ok (s.modTime fun u => { u with stepAt := some (at_, d) })
    (leI 8 (nsOf d) ++ le 8 (s.grainAfterStep (moved at_ d)))

/-- TIME_PPS_SECONDS (R678, R680). -/
def bodyTimePpsSeconds : Body := fun _ c s => .ok (s.modTime fun u => { u with ppsNamed := some (c.u 0 8) })

/-- PPS_OUT_SET (R679). -/
def bodyPpsOutSet : Body := fun _ c s =>
  if !(c.rng 0 1 0 2 && c.zero 1 1 && c.rng 2 2 0 500) then .fail s stBadParam
  else .ok (s.modTime fun u => { u with ppsPending := some (c.u 0 1, c.dflt 2 2 100) })

/-- TIME_UTC_SET (R663). -/
def bodyTimeUtcSet : Body := fun _ c s =>
  if !(c.rng 0 2 0 255 && c.zero 2 2) then .fail s stBadParam
  else .ok (s.utcChange 1 fun u => { u with opUtc := c.u 0 2 })

/-- TIME_QUERY (Table 20-8). -/
def bodyTimeQuery : Body := fun _ _ s =>
  let u := s.time
  .ok s (le 1 u.state.code ++ le 1 u.ref ++ le 2 u.utc ++ leI 4 (nsOf u.lastOffset) ++ leI 4 u.ratePpb ++
    le 4 (if u.state = .holdover then u.holdError / usU else 0) ++
    leI 8 (match u.pendingStep with | some d => nsOf d | none => 0) ++
    le 8 (match u.gm with | some g => g.id | none => 0) ++ le 1 (match u.gm with | some g => g.clockClass | none => 0) ++
    le 1 u.portState ++ le 2 u.steps ++ le 4 u.refused ++ le 4 u.dropped ++ zeros 4)

def execTimeRefSet (c : Cmd) (s : State) := runBelex 0x1200 bodyTimeRefSet c s
def execTimeAllowStep (c : Cmd) (s : State) := runBelex 0x1201 bodyTimeAllowStep c s
def execTimePpsSeconds (c : Cmd) (s : State) := runBelex 0x1202 bodyTimePpsSeconds c s
def execPpsOutSet (c : Cmd) (s : State) := runBelex 0x1203 bodyPpsOutSet c s
def execTimeUtcSet (c : Cmd) (s : State) := runBelex 0x1204 bodyTimeUtcSet c s
def execTimeQuery (c : Cmd) (s : State) := runBelex 0x1205 bodyTimeQuery c s

end Sys2Proof.Machine
end

