-- ==== Sys2Proof/Machine/Flags.lean ====
section
/-! DEFINITION. Status words: IW_ID, IW_MODE, IW_HEALTH, IW_FAULT, Q_CTL and Q_STATUS
(Tables 24-3 to 24-9), each computed from the state it reports, and what a read of a BAR returns (R743 to R746). -/

namespace Sys2Proof.Machine

/-- IW_ID (Table 24-3). -/
def iwId : Nat := 0x9740 * 65536 + 0xB1 * 256 + (if Config.gradeExtended then 1 else 0) * 16

/-- IW_MODE (Table 24-4). -/
def State.iwMode (s : State) : Nat := s.sys.prev.code * 256 + s.sys.mode.code

/-- Units retired (IW_HEALTH FAILED, FAILED_UNITS). -/
def State.failedUnits (s : State) : Nat :=
  sumOf s.units.clusters fun k => countOf (List.range 16) fun u => bit k.failed u

/-- Whether a logical port of a physical port has link. -/
def State.ethUp (s : State) (p : Nat) : Bool :=
  [0, 1, 2, 3].any fun k => (s.net.ports.getD (4 * p + k) {}).up

/-- The stage counted for THROTTLE: stage 1 or above; a warning is none (Table 21-6). -/
def State.throttling (s : State) : Bool := s.sys.thermal.any fun t => decide (1 ≤ t.stage)

/-- IW_HEALTH (Table 24-5). -/
def State.iwHealth (s : State) : Nat :=
  min s.failedUnits 255 * 65536 +
  b2n (s.time.state == .holdover) * 512 + b2n (s.time.state == .locked) * 256 +
  b2n (s.ethUp 1) * 128 + b2n (s.ethUp 0) * 64 + b2n s.throttling * 32 +
  b2n (s.sys.mode == .ridethrough) * 16 + b2n (s.sys.mode == .degraded) * 8 +
  b2n (s.sys.mode == .lockdown) * 4 + b2n (s.trust.t0Boot || s.trust.t1Boot) * 2 +
  b2n (s.sys.faultCause != 0)

/-- Whether a completion queue can take an entry now (R132, R740): its function masters the bus, the
queue is enabled, and one place is left beside the S − 1 entries a ring holds (R95). -/
def State.cqTakes (s : State) (fn n : Nat) : Bool :=
  let q := (s.func fn).cqs.getD n {}
  s.fnMasters fn && q.enable && (q.pos + 1) % 2 ^ q.sizeLog2 != q.head

/-- Q_STATUS of a queue: q is n for SQ n, 8 + n for CQ n and 16 for the EQ (Table 24-9). -/
def State.qStatus (s : State) (fn q : Nat) : Nat :=
  let f := s.func fn
  if q < 8 then
    let k := f.sqs.getD q {}
    k.pos * 65536 + k.dbErr * 256 + b2n k.fetchErr * 2 + b2n (k.enable && !k.fetchErr)
  else if q < 16 then
    let k := f.cqs.getD (q - 8) {}
    b2n k.phase * 268435456 + k.pos * 65536 + k.dbErr * 256 +
      b2n (!k.waiting.isEmpty && !s.cqTakes fn (q - 8)) * 4 + b2n k.enable
  else
    let k := f.eq
    b2n k.phase * 268435456 + k.pos * 65536 + k.dbErr * 256 +
      b2n ((!k.held.isEmpty || !k.comps.isEmpty) && !s.eqTakes fn) * 4 + b2n k.enable

/-- Q_CTL as it reads (Table 24-8): an SQ has neither coalescing nor a vector. -/
def qCtl (coalUs : Nat) (irqEn : Bool) (vector sizeLog2 : Nat) (enable : Bool) : Nat :=
  coalUs * 65536 + b2n irqEn * 4096 + vector * 256 + sizeLog2 * 16 + b2n enable

/-- The 4 bytes at an offset into a queue's block of registers: ring base, Q_CTL, Q_STATUS (Table 24-2). -/
def State.queueReg (s : State) (fn o : Nat) : Nat :=
  let q := o / 32
  let f := s.func fn
  let k := f.sqs.getD q {}
  let c := f.cqs.getD (q - 8) {}
  let base := if q < 8 then k.base else if q < 16 then c.base else f.eq.base
  match o % 32 with
  | 0 => base % 4294967296
  | 4 => base / 4294967296
  | 8 => if q < 8 then qCtl 0 false 0 k.sizeLog2 k.enable
    else if q < 16 then qCtl c.coalUs c.irqEn c.vector c.sizeLog2 c.enable
    else qCtl f.eq.coalUs f.eq.irqEn f.eq.vector f.eq.sizeLog2 f.eq.enable
  | 12 => s.qStatus fn q
  | _ => 0

/-- The 4 bytes at an offset of the operator's registers (Table 24-2); GO reads as whether the images named are being read
(DESIGN CHOICE). -/
def State.operatorReg (s : State) (o : Nat) : Nat :=
  let link (j : Nat) : DieLink := s.units.links.getD j {}
  match o with
  | 0x0800 => (link 0).replays % 4294967296
  | 0x0804 => (link 1).replays % 4294967296
  | 0x0808 => (link 2).replays % 4294967296
  | 0x080C => (link 0).retrains % 4294967296
  | 0x0810 => (link 1).retrains % 4294967296
  | 0x0814 => (link 2).retrains % 4294967296
  | 0x0900 => s.host.bootHub % 4294967296
  | 0x0904 => s.host.bootHub / 4294967296
  | 0x0908 => s.host.bootCluster % 4294967296
  | 0x090C => s.host.bootCluster / 4294967296
  | 0x0910 => b2n s.host.bootRejected * 2 + b2n s.host.bootGo
  | _ => 0

/-- The 4 bytes at an offset of a function's immediate window (R745, R746, Table 24-2): 0 where nothing is assigned, and in a
virtual function for the operator's registers. -/
def State.windowReg (s : State) (fn o : Nat) : Nat :=
  let f := s.func fn
  if 0x0400 ≤ o && o < 0x0400 + 32 * 17 then s.queueReg fn (o - 0x0400)
  else if 0x0100 ≤ o && o < 0x0120 then (f.sqs.getD ((o - 0x0100) / 4) {}).dbReg
  else if 0x0120 ≤ o && o < 0x0140 then (f.cqs.getD ((o - 0x0120) / 4) {}).head
  else match o with
    | 0x0000 => iwId
    | 0x0004 => s.iwMode
    | 0x0008 => s.iwHealth
    | 0x000C => f.summary
    | 0x0010 => f.capSeq * 65536
    | 0x0014 => fn % 64
    | 0x0018 => f.capSec % 4294967296
    | 0x001C => f.capSec / 4294967296
    | 0x0020 => f.capNs
    | 0x0024 => s.sys.faultWord
    | 0x0140 => f.eq.head
    | _ => if fn = 0 then s.operatorReg o else 0

/-- The 4 bytes at an offset of BAR2: the MSI-X table, and the pending-bit array at 0x2000 (R743). -/
def State.msixReg (s : State) (fn o : Nat) : Nat :=
  let m := (s.func fn).msix
  let x := m.getD (o / 16) {}
  if o = 0x2000 then sumOf (List.range 16) fun v => if (m.getD v {}).pending then 2 ^ v else 0
  else if 256 ≤ o then 0
  else match o % 16 with
    | 0 => x.addr % 4294967296
    | 4 => x.addr / 4294967296
    | 8 => x.data
    | _ => b2n x.masked

/-- The 4 bytes at an offset of a BAR (R743). -/
def State.barReg (s : State) (fn bar o : Nat) : Nat :=
  match bar with
  | 0 => s.windowReg fn o
  | 2 => s.msixReg fn o
  | _ => 0

/-- What a read of `size` bytes at an offset of a BAR returns: 4 or 8 bytes at natural alignment, else every bit set
(R744). -/
def State.barRead (s : State) (fn bar o size : Nat) : Nat :=
  if o % size ≠ 0 then 2 ^ (8 * size) - 1 else
  match size with
  | 4 => s.barReg fn bar o
  | 8 => s.barReg fn bar o + s.barReg fn bar (o + 4) * 4294967296
  | _ => 2 ^ (8 * size) - 1

end Sys2Proof.Machine
end

