-- ==== Sys2Proof/Machine/Beacon.lean ====
section
/-! DEFINITION. The co-location beacon modem: the frame and its code, modulators, the receivers, scanning and
the co-location decision, the 0x08xx commands (file 10 of spec/). -/

namespace Sys2Proof.Machine

def stModExists : Nat := 0x8800
def stLegType : Nat := 0x8801

/-! The beacon frame (R376 to R380). -/

/-- The preamble sequence s(0) to s(62): the first six are 1, and s(j + 6) = s(j + 1) XOR s(j). -/
def preamble : List Bool :=
  ((List.range 57).foldl (fun (l : List Bool) j => l ++ [l.getD (j + 1) false != l.getD j false])
    (List.replicate 6 true))

/-- The bits of a number, the most significant of `n` first. -/
def msbBits (n v : Nat) : List Bool := (List.range n).map fun i => bit v (n - 1 - i)

/-- The number that bits spell, the most significant first. -/
def ofMsb (l : List Bool) : Nat := l.foldl (fun a b => 2 * a + b2n b) 0

/-- The remainder of a polynomial over GF(2) by a divisor of degree `deg`, the highest coefficient first. -/
def gfRem (deg poly : Nat) (l : List Bool) : Nat :=
  l.foldl (fun r b =>
    let r := 2 * r + b2n b
    if bit r deg then r ^^^ poly else r) 0

/-- CRC-8 of R378: x^8 + x^2 + x + 1, initial value 0. -/
def beaconCrc (l : List Bool) : Nat := gfRem 8 0x107 (l ++ List.replicate 8 false)

/-- The 48 message bits of a tag, SEQ and FLAGS. -/
def beaconMessage (tag seq flags : Nat) : List Bool :=
  let m := msbBits 32 tag ++ msbBits 4 seq ++ msbBits 4 flags
  m ++ msbBits 8 (beaconCrc m)

/-- The 60 coded bits of a message (R379). -/
def bchEncode (m : List Bool) : List Bool := m ++ msbBits 12 (gfRem 12 0x1539 (m ++ List.replicate 12 false))

/-- The spreading word w (R380). -/
def spread : List Bool := msbBits 8 0xD2

/-- Where coded bit v(i) is sent: bit q = 6 × (i mod 10) + floor(i / 10). -/
def beaconPlace (i : Nat) : Nat := 6 * (i % 10) + i / 10

/-- The 638 chips of a frame (Table 10-1). -/
def beaconChips (tag seq flags : Nat) : List Bool :=
  let v := bchEncode (beaconMessage tag seq flags)
  let u := (List.range 60).map fun q => v.getD (q % 6 * 10 + q / 6) false
  preamble ++ preamble ++ msbBits 32 0xE8A317D2 ++
    u.flatMap fun b => spread.map fun w => b != w

/-- The coded bits that the differential products of chips 158 to 637 decide, de-interleaved (R392). -/
def beaconBits (d : List Int) : List Bool :=
  (List.range 60).map fun i =>
    let q := beaconPlace i
    let s := (List.range 8).foldl (fun (a : Int) j =>
      let x := d.getD (8 * q + j) 0
      if spread.getD j false then a - x else a + x) 0
    decide (s ≤ 0)

/-- A bit of a word inverted. -/
def flipBit (l : List Bool) (i : Nat) : List Bool := modAt l i fun b => !b

/-- The decoder of R392: a code word within 2 errors, or none. -/
def bchDecode (v : List Bool) : Option (List Bool) :=
  let syn (i : Nat) : Nat := gfRem 12 0x1539 (flipBit (List.replicate 60 false) i)
  let s := gfRem 12 0x1539 v
  if s = 0 then some v else
  let places := List.range 60
  match places.find? fun i => syn i == s with
  | some i => some (flipBit v i)
  | none =>
    match (places.flatMap fun i => (List.range i).map fun j => (i, j)).find? fun p => syn p.1 ^^^ syn p.2 == s with
    | some (i, j) => some (flipBit (flipBit v i) j)
    | none => none

/-! Modulators. -/

/-- A modulator changed. -/
def State.modBcn (s : State) (ch : Nat) (f : BeaconMod → BeaconMod) : State :=
  { s with aud := { s.aud with bcn := { s.aud.bcn with mods := tmod s.aud.bcn.mods ch f } } }

/-- A demodulator changed. -/
def State.modDemod (s : State) (ch : Nat) (f : Demod → Demod) : State :=
  { s with aud := { s.aud with bcn := { s.aud.bcn with demods := tmod s.aud.bcn.demods ch f } } }

/-- A demodulator set free: its state is IDLE. -/
def State.dropDemod (s : State) (ch : Nat) : State :=
  { s with aud := { s.aud with bcn := { s.aud.bcn with demods := tdel s.aud.bcn.demods ch } } }

/-- One of the counters of BEACON_STATS raised. -/
def State.bcnCount (s : State) (i : Nat) : State :=
  { s with aud := { s.aud with bcn := { s.aud.bcn with counters := bump s.aud.bcn.counters i 1 } } }

/-- Beacon state of a leg changed. -/
def State.modLegBcn (s : State) (leg : Nat) (f : LegBeacon → LegBeacon) : State :=
  s.modLeg leg fun l => { l with bcn := f l.bcn }

/-- OFFSET as it is used: 0xFFFF selects (97 × modulator index) mod 800, the modulators being numbered from 0
(R384). -/
def modOffset (ch : Nat) (m : ModSet) : Nat := if m.offset = 0xFFFF then 97 * (ch - 512) % 800 else m.offset

/-- Whether a modulator is attached at an instant: until the grain boundary after its detachment (R403). -/
def BeaconMod.held (m : BeaconMod) (now : Nat) : Bool := match m.detach with | some g => decide (grainOf now ≤ g) | none => true

/-- The room leg of a tag: the leg whose attached modulator carries it (R403). -/
def State.roomOf (s : State) (tag : Nat) : Nat :=
  match s.aud.bcn.mods.find? fun p => p.2.tag == tag && p.2.held s.now with | some p => p.2.leg | none => 0xFFFF

/-- A modulator is detached: it has no room leg from the next grain boundary on, and adds nothing from this playout grain on
(R403, R405). -/
def State.detachMod (s : State) (ch : Nat) : State :=
  s.modBcn ch fun m => { m with detach := some (m.detach.getD (grainOf s.now)) }

/-- The modulators of a leg detached. -/
def State.detachLeg (s : State) (leg : Nat) : State :=
  (s.aud.bcn.mods.filter fun p => p.2.leg == leg).foldl (fun s p => s.detachMod p.1) s

/-- The first tag from `k` on that is nonzero and not in use. -/
def tagFrom (used : List Nat) : Nat → Nat → Nat
  | 0, k => k
  | fuel + 1, k => if k = 0 || used.contains k then tagFrom used fuel ((k + 1) % 4294967296) else k

/-- A room tag drawn (R381): random, nonzero, not of an attached modulator or one detached in the last 30 s. -/
def State.drawTag (s : State) : Nat × State :=
  let (r, s) := s.free
  let used := (s.aud.bcn.mods.map fun p => p.2.tag) ++
    (s.aud.bcn.gone.filter fun g => decide (s.now < g.2 + 30 * secU)).map fun g => g.1
  (tagFrom used (used.length + 1) (r % 4294967296), s)

/-- The settings in a command's parameters. -/
def modSetOf (c : Cmd) : ModSet := ⟨c.dflt 0 1 72, c.u 1 1, c.u 2 2⟩

/-- Whether the parameters of BEACON_MOD_ATTACH and BEACON_MOD_SET are in range. -/
def modSetOk (c : Cmd) : Bool :=
  c.rng0 0 1 40 140 && c.mask 1 1 0xF && (c.rng 2 2 0 799 || c.u 2 2 == 0xFFFF) && c.zero 4 4

/-- A modulator given to a leg, with a tag drawn for it: its channel, its tag (R381). -/
def State.attachMod (s : State) (leg : Nat) (x : ModSet) : Nat × Nat × State :=
  let t := s.drawTag
  let f := t.2.free
  let ch := 512 + freeIndex (f.2.aud.bcn.mods.map fun p => p.1 - 512) 256 f.1
  let m : BeaconMod :=
    { leg := leg, tag := t.1, run := x, pend := [], frame := none, detach := none, from_ := grainOf s.now }
  (ch, t.1, { f.2 with aud := { f.2.aud with bcn := { f.2.aud.bcn with mods := tset f.2.aud.bcn.mods ch m } } })

/-- BEACON_MOD_ATTACH (R381). -/
def bodyBeaconModAttach : Body := fun _ c s =>
  let i := hIdx c.obj
  match s.leg i with
  | none => .fail s stNoObject
  | some l =>
    if !modSetOk c then .fail s stBadParam else
    if !(l.typ == .endpoint || l.typ == .trunk || l.typ == .port) then .fail s stLegType else
    if s.aud.bcn.mods.any fun p => p.2.leg == i && p.2.held s.now then .fail s stModExists else
    if 256 ≤ s.aud.bcn.mods.length then .fail s stNoResource else
    if s.trust.rngFailed then .fail s stBusy else
    let r := s.attachMod i (modSetOf c)
    .ok r.2.2 (le 4 (mkHandle 11 r.1) ++ le 4 r.2.1 ++ le 8 (grainOf s.now))

/-- Settings of a modulator from playout grain `g` on; later ones of the same grain replace them (R305, R385). -/
def BeaconMod.ask (m : BeaconMod) (g : Nat) (x : ModSet) : BeaconMod :=
  { m with pend := (m.pend.filter fun p => p.1 != g) ++ [(g, x)] }

/-- BEACON_MOD_SET (R385). -/
def bodyBeaconModSet : Body := fun _ c s =>
  if !modSetOk c then .fail s stBadParam else
  let g := grainOf s.now
  .ok (s.modBcn (hIdx c.obj) fun m => m.ask g (modSetOf c)) (le 8 g)

/-- BEACON_MOD_DETACH (R403). -/
def bodyBeaconModDetach : Body := fun _ c s => .ok (s.detachMod (hIdx c.obj)) (le 8 (grainOf s.now))

/-- BEACON_MOD_QUERY (Table 10-7). -/
def bodyBeaconModQuery : Body := fun _ c s =>
  let ch := hIdx c.obj
  match tget s.aud.bcn.mods ch with
  | none => .fail s stNoObject
  | some m => .ok s (le 4 (legH m.leg) ++ le 4 m.tag ++ le 1 m.run.level ++ le 1 m.run.flags ++
      le 2 (modOffset ch m.run) ++ le 4 m.frames ++ le 4 m.blocked ++ le 4 m.clips)

/-- Grains that a frame takes with its pulse tails: 646 chips, rounded up (R376, R377). -/
def frameGrains : Nat := 216

/-- A modulator at the boundary after which playout grain `n` is processed: new settings are taken, and a
frame begins at its scheduled grain, unless the frame before is still in progress after a change of OFFSET (R384, R385). -/
def BeaconMod.grain (ch n : Nat) (m : BeaconMod) : BeaconMod :=
  let m := { m with run := (((m.pend.filter fun p => decide (p.1 ≤ n)).getLast?).map fun p => p.2).getD m.run
                    pend := m.pend.filter fun p => decide (n < p.1) }
  let busy := match m.frame with | some (st, _) => decide (n < st + frameGrains) | none => false
  let m := if busy then m else { m with frame := none }
  if !busy && decide (m.from_ ≤ n) && n % 800 == modOffset ch m.run then
    { m with frame := some (n, m.run), frames := m.frames + 1 }
  else m

/-- The phase of each chip of a frame: whether it is π, the carrier at the start of the frame having phase 0. Each chip turns
the phase of the one before by π times its value (R376). -/
def beaconPhases (chips : List Bool) : List Bool :=
  (chips.foldl (fun (a : Bool × List Bool) c => (a.1 != c, (a.1 != c) :: a.2)) (false, [])).2.reverse

/-- Sample `j` of a frame, of 40 samples a chip: the pulses of the chips around it, each with the sign of its phase, on the
carrier, truncated (R376, R382). Sample 0 begins the pulse of chip 0, 4 chips before it. -/
def beaconSample (phases : List Bool) (level j : Nat) : Int :=
  let c := j / 40
  let sum := (List.range 9).foldl (fun (a : Int) i =>
    if c < i || 638 ≤ c - i then a else
    let v := Config.beaconPulse level (40 * i + j % 40)
    if phases.getD (c - i) false then a - v else a + v) 0
  sum * Config.beaconCarrier (j % 80) / 2 ^ 64

/-- The beacon samples of a modulator for playout grain `n`: nothing outside a frame. LEVEL is that in force,
even within a frame; SEQ counts the frames from 0 (R378, R384, R385). -/
def BeaconMod.samples (m : BeaconMod) (n : Nat) : List Int :=
  match m.frame with
  | none => List.replicate 120 0
  | some (st, x) =>
    let phases := beaconPhases (beaconChips m.tag ((m.frames - 1) % 16) x.flags)
    (List.range 120).map fun k => beaconSample phases m.run.level (120 * (n - st) + k)

/-! Co-location (R399 to R404). -/

/-- Appearances in the last 3 periods. -/
def seenCount (n : Nat) : Nat := n % 2 + n / 2 % 2 + n / 4 % 2

/-- The action of R314 for a co-located leg, begun with event 169 or ended with event 170, and due in the mix at
the first grain boundary after this instant. -/
def State.actBegin (s : State) (leg tag room : Nat) : State :=
  match s.leg leg, s.leg room with
  | some l, some r =>
    if l.conf = r.conf then
      let s := s.setMix l.conf { s.mix l.conf with
        actPend := (s.mix l.conf).actPend ++ [(grainOf s.now, leg, tag, true)] }
      s.raise 169 (legH leg) (le 2 room ++ le 1 (s.mix l.conf).latest.coloc ++ le 4 tag)
    else s.raise 169 (legH leg) (le 2 room ++ le 1 0 ++ le 4 tag)
  | _, _ => s

/-- Whether an action is in force or about to begin for a leg of a conference. -/
def ConfMix.acting (m : ConfMix) (leg : Nat) : Bool :=
  m.actPend.foldl (fun b a => if a.2.1 = leg then a.2.2.2 else b) (m.acts.any fun a => a.1 == leg)

def State.actEnd (s : State) (leg tag : Nat) : State :=
  match s.leg leg with
  | none => s
  | some l =>
    let m := s.mix l.conf
    if m.acting leg then
      (s.setMix l.conf { m with actPend := m.actPend ++ [(grainOf s.now, leg, tag, false)] }).raise 170 (legH leg) (le 4 tag)
    else s

/-- A leg becomes co-located with a tag: event 186, and R314's action. -/
def State.colocSet (s : State) (leg tag v : Nat) : State :=
  let room := s.roomOf tag
  let s := s.modLegBcn leg fun b => { b with coloc := some tag, room := room }
  let s := s.raise 186 (legH leg) (le 4 tag ++ le 2 room ++ le 1 v ++ le 8 (grainOf s.now))
  s.actBegin leg tag room

/-- Co-location of a leg clears: event 187, and the action ends. -/
def State.colocClear (s : State) (leg : Nat) : State :=
  match s.leg leg with
  | none => s
  | some l =>
    match l.bcn.coloc with
    | none => s
    | some tag =>
      let s := s.modLegBcn leg fun b => { b with coloc := none, room := 0xFFFF }
      let s := s.raise 187 (legH leg) (le 4 tag ++ le 8 (grainOf s.now))
      s.actEnd leg tag

/-- The tag with which the tracked tags make a leg co-located (R401, R402); of two in the same period with equal
strengths the manual names none: it is `pick`. -/
def LegBeacon.winner (b : LegBeacon) (pick : Bool) : Option Nat :=
  let a := b.tagA != 0 && decide (2 ≤ seenCount b.seenA)
  let c := b.tagB != 0 && decide (2 ≤ seenCount b.seenB)
  let last (n : Nat) : Nat := if bit n 0 then 0 else if bit n 1 then 1 else 2
  match a, c with
  | true, false => some b.tagA
  | false, true => some b.tagB
  | true, true =>
    let x := last b.seenA
    let y := last b.seenB
    some (if x < y then b.tagA else if y < x then b.tagB
      else if b.vA < b.vB then b.tagA else if b.vB < b.vA then b.tagB
      else if pick then b.tagA else b.tagB)
  | false, false => none

/-- COLOC_DECISION after a valid frame (R401, R402). -/
def State.colocDecide (s : State) (leg : Nat) : State :=
  let (r, s) := s.free
  match s.leg leg with
  | none => s
  | some l =>
    match l.bcn.winner (r % 2 == 0) with
    | none => s
    | some tag =>
      if l.bcn.coloc = some tag then s
      else (s.colocClear leg).colocSet leg tag (if tag = l.bcn.tagA then l.bcn.vA else l.bcn.vB)

/-- A tag appears in a leg's present period, or in the one before (`place` 1): it is tracked, a third tag
replacing one as R399 says. -/
def LegBeacon.appear (b : LegBeacon) (tag v at_ place : Nat) : LegBeacon :=
  let m := 2 ^ place
  if b.tagA = tag then { b with seenA := b.seenA ||| m, vA := v, atA := at_ }
  else if b.tagB = tag then { b with seenB := b.seenB ||| m, vB := v, atB := at_ }
  else if b.tagA = 0 then { b with tagA := tag, seenA := m, vA := v, atA := at_ }
  else if b.tagB = 0 then { b with tagB := tag, seenB := m, vB := v, atB := at_ }
  else
    let dropA :=
      if b.coloc = some b.tagA then false
      else if b.coloc = some b.tagB then true
      else if seenCount b.seenA = seenCount b.seenB then decide (b.atA < b.atB)
      else decide (seenCount b.seenA < seenCount b.seenB)
    if dropA then { b with tagA := tag, seenA := m, vA := v, atA := at_ }
    else { b with tagB := tag, seenB := m, vB := v, atB := at_ }

/-- A new period of a leg begins: the appearances move one period back. -/
def LegBeacon.newPeriod (b : LegBeacon) (at_ : Nat) : LegBeacon :=
  { b with seenA := b.seenA * 2 % 8, seenB := b.seenB * 2 % 8, lastScan := at_, scanned := true }

/-- Held and watched legs (R395). -/
def State.holds (s : State) : Nat := countOf s.legs fun p => p.2.bcn.held || p.2.bcn.watch

/-- The demodulator of a leg. -/
def State.demodOf (s : State) (leg : Nat) : Option (Nat × Demod) := s.aud.bcn.demods.find? fun p => p.2.leg == leg

/-- The assignment of a demodulator ends: at once in ARMED, else when the reception ends (R398). -/
def State.endAssign (s : State) (ch : Nat) : State :=
  match tget s.aud.bcn.demods ch with
  | none => s
  | some d => if d.state = .armed then s.dropDemod ch else s.modDemod ch fun d => { d with ending := true }

/-- A candidate that is not held yet is held where HOLD_MAX allows: its demodulator stays with it, and its
periods run from the grain after this playout grain (R400). -/
def State.tryHold (s : State) (leg : Nat) : State :=
  match s.leg leg with
  | none => s
  | some l =>
    if l.bcn.held || l.bcn.watch || l.bcn.code = 0 || decide (s.aud.bcn.holdMax ≤ s.holds) then s
    else
      let g := grainOf s.now
      let s := s.modLegBcn leg fun b => { (b.newPeriod (g * grainU)) with held := true }
      match s.demodOf leg with
      | some (ch, _) => s.modDemod ch fun d => { d with assign := 2, period := g, ending := false }
      | none => s

/-- Back to ARMED after a reception: the AGC is released, and an assignment that has ended leaves (R389, R398). -/
def State.toArmed (s : State) (ch : Nat) : State :=
  let s := s.modDemod ch fun d => { d with state := .armed, frozen := none }
  match tget s.aud.bcn.demods ch with
  | some d => if d.ending then s.dropDemod ch else s
  | none => s

/-! The receiver (Table 10-2). -/

/-- ARMED to SEARCH at a peak: the AGC is frozen at the gain that it has (R387 to R389). -/
def Demod.lock (pos sync gain : Nat) (p : Int) (d : Demod) : Demod :=
  { d with state := .search, peakAt := pos, peakP := p, frozen := some gain, sync := sync }

/-- The AGC gain that a peak of strength P sets, in 0.01 dB: from 0 to +60 dB, with a chip RMS of −12 dBFS as its aim (R387). -/
def agcGain (p : Int) : Nat := min 6000 (-1200 - p).toNat

/-- A peak of the correlator in a demodulator: it starts a search; in a search a stronger one captures the receiver; in a
reception one that would capture it counts as overlapped (R388 to R390). The gain at which a first peak freezes the AGC depends on
the samples before it, and is free (R387). -/
def State.beaconPeak (s : State) (ch : Nat) (d : Demod) (pos : Nat) (p : Int) (sync : Bool) : State :=
  match d.state with
  | .armed =>
    let r := s.free
    (r.2.modDemod ch (Demod.lock pos s.aud.bcn.sync (r.1 % 6001) p)).bcnCount 0
  | .search =>
    if p < d.peakP + d.captureDb * 100 || sync then s
    else (s.modDemod ch fun d => { d with peakAt := pos, peakP := p, frozen := some (agcGain p) }).bcnCount 2
  | .locked =>
    if p < -50 * (d.v : Int) + d.captureDb * 100 || pos = d.syncAt then s
    else (s.bcnCount 3).raiseCount 189 (legH d.leg) (legH d.leg) []

/-- BEACON_PEAK: a position of the correlator in demodulator `ch` at playout instant `pos`, with C there and at
its neighbours in millionths, its strength P in 0.01 dB, and whether the sync correlation reaches its
threshold at the same position (R388 to R390). -/
def execBeaconPeak (t ch pos c before after : Nat) (p : Int) (sync : Bool) (s : State) :
    Host.Outcome State Fault Refusal :=
  let s := s.advance t
  match tget s.aud.bcn.demods ch with
  | none => .next s
  | some d =>
    .next (if c < d.det * 10000 || c < before || c < after then s else s.beaconPeak ch d pos p sync)

/-- The code v of a strength in 0.01 dB: −v/2 dBFS, truncated toward minus infinity (R391). -/
def strengthCode (p : Int) : Nat := min 254 (-(p / 50)).toNat

/-- The sync correlation reaches its threshold within the 40 ms of a search. -/
def Demod.syncs (d : Demod) (pos corr : Nat) : Bool :=
  d.state == .search && decide (d.sync * 10000 ≤ corr) && decide (d.peakAt ≤ pos) && decide (pos < d.peakAt + 40 * msU)

/-- SEARCH to LOCKED, with the strength of the beacon measured (R389, R391). -/
def State.beaconLock (s : State) (ch : Nat) (d : Demod) (pos v : Nat) : State :=
  let s := s.modDemod ch fun d => { d with state := .locked, v := v, syncAt := pos }
  (s.modLegBcn d.leg fun b => { b with strength := v }).bcnCount 4

/-- BEACON_SYNC: the correlation over 32 chips whose end is at `pos`, in millionths, and the strength measured
over them (R389, R391). -/
def execBeaconSync (t ch pos corr : Nat) (p : Int) (s : State) : Host.Outcome State Fault Refusal :=
  let s := s.advance t
  match tget s.aud.bcn.demods ch with
  | none => .next s
  | some d =>
    .next (if d.syncs pos corr then s.beaconLock ch d pos (strengthCode p) else s)

/-- BEACON_SEARCH_TIMEOUT: the search window has ended without a sync word (R389). -/
def execBeaconSearchTimeout (t ch : Nat) (s : State) : Host.Outcome State Fault Refusal :=
  let s := s.advance t
  match tget s.aud.bcn.demods ch with
  | none => .next s
  | some d =>
    if d.state = .search && decide (d.peakAt + 40 * msU ≤ s.now) then
      .next (((s.toArmed ch).bcnCount 1).raiseAt 188 0 1001)
    else .next s

/-- A valid frame with a tag (R393, R399 to R404). -/
def State.beaconValid (s : State) (d : Demod) (tag : Nat) : State :=
  let s := s.bcnCount 7
  if s.aud.bcn.mods.any fun p => p.2.tag == tag && p.2.leg == d.leg then s.bcnCount 8 else
  let place := if grainOf d.syncAt < d.period then 1 else 0
  let s := s.modLegBcn d.leg fun b =>
    { (b.appear tag d.v d.syncAt place) with lastTag := tag, frames := b.frames + 1 }
  (s.colocDecide d.leg).tryHold d.leg

/-- A frame received by its bits: what cannot be decoded counts, a wrong CRC counts, and a good one is valid (R392, R393). -/
def State.beaconFrame (s : State) (x : Demod) (d : List Int) : State :=
  match bchDecode (beaconBits d) with
  | none => s.bcnCount 5
  | some v => if gfRem 8 0x107 (v.take 48) ≠ 0 then s.bcnCount 6 else s.beaconValid x (ofMsb (v.take 32))

/-- BEACON_FRAME_END: chip 637 has been received, with the differential products d(k) of chips 158 to 637
(R389, R392). -/
def execBeaconFrameEnd (t ch : Nat) (d : List Int) (s : State) : Host.Outcome State Fault Refusal :=
  let s := s.advance t
  match tget s.aud.bcn.demods ch with
  | none => .next s
  | some x =>
    .next (if x.state ≠ .locked then s else (s.beaconFrame x d).toArmed ch)

/-- The room leg looked up again at the end of a period (R403), and R314's action with it. -/
def State.roomReview (s : State) (leg : Nat) : State :=
  match s.leg leg with
  | none => s
  | some l =>
    match l.bcn.coloc with
    | none => s
    | some tag =>
      let room := s.roomOf tag
      let s := s.modLegBcn leg fun b => { b with room := room }
      let same := match s.leg room with | some r => r.conf == l.conf | none => false
      if (s.mix l.conf).acting leg && !same then s.actEnd leg tag
      else if !(s.mix l.conf).acting leg && same then s.actBegin leg tag room
      else s

/-- A tag that a leg no longer tracks with an appearance in the last periods (R401). -/
def LegBeacon.gone (b : LegBeacon) (tag : Nat) : Bool :=
  !((b.tagA == tag && b.seenA % 8 != 0) || (b.tagB == tag && b.seenB % 8 != 0))

/-- The end of a period of a leg: the co-location is lost or reviewed, a scan ends with it, and a held leg without tags is let
go (R396, R398, R401). -/
def State.periodEnd (s : State) (leg ch : Nat) (d : Demod) (b : LegBeacon) : State :=
  let s := match b.coloc with
    | some tag => if b.gone tag then s.colocClear leg else s.roomReview leg
    | none => s
  if d.assign = 1 then (s.bcnCount 9).endAssign ch else
  let idle := b.seenA % 8 == 0 && b.seenB % 8 == 0
  let s := if idle then s.modLegBcn leg fun b => { b with held := false } else s
  if idle && !b.watch then s.endAssign ch
  else
    let s := s.modDemod ch fun d => { d with period := d.period + 800 }
    s.modLegBcn leg fun b => b.newPeriod ((d.period + 800) * grainU)

/-- BEACON_PERIOD_END: the end of a leg's 800-grain period (R396, R398, R401). -/
def execBeaconPeriodEnd (t leg : Nat) (s : State) : Host.Outcome State Fault Refusal :=
  let s := s.advance t
  match s.demodOf leg, s.leg leg with
  | some (ch, d), some l =>
    .next (if grainOf s.now < d.period + 800 || d.ending then s else s.periodEnd leg ch d l.bcn)
  | _, _ => .next s

/-! Scanning (R395 to R397). -/

/-- The beacon settings of a conference. -/
def State.beaconRx (s : State) (conf : Nat) : BeaconRx := (tget s.aud.bcn.rx conf).getD {}

/-- Whether a leg is eligible for scanning. -/
def State.scannable (s : State) (leg : Nat) (l : Leg) : Bool :=
  (l.typ == .endpoint || l.typ == .trunk) && l.state != .closing && (s.beaconRx l.conf).enable &&
  (let x := (s.mix l.conf).run
   s.flows.any fun p => p.2.leg == leg && p.2.kind == 1 && p.2.dir == 1 && p.2.state != .closing &&
     ((tget x.contribs p.1).isSome || x.nodes.any fun n => n.typ == 1 && n.ref == flowH p.1))

/-- Whether a leg's first audio receive flow is decoded for the mix. -/
def State.decodedForMix (s : State) (leg conf : Nat) : Bool :=
  match s.rxFlows leg 1 with
  | (f, _) :: _ => (s.mix conf).decoded.contains f
  | [] => false

/-- Forced decodes on a mix engine (R397). -/
def State.forced (s : State) (cluster : Option Nat) : Nat :=
  countOf s.aud.bcn.demods fun p => match s.leg p.2.leg with
    | some l => (s.mix l.conf).cluster == cluster && !s.decodedForMix p.2.leg l.conf
    | none => false

/-- A demodulator assigned to a leg from grain `m` on, if one is free. -/
def State.assignDemod (s : State) (leg conf kind m : Nat) : State :=
  if 512 ≤ s.aud.bcn.demods.length then s else
  let (r, s) := s.free
  let ch := freeIndex (tkeys s.aud.bcn.demods) 512 r
  let rx := s.beaconRx conf
  let d : Demod := { leg := leg, assign := kind, det := rx.det, captureDb := rx.captureDb, sync := s.aud.bcn.sync, period := m }
  let s := { s with aud := { s.aud with bcn := { s.aud.bcn with demods := tset s.aud.bcn.demods ch d } } }
  s.modLegBcn leg fun b => b.newPeriod (m * grainU)

/-- The longest interval between scans, noted in the window (BEACON_STATS). -/
def BeaconState.slow (b : BeaconState) (w secs : Nat) : BeaconState :=
  let b := if b.slowWin = w then b
    else { b with slowLast := if b.slowWin + 1 = w then b.slowNow else 0, slowNow := 0, slowWin := w }
  { b with slowNow := max b.slowNow secs }

/-- Rota scans begun at the boundary that opens grain `m`: the eligible legs whose last scan began longest ago
and at least ROTA_S ago, ties to the lower leg index, while demodulators and forced decodes allow. -/
def State.rota (s : State) (m : Nat) : State :=
  let due (l : Leg) : Bool := !l.bcn.scanned || decide (l.bcn.lastScan + s.aud.bcn.rotaS * secU ≤ m * grainU)
  let cands := s.legs.filter fun p => s.scannable p.1 p.2 && !p.2.bcn.held && !p.2.bcn.watch &&
    (s.demodOf p.1).isNone && due p.2
  let order := sortBy (fun (a b : Nat × Leg) =>
    if a.2.bcn.scanned != b.2.bcn.scanned then !a.2.bcn.scanned
    else decide (a.2.bcn.lastScan < b.2.bcn.lastScan)) cands
  order.foldl (fun s p =>
    let k := (s.mix p.2.conf).cluster
    if 512 ≤ s.aud.bcn.demods.length then s
    else if !s.decodedForMix p.1 p.2.conf && decide (16 ≤ s.forced k) then s
    else
      let s := if p.2.bcn.scanned then
          let b := s.aud.bcn.slow (windowOf s.now) ((m * grainU - p.2.bcn.lastScan) / secU)
          { s with aud := { s.aud with bcn := b } }
        else s
      s.assignDemod p.1 p.2.conf 1 m) s

/-- BEACON_ASSIGN at the boundary that opens grain `m` (R395): assignments of legs that are no longer eligible
end, then watched legs, held legs and the rota. -/
def State.beaconAssign (s : State) (m : Nat) : State :=
  let lost := s.aud.bcn.demods.filter fun p => match s.leg p.2.leg with
    | some l => !s.scannable p.2.leg l && !p.2.ending
    | none => true
  let s := lost.foldl (fun s p => if (s.leg p.2.leg).isSome then s.endAssign p.1 else s.dropDemod p.1) s
  let fresh := s.legs.filter fun p => s.scannable p.1 p.2 && !p.2.bcn.scanned && p.2.bcn.lastScan == 0
  let s := fresh.foldl (fun s p => s.modLegBcn p.1 fun b => { b with lastScan := m * grainU }) s
  let hold (s : State) (p : Nat × Leg) (kind : Nat) : State :=
    match s.demodOf p.1 with
    | some (ch, _) => s.modDemod ch fun d => { d with assign := kind, ending := false }
    | none => s.assignDemod p.1 p.2.conf kind m
  let s := (s.legs.filter fun p => p.2.bcn.watch && s.scannable p.1 p.2).foldl (fun s p => hold s p 3) s
  let s := (s.legs.filter fun p => s.scannable p.1 p.2).foldl (fun s p => s.tryHold p.1) s
  let s := (s.legs.filter fun p => p.2.bcn.held && !p.2.bcn.watch && s.scannable p.1 p.2).foldl (fun s p => hold s p 2) s
  let s := s.rota m
  let late := s.legs.foldl (fun a p =>
    if s.scannable p.1 p.2 && !p.2.bcn.held && !p.2.bcn.watch then max a (m * grainU - p.2.bcn.lastScan) else a) 0
  if 2 * s.aud.bcn.rotaS * secU ≤ late then s.raiseWK 191 0 0 (le 4 (late / secU)) else s

/-- The modem at the boundary that opens grain `m`: detachments, co-location actions and settings due, beacon
frames, and the assignment of demodulators. -/
def State.beaconGrain (s : State) (m : Nat) : State :=
  let lag (leg : Nat) : Nat := match s.leg leg with | some l => s.mixLag l.conf | none => 0
  let left := s.aud.bcn.mods.filter fun p => p.2.detach == some (m - 1)
  let s := left.foldl (fun (s : State) p =>
    let rest := s.aud.bcn.gone.filter fun g => decide (s.now < g.2 + 30 * secU)
    let s := { s with aud := { s.aud with bcn := { s.aud.bcn with gone := (p.2.tag, s.now) :: rest } } }
    (s.legs.filter fun l => l.2.bcn.coloc == some p.2.tag).foldl (fun s l => s.roomReview l.1) s) s
  let past (x : BeaconMod) : Bool := match x.detach with | some g => decide (g + lag x.leg < m) | none => false
  let live := s.aud.bcn.mods.filter fun p => !past p.2
  let act (conf : Nat) (x : ConfMix) : ConfMix :=
    let due := x.actPend.filter fun a => decide (a.1 + s.mixLag conf < m)
    { x with
      acts := due.foldl (fun l a =>
        let l := l.filter fun b => b.1 != a.2.1
        if a.2.2.2 then l ++ [(a.2.1, a.2.2.1)] else l) x.acts
      actPend := x.actPend.filter fun a => decide (m ≤ a.1 + s.mixLag conf) }
  let take (r : BeaconRx) : BeaconRx := match r.pend with
    | some (g, e, d, k) => if g < m then { enable := e, det := d, captureDb := k, pend := none } else r
    | none => r
  let rx := s.aud.bcn.rx.map fun p => (p.1, take p.2)
  let mods := tmap live fun ch x => x.grain ch (m - 1 - lag x.leg)
  let mixes := s.aud.mixes.map fun p => (p.1, act p.1 p.2)
  let s := { s with aud := { s.aud with mixes := mixes, bcn := { s.aud.bcn with rx := rx, mods := mods } } }
  s.beaconAssign m

/-- Co-location after a leg has moved: its state survives; the action of the old conference ends with it, and
one of the new begins when the room leg is there (R314, R404). -/
def State.beaconMoved (s : State) (leg old : Nat) : State :=
  let m := s.mix old
  let s := if m.acting leg then
      let s := s.modMix old fun x => { x with acts := x.acts.filter fun a => a.1 != leg
                                              actPend := x.actPend.filter fun a => a.2.1 != leg }
      match (s.leg leg).bind fun l => l.bcn.coloc with
      | some tag => s.raise 170 (legH leg) (le 4 tag)
      | none => s
    else s
  s.roomReview leg

/-- A leg that is FREE leaves the modem: its modulator and demodulator are released. -/
def State.beaconFree (s : State) (leg conf : Nat) : State :=
  let gone := (s.aud.bcn.mods.filter fun p => p.2.leg == leg).map (fun p => (p.2.tag, s.now)) ++ s.aud.bcn.gone
  let mods := s.aud.bcn.mods.filter fun p => p.2.leg != leg
  let demods := s.aud.bcn.demods.filter fun p => p.2.leg != leg
  let s := { s with aud := { s.aud with bcn := { s.aud.bcn with mods := mods, gone := gone, demods := demods } } }
  s.modMix conf fun x => { x with acts := x.acts.filter fun a => a.1 != leg
                                  actPend := x.actPend.filter fun a => a.2.1 != leg }

/-! Commands. -/

/-- The beacon settings of a conference in its shadow. -/
def State.setBeaconRx (s : State) (conf : Nat) (x : Nat × Bool × Nat × Nat) : State :=
  let r : BeaconRx := { s.beaconRx conf with pend := some x }
  { s with aud := { s.aud with bcn := { s.aud.bcn with rx := tset s.aud.bcn.rx conf r } } }

/-- The co-location state of a leg cleared, and its demodulator set free (R404). -/
def State.clearBeacon (s : State) (leg : Nat) : State :=
  let s := s.colocClear leg
  let s := s.modLegBcn leg fun b => { b with tagA := 0, tagB := 0, seenA := 0, seenB := 0, held := false }
  match s.demodOf leg with | some (ch, _) => s.dropDemod ch | none => s

/-- BEACON_RX_SET: by the shadow rule; disabling clears the state of the conference's legs at once (R404). -/
def bodyBeaconRxSet : Body := fun _ c s =>
  let conf := hIdx c.obj
  if !(c.rng 0 1 0 1 && c.rng0 1 1 30 95 && c.rng0 2 1 1 20 && c.zero 3 5) then .fail s stBadParam else
  let g := grainOf s.now
  let s := s.setBeaconRx conf (g, c.u 0 1 == 1, c.dflt 1 1 55, c.dflt 2 1 6)
  .ok (if c.u 0 1 = 0 then (s.legsOf conf).foldl (fun (s : State) p => s.clearBeacon p.1) s else s) (le 8 g)

/-- A watched leg left to the rota or its hold: the assignment of a watch ends (R395, R398). -/
def State.unwatch (s : State) (i : Nat) (l : Leg) : State :=
  let s := s.modLegBcn i fun b => { b with watch := false }
  match s.demodOf i with
  | some (ch, d) => if d.assign = 3 && !l.bcn.held then s.endAssign ch else s
  | none => s

/-- BEACON_WATCH (R395, R405). -/
def bodyBeaconWatch : Body := fun _ c s =>
  let i := hIdx c.obj
  if !c.mask 0 4 1 then .fail s stBadParam else
  match s.leg i with
  | none => .fail s stNoObject
  | some l =>
    if c.flag 0 4 0 then
      if !l.bcn.watch && !l.bcn.held && decide (s.aud.bcn.holdMax ≤ s.holds) then .fail s stNoResource
      else .ok (s.modLegBcn i fun b => { b with watch := true })
    else
      .ok (s.unwatch i l)

/-- BEACON_MODEM_SET. -/
def bodyBeaconModemSet : Body := fun _ c s =>
  if !((c.rng 0 2 0 512 || c.u 0 2 == 0xFFFF) && c.rng0 2 2 10 300 && c.rng0 4 1 50 100 && c.zero 5 3)
  then .fail s stBadParam else
  .ok { s with aud := { s.aud with bcn := { s.aud.bcn with
    holdMax := if c.u 0 2 = 0xFFFF then 384 else c.u 0 2, rotaS := c.dflt 2 2 30, sync := c.dflt 4 1 75 } } }

/-- BEACON_LEG_QUERY (Table 10-8). -/
def bodyBeaconLegQuery : Body := fun _ c s =>
  let i := hIdx c.obj
  match s.leg i with
  | none => .fail s stNoObject
  | some l =>
    let b := l.bcn
    let d := s.demodOf i
    .ok s (le 1 b.code ++ le 1 (match d with | some (_, x) => x.assign | none => 0) ++
      le 2 (match d with | some (ch, _) => ch | none => 0xFFFF) ++ le 4 b.tagA ++ le 4 b.tagB ++
      le 1 (b.seenA % 8) ++ le 1 (b.seenB % 8) ++ le 1 b.strength ++ zeros 1 ++
      le 4 (if b.room = 0xFFFF then 0 else legH b.room) ++ le 4 b.frames ++
      le 4 (if b.scanned then dtSec b.lastScan else 0) ++ zeros 4)

/-- BEACON_STATS. -/
def bodyBeaconStats : Body := fun _ _ s =>
  let b := s.aud.bcn.slow (windowOf s.now) 0
  .ok s (b.counters.flatMap (le 4) ++ le 4 s.holds ++ le 4 b.slowLast)

def execBeaconModAttach (c : Cmd) (s : State) := runBelex 0x0800 bodyBeaconModAttach c s
def execBeaconModSet (c : Cmd) (s : State) := runBelex 0x0801 bodyBeaconModSet c s
def execBeaconModDetach (c : Cmd) (s : State) := runBelex 0x0802 bodyBeaconModDetach c s
def execBeaconModQuery (c : Cmd) (s : State) := runBelex 0x0803 bodyBeaconModQuery c s
def execBeaconRxSet (c : Cmd) (s : State) := runBelex 0x0810 bodyBeaconRxSet c s
def execBeaconWatch (c : Cmd) (s : State) := runBelex 0x0811 bodyBeaconWatch c s
def execBeaconModemSet (c : Cmd) (s : State) := runBelex 0x0812 bodyBeaconModemSet c s
def execBeaconLegQuery (c : Cmd) (s : State) := runBelex 0x0820 bodyBeaconLegQuery c s
def execBeaconStats (c : Cmd) (s : State) := runBelex 0x0821 bodyBeaconStats c s

end Sys2Proof.Machine
end

