-- ==== Sys2Proof/Machine/VideoIn.lean ====
section
/-! DEFINITION. Video decoding: decode contexts, their sources and reference pools, ready frames, decoding,
concealment, taint and freeze, the 0x09xx commands (file 11 of spec/). -/

namespace Sys2Proof.Machine

def stDecCodec : Nat := 0x8900
def stDecOvercommit : Nat := 0x8901
def stSourceBusy : Nat := 0x8902
def stDecInUse : Nat := 0x8903

def State.modVid (s : State) (f : VideoState → VideoState) : State := { s with vid := f s.vid }

def State.dec (s : State) (i : Nat) : Option DecCtx := tget s.vid.decs i

def State.modDec (s : State) (i : Nat) (f : DecCtx → DecCtx) : State :=
  s.modVid fun v => { v with decs := tmod v.decs i f }

/-- Handle of a video source. -/
def decH (i : Nat) : Nat := mkHandle 4 i

/-! Admission and the pool (R410, R411). -/

/-- The declared rate of a context, in pixel/s. -/
def DecCtx.rate (d : DecCtx) : Nat := d.maxW * d.maxH * d.fps

/-- Whether a context is counted in admission: live or near-live, now or from its next frame boundary on. -/
def DecCtx.counted (d : DecCtx) : Bool :=
  decide (d.prio < 2) || (match d.pend with | some p => decide (p.1 < 2) | none => false)

/-- The declared rates of all live and near-live contexts. -/
def State.decRates (s : State) : Nat := sumOf s.vid.decs fun p => if p.2.counted then p.2.rate else 0

/-- The active throughput of a unit kind at `per` pixel/s for each unit. -/
def State.capacity (s : State) (kind per : Nat) : Nat := s.activeUnits kind * per

/-- The largest REF_SLOTS of a codec; 0 for a codec that Table 11-1 does not have. -/
def refMax (codec : Nat) : Nat :=
  match codec with | 16 => 8 | 17 => 16 | 18 => 16 | 19 => 3 | 20 => 8 | _ => 0

/-- Buffers of the reference pool. -/
def DecCtx.pool (d : DecCtx) : Nat := d.refSlots + 3 + b2n d.freeze

/-- Bushels of one buffer of the pool. -/
def DecCtx.bufBushels (d : DecCtx) : Nat := pictureBushels d.maxW d.maxH d.ten

/-! Sources (R406 to R408). -/

/-- Event 192: the state of a context. -/
def State.decState (s : State) (i : Nat) (st : DecSt) : State :=
  match s.dec i with
  | none => s
  | some d => (s.modDec i fun d => { d with st := st }).raise 192 (decH i)
      (le 1 st.code ++ le 2 d.w ++ le 2 d.h ++ le 1 d.depth)

/-- MAX_E as last commanded. -/
def DecCtx.askedE (d : DecCtx) : Nat := match d.pend with | some p => p.2.1 | none => d.maxE

/-- Whether an encoding is being sent: a packet of it came in the last 500 ms. -/
def State.provides (s : State) (flow : Nat) : Bool :=
  match s.flow flow with
  | some f => f.rates.any fun r => decide (s.now / (25 * msU) ≤ r.1 + 20)
  | none => false

/-- The encoding of a source set `e` that a context decodes: MAX_E lowered to the highest that is being sent (R408); where none
is, to the highest there is. -/
def State.targetE (s : State) (maxE : Nat) (e : List Nat) : Nat :=
  let top := min maxE (e.length - 1)
  (((List.range (top + 1)).reverse.find? fun k => s.provides (e.getD k 0))).getD top

/-- A key-frame request to the source of a context, at the encoding it decodes. -/
def State.decKeyRequest (s : State) (i : Nat) : State :=
  match s.dec i with
  | none => s
  | some d =>
    match d.next.orElse fun _ => d.source with
    | none => s
    | some f =>
      let e := s.sourceSet f
      s.keyRequest (e.getD (s.targetE d.askedE e) f)

/-- The checks of binding a context to a flow: R407, R214, and the codec (Table 11-7). -/
def State.bindCheck (s : State) (ctx : Option Nat) (codec flow : Nat) : Nat :=
  match s.flow flow with
  | none => stNoObject
  | some f =>
    if f.prof.codec ≠ codec then stDecCodec
    else if (s.sourceSet flow).any fun e => match s.flow e with
        | some x => x.sink != 0 && some x.sink != ctx.map decH
        | none => false then stSourceBusy
    else if bit f.flags 2 then stNotPermitted
    else 0

/-- The SINK of the flows of a source set: to a context, or to null. -/
def State.setSinks (s : State) (flow sink : Nat) : State :=
  (s.sourceSet flow).foldl (fun s e => s.modFlow e fun f => { f with sink := sink }) s

/-- A context leaves a source: the SINK of those of its flows that name the context goes to null. -/
def State.unsink (s : State) (flow : Option Nat) (ctx : Nat) : State :=
  match flow with
  | none => s
  | some i => (s.sourceSet i).foldl (fun s e => s.modFlow e fun f => if f.sink = decH ctx then { f with sink := 0 } else f) s

/-- Bushels of a pool that has just been taken for a context's tenant. -/
def DecCtx.poolBushels (d : DecCtx) : Nat := d.pool * d.bufBushels

/-- NO_SOURCE entered: the current output is released (Table 11-4). -/
def State.decRelease (s : State) (i : Nat) : State :=
  (s.modDec i fun d => { d with
    outs := [], frozen := false, bufs := d.bufs.filter fun b => decide (0 < b.read) }).decState i .noSource

/-- A context loses its source, and nothing more is decoded; one that is SHED holds its output until the return to
SERVICE (Table 11-4). -/
def State.decNoSource (s : State) (i : Nat) : State :=
  match s.dec i with
  | none => s
  | some d =>
    let s := (s.unsink d.source i).unsink d.next i
    let s := s.dropOwned (decH i)
    let s := s.modDec i fun d =>
      { d with source := none, next := none, gather := none, ready := [], frames := [], leaving := false, shedding := false }
    if d.st = .shed || d.st = .noSource then s else s.decRelease i

/-- A context is shed: it decodes nothing, and holds its output (R421). -/
def State.decToShed (s : State) (i : Nat) : State :=
  ((s.dropOwned (decH i)).modDec i fun d =>
    { d with gather := none, ready := [], frames := [], shedding := false }).decState i .shed

/-- A context that the present shedding covers is shed (R693, R697). -/
def State.decCovered (s : State) (i : Nat) : State :=
  match s.dec i with
  | some d => if (d.st == .waitKey || d.st == .decoding) && shedPrio s.shedNow d.prio then s.decToShed i else s
  | none => s

/-- A shed context on return: a key-frame request, and WAIT_KEY (R421). -/
def State.decReturn (s : State) (i : Nat) (d : DecCtx) : State :=
  if d.source.isSome then (s.decState i .waitKey).decKeyRequest i else s.decRelease i

/-- The source of a context moves to another conference: it is lost at the context's next frame boundary (R93), which is now
unless a frame of it is being decoded. -/
def State.decLeave (s : State) (i : Nat) : State :=
  match s.dec i with
  | none => s
  | some d =>
    if d.frames.any fun f => (s.unitOf f.task).isSome then
      ((s.unsink d.source i).unsink d.next i).modDec i fun d => { d with leaving := true, next := none }
    else s.decNoSource i

/-- An encoding of a context's source goes: those above it move down by one, and one that was being decoded gives way to
another at a key frame (R184, R408). -/
def State.decEncodingGone (s : State) (ctx flow : Nat) (d : DecCtx) : State :=
  let f := d.source.getD 0
  let all : List Nat := match s.flow f with
    | some x => ((s.rxFlows x.leg x.kind).filter fun (p : Nat × Flow) => p.2.mid == x.mid && (p.2.state != .closing || p.1 == flow)).map fun p => p.1
    | none => []
  if !all.contains flow then s else
  let k := all.idxOf flow
  if k < d.curE then s.modDec ctx fun d => { d with curE := d.curE - 1 }
  else if k = d.curE then (s.modDec ctx fun d => { d with curE := all.length, gather := none }).decKeyRequest ctx
  else s

/-- A source flow is deleted: a context bound to it is left without a source, and one that was to change to it keeps the one
it has (Table 11-4). -/
def State.decFlowGone (s : State) (flow : Nat) : State :=
  s.vid.decs.foldl (fun s p =>
    if p.2.source = some flow then s.decNoSource p.1
    else
      let s := if p.2.next = some flow then (s.unsink (some flow) p.1).modDec p.1 fun d => { d with next := none } else s
      s.decEncodingGone p.1 flow p.2) s

/-! Packets (R408, R413). -/

/-- The frame being gathered handed on as ready. -/
def DecCtx.closeFrame (d : DecCtx) (now : Nat) : DecCtx :=
  match d.gather with
  | none => d
  | some (_, stamp, ok) => { d with ready := d.ready ++ [⟨stamp, now, ok⟩], gather := none }

/-- The highest target within a context's limits that its source provides, by the layers measured (R408). -/
def DecCtx.target (d : DecCtx) (f : Flow) (l : Layer) : Target :=
  let ls := f.rates.flatMap fun r => r.2
  let hs := ls.foldl (fun m x => max m x.s) l.s
  let ht := ls.foldl (fun m x => max m x.t) l.t
  ⟨d.curE, if hs < d.maxS then max hs d.curS else d.maxS, if ht < d.maxT then max ht d.curT else d.maxT⟩

/-- A context's decode target followed at a packet of encoding `e`, where `tgt` is the one to decode (R408): E at a key frame,
which the first frame is too, and with it the whole target; S and T at the switch points of Table 05-2. -/
def DecCtx.follow (d : DecCtx) (e tgt : Nat) (f : Flow) (p : Rtp) : DecCtx :=
  let l := p.layer
  let key := l.first && l.key
  if e = tgt && key && (d.curE != e || d.st == .waitKey) then
    { d with curE := e, curS := d.maxS, curT := d.maxT, picTs := some p.ts, gather := if d.curE = e then d.gather else none }
  else if e ≠ d.curE || d.picTs = some p.ts then d
  else
    let c := Target.follow f.switchRow ⟨e, d.curS, d.curT⟩ (d.target f l) l
    { d with curS := c.s, curT := c.t, picTs := some p.ts }

/-- The frame that a packet belongs to gathered on: its first packet and its last close one. -/
def DecCtx.gathered (d : DecCtx) (now stamp : Nat) (l : Layer) : DecCtx :=
  let other := match d.gather with | some (k, _, _) => k != l.frame | none => false
  let d := if l.first then { (d.closeFrame now) with gather := some (l.frame, stamp, true) }
    else if other then { (d.closeFrame now) with gather := some (l.frame, stamp, false) }
    else if d.gather.isNone then { d with gather := some (l.frame, stamp, false) } else d
  if l.last then d.closeFrame now else d

/-- A packet that the reorder buffer releases to a decode context. -/
def State.decPacket (s : State) (i flow stamp : Nat) (p : Rtp) : State :=
  match s.dec i, s.flow flow with
  | some d, some x =>
    if d.st = .noSource || d.st = .shed || d.leaving || d.shedding then s else
    let l := p.layer
    let turns := match d.next with | some f => (s.sourceSet f).contains flow && l.first && l.key | none => false
    let d := if turns then
        { d with source := d.next, next := none, gather := none, curE := (s.sourceSet (d.next.getD 0)).idxOf flow
                 curS := d.maxS, curT := d.maxT, picTs := some p.ts }
      else d
    match d.source with
    | none => s
    | some f =>
      let es := s.sourceSet f
      if !es.contains flow then s else
      let e := es.idxOf flow
      let d := d.follow e (s.targetE d.maxE es) x p
      if e ≠ d.curE || !(Target.needs ⟨e, d.curS, d.curT⟩ l) then s.modDec i fun _ => d
      else s.modDec i fun _ => d.gathered s.now stamp l
  | _, _ => s

/-- A packet of a source flow abandoned under R175. -/
def State.decLoss (s : State) (i : Nat) : State :=
  s.modDec i fun d => { d with doubt := true, gather := d.gather.map fun g => (g.1, g.2.1, false) }

/-! Headers (R414, R409, R428). -/

/-- LATE_MS of a priority, in units of DT; none for background (Table 11-3). -/
def lateMs (prio : Nat) : Option Nat := match prio with | 0 => some 40 | 1 => some 200 | _ => none

/-- DEC_SET taken at a frame boundary (R430): a new priority can be one that is shed, or one that no longer is. -/
def State.decTakeSet (s : State) (i : Nat) : State :=
  let s := s.modDec i fun d =>
    match d.pend with
    | some (prio, e, k, t) => { d with prio := prio, maxE := e, maxS := k, maxT := t, pend := none }
    | none => d
  match s.dec i with
  | some d => if d.st == .shed && !shedPrio s.shedNow d.prio then s.decReturn i d else s.decCovered i
  | none => s

/-- A change of FREEZE taken at an output frame (R429, R430): turned on, the output before it is the last clean one unless it
is tainted; turned off, the extra buffer's bushels are free. -/
def State.decTakeFreeze (s : State) (i : Nat) : State :=
  match s.dec i with
  | none => s
  | some d =>
    match d.freezePend with
    | none => s
    | some fr =>
      let bufs := d.bufs.map fun b => { b with clean := fr && (b.clean || (b.out && !b.taint)) }
      let x : DecCtx := { d with freeze := fr, freezePend := none, frozen := d.frozen && fr, bufs := bufs }
      let gone := d.bushels - x.poolBushels
      (s.modDec i fun _ => { x with bushels := d.bushels - gone }).freeBushel d.tenant gone

/-- A frame dropped that has no decode of its own: counted as skipped, its task discarded. -/
def State.decSkip (s : State) (i task : Nat) : State :=
  let s := match s.disp.tasks.find? fun p => p.1 == task with
    | some (_, t) => (t.succ.foldl (fun (s : State) j => s.pulse j t.inst 0) s).taskDrop task
    | none => s
  s.modDec i fun d => { d with skipped := d.skipped + 1, frames := d.frames.filter fun f => f.task != task }

/-- Late frames that no later frame references, not begun, with a later frame ready: skipped (R419). -/
def State.decSkipLate (s : State) (i : Nat) : State :=
  match s.dec i with
  | none => s
  | some d =>
    let later (f : DecFrame) : Bool := !d.ready.isEmpty || d.frames.any fun g => decide (f.at_ < g.at_)
    (d.frames.filter fun f => f.late && !f.info.used && (s.unitOf f.task).isNone && later f).foldl
      (fun s f => s.decSkip i f.task) s

/-- The cause of a stream error (event 195), if a frame is one (R409, R428). -/
def DecCtx.streamError (d : DecCtx) (f : FrameInfo) : Option Nat :=
  match f.fault with
  | some c => some c
  | none =>
    if f.headerLost then none
    else if !(f.depth == 8 || (f.depth == 10 && d.ten)) then some 1
    else if f.w < 16 || f.h < 16 || d.maxW < f.w || d.maxH < f.h then some 2
    else if d.refSlots < f.need then some 3 else none

/-- Whether a context's pixels of the window have reached 1.25 times its declared rate (R420). -/
def DecCtx.beyond (d : DecCtx) (w : Nat) : Bool :=
  decide (d.prio < 2) && d.pixels.1 == w && decide (5 * d.rate ≤ 4 * d.pixels.2)

/-- The decode task of a context's frame, and the frame beside those before it; a table without room skips it. -/
def State.decEnqueue (s : State) (ctx : Nat) (d : DecCtx) (r : DecReady) (f : FrameInfo) : State :=
  let task : Task := { st := .waiting, cls := 1, level := d.prio, tenant := d.tenant, key := some d.key,
                       reload := b2n !d.frames.isEmpty, target := 3, work := .decode ctx, owner := decH ctx }
  match s.newTask task with
  | (none, s) => s.modDec ctx fun d => { d with skipped := d.skipped + 1, doubt := true }
  | (some i, s) =>
    let s := match d.frames.getLast? with
      | some g => s.modTask g.task fun t => { t with succ := t.succ ++ [i] }
      | none => s
    s.modDec ctx fun d => { d with frames := d.frames ++ [⟨f, r.stamp, r.at_, r.complete, i, false, false⟩] }

/-- A frame in which the parse found an error: it is dropped, and the context waits for a key frame (R409, R428). -/
def State.decStreamError (s : State) (ctx : Nat) (d : DecCtx) (f : FrameInfo) (c : Nat) : State :=
  let s := s.modDec ctx fun d => { d with errors := d.errors + 1 }
  let s := s.raise 195 (decH ctx) (le 1 c ++ le 1 f.firstByte)
  let s := if d.st = .decoding then s.decState ctx .waitKey else s
  s.decKeyRequest ctx

/-- A sound frame taken for decoding: a change of format reported, and its task built (R409, R414, Table 11-4). -/
def State.decAccept (s : State) (ctx : Nat) (d : DecCtx) (r : DecReady) (f : FrameInfo) : State :=
  let s := if f.key && !d.outs.isEmpty && (d.w != f.w || d.h != f.h || d.depth != f.depth) then
      s.raise 193 (decH ctx) (le 2 d.w ++ le 2 d.h ++ le 2 f.w ++ le 2 f.h ++ le 1 f.depth)
    else s
  let s := s.modDec ctx fun d => { d with
    grain := if f.grain && d.codec == 16 then satN 16 (d.grain + 1) else d.grain
    w := if f.key then f.w else d.w, h := if f.key then f.h else d.h
    depth := if f.key then f.depth else d.depth }
  let s := if d.st = .waitKey then s.decState ctx .decoding else s
  s.decEnqueue ctx d r f

/-- What the parsed headers of a context's frame lead to: an error, nothing while a key frame is awaited, a skip over
the declared rate (R420), or its decode. -/
def State.decParsed (s : State) (ctx : Nat) (d : DecCtx) (r : DecReady) (f : FrameInfo) : State :=
  match d.streamError f with
  | some c => s.decStreamError ctx d f c
  | none =>
    if d.st = .waitKey && !f.key then s else
    if d.beyond (windowOf s.now) && !f.used then s.modDec ctx fun d => { d with skipped := d.skipped + 1 }
    else s.decAccept ctx d r f

/-- The first ready frame taken, at a frame boundary of its context. -/
def State.decNext (s : State) (ctx : Nat) (rest : List DecReady) : State :=
  ((s.modDec ctx fun d => { d with ready := rest }).decTakeSet ctx).decSkipLate ctx

/-- HEADER_PARSE: the headers of a context's first ready frame, and the frame task built from them. -/
def execHeaderParse (t ctx : Nat) (f : FrameInfo) (s : State) : Host.Outcome State Fault Refusal :=
  let s := s.advance t
  match s.dec ctx with
  | none => .next s
  | some d0 =>
    match d0.ready with
    | [] => .next s
    | r :: rest =>
      let s := s.decNext ctx rest
      match s.dec ctx with
      | none => .next s
      | some d => .next (s.decParsed ctx d r f)

/-! Decoding (R415 to R429). -/

/-- A GREY buffer for the frame `num`: luma and chroma at 128, or at 512 for 10-bit (R425). -/
def greyBuf (num w h depth : Nat) : DecBuf :=
  let v := if depth = 8 then 128 else 512
  { num := num, concealed := true, taint := true, grey := true, w := w, h := h, depth := depth,
    pix := { w := w, h := h, y := List.replicate (w * h) v, cb := List.replicate (w / 2 * (h / 2)) v,
             cr := List.replicate (w / 2 * (h / 2)) v } }

/-- The concealment source (R425): the buffer with the latest decoded frame, else a GREY one. -/
def DecCtx.concealSource (d : DecCtx) (w h depth : Nat) : DecBuf :=
  (d.bufs.filter fun b => !b.grey).getLast?.getD (greyBuf 0 w h depth)

/-- A plane with its samples in the lost areas replaced. -/
def concealPlane (own : List Nat) (w h : Nat) (lost : List Rect) (src : Nat → Nat) : List Nat :=
  (List.range (w * h)).map fun i => if lost.any fun r => r.has (i % w) (i / w) then src i else own.getD i 0

/-- A frame of `w` × `h` samples whose lost areas are copied from the co-located areas of a source (R423). Where the source is of
another size or depth, the spec does not say what its co-located area is: those samples are free values. -/
def concealPix (own : Pix) (src : DecBuf) (w h depth draw : Nat) (lost : List Rect) : Pix :=
  if lost.isEmpty then own else
  let same := src.w == w && src.h == h && src.depth == depth
  let pick (n : Nat) (plane : List Nat) (i : Nat) : Nat :=
    if same then plane.getD i 0 else Config.openSample draw n i % 2 ^ depth
  let halves := lost.map Rect.half
  { w := w, h := h, y := concealPlane own.y w h lost (pick 0 src.pix.y)
    cb := concealPlane own.cb (w / 2) (h / 2) halves (pick 1 src.pix.cb)
    cr := concealPlane own.cr (w / 2) (h / 2) halves (pick 2 src.pix.cr) }

/-- Whether a frame's required reference is missing (R424, Table 11-5). -/
def DecCtx.missing (d : DecCtx) (r : Nat × Bool) : Bool :=
  !(d.bufs.any fun b => b.num == r.1 && b.ref && !b.grey) || (d.doubt && !r.2)

/-- Whether a frame references a tainted buffer that R426 does not clear. -/
def DecCtx.taintedRef (d : DecCtx) (f : FrameInfo) : Bool :=
  f.refs.any fun r => d.bufs.any fun b => b.num == r.1 && b.taint && !b.okRef

/-- The presentation DT of a frame: its first packet's stamp plus the target depth of the source leg's first audio
jitter buffer (R422, R211). -/
def State.decPres (s : State) (source stamp : Nat) : Nat :=
  match s.flow source with
  | none => stamp
  | some f => match s.rxFlows f.leg 1 with
    | (_, a) :: _ => stamp + a.jb.target * grainU
    | [] => stamp

/-- A decoded frame put into its pool: its marks, the reference state, and GREY substitutes for missing references that the
reference state names on where nothing has been decoded (R425). At the recovery point of an SEI, the buffers decoded after the
frame that carried it taint no more (R426). -/
def DecCtx.store (d : DecCtx) (b : DecBuf) (f : FrameInfo) (missing : List Nat) : DecCtx :=
  let grey : List DecBuf := if d.bufs.all fun x => x.grey then
      (missing.filter f.keep.contains).map fun n => { greyBuf n b.w b.h b.depth with ref := true }
    else []
  let upd (x : DecBuf) : DecBuf :=
    { x with ref := if f.headerLost then x.ref else f.keep.contains x.num
             okRef := x.okRef || (f.recovery && x.afterSei), afterSei := x.afterSei && !f.sei }
  let held := d.bufs.filter fun x => x.num != b.num && !(grey.any fun g => g.num == x.num)
  { d with bufs := held.map upd ++ grey ++
             [{ b with ref := !f.headerLost && f.keep.contains f.num, afterSei := d.sei && !f.sei && !f.recovery }]
           sei := (d.sei || f.sei) && !f.key && !f.recovery }

/-- Buffers whose marks are all clear are free again (R412). -/
def DecCtx.sweep (d : DecCtx) (now : Nat) : DecCtx :=
  let past (n : Nat) : Bool := d.bufs.any fun b => b.num == n && decide (b.pres ≤ now)
  let keep := (d.outs.takeWhile fun n => !past n) ++ ((d.outs.dropWhile fun n => !past n).take 1)
  { d with outs := keep
           bufs := d.bufs.filter fun b => b.ref || b.out || b.clean || decide (0 < b.read) || keep.contains b.num }

/-- A frame becomes the current output (R422, R426, R429): a change of FREEZE, its taint, the freeze and its end. -/
def State.decShow (s : State) (i num : Nat) : State :=
  let s := s.decTakeFreeze i
  match s.dec i with
  | none => s
  | some d =>
    match d.bufs.find? fun b => b.num == num with
    | none => s
    | some b =>
      let s := s.modDec i fun d => { d with
        outs := num :: d.outs
        bufs := d.bufs.map fun x => { x with out := x.num == num
                                             clean := if d.freeze && !b.taint then x.num == num else x.clean } }
      if b.taint then
        let s := s.modDec i fun d => { d with tainted := d.tainted + 1, taintedSince := d.taintedSince + 1 }
        if d.freeze && !d.frozen then
          match d.bufs.find? fun x => x.clean with
          | some c => (s.modDec i fun d => { d with frozen := true }).raise 196 (decH i)
              (le 4 (dtSec c.pres) ++ le 4 (dtNs c.pres))
          | none => s
        else s
      else
        let s := s.modDec i fun d => { d with frozen := false, taintedSince := 0 }
        if d.taintedSince = 0 then s else s.raise 197 (decH i) (le 4 d.taintedSince ++ le 1 b.kind)

/-- A late frame noted: R419, event 198 first per window with the largest lateness so far. -/
def State.decLateNote (s : State) (i us : Nat) (count : Bool) : State :=
  let w := windowOf s.now
  let s := s.modDec i fun d => { d with
    lateMax := (w, if d.lateMax.1 = w then max d.lateMax.2 us else us), late := if count then d.late + 1 else d.late }
  if count then
    let s := s.modVid fun v => { v with decLate := v.decLate + 1 }
    let (n, s) := s.countIn 198 (decH i) 1
    s.raiseW 198 (decH i) (le 4 n ++ le 4 (match s.dec i with | some d => d.lateMax.2 | none => us))
  else s

/-- The frame that a decoder has made: its lost areas concealed, which for an incomplete VP8 or VP9 frame are all of it, and for
one whose header was lost the source's own picture (R423). -/
def DecCtx.made (d : DecCtx) (x : DecFrame) (pix : Pix) (lost : List Rect) (draw : Nat) : Nat × Nat × Nat × Pix :=
  let f := x.info
  if f.headerLost then
    let src := d.concealSource d.w d.h d.depth
    (src.w, src.h, src.depth, src.pix)
  else
    let lost := if !x.complete && (d.codec == 19 || d.codec == 20) then [⟨0, 0, f.w, f.h⟩] else lost
    (f.w, f.h, f.depth, concealPix pix (d.concealSource f.w f.h f.depth) f.w f.h f.depth draw lost)

/-- Frames of a context beyond its declared rate that no later frame references, not begun: skipped (R420). -/
def State.decSkipBeyond (s : State) (i : Nat) : State :=
  match s.dec i with
  | none => s
  | some d =>
    if !d.beyond (windowOf s.now) then s else
    (d.frames.filter fun f => !f.info.used && (s.unitOf f.task).isNone).foldl (fun s f => s.decSkip i f.task) s

/-- The decode of a context's first frame completes on a unit: the buffer with its taint, what it shows, its lateness,
and its errors (R423 to R429). -/
def State.decDone (s : State) (ctx unit : Nat) (d : DecCtx) (x : DecFrame) (rest : List DecFrame) (pix : Pix)
    (lost : List Rect) : State :=
  let f := x.info
  let s := ((s.taskDone x.task).unitGood unit).addLoad 0 (f.w * f.h)
  let missing := (f.refs.filter d.missing).map fun r => r.1
  let bad := !x.complete || !missing.isEmpty || !lost.isEmpty
  let taint := bad || (!(f.key || f.intraOnly || f.recovery) && d.taintedRef f)
  let m := d.made x pix lost s.fresh
  let b : DecBuf := { num := f.num, concealed := bad, taint := taint, pres := s.decPres (d.source.getD 0) x.stamp,
                      w := m.1, h := m.2.1, depth := m.2.2.1, pix := m.2.2.2,
                      kind := if f.key then 0 else if f.intraOnly then 1 else 2 }
  let w := windowOf s.now
  let upd (d : DecCtx) : DecCtx := { (d.store b f missing) with
    frames := rest, decoded := d.decoded + 1, doubt := d.doubt && !(f.key && x.complete),
    concealed := if bad then d.concealed + 1 else d.concealed,
    pixels := (w, (if d.pixels.1 = w then d.pixels.2 else 0) + f.w * f.h) }
  let s := { s with fresh := s.fresh + 1 }.modDec ctx upd
  let s := f.shows.foldl (fun s n => s.decShow ctx n) s
  let s := s.modDec ctx fun d => d.sweep s.now
  let s := match lateMs d.prio with
    | some m => if x.at_ + m * msU < s.now then
        s.decLateNote ctx ((s.now - x.at_ - m * msU) / usU) (!x.late) else s
    | none => s
  let s := if bad then
      let cause := if !x.complete then 0 else if !missing.isEmpty then 1 else 2
      (s.raiseCount 194 (decH ctx) (decH ctx) (le 1 cause)).decKeyRequest ctx
    else s
  if d.leaving then s.decNoSource ctx else if d.shedding then s.decToShed ctx else s.decSkipBeyond ctx

/-- DECODE_FRAME_DONE: the decoder has completed a context's frame, with these samples; the areas in `lost` it could not decode
(R423 to R429). -/
def execDecodeFrameDone (t ctx : Nat) (pix : Pix) (lost : List Rect) (s : State) : Host.Outcome State Fault Refusal :=
  let s := s.advance t
  match s.dec ctx with
  | none => .next s
  | some d =>
    match d.frames with
    | [] => .next s
    | x :: rest =>
      match s.unitOf x.task with
      | none => .next s
      | some unit =>
        .next (s.decDone ctx unit d x rest pix lost)

/-- The frames of a context over `m` ms old are late (R419). -/
def State.decLate (s : State) (ctx : Nat) (d : DecCtx) (m : Nat) : State :=
  let due := d.frames.filter fun f => !f.late && decide (f.at_ + m * msU < s.now)
  let s := due.foldl (fun s f => s.decLateNote ctx ((s.now - f.at_ - m * msU) / usU) true) s
  let s := s.modDec ctx fun d => { d with frames := d.frames.map fun f =>
    if f.at_ + m * msU < s.now then { f with late := true } else f }
  s.decSkipLate ctx

/-- DECODE_LATE: LATE_MS has passed for a frame that is not decoded yet (R419). -/
def execDecodeLate (t ctx : Nat) (s : State) : Host.Outcome State Fault Refusal :=
  let s := s.advance t
  match s.dec ctx with
  | none => .next s
  | some d =>
    match lateMs d.prio with
    | none => .next s
    | some m =>
      .next (s.decLate ctx d m)

/-- A hung decoder reset, or retired, with event 199 (R417). -/
def State.decHang (s : State) (unit ctx task : Nat) : State :=
  let r := s.unitHang unit task
  (r.2.modVid fun v => { v with decHangs := v.decHangs + 1 }).raise 199 (mkHandle 12 (unit / 16))
    (le 2 unit ++ le 2 ctx ++ le 1 (b2n r.1))

/-- DECODER_HANG: the decoder of a context's frame has passed 4 times its time plus 100 µs (R417). -/
def execDecoderHang (t ctx : Nat) (s : State) : Host.Outcome State Fault Refusal :=
  let s := s.advance t
  match s.dec ctx with
  | none => .next s
  | some d =>
    match d.frames with
    | [] => .next s
    | x :: _ =>
      match s.unitOf x.task, tget s.disp.tasks x.task with
      | some unit, some k =>
        let time := max (x.info.w * x.info.h) x.info.bits * nsU
        if s.now ≤ k.startDt + 4 * time + 100 * usU then .next s else
        .next (s.decHang unit ctx x.task)
      | _, _ => .next s

/-- Whether a context has no free buffer for its next frame (R412). -/
def State.decPoolFull (s : State) (i : Nat) : Bool :=
  match s.dec i with
  | some d => decide (d.pool ≤ (d.sweep s.now).bufs.length)
  | none => false

/-- A frame that has found no free buffer waits, counted once (R412). -/
def State.decWaits (s : State) (i task : Nat) : State :=
  s.modDec i fun d =>
    if d.frames.any fun f => f.task == task && !f.waited then
      { d with poolWaits := satN 16 (d.poolWaits + 1)
               frames := d.frames.map fun f => if f.task = task then { f with waited := true } else f }
    else d

/-- The frame of a source that a consumer takes at an instant (R422, R429, R435): the newest output presented by
then, or under FREEZE the last clean one while the newest is tainted. -/
def State.sourceFrame (s : State) (i at_ : Nat) : Option DecBuf :=
  match s.dec i with
  | none => none
  | some d =>
    let found := d.outs.findSome? fun n => d.bufs.find? fun b => b.num == n && decide (b.pres ≤ at_)
    match found with
    | some b => if d.freeze && b.taint then (d.bufs.find? fun x => x.clean).orElse fun _ => some b else some b
    | none => none

/-- Whether a source has a current output (R443, R495). -/
def State.hasOutput (s : State) (i : Nat) : Bool := match s.dec i with | some d => !d.outs.isEmpty | none => false

/-- READ marks of a source's buffer raised or lowered. -/
def State.decRead (s : State) (i num : Nat) (begin_ : Bool) : State :=
  s.modDec i fun d => ({ d with bufs := d.bufs.map fun b =>
    if b.num = num then { b with read := if begin_ then b.read + 1 else b.read - 1 } else b } : DecCtx).sweep s.now

/-- Contexts shed in RIDETHROUGH (R421): those of the priorities that `p` names, each at its next frame boundary (R693): a frame
that is being decoded is completed. -/
def State.decShed (s : State) (p : Nat → Bool) : State :=
  s.vid.decs.foldl (fun s x =>
    if p x.2.prio && (x.2.st == .waitKey || x.2.st == .decoding) then
      let run := x.2.frames.filter fun f => (s.unitOf f.task).isSome
      if run.isEmpty then s.decToShed x.1 else
      let s := (x.2.frames.filter fun f => (s.unitOf f.task).isNone).foldl (fun (s : State) f => s.taskDrop f.task) s
      s.modDec x.1 fun d => { d with gather := none, ready := [], frames := run, shedding := true }
    else s) s

/-- Shed contexts of the priorities that `p` names on return to SERVICE (R421). -/
def State.decResume (s : State) (p : Nat → Bool) : State :=
  s.vid.decs.foldl (fun s x =>
    if (x.2.st == .shed || x.2.shedding) && p x.2.prio then
      (s.modDec x.1 fun d => { d with shedding := false }).decReturn x.1 x.2
    else s) s

/-! Commands. -/

/-- The check of a SOURCE handle: a receive video flow of the conference, or null. -/
def State.sourceHandle (s : State) (fn conf h : Nat) : Nat :=
  if h = 0 then 0 else
  let r := checkHandle s fn false [3] h
  if r ≠ 0 then r
  else if s.confOf h ≠ some conf then stNoObject
  else match s.flow (hIdx h) with
    | some f => if f.kind = 2 && f.dir = 1 then 0 else stBadParam
    | none => stNoObject

/-- Whether the parameters of DEC_CREATE are in range (Table 11-8). -/
def decFields (c : Cmd) : Bool :=
  let codec := c.u 4 1
  c.rng 5 1 0 2 && c.mask 6 1 3 && (refMax codec == 0 || c.rng 7 1 0 (refMax codec)) &&
    c.rng 8 2 16 4096 && c.u 8 2 % 8 == 0 && c.rng 10 2 16 2304 && c.u 10 2 % 8 == 0 && c.rng 12 1 1 120 &&
    c.rng 13 1 0 3 && c.rng 14 1 0 3 && c.rng 15 1 0 3 && c.zero 16 8 &&
    (!c.flag 6 1 1 || codec == 16 || codec == 17)

/-- The context that DEC_CREATE describes, in a tenant's conference. -/
def decOf (c : Cmd) (tenant conf : Nat) : DecCtx :=
  let h := c.u 0 4
  { tenant := tenant, conf := conf, source := if h = 0 then none else some (hIdx h), codec := c.u 4 1,
    prio := c.u 5 1, freeze := c.flag 6 1 0, ten := c.flag 6 1 1, refSlots := c.dflt 7 1 (refMax (c.u 4 1)), maxW := c.u 8 2,
    maxH := c.u 10 2, fps := c.u 12 1, maxE := c.u 13 1, maxS := c.u 14 1, maxT := c.u 15 1,
    st := if h = 0 then .noSource else .waitKey, key := 0 }

/-- The status of DEC_CREATE before its memory is taken; 0 where all is in order. -/
def decCreateSts (c : Cmd) (s : State) : Nat :=
  let conf := hIdx c.obj
  let h := c.u 0 4
  let r := s.sourceHandle c.fn conf h
  if r ≠ 0 then r else
  if !decFields c then stBadParam else
  match s.conf conf with
  | none => stNoObject
  | some k =>
    if k.state = .closing || s.isClosing h then stWrongState else
    if refMax (c.u 4 1) = 0 then stDecCodec else
    let b := if h = 0 then 0 else s.bindCheck none (c.u 4 1) (hIdx h)
    if b ≠ 0 then b else
    let d := decOf c k.tenant conf
    if d.prio < 2 && s.capacity 2 1000000000 < s.decRates + d.rate then stDecOvercommit else
    if 4096 ≤ s.vid.decs.length then stNoResource else 0

/-- A context added, with a fresh key and its pool, and bound to its source (R407, R411). -/
def State.addDec (s : State) (d : DecCtx) : Nat × State :=
  let k := s.newKey
  let r := k.2.free
  let i := freeIndex (tkeys r.2.vid.decs) 4096 r.1
  let s := (r.2.takeBushels d.tenant d.poolBushels).modVid fun v =>
    { v with decs := tset v.decs i { d with key := k.1, bushels := d.poolBushels } }
  (i, match d.source with | some f => ((s.setSinks f (decH i)).decKeyRequest i).decCovered i | none => s)

/-- DEC_CREATE (R406, R407, R410, R411). -/
def bodyDecCreate : Body := fun _ c s =>
  if decCreateSts c s ≠ 0 then .fail s (decCreateSts c s) else
  let d := decOf c ((s.conf (hIdx c.obj)).elim 0 fun k => k.tenant) (hIdx c.obj)
  if !s.bushelsFit d.tenant d.poolBushels then .fail (s.bushelRefused d.tenant d.poolBushels) stNoResource else
  let r := s.addDec d
  .ok r.2 (le 4 (decH r.1))

/-- Whether a consumer names a context: a canvas layer in force or pending, or a tile. -/
def State.decNamed (s : State) (i : Nat) : Bool :=
  let of (l : List Layer12) : Bool := l.any fun x => x.kind == 1 && x.src == decH i
  (s.vid.canvases.any fun p => of p.2.layout || p.2.pend.any fun q => of q.2) ||
  s.vid.tiles.any fun p => p.2.source == i

/-- A context removed, its source flows' SINK null, its bushels freed. -/
def State.decFree (s : State) (i : Nat) : State :=
  match s.dec i with
  | none => s
  | some d =>
    let s := (s.unsink d.source i).unsink d.next i
    let s := (s.dropOwned (decH i)).freeBushel d.tenant d.bushels
    s.modVid fun v => { v with decs := tdel v.decs i }

/-- DEC_DELETE (R430). -/
def bodyDecDelete : Body := fun _ c s =>
  let i := hIdx c.obj
  if s.decNamed i then .fail s stDecInUse else .ok (s.decFree i)

/-- The status of DEC_BIND; 0 where all is in order. -/
def decBindSts (c : Cmd) (s : State) (d : DecCtx) : Nat :=
  let h := c.u 0 4
  let r := s.sourceHandle c.fn d.conf h
  if r ≠ 0 then r else if s.isClosing h then stWrongState
  else if h = 0 then 0 else s.bindCheck (some (hIdx c.obj)) d.codec (hIdx h)

/-- A context left without a source at command (Table 11-4). -/
def State.decUnbind (s : State) (i : Nat) (d : DecCtx) : State :=
  if d.st = .noSource then s else s.decNoSource i

/-- A context bound to a flow: at once where it has no source, else from the flow's first key frame on (R408). A
flow of the present source's set changes nothing. -/
def State.decBind (s : State) (i f : Nat) (d : DecCtx) : State :=
  if d.source.isSome && (s.sourceSet f).contains (d.source.getD 0) then s else
  let s := s.unsink d.next i
  let s := s.setSinks f (decH i)
  if d.source.isNone then
    let s := s.modDec i fun d => { d with source := some f, curE := 0, curS := 0, curT := 0 }
    if d.st = .noSource then ((s.decState i .waitKey).decKeyRequest i).decCovered i else s
  else (s.modDec i fun d => { d with next := some f }).decKeyRequest i

/-- DEC_BIND (R407, R408, Table 11-4). -/
def bodyDecBind : Body := fun _ c s =>
  let i := hIdx c.obj
  match s.dec i with
  | none => .fail s stNoObject
  | some d =>
    if decBindSts c s d ≠ 0 then .fail s (decBindSts c s d) else
    let s := if d.leaving then s.decNoSource i else s
    let d := (s.dec i).getD d
    .ok (if c.u 0 4 = 0 then s.decUnbind i d else s.decBind i (hIdx (c.u 0 4)) d)

/-- The bushels that DEC_SET takes: a frozen picture's, where FREEZE is new. -/
def decSetNeed (c : Cmd) (d : DecCtx) : Nat := { d with freeze := c.flag 1 1 0 }.poolBushels - d.bushels

/-- The settings of DEC_SET held for the next frame boundary, with the bushels it takes (R430); a context that decodes nothing
takes them at once. -/
def State.decSet (s : State) (i : Nat) (c : Cmd) (d : DecCtx) : State :=
  let more := decSetNeed c d
  let s := if more = 0 then s else s.takeBushels d.tenant more
  let s := s.modDec i fun d => { d with
    pend := some (c.u 0 1, c.u 2 1, c.u 3 1, c.u 4 1), freezePend := some (c.flag 1 1 0), bushels := d.bushels + more }
  let s := if d.askedE ≠ c.u 2 1 then s.decKeyRequest i else s
  if d.st = .shed || d.st = .noSource then s.decTakeSet i else s

/-- Whether the parameters of DEC_SET are in range. -/
def decSetFields (c : Cmd) : Bool :=
  c.rng 0 1 0 2 && c.mask 1 1 1 && c.rng 2 1 0 3 && c.rng 3 1 0 3 && c.rng 4 1 0 3 && c.zero 5 3

/-- DEC_SET (R430). -/
def bodyDecSet : Body := fun _ c s =>
  let i := hIdx c.obj
  if !decSetFields c then .fail s stBadParam else
  match s.dec i with
  | none => .fail s stNoObject
  | some d =>
    let more := decSetNeed c d
    if c.u 0 1 < 2 && !d.counted && s.capacity 2 1000000000 < s.decRates + d.rate then .fail s stDecOvercommit else
    if more ≠ 0 && !s.bushelsFit d.tenant more then .fail (s.bushelRefused d.tenant more) stNoResource else
    .ok (s.decSet i c d)

/-- DEC_QUERY (Table 11-10). -/
def bodyDecQuery : Body := fun _ c s =>
  match s.dec (hIdx c.obj) with
  | none => .fail s stNoObject
  | some d =>
    let out := d.bufs.find? fun b => b.out
    .ok s (le 1 d.st.code ++ le 1 d.prio ++ le 1 (b2n d.freeze + 2 * b2n d.ten) ++ le 1 d.refSlots ++
      le 4 (match d.source with | some f => flowH f | none => 0) ++
      le 2 (out.elim 0 fun b => b.w) ++ le 2 (out.elim 0 fun b => b.h) ++ le 1 (out.elim d.depth fun b => b.depth) ++ le 1 d.curE ++ le 1 d.curS ++ le 1 d.curT ++ le 4 d.bushels ++ le 4 d.decoded ++ le 4 d.concealed ++
      le 4 d.tainted ++ le 4 d.errors ++ le 4 d.late ++ le 4 d.skipped ++ le 2 d.poolWaits ++ le 2 d.grain)

/-- DEC_STATS (Table 11-11). -/
def bodyDecStats : Body := fun _ _ s =>
  .ok s (le 4 (s.decRates / 1000000) ++ le 4 (s.capacity 2 1000) ++ le 4 (s.lastLoad 0) ++ le 4 s.vid.decs.length ++
    le 4 (sumOf s.vid.decs fun p => p.2.bushels) ++ le 4 s.vid.decHangs ++ le 4 s.vid.decLate ++ zeros 4)

def execDecCreate (c : Cmd) (s : State) := runBelex 0x0900 bodyDecCreate c s
def execDecDelete (c : Cmd) (s : State) := runBelex 0x0901 bodyDecDelete c s
def execDecBind (c : Cmd) (s : State) := runBelex 0x0902 bodyDecBind c s
def execDecSet (c : Cmd) (s : State) := runBelex 0x0903 bodyDecSet c s
def execDecQuery (c : Cmd) (s : State) := runBelex 0x0904 bodyDecQuery c s
def execDecStats (c : Cmd) (s : State) := runBelex 0x0910 bodyDecStats c s

end Sys2Proof.Machine
end

