-- ==== Sys2Proof/Machine/EncOps.lean ====
section
/-! DEFINITION. Shared operations of video encoding: row rate control, refresh requests, the frames of an encode
context from ready to sent (file 13 of spec/). Composition calls them when a canvas frame is published or not. -/

namespace Sys2Proof.Machine

/-! Instants of frames (R434). -/

/-- The sample instant S of frame `k` at a frame rate. -/
def frameAt (fps k : Nat) : Nat := k * secU / fps

/-- The first frame whose sample instant is at or after an instant. -/
def frameFrom (fps t : Nat) : Nat := (t * fps + secU - 1) / secU

/-- The first frame whose sample instant is later than an instant: the effective frame of R440. -/
def frameAfter (fps t : Nat) : Nat := frameFrom fps (t + 1)

/-- The last frame whose sample instant has come; none before frame 0. -/
def frameNow (fps t : Nat) : Nat := frameAfter fps t - 1

/-- A frame number rounded up to a multiple. -/
def upTo (k div : Nat) : Nat := (k + div - 1) / div * div

/-! Row rate control (R471 to R478). -/

/-- Luma rows of a block row (Table 13-1), which is also the width of a block. -/
def blockH (codec : Nat) : Nat := if codec = 18 then 16 else 64

/-- One quantizer step. -/
def qStep (codec : Nat) : Nat := if codec = 16 then 4 else 1

/-- Q_INIT, and the defaults of Q_MIN and Q_MAX (R476). -/
def qInit (codec : Nat) : Nat := if codec = 16 then 128 else 32
def qDefault (codec : Nat) : Nat × Nat := if codec = 16 then (40, 255) else (10, 51)

/-- Block rows of a frame. -/
def RateCtl.nRows (c : RateCtl) : Nat := (c.h + blockH c.codec - 1) / blockH c.codec

/-- Blocks of a block row. -/
def RateCtl.blocks (c : RateCtl) : Nat := (c.w + blockH c.codec - 1) / blockH c.codec

/-- The nominal budget in bits (R471). -/
def RateCtl.bNom (c : RateCtl) : Nat := c.kbps * 1000 * c.div / c.fps

/-- Whether CAP_PCT / 100 × B_nom covers 2,048 bits and the reserve of every block row, each block of it flat (R463). -/
def RateCtl.covers (c : RateCtl) : Bool :=
  decide (100 * (2048 + c.nRows * (8 * c.blocks + 32)) ≤ c.cap * c.bNom)

/-- Bushels of a bitstream buffer (R462). -/
def RateCtl.bitBushels (c : RateCtl) : Nat := (c.cap * c.keyX * c.bNom + 52428799) / 52428800 + 1

/-- The reserve of one row of a frame (R478). -/
def RowFrame.reserve (f : RowFrame) : Nat := 2 * (f.blocks - f.flat) + 8 * f.flat + 32

/-- A frame begun: its budget, cap, row budgets and quantizer (R471, R474, R476). `flat` blocks of each row are flat
when the row is replaced. -/
def RateCtl.start (c : RateCtl) (k : Nat) (isKey : Bool) (cause : Option Nat) (layer flat : Nat) : RateCtl :=
  let nom := c.bNom
  let applied := min c.carry (nom / 2)
  let budget := (if isKey then c.keyX * nom else nom) - applied
  let old := if isKey then c.wKey else c.wInter
  let w := if old.length = c.nRows && sumOf old id ≠ 0 then old else List.replicate c.nRows 1
  let total := sumOf w id
  let q := match (if isKey then c.qKey else c.qInter) with
    | some q => max c.qMin (min c.qMax q)
    | none => qInit c.codec
  { c with frame := some { k := k, isKey := isKey, cause := cause, budget := budget, cap := c.cap * budget / 100,
                           applied := applied, qf := q, q := q, rows := w.map fun x => budget * x / total,
                           flat := flat, blocks := c.blocks, weights := w, lastQ := q, layer := layer } }

/-- The frame begun, with the frame it references. -/
def RateCtl.withRef (c : RateCtl) (ref : Option Nat) : RateCtl := { c with frame := c.frame.map fun f => { f with ref := ref } }

/-- The quantizer of the row after row `r` (R475, Table 13-2): `s` bits spent, `b` budgeted so far. -/
def RateCtl.nextQ (c : RateCtl) (f : RowFrame) (s b : Nat) : Nat :=
  let d : Int := 100 * ((s : Int) - b)
  let lim : Int := f.budget
  let steps : Int := if 10 * lim < d then 2 else if 3 * lim < d then 1
    else if d < -(10 * lim) then -2 else if d < -(3 * lim) then -1 else 0
  let st : Int := qStep c.codec
  let q := max ((f.qf : Int) - 6 * st) (min (f.qf + 6 * st) (f.q + steps * st))
  (max (c.qMin : Int) (min c.qMax q)).toNat

/-- A block row coded in `bits`: committed, or replaced at a cost of at most its reserve (R477, R478). -/
def RateCtl.row (c : RateCtl) (bits repl : Nat) : RateCtl :=
  match c.frame with
  | none => c
  | some f =>
    let n := f.rows.length
    if n ≤ f.r then c else
    let rest := (n - f.r - 1) * f.reserve
    if f.replaced.isSome || decide (f.cap < f.sum + bits + rest) then
      let cost := min repl f.reserve
      let time := if f.replaced.isSome then f.discard else max (c.w * blockH c.codec) bits
      { c with frame := some { f with
          r := f.r + 1, sum := f.sum + cost, bits := f.bits ++ [cost], discard := time,
          replaced := some (f.replaced.getD f.r) } }
    else
      let s := f.sum + bits
      let beyond := f.exhausted.isSome || (decide (f.budget ≤ s) && decide (f.r + 1 < n))
      let q := if beyond then c.qMax else c.nextQ f s (sumOf (f.rows.take (f.r + 1)) id)
      { c with frame := some { f with
          r := f.r + 1, sum := s, bits := f.bits ++ [bits], weights := setAt f.weights f.r bits,
          lastQ := if f.exhausted.isSome then f.lastQ else f.q, q := q,
          exhausted := if beyond then some (f.exhausted.getD (f.r + 1)) else none } }

/-- A frame put back to its start, to be coded again from its input (R486). -/
def RateCtl.again (c : RateCtl) : RateCtl :=
  match c.frame with
  | none => c
  | some f => (c.start f.k f.isKey f.cause f.layer f.flat).withRef f.ref

/-- The carry after a frame (R472), the weights and quantizer it leaves for the next of its type (R474, R476), and
the windows coded at Q_MAX (R480). -/
def RateCtl.finish (c : RateCtl) (now : Nat) : RateCtl :=
  match c.frame with
  | none => c
  | some f =>
    let st : Int := qStep c.codec
    let dq : Int := if 11 * f.budget < 10 * f.sum then st else if 10 * f.sum < 9 * f.budget then -st else 0
    let q := ((f.lastQ : Int) + dq).toNat
    let top := f.qf == c.qMax
    { c with
      frame := none, carry := c.carry - f.applied + (f.sum - (c.bNom - f.applied)),
      wKey := if f.isKey then f.weights else c.wKey, wInter := if f.isKey then c.wInter else f.weights,
      qKey := if f.isKey then some q else c.qKey, qInter := if f.isKey then c.qInter else some q,
      qLast := f.qf, lastBits := f.sum,
      maxWin := if c.maxWin.1 = windowOf now then (c.maxWin.1, c.maxWin.2 && top) else (windowOf now, top) }

/-- Whether all rows of the frame in progress are done. -/
def RateCtl.rowsDone (c : RateCtl) : Bool := match c.frame with | some f => f.r == f.rows.length | none => false

/-- The encoder time in ns of the frame in progress, as far as it is known (R486). -/
def RateCtl.time (c : RateCtl) : Nat :=
  match c.frame with | some f => max (c.w * c.h) f.sum + f.discard | none => c.w * c.h

/-! Encode contexts. -/

/-- Handle of a video output. -/
def encH (i : Nat) : Nat := mkHandle 5 i

def State.enc (s : State) (i : Nat) : Option EncCtx := tget s.vid.encs i

def State.modEnc (s : State) (i : Nat) (f : EncCtx → EncCtx) : State :=
  s.modVid fun v => { v with encs := tmod v.encs i f }

/-- A declared rate in twelfths of pixel/s, which every FPS_DIV divides (R461). -/
def RateCtl.rate12 (c : RateCtl) : Nat := c.w * c.h * c.fps * (12 / c.div)

/-- Whether a context is counted in admission: live or near-live, now or from its next frame on. -/
def EncCtx.counted (e : EncCtx) : Bool :=
  decide (e.prio < 2) || (match e.pend with | some p => decide (p.prio < 2) | none => false)

/-- The declared rates of the live and near-live contexts and of the tiles, in twelfths of pixel/s (R461, R497). -/
def State.encRates12 (s : State) : Nat :=
  (sumOf s.vid.encs fun p => if p.2.counted then p.2.rc.rate12 else 0) + sumOf s.vid.tiles fun p => p.2.rc.rate12

/-- Whether a further declared rate can be admitted (R461). -/
def State.encAdmits (s : State) (r12 : Nat) : Bool :=
  decide (s.encRates12 + r12 ≤ 12 * s.capacity 3 1000000000)

/-- Event 211: the state of a context. -/
def State.encState (s : State) (i : Nat) (st : EncSt) (k : Nat) : State :=
  match s.enc i with
  | none => s
  | some e => if e.st = st then s else
    (s.modEnc i fun e => { e with st := st }).raise 211 (encH i) (le 1 st.code ++ le 8 k)

/-- A skipped frame (R465, R466): cause 0 canvas not published, 1 not started. -/
def State.encSkip (s : State) (i cause : Nat) : State :=
  let s := s.modEnc i fun e => { e with skipped := e.skipped + 1 }
  let c := s.countIn 210 (encH i) 1
  c.2.raiseW 210 (encH i) (le 4 c.1 ++ le 1 cause)

/-- A context whose first frame is to be a key frame that REFRESH_MIN still holds back codes nothing: one that is IDLE, or
back in SERVICE (R483, R487). -/
def EncCtx.awaitsKey (e : EncCtx) : Bool :=
  (e.st == .idle && !(e.asks.any fun a => a.2)) || e.deferred.any fun a => a.1 == 5

/-- A canvas publishes frame `k`: it becomes ready for a context that reads the canvas (R465, R466). A frame that
waits and has not started gives way to it. -/
def State.encReady (s : State) (i : Nat) (f : CanvasFrame) : State :=
  let k := f.k
  let taint := f.taint
  match s.enc i with
  | none => s
  | some e =>
    if k % e.div ≠ 0 || e.flows.isEmpty || e.st = .shed || e.shedding || !e.delReply.isEmpty || e.awaitsKey then s else
    match e.wait with
    | some (_, _, _, task) =>
      let s := (s.encSkip i 1).modEnc i fun e => { e with wait := some (k, taint, s.now, task), waitPix := f.pix }
      s.modTask task fun t => { t with readyDt := s.now }
    | none =>
      let t : Task := { st := .waiting, cls := 1, level := e.prio, tenant := e.tenant, key := some e.key,
                        reload := b2n e.run.isSome, target := 4, work := .encode i, owner := encH i }
      match s.newTask t with
      | (none, s) => s.encSkip i 1
      | (some n, s) =>
        let s := match e.run with
          | some (_, _, _, m, _) => s.modTask m fun t => { t with succ := t.succ ++ [n] }
          | none => s
        s.modEnc i fun e => { e with wait := some (k, taint, s.now, n), waitPix := f.pix }

/-- The contexts that read a canvas. -/
def State.encsOf (s : State) (canvas : Nat) : List Nat :=
  (s.vid.encs.filter fun p => p.2.input == canvas).map fun p => p.1

/-- A canvas has published a frame. -/
def State.encPublished (s : State) (canvas : Nat) (f : CanvasFrame) : State :=
  (s.encsOf canvas).foldl (fun (s : State) i => s.encReady i f) s

/-- A canvas does not publish a frame (R465). -/
def State.encMissed (s : State) (canvas k : Nat) : State :=
  (s.encsOf canvas).foldl (fun (s : State) i =>
    match s.enc i with
    | some e => if k % e.div = 0 && e.st = .encoding && !e.shedding then s.encSkip i 0 else s
    | none => s) s

/-! Refresh requests (R482, R483). -/

/-- REFRESH_MIN. -/
def refreshMin : Nat := 200 * msU

/-- A request for a refresh, with its cause of event 206, and whether a key frame must serve it. -/
def State.encAsk (s : State) (i cause : Nat) (key : Bool) : State :=
  match s.enc i with
  | none => s
  | some e =>
    if 0 < e.sweepLeft && !key then s else
    let early := match e.lastRefresh with | some t => decide (s.now < t + refreshMin) | none => false
    s.modEnc i fun e => if early then { e with deferred := e.deferred ++ [(cause, key)] }
                        else { e with asks := e.asks ++ [(cause, key)] }

/-- The next frame that starts in a context: the one that waits, one that its canvas is making, or the next of its canvas
(R492). -/
def State.encNextFrame (s : State) (e : EncCtx) : Nat :=
  let next := upTo (frameAfter e.rc.fps s.now) e.div
  match e.wait with
  | some (k, _) => k
  | none =>
    match tget s.vid.canvases e.input with
    | some c => (c.passes.filter fun p => p.k % e.div == 0).foldl (fun m p => min m p.k) next
    | none => next

/-- The frame at which a refresh asked for now starts (R482, R483). -/
def State.refreshFrame (s : State) (e : EncCtx) : Nat :=
  match e.lastRefresh with
  | some t => if s.now < t + refreshMin then upTo (frameFrom e.rc.fps (t + refreshMin)) e.div else s.encNextFrame e
  | none => s.encNextFrame e

/-- The temporal layer of a place in the pattern (R469). -/
def EncCtx.layerAt (e : EncCtx) (n : Nat) : Nat :=
  match e.tlayers with
  | 2 => n % 2
  | 3 => [0, 2, 1, 2].getD (n % 4) 0
  | _ => 0

/-- The frame that one at a temporal layer references: the last coded one at the same layer or a lower (R469). -/
def EncCtx.refAt (e : EncCtx) (layer : Nat) : Option Nat :=
  ((e.lastAt.filter fun p => decide (p.1 ≤ layer)).map fun p => p.2).max?

/-- Blocks of a row in column `i` of a gradual refresh (R481): equal widths, the remainder in the last. -/
def EncCtx.column (e : EncCtx) (i : Nat) : Nat :=
  let b := e.rc.blocks / e.sweep
  if i + 1 = e.sweep then e.rc.blocks - i * b else b

/-- ENC_SET taken at a frame that starts (R492). -/
def EncCtx.takeSet (e : EncCtx) : EncCtx :=
  match e.pend with
  | none => e
  | some p => { e with prio := p.prio, mode1 := p.mode1, keyS := p.keyS, pend := none
                       rc := { e.rc with kbps := p.kbps, qMin := p.qMin, qMax := p.qMax, cap := p.cap } }

/-- The frame that waits starts on an encoder: its settings, the refresh it serves, its budget. -/
def State.encStart (s : State) (i : Nat) : State :=
  match s.enc i with
  | none => s
  | some e0 =>
    match e0.wait, e0.run with
    | some (k, taint, ready, task), none =>
      let e := e0.takeSet
      let key := e.asks.any fun a => a.2 || !e.mode1
      let serve := !e.asks.isEmpty
      let gone := e.bushels - (e.pics + e.rc.bitBushels)
      let sweep := if key then 0 else if serve then e.sweep else e.sweepLeft
      let flat := if key then e.rc.blocks else if sweep = 0 then 0 else e.column (e.sweep - sweep)
      let pat := if key then 0 else e.pattern
      let cause := e.asks.head?.map fun a => a.1
      let key6 := key || e.asks.any fun a => a.1 == 6
      let e1 : EncCtx :=
        { e with rc := (e.rc.start k key cause (e.layerAt pat) flat).withRef (if key then none else e.refAt (e.layerAt pat)), wait := none, run := some (k, taint, ready, task, 0),
                 waitPix := {}, runPix := e.waitPix,
                 asks := [], sweepLeft := sweep, pattern := pat,
                 lastRefresh := if serve then some s.now else e.lastRefresh,
                 lastKey := if key6 then s.now else e.lastKey,
                 refreshes := if serve then e.refreshes + 1 else e.refreshes,
                 flows := if key then e.flows.map fun f => (f.1, true) else e.flows,
                 bushels := e.bushels - gone }
      let s := (s.modEnc i fun _ => e1).freeBushel e.tenant gone
      let s := if e.st = .idle then s.encState i .encoding k else s
      if serve then s.raise 206 (encH i) (le 1 (b2n (!key)) ++ le 1 (cause.getD 0) ++ le 8 k) else s
    | _, _ => s

/-! Ends. -/

/-- A context removed: its bushels and tasks freed, its flows free for another output, its deletes answered. -/
def State.encFree (s : State) (i : Nat) : State :=
  match s.enc i with
  | none => s
  | some e =>
    let s := (e.flows.map fun f => f.1).foldl (fun (s : State) f => s.modFlow f fun x => { x with outCtx := 0 }) s
    let s := ((s.dropOwned (encH i)).freeBushel e.tenant e.bushels).modVid fun v => { v with encs := tdel v.encs i }
    s.completeAll e.delReply stDone

/-- Flows leave a context; with none left it is IDLE, and a frame that waits is dropped. -/
def State.encDetach (s : State) (i : Nat) (fs : List Nat) (k : Nat) : State :=
  let s := fs.foldl (fun (s : State) f => s.modFlow f fun x => { x with outCtx := 0 }) s
  let s := s.modEnc i fun e => { e with flows := e.flows.filter fun f => !fs.contains f.1
                                        leaving := e.leaving.filter fun f => !fs.contains f }
  match s.enc i with
  | none => s
  | some e =>
    if !e.flows.isEmpty then s else
    let s := match e.wait with
      | some (_, _, _, task) => (s.taskDrop task).modEnc i fun e => { e with wait := none }
      | none => s
    if e.st = .encoding then s.encState i .idle k else s

/-- A send flow that closes leaves its context. -/
def State.encFlowGone (s : State) (flow : Nat) : State :=
  match s.flow flow with
  | none => s
  | some f =>
    if hType f.outCtx ≠ 5 then s else
    let i := hIdx f.outCtx
    match s.enc i with
    | none => s
    | some e => s.encDetach i [flow] (match e.run with | some (k, _) => k | none => frameAfter e.rc.fps s.now)

/-- A context is shed: it codes nothing (R487). -/
def State.encToShed (s : State) (i : Nat) : State :=
  match s.enc i with
  | none => s
  | some e =>
    let s := (s.dropOwned (encH i)).modEnc i fun e => { e with
      wait := none, run := none, sweepLeft := 0, shedding := false, rc := { e.rc with frame := none } }
    s.encState i .shed (frameAfter e.rc.fps s.now)

/-- A context that the present shedding covers is shed at a frame boundary (R693, R697). -/
def State.encCovered (s : State) (i : Nat) : State :=
  match s.enc i with
  | some e => if e.st != .shed && e.run.isNone && (e.shedding || shedPrio s.shedNow e.prio) then s.encToShed i else s
  | none => s

/-- Contexts shed in RIDETHROUGH (R487): those of the priorities that `p` names, each at its next frame boundary (R693): a frame
in progress is completed, one that waits is not begun. -/
def State.encShed (s : State) (p : Nat → Bool) : State :=
  s.vid.encs.foldl (fun (s : State) x =>
    if p x.2.prio && x.2.st != .shed then
      if x.2.run.isNone then s.encToShed x.1 else
      let s := match x.2.wait with | some (_, _, _, task) => s.taskDrop task | none => s
      s.modEnc x.1 fun e => { e with wait := none, shedding := true }
    else s) s

/-- A shed context on return: its first frame is a key frame (R482, R487). -/
def State.encReturn (s : State) (i : Nat) (e : EncCtx) : State :=
  let s := (s.modEnc i fun e => { e with shedding := false }).encState i (if e.flows.isEmpty then .idle else .encoding)
    (frameAfter e.rc.fps s.now)
  if e.flows.isEmpty then s else s.encAsk i 5 true

/-- Shed contexts of the priorities that `p` names on return to SERVICE. -/
def State.encResume (s : State) (p : Nat → Bool) : State :=
  s.vid.encs.foldl (fun (s : State) x =>
    if (x.2.st == .shed || x.2.shedding) && p x.2.prio then s.encReturn x.1 x.2 else s) s

end Sys2Proof.Machine
end

