-- ==== Sys2Proof/Machine/Pixels.lean ====
section
/-! DEFINITION. The sample arithmetic of composition: scaling, blending and guard checksums (R444 to R449, R454). -/

namespace Sys2Proof.Machine

/-! Scaling. -/

/-- A filter coefficient (R445): phase 0 of set 0 is the single tap 16,384, and every phase sums to 16,384. -/
def tapOf (luma : Bool) (set ph t : Nat) : Int :=
  let n := if luma then 8 else 4
  if set = 0 && ph = 0 then (if t + 1 = n / 2 then 16384 else 0)
  else if t + 1 = n then 16384 - (List.range (n - 1)).foldl (fun a j => a + Config.scaleTap luma set ph j) 0
  else Config.scaleTap luma set ph t

/-- The filter set of a ratio `w` / `cw` (R445). -/
def setOf (w cw : Nat) : Nat := if cw ≤ w then 0 else if cw ≤ 2 * w then 1 else if cw ≤ 4 * w then 2 else 3

/-- The source position of destination sample `i`, in 1/64 sample, truncated toward minus infinity (R444). -/
def srcPos (c cw w i : Nat) : Int := (128 * (c : Int) * w + 64 * (2 * i + 1) * cw - 64 * w) / (2 * w)

/-- The samples of an axis that a destination sample reads, with their coefficients; samples beyond the crop repeat
its edge (R444). -/
def axisTaps (luma : Bool) (c cw w i : Nat) : List (Nat × Int) :=
  let p := srcPos c cw w i
  let n := if luma then 8 else 4
  (List.range n).map fun (t : Nat) =>
    ((max (c : Int) (min (c + cw - 1) (p / 64 + (t : Int) - (n / 2 - 1 : Nat)))).toNat, tapOf luma (setOf w cw) (p % 64).toNat t)

/-- One sample of a plane scaled from a crop to `w` × `h` (R444, R446): the horizontal pass exact, the vertical sum
divided by 2^28 with truncation and clamped to the sample range. -/
def scaleAt (luma : Bool) (plane : List Nat) (stride top : Nat) (c : Rect) (w h x y : Nat) : Nat :=
  let hs := axisTaps luma c.x c.w w x
  let vs := axisTaps luma c.y c.h h y
  let row (r : Nat) : Int := hs.foldl (fun a q => a + q.2 * plane.getD (r * stride + q.1) 0) 0
  let sum := vs.foldl (fun a v => a + v.2 * row v.1) 0
  (max 0 (min (top : Int) (sum / 2 ^ 28))).toNat

/-! Blending. -/

/-- The centre o of a plane's values. -/
def centre (luma ten : Bool) : Int := if luma then 0 else if ten then 512 else 128

/-- The largest sample. -/
def topSample (ten : Bool) : Nat := if ten then 1023 else 255

/-- A blended value clamped to its range, with o added back. -/
def uncentre (o : Int) (ten : Bool) (v : Int) : Nat := (max (-o) (min (topSample ten - o) v) + o).toNat

/-- A straight-alpha layer, or a video or fill layer, over a destination, both centred (R447). -/
def blendStraight (s d a big : Int) : Int :=
  let e := a * big / 256
  (s * e + d * (256 - e)) / 256

/-- A premultiplied overlay over a destination, both centred (R448). -/
def blendPremul (s d a big : Int) : Int := (256 * big * s + (65536 - a * big) * d) / 65536

/-- Extended alpha a′. -/
def alphaExt (a : Nat) : Nat := a + a / 128

/-! Overlays (R449, R450). -/

/-- The floor of the mean of a 2 × 2 group of a plane `w` wide. -/
def mean4 (p : Nat → Nat) (w x y : Nat) : Nat :=
  let i := 2 * y * w + 2 * x
  (p i + p (i + 1) + p (i + w) + p (i + w + 1)) / 4

/-- An overlay image converted to the canvas format from its bytes: A, Y, Cb, Cr of each pixel. -/
def overlayOf (w h : Nat) (premul ten : Bool) (img : List Byte) (bushels : Nat) : Overlay :=
  let at_ (c i : Nat) : Nat := (img.getD (4 * i + c) 0).toNat
  let up (v : Nat) : Nat := if ten then 4 * v else v
  let full := List.range (w * h)
  let quads := (List.range (h / 2)).flatMap fun y => (List.range (w / 2)).map fun x => (x, y)
  { w := w, h := h, premul := premul, bushels := bushels,
    pix := { w := w, h := h, y := full.map fun i => up (at_ 1 i),
             cb := quads.map fun q => up (mean4 (at_ 2) w q.1 q.2),
             cr := quads.map fun q => up (mean4 (at_ 3) w q.1 q.2) }
    a := full.map fun i => alphaExt (at_ 0 i)
    ac := quads.map fun q => mean4 (fun i => alphaExt (at_ 0 i)) w q.1 q.2 }

/-! A pass. -/

/-- A plane of a picture: 0 luma, 1 Cb, 2 Cr. -/
def planeOf (p : Pix) (n : Nat) : List Nat := match n with | 0 => p.y | 1 => p.cb | _ => p.cr

/-- A colour of FILL (Table 12-4): 10-bit values, divided by 4 on an 8-bit canvas. -/
def fillSample (fill : Nat) (ten : Bool) (plane : Nat) : Nat :=
  let v := match plane with | 0 => bits fill 29 20 | 1 => bits fill 19 10 | _ => bits fill 9 0
  if ten then v else v / 4

/-- The crop of a layer at a pass: the whole source, or the crop cut to the frame (R442). -/
def Layer12.cropOf (l : Layer12) (w h : Nat) : Rect :=
  if l.cw = 0 && l.ch = 0 then ⟨0, 0, w, h⟩
  else ⟨l.cx, l.cy, min l.cw (w - l.cx), min l.ch (h - l.cy)⟩

/-- A depth of 8 or 10 bits brought to the canvas's (R446). -/
def toDepth (v depth : Nat) (ten : Bool) : Nat :=
  if ten then (if depth = 8 then 4 * v else v) else if depth = 8 then v else v / 4

/-- What a layer has at a sample of its destination: value, a′, and whether the value is premultiplied; nothing when it
is left out of the pass (R443). -/
def PassLayer.sample (l : PassLayer) (ten : Bool) (plane x y : Nat) : Option (Nat × Nat × Bool) :=
  let luma := plane == 0
  let w := if luma then l.lay.w else l.lay.w / 2
  let h := if luma then l.lay.h else l.lay.h / 2
  let fill := some (fillSample l.lay.fill ten plane, 256, false)
  let none_ := if bit l.lay.flags 0 then fill else none
  match l.lay.kind with
  | 1 =>
    match l.src with
    | none => none_
    | some _ =>
      let c := l.lay.cropOf l.pix.w l.pix.h
      if c.w = 0 || c.h = 0 then none_ else
      let v := scaleAt luma (planeOf l.pix plane) (if luma then l.pix.w else l.pix.w / 2)
        (if l.depth = 8 then 255 else 1023) (if luma then c else c.half) w h x y
      some (toDepth v l.depth ten, 256, false)
  | 2 =>
    match l.ovl with
    | none => none
    | some o =>
      let c := l.lay.cropOf o.w o.h
      let stride := if luma then o.w else o.w / 2
      let r := if luma then c else c.half
      some (scaleAt luma (planeOf o.pix plane) stride (topSample ten) r w h x y,
        scaleAt luma (if luma then o.a else o.ac) stride 256 r w h x y, o.premul)
  | 3 => fill
  | _ => none

/-- A canvas sample after a layer, over `d`. -/
def PassLayer.beyond (l : PassLayer) (ten : Bool) (plane x y d : Nat) : Nat :=
  let k : Int := if plane = 0 then 1 else 2
  let dx : Int := x - l.lay.x / k
  let dy : Int := y - l.lay.y / k
  if l.lay.kind = 0 || dx < 0 || dy < 0 || (l.lay.w : Int) / k ≤ dx || (l.lay.h : Int) / k ≤ dy then d else
  match l.sample ten plane dx.toNat dy.toNat with
  | none => d
  | some (v, a, premul) =>
    let o := centre (plane == 0) ten
    let big : Int := l.lay.alpha
    uncentre o ten (if premul then blendPremul (v - o) (d - o) a big else blendStraight (v - o) (d - o) a big)

/-- One plane of a canvas frame: the layers in index order, the base first. -/
def composePlane (layers : List PassLayer) (ten : Bool) (plane w h : Nat) : List Nat :=
  (List.range h).flatMap fun y => (List.range w).map fun x =>
    layers.foldl (fun d l => l.beyond ten plane x y d) 0

/-- A canvas frame's samples. -/
def composePix (layers : List PassLayer) (ten : Bool) (w h : Nat) : Pix :=
  { w := w, h := h, y := composePlane layers ten 0 w h, cb := composePlane layers ten 1 (w / 2) (h / 2),
    cr := composePlane layers ten 2 (w / 2) (h / 2) }

/-! Guard checksums (R454). -/

/-- The samples of a rectangle of a plane, row by row. -/
def rectSamples (plane : List Nat) (stride : Nat) (r : Rect) : List Nat :=
  (List.range r.h).flatMap fun y => (List.range r.w).map fun x => plane.getD ((r.y + y) * stride + r.x + x) 0

/-- CRC-32C of a rectangle's canvas samples: luma, Cb, Cr; 1 byte each on an 8-bit canvas and 2 on a 10-bit one. -/
def rectCrc (p : Pix) (ten : Bool) (r : Rect) : Nat :=
  let all := rectSamples p.y p.w r ++ rectSamples p.cb (p.w / 2) r.half ++ rectSamples p.cr (p.w / 2) r.half
  crc32c (all.flatMap fun v => le (if ten then 2 else 1) v)

end Sys2Proof.Machine
end

