-- ==== Sys2Proof/Machine/Compose.lean ====
section
/-! DEFINITION. Composition: canvases, layouts, overlays, guard regions, passes and the 0x0Axx commands (file 12 of
spec/). -/

namespace Sys2Proof.Machine

def stCompOvercommit : Nat := 0x8A00
def stLayerInvalid : Nat := 0x8A01
def stGuardCovered : Nat := 0x8A02
def stGuardLocked : Nat := 0x8A03
def stOverlayInUse : Nat := 0x8A04
def stCanvasInUse : Nat := 0x8A05

/-- Handle of a canvas. -/
def canvasH (i : Nat) : Nat := mkHandle 6 i

def State.canvas (s : State) (i : Nat) : Option Canvas := tget s.vid.canvases i

def State.modCanvas (s : State) (i : Nat) (f : Canvas → Canvas) : State :=
  s.modVid fun v => { v with canvases := tmod v.canvases i f }

def Canvas.ten (c : Canvas) : Bool := bit c.flags 1

/-! Rates (R432). -/

/-- The layout a canvas will show: its shadow, or the one in force. -/
def Canvas.latest (c : Canvas) : List Layer12 := match c.pend.getLast? with | some (_, l) => l | none => c.layout

/-- The guards that will be in force. -/
def Canvas.guardsNext (c : Canvas) : List Guard := c.guardPend.foldl (fun g p => setAt g p.2.1 p.2.2) c.guards

/-- The overlay a slot will hold. -/
def Canvas.slotNext (c : Canvas) (n : Nat) : Option Overlay :=
  match (c.slotPend.filter fun p => p.2.1 == n).getLast? with | some (_, _, o) => o | none => tget c.slots n

/-- The size of a layer's source: MAX_W × MAX_H of a video source, or the overlay's. -/
def State.layerSize (s : State) (c : Canvas) (l : Layer12) : Nat × Nat :=
  match l.kind with
  | 1 => match s.dec (hIdx l.src) with | some d => (d.maxW, d.maxH) | none => (0, 0)
  | 2 => match c.slotNext l.src with | some o => (o.w, o.h) | none => (0, 0)
  | _ => (0, 0)

/-- The crop of a layer, the whole source when both its sizes are 0. -/
def State.layerCrop (s : State) (c : Canvas) (l : Layer12) : Nat × Nat :=
  if l.cw = 0 && l.ch = 0 then s.layerSize c l else (l.cw, l.ch)

/-- Twice the effective rate of a canvas under a layout. -/
def State.rate2 (s : State) (c : Canvas) (layout : List Layer12) : Nat :=
  let px := sumOf layout fun l => if l.kind = 1 || l.kind = 2 then (s.layerCrop c l).1 * (s.layerCrop c l).2 else 0
  max (2 * (c.w * c.h * c.fps)) (c.fps * px)

/-- Twice the effective rates of all canvases but one. -/
def State.rates2 (s : State) (except : Option Nat) : Nat :=
  sumOf s.vid.canvases fun p => if some p.1 = except then 0 else s.rate2 p.2 p.2.latest

/-- Whether a canvas's effective rate can be admitted beside the others. -/
def State.compAdmits (s : State) (except : Option Nat) (r2 : Nat) : Bool :=
  decide (s.rates2 except + r2 ≤ 2 * s.capacity 4 2000000000)

/-! Layouts (R440 to R443). -/

/-- Layer `i` of CANVAS_LAYOUT_SET. -/
def layerOf (c : Cmd) (i : Nat) : Layer12 :=
  let o := 8 + 32 * i
  { kind := c.u o 1, flags := c.u (o + 1) 1, alpha := c.u (o + 2) 2,
    src := if c.u o 1 = 2 then c.u (o + 4) 4 % 8 else c.u (o + 4) 4, x := c.i (o + 8) 2, y := c.i (o + 10) 2,
    w := c.u (o + 12) 2, h := c.u (o + 14) 2, cx := c.u (o + 16) 2, cy := c.u (o + 18) 2, cw := c.u (o + 20) 2,
    ch := c.u (o + 22) 2, fill := c.u (o + 24) 4 }

/-- The field checks on a layer (Table 12-4). -/
def layerFields (c : Cmd) (i : Nat) : Bool :=
  let o := 8 + 32 * i
  c.rng o 1 0 3 && c.mask (o + 1) 1 1 && c.rng (o + 2) 2 0 256 && decide (c.u (o + 12) 2 ≤ 8192) &&
  decide (c.u (o + 14) 2 ≤ 8192) && c.mask (o + 24) 4 0x3FFFFFFF && c.zero (o + 28) 4 &&
  (match c.u o 1 with
   | 1 => true
   | 2 => c.mask (o + 4) 4 7
   | _ => c.zero (o + 4) 4)

/-- Whether `w` / `cw` lies from 1/8 to 8. -/
def ratioOk (w cw : Nat) : Bool := decide (cw ≤ 8 * w) && decide (w ≤ 8 * cw)

/-- The checks of R441 on layer `i`; a disabled layer has nothing to check. -/
def State.layerValid (s : State) (c : Canvas) (i : Nat) (l : Layer12) : Bool :=
  if i = 0 then l.kind == 3 && l.x == 0 && l.y == 0 && l.w == c.w && l.h == c.h && l.alpha == 256 &&
    l.cx % 2 == 0 && l.cy % 2 == 0 && l.cw % 2 == 0 && l.ch % 2 == 0
  else if l.kind = 0 then true
  else
    let even (n : Nat) : Bool := n % 2 == 0
    let crop := s.layerCrop c l
    let size := s.layerSize c l
    l.x % 2 == 0 && l.y % 2 == 0 && even l.w && even l.h && decide (0 < l.w) && decide (0 < l.h) &&
    even l.cx && even l.cy && even l.cw && even l.ch &&
    (l.kind == 3 || (ratioOk l.w crop.1 && ratioOk l.h crop.2 && decide (l.cx + crop.1 ≤ size.1) &&
      decide (l.cy + crop.2 ≤ size.2)))

/-- The status of a layer's source: a video source of the conference, an overlay slot that holds an overlay. -/
def State.layerSource (s : State) (fn : Nat) (c : Canvas) (l : Layer12) : Nat :=
  match l.kind with
  | 1 =>
    let r := checkHandle s fn false [4] l.src
    if r ≠ 0 then r else if s.confOf l.src = some c.conf then 0 else stNoObject
  | 2 => if (c.slotNext l.src).isSome then 0 else stNoObject
  | _ => 0

/-! Guards (R453). -/

/-- Whether two ranges of an axis meet. -/
def meets (a aw b bw : Int) : Bool := decide (a < b + bw) && decide (b < a + aw)

/-- The conditions of R453 on an enabled guard in a layout. -/
def Canvas.guardOk (c : Canvas) (layout : List Layer12) (slot : Nat → Option Overlay) (g : Guard) : Bool :=
  match layout[g.layer]? with
  | none => false
  | some l =>
    match (if l.kind = 2 then slot l.src else none) with
    | none => false
    | some o =>
      let r := l.cropOf o.w o.h
      let inside := decide (l.x ≤ g.x) && decide (l.y ≤ g.y) && decide ((g.x + g.w : Int) ≤ l.x + l.w) &&
        decide ((g.y + g.h : Int) ≤ l.y + l.h)
      let opaque_ := (List.range g.h).all fun j => (List.range g.w).all fun i =>
        o.a.getD ((r.y + ((g.y + j : Int) - l.y).toNat) * o.w + r.x + ((g.x + i : Int) - l.x).toNat) 0 == 256
      r.w == l.w && r.h == l.h && g.x % 2 == 0 && g.y % 2 == 0 && g.w % 2 == 0 && g.h % 2 == 0 &&
      decide (0 < g.w) && decide (0 < g.h) && decide (g.x + g.w ≤ c.w) && decide (g.y + g.h ≤ c.h) && inside &&
      opaque_ && l.alpha == 256 &&
      (layout.drop (g.layer + 1)).all fun m => m.kind == 0 || !(meets m.x m.w g.x g.w && meets m.y m.h g.y g.h)

/-- Whether every enabled guard of a list holds in a layout. -/
def Canvas.guardsOk (c : Canvas) (layout : List Layer12) (gs : List Guard) : Bool :=
  gs.all fun g => !g.on || c.guardOk layout c.slotNext g

/-- Whether an enabled guard names an overlay slot (R452). -/
def Canvas.slotGuarded (c : Canvas) (n : Nat) : Bool :=
  let by_ (layout : List Layer12) (gs : List Guard) : Bool := gs.any fun g =>
    g.on && match layout[g.layer]? with | some l => l.kind == 2 && l.src == n | none => false
  by_ c.layout c.guards || by_ c.latest c.guardsNext

/-! Passes (R435 to R439). -/

/-- READ marks of a pass's source frames cleared. -/
def State.passRelease (s : State) (p : Pass) : State :=
  p.layers.foldl (fun (s : State) l => match l.src with | some (d, n) => s.decRead d n false | none => s) s

/-- A pass that has not started is skipped (R437). -/
def State.passSkip (s : State) (i : Nat) (p : Pass) : State :=
  let s := (s.taskDrop p.task).passRelease p
  let s := s.modCanvas i fun c => { c with passes := c.passes.filter fun q => q.k != p.k, skipped := c.skipped + 1 }
  let s := s.modVid fun v => { v with compSkipped := v.compSkipped + 1 }
  let n := s.countIn 202 (canvasH i) 1
  (n.2.raiseW 202 (canvasH i) (le 8 p.k ++ le 4 n.1)).encMissed i p.k

/-- A guard given new settings: what its checks found stays. -/
def Guard.takes (new old : Guard) : Guard := { new with fails := old.fails, failing := old.failing }

/-- An overlay that has come into a slot, or the slot cleared: the slots, and the bushels of the image before. -/
def slotTake (x : Tbl Overlay × Nat) (slot : Nat) (o : Option Overlay) : Tbl Overlay × Nat :=
  (match o with | some o => tset x.1 slot o | none => tdel x.1 slot,
   x.2 + match tget x.1 slot with | some o => o.bushels | none => 0)

/-- The layout, guards and overlays whose effective frame has come (R440, R451, R457). -/
def State.canvasTake (s : State) (i k : Nat) : State :=
  match s.canvas i with
  | none => s
  | some c =>
    let due (e : Nat) : Bool := decide (e ≤ k)
    let x := (c.slotPend.filter fun p => due p.1).foldl (fun x p => slotTake x p.2.1 p.2.2) (c.slots, 0)
    let taken := c.pend.filter fun p => due p.1
    let s := s.modCanvas i fun c => { c with
      slots := x.1, slotPend := c.slotPend.filter fun p => !due p.1, bushels := c.bushels - x.2
      layout := match taken.getLast? with | some p => p.2 | none => c.layout
      pend := c.pend.filter fun p => !due p.1
      guards := (c.guardPend.filter fun p => due p.1).foldl (fun g p => modAt g p.2.1 (Guard.takes p.2.2)) c.guards
      guardPend := c.guardPend.filter fun p => !due p.1 }
    let s := s.freeBushel c.tenant x.2
    if bit c.flags 0 then taken.foldl (fun (s : State) p => s.raise 201 (canvasH i) (le 8 p.1)) s else s

/-- A layer with the frame its video source gives at an instant, or its overlay (R435). -/
def State.passLayer (s : State) (c : Canvas) (at_ : Nat) (l : Layer12) : PassLayer × Bool × Bool :=
  match l.kind with
  | 1 =>
    match s.sourceFrame (hIdx l.src) at_ with
    | some b => ({ lay := l, src := some (hIdx l.src, b.num), depth := b.depth, pix := b.pix }, b.concealed, b.taint)
    | none => ({ lay := l }, false, false)
  | 2 => ({ lay := l, ovl := tget c.slots l.src }, false, false)
  | _ => ({ lay := l }, false, false)

/-- Whether anything of a layer comes to stand on its canvas (R442, R443, R447). -/
def PassLayer.contributes (l : PassLayer) (w h : Nat) : Bool :=
  let c := l.lay.cropOf l.pix.w l.pix.h
  decide (0 < c.w) && decide (0 < c.h) && decide (0 < l.lay.alpha) && decide (l.lay.x < w) && decide (l.lay.y < h) &&
    decide (0 < l.lay.x + l.lay.w) && decide (0 < l.lay.y + l.lay.h)

/-- The pass of a canvas's frame `k` built from the frames that its sources show; without room it is skipped. -/
def State.passBegin (s : State) (canvas k : Nat) (c : Canvas) : State :=
  let task : Task := { st := .waiting, cls := 1, tenant := c.tenant, key := some c.key, target := 5,
                       work := .pass canvas, owner := canvasH canvas }
  match s.newTask task with
  | (none, s) => s.passSkip canvas ⟨k, 0xFFFFFFFF, [], [], false, false, none⟩
  | (some n, s) =>
    let taken := c.layout.map fun l => s.passLayer c (frameAt c.fps k) l
    let layers := taken.map fun x => x.1
    let s := layers.foldl (fun (s : State) l =>
      match l.src with | some (d, b) => s.decRead d b true | none => s) s
    let p : Pass := { k := k, task := n, layers := layers,
                      guards := (c.guards.zipIdx.filter fun g => g.1.on).map fun g => (g.2, g.1),
                      concealed := taken.any fun x => x.2.1 && x.1.contributes c.w c.h
                      taint := taken.any fun x => x.2.2 && x.1.contributes c.w c.h }
    s.modCanvas canvas fun c => { c with passes := c.passes ++ [p] }

/-- The sample instant of a canvas's frame `k`: what has not started is skipped, what takes effect does, and a pass
begins; a shed canvas or one without a layout composes nothing (R434, R439). -/
def State.canvasFrame (s : State) (canvas k : Nat) (c0 : Canvas) : State :=
  let idle := c0.passes.filter fun p => p.made.isNone && (s.unitOf p.task).isNone
  let s := idle.foldl (fun (s : State) p => s.passSkip canvas p) s
  let s := (s.canvasTake canvas k).modCanvas canvas fun c => { c with last := some k }
  match s.canvas canvas with
  | none => s
  | some c => if c.shed || c.layout.isEmpty then s.encMissed canvas k else s.passBegin canvas k c

/-- CANVAS_PASS_READY: the sample instant of a canvas frame. Passes not started are skipped, what takes effect at the
frame takes effect, and the pass for it is READY. -/
def execCanvasPassReady (t canvas : Nat) (s : State) : Host.Outcome State Fault Refusal :=
  let s := s.advance t
  match s.canvas canvas with
  | none => .next s
  | some c0 =>
    let k := frameNow c0.fps s.now
    if (match c0.last with | some n => decide (k ≤ n) | none => false) then .next s else
    .next (s.canvasFrame canvas k c0)

/-- A canvas frame published (R455): consumers read it, and the encoders of the canvas take it. -/
def State.canvasPublish (s : State) (i : Nat) (f : CanvasFrame) (checked : Bool) : State :=
  let s := s.modCanvas i fun c => { c with
    out := some f, verified := if checked then some f else c.verified, black := false, published := f.k }
  s.encPublished i f

/-- A pass composed: its sources are released, and without guards its frame is published (R436, R442 to R449). -/
def State.passDone (s : State) (canvas : Nat) (c : Canvas) (p : Pass) : State :=
  let s := match s.unitOf p.task with
    | some u => s.unitGood u
    | none => s
  let s := ((s.taskDone p.task).addLoad 1 (c.w * c.h)).passRelease p
  let f : CanvasFrame := ⟨p.k, composePix p.layers c.ten c.w c.h, p.concealed, p.taint⟩
  let s := s.modCanvas canvas fun c => { c with
    count := c.count + 1
    passes := if p.guards.isEmpty then c.passes.filter fun q => q.k != p.k
              else c.passes.map fun q => if q.k = p.k then { q with made := some f } else q }
  if p.guards.isEmpty then s.canvasPublish canvas f false else s

/-- COMPOSE_PASS_DONE: a compositor has completed a canvas's pass. Without an enabled guard the frame is published
(R436, R442 to R449). -/
def execComposePassDone (t canvas : Nat) (s : State) : Host.Outcome State Fault Refusal :=
  let s := s.advance t
  match s.canvas canvas with
  | none => .next s
  | some c =>
    match c.passes.find? fun p => p.made.isNone && (s.unitOf p.task).isSome with
    | none => .next s
    | some p =>
      .next (s.passDone canvas c p)

/-- The time of a pass in units of DT (R436): its output at 2.0 Gpixel/s or its sources at 4.0 Gpixel/s. -/
def Pass.time (p : Pass) (w h : Nat) : Nat :=
  let px := sumOf p.layers fun l =>
    let c := match l.ovl with
      | some o => l.lay.cropOf o.w o.h
      | none => if l.src.isSome then l.lay.cropOf l.pix.w l.pix.h else ⟨0, 0, 0, 0⟩
    c.w * c.h
  max (w * h * nsU / 2) (px * nsU / 4)

/-- A hung compositor reset, or retired, with event 205 (R438). -/
def State.compHang (s : State) (unit canvas task : Nat) : State :=
  let r := s.unitHang unit task
  (r.2.modVid fun v => { v with compHangs := v.compHangs + 1 }).raise 205 (mkHandle 12 (unit / 16))
    (le 2 unit ++ le 2 canvas ++ le 1 (b2n r.1))

/-- COMPOSITOR_HANG: the compositor of a canvas's pass has passed 4 times its time plus 100 µs (R438). -/
def execCompositorHang (t canvas : Nat) (s : State) : Host.Outcome State Fault Refusal :=
  let s := s.advance t
  match s.canvas canvas with
  | none => .next s
  | some c =>
    match c.passes.find? fun p => p.made.isNone && (s.unitOf p.task).isSome with
    | none => .next s
    | some p =>
      match s.unitOf p.task, tget s.disp.tasks p.task with
      | some unit, some k =>
        if s.now ≤ k.startDt + 4 * p.time c.w c.h + 100 * usU then .next s else
        .next (s.compHang unit canvas p.task)
      | _, _ => .next s

/-- The CRC read back for a guard of a frame. -/
def guardCrc (found : List (Option Nat)) (c : Canvas) (f : CanvasFrame) (g : Nat × Guard) : Nat :=
  (found.getD g.1 none).getD (rectCrc f.pix c.ten ⟨g.2.x, g.2.y, g.2.w, g.2.h⟩)

/-- The guards of a pass whose rectangle does not read back as they expect (R455). -/
def guardsBad (found : List (Option Nat)) (c : Canvas) (f : CanvasFrame) (p : Pass) : List (Nat × Guard) :=
  p.guards.filter fun g => guardCrc found c f g != g.2.crc

/-- A pass leaves its canvas, and its guards note whether they fail. -/
def State.guardsMark (s : State) (canvas : Nat) (p : Pass) (bad : List (Nat × Guard)) : State :=
  s.modCanvas canvas fun c => { c with
    passes := c.passes.filter fun q => q.k != p.k
    guards := c.guards.zipIdx.map fun (x : Guard × Nat) =>
      if p.guards.any fun g => g.1 == x.2 then { x.1 with failing := bad.any fun g => g.1 == x.2 } else x.1 }

/-- A frame whose guards all hold is published, with event 204 for each that failed before (R455). -/
def State.guardsPass (s : State) (canvas : Nat) (c : Canvas) (f : CanvasFrame) (p : Pass) : State :=
  let was := c.guards.zipIdx.filter fun x => decide (0 < x.1.fails) && p.guards.any fun g => g.1 == x.2
  let s := was.foldl (fun (s : State) x =>
    s.raise 204 (canvasH canvas) (le 1 x.2 ++ le 4 x.1.fails ++ le 8 p.k)) s
  let s := s.modCanvas canvas fun c => { c with guards := was.foldl (fun l x => modAt l x.2 fun g => { g with fails := 0 }) c.guards }
  s.canvasPublish canvas f true

/-- A frame with a failing guard is withheld: event 203, and the last verified frame or black (R456). -/
def State.guardsFail (s : State) (found : List (Option Nat)) (canvas : Nat) (c : Canvas) (f : CanvasFrame) (p : Pass)
    (bad : List (Nat × Guard)) : State :=
  let s := bad.foldl (fun (s : State) g =>
    let old := c.guards.getD g.1 {}
    let s := s.modCanvas canvas fun c => { c with
      guards := modAt c.guards g.1 fun x => { x with fails := x.fails + 1 } }
    if old.fails = 0 then s.raise 203 (canvasH canvas) (le 1 g.1 ++ le 4 (guardCrc found c f g) ++ le 8 p.k) else s) s
  let blank := c.verified.isNone || bad.any fun g => g.2.blank
  let s := s.modCanvas canvas fun c => { c with guardFails := c.guardFails + 1, black := blank
                                                out := if blank then c.out else c.verified }
  s.encMissed canvas p.k

/-- GUARD_READBACK_DONE: the enabled guard rectangles of a composed frame have been read back. `found` gives, by guard
index, the CRC read where a fault changed the rectangle's samples; otherwise they are those composed (R455, R456). -/
def execGuardReadbackDone (t canvas : Nat) (found : List (Option Nat)) (s : State) :
    Host.Outcome State Fault Refusal :=
  let s := s.advance t
  match s.canvas canvas with
  | none => .next s
  | some c =>
    match c.passes.find? fun p => p.made.isSome with
    | none => .next s
    | some p =>
      match p.made with
      | none => .next s
      | some f =>
        let bad := guardsBad found c f p
        let s := s.guardsMark canvas p bad
        .next (if bad.isEmpty then s.guardsPass canvas c f p else s.guardsFail found canvas c f p bad)

/-- The black frame that consumers receive under R456. -/
def blackPix (w h : Nat) (ten : Bool) : Pix :=
  { w := w, h := h, y := List.replicate (w * h) (if ten then 64 else 16),
    cb := List.replicate (w * h / 4) (if ten then 512 else 128), cr := List.replicate (w * h / 4) (if ten then 512 else 128) }

/-- What the consumers of a canvas read. -/
def Canvas.current (c : Canvas) : Option Pix :=
  if c.black then some (blackPix c.w c.h c.ten) else c.out.map fun f => f.pix

/-- Passes of a canvas dropped, with their tasks. -/
def State.dropPasses (s : State) (i : Nat) : State :=
  match s.canvas i with
  | none => s
  | some c =>
    let s := c.passes.foldl (fun (s : State) p => s.passRelease p) s
    (s.dropOwned (canvasH i)).modCanvas i fun c => { c with passes := [] }

/-- Every canvas shed in RIDETHROUGH: no pass is made from its next frame on, and the output is held (R439, R693). -/
def State.canvasShed (s : State) : State :=
  s.vid.canvases.foldl (fun (s : State) x => s.modCanvas x.1 fun c => { c with shed := true }) s

/-- On return to SERVICE, passes resume (R439). -/
def State.canvasResume (s : State) : State :=
  s.vid.canvases.foldl (fun (s : State) x => s.modCanvas x.1 fun c => { c with
    shed := false, last := some (frameNow x.2.fps s.now) }) s

/-! Overlays (R450 to R452). -/

/-- An overlay image that was not fetched whole or whose CRC differs: INTEGRITY, its memory freed (R451). -/
def State.overlayBad (s : State) (i : Nat) (c : Canvas) (j : OverlayJob) : State :=
  let s := (s.freeBushel c.tenant j.bushels).modCanvas i fun c => { c with bushels := c.bushels - j.bushels }
  s.finishLong j.id stIntegrity (le 1 j.slot)

/-- A sound overlay image, or a clear slot, takes its slot at the next frame (R451, R452). -/
def State.overlayGood (s : State) (i : Nat) (c : Canvas) (j : OverlayJob) (img : List Byte) : State :=
  let k := frameAfter c.fps s.now
  let o := if j.addr = 0 then none else some (overlayOf j.w j.h j.premul c.ten img j.bushels)
  let same (p : Nat × Nat × Option Overlay) : Bool := p.1 == k && p.2.1 == j.slot
  let gone := sumOf (c.slotPend.filter same) fun p =>
    match p.2.2 with | some x => x.bushels | none => 0
  let s := (s.freeBushel c.tenant gone).modCanvas i fun c => { c with
    bushels := c.bushels - gone
    slotPend := (c.slotPend.filter fun p => !same p) ++ [(k, j.slot, o)] }
  s.finishLong j.id stDone (le 1 j.slot ++ le 7 k)

/-- OVERLAY_LOADED: the image of an OVERLAY_LOAD fetched from host memory and checked. -/
def execOverlayLoaded (t id : Nat) (image : List Byte) (fetchErr : Bool) (s : State) :
    Host.Outcome State Fault Refusal :=
  let s := s.advance t
  match s.vid.canvases.find? fun p => p.2.loading.any fun j => j.id == id with
  | none => .next s
  | some (i, c) =>
    match c.loading.find? fun j => j.id == id with
    | none => .next s
    | some j =>
      let s := s.modCanvas i fun c => { c with loading := c.loading.filter fun x => x.id != id }
      let img := padTo (4 * j.w * j.h) image
      .next (if j.addr ≠ 0 && (fetchErr || crc32c img != j.crc) then s.overlayBad i c j else s.overlayGood i c j img)

/-! Commands. -/

/-- Whether the parameters of CANVAS_CREATE are in range (R431). -/
def canvasFields (c : Cmd) : Bool :=
  c.rng 0 2 64 4096 && c.u 0 2 % 8 == 0 && c.rng 2 2 64 2304 && c.u 2 2 % 8 == 0 && c.rng 4 1 1 60 &&
    c.mask 5 1 3 && c.zero 6 2

/-- The canvas that CANVAS_CREATE describes, with the memory of its four buffers (R433). -/
def canvasNew (c : Cmd) (tenant conf now : Nat) : Canvas :=
  { tenant := tenant, conf := conf, w := c.u 0 2, h := c.u 2 2, fps := c.u 4 1, flags := c.u 5 1,
    bushels := 4 * pictureBushels (c.u 0 2) (c.u 2 2) (c.flag 5 1 1), key := 0, last := some (frameNow (c.u 4 1) now) }

/-- A canvas added, with a fresh key. -/
def State.addCanvas (s : State) (v : Canvas) : Nat × State :=
  let k := s.newKey
  let r := k.2.free
  let i := freeIndex (tkeys r.2.vid.canvases) 2048 r.1
  (i, (r.2.takeBushels v.tenant v.bushels).modVid fun x => { x with canvases := tset x.canvases i { v with key := k.1, shed := s.shedNow.2.1 } })

/-- CANVAS_CREATE (R431 to R433). -/
def bodyCanvasCreate : Body := fun _ c s =>
  let conf := hIdx c.obj
  if !canvasFields c then .fail s stBadParam else
  match s.conf conf with
  | none => .fail s stNoObject
  | some k =>
    if k.state = .closing then .fail s stWrongState else
    let v := canvasNew c k.tenant conf s.now
    if !s.compAdmits none (s.rate2 v []) then .fail s stCompOvercommit else
    if 2048 ≤ s.vid.canvases.length then .fail s stNoResource else
    if !s.bushelsFit k.tenant v.bushels then .fail (s.bushelRefused k.tenant v.bushels) stNoResource else
    let r := s.addCanvas v
    .ok r.2 (le 4 (canvasH r.1))

/-- Whether an encoder, or MIX_PAN_SET of a conference, names a canvas. -/
def State.canvasNamed (s : State) (i : Nat) : Bool :=
  let pans (m : MixSet) : Bool := m.panMode == 2 && m.canvas == canvasH i
  (s.vid.encs.any fun p => p.2.input == i) ||
  s.aud.mixes.any fun p => pans p.2.run || p.2.pends.any fun q => pans q.2

/-- A canvas removed: its passes and overlay loads end, its bushels are freed. -/
def State.canvasFree (s : State) (i : Nat) : State :=
  let s := s.dropPasses i
  match s.canvas i with
  | none => s
  | some c =>
    let s := (s.freeBushel c.tenant c.bushels).modVid fun v => { v with canvases := tdel v.canvases i }
    c.loading.foldl (fun (s : State) j => s.finishLong j.id stNoObject (le 1 j.slot)) s

/-- CANVAS_DELETE (R458, R464). -/
def bodyCanvasDelete : Body := fun _ c s =>
  let i := hIdx c.obj
  if s.canvasNamed i then .fail s stCanvasInUse else .ok (s.canvasFree i)

/-- The layers of a CANVAS_LAYOUT_SET. -/
def layoutOf (c : Cmd) : List Layer12 := (List.range (c.u 0 1)).map fun j => layerOf c j

/-- The status of CANVAS_LAYOUT_SET; 0 where the layout is sound (R440, R441, R432, R453). -/
def layoutSts (c : Cmd) (s : State) (v : Canvas) : Nat :=
  let layout := layoutOf c
  if !(c.rng 0 1 2 8 && c.zero 1 7 && (List.range (c.u 0 1)).all fun j => layerFields c j) then stBadParam else
  match (layout.map fun l => s.layerSource c.fn v l).find? fun r => r ≠ 0 with
  | some r => r
  | none =>
    if !layout.zipIdx.all fun x => s.layerValid v x.2 x.1 then stLayerInvalid else
    if !s.compAdmits (some (hIdx c.obj)) (s.rate2 v layout) then stCompOvercommit else
    if !v.guardsOk layout v.guardsNext then stGuardCovered else 0

/-- CANVAS_LAYOUT_SET (R440, R441, R432, R453). -/
def bodyCanvasLayoutSet : Body := fun _ c s =>
  let i := hIdx c.obj
  match s.canvas i with
  | none => .fail s stNoObject
  | some v =>
    let r := layoutSts c s v
    if r ≠ 0 then .fail s r else
    let k := frameAfter v.fps s.now
    .ok (s.modCanvas i fun v => { v with pend := (v.pend.filter fun p => p.1 != k) ++ [(k, layoutOf c)] }) (le 8 k)

/-- The status of OVERLAY_LOAD before its memory is taken; 0 where all is in order. -/
def overlaySts (c : Cmd) (s : State) (v : Canvas) : Nat :=
  let w := c.u 8 2
  let h := c.u 10 2
  let slot := c.u 12 1
  if !(c.u 0 8 % 8 == 0 && c.rng 8 2 2 4096 && w % 2 == 0 && c.rng 10 2 2 2304 && h % 2 == 0 && c.rng 12 1 0 7 &&
       c.mask 13 1 1 && c.zero 14 2 && c.zero 20 4) then stBadParam else
  if v.slotGuarded slot then stOverlayInUse else
  let blank : Overlay := { w := w, h := h, premul := false, pix := {}, a := [], ac := [], bushels := 0 }
  let after : Canvas := { v with slotPend := (v.slotPend.filter fun p => p.2.1 != slot) ++ [(0, slot, some blank)] }
  let whole (l : List Layer12) : Bool := l.any fun l => l.kind == 2 && l.src == slot && l.cw == 0 && l.ch == 0
  if c.u 0 8 != 0 && (whole v.layout || whole v.latest) &&
      !s.compAdmits (some (hIdx c.obj)) (max (s.rate2 after v.layout) (s.rate2 after v.latest)) then stCompOvercommit else 0

/-- The bushels of the image that OVERLAY_LOAD names: none where it clears the slot. -/
def overlayNeed (c : Cmd) : Nat := if c.u 0 8 == 0 then 0 else bushelsOf (c.u 8 2 * c.u 10 2 * 4)

/-- The fetch of an overlay begun. -/
def State.overlayBegin (s : State) (whom : ReplyTo) (c : Cmd) (v : Canvas) : State :=
  let r := (s.takeBushels v.tenant (overlayNeed c)).startLong whom 200 c.obj
  let job : OverlayJob := ⟨r.1, c.u 12 1, c.u 8 2, c.u 10 2, c.flag 13 1 0, c.u 0 8, c.u 16 4, overlayNeed c⟩
  r.2.modCanvas (hIdx c.obj) fun v => { v with loading := v.loading ++ [job], bushels := v.bushels + overlayNeed c }

/-- OVERLAY_LOAD (R450 to R452). -/
def bodyOverlayLoad : Body := fun whom c s =>
  let i := hIdx c.obj
  match s.canvas i with
  | none => .fail s stNoObject
  | some v =>
    if overlaySts c s v ≠ 0 then .fail s (overlaySts c s v) else
    let need := overlayNeed c
    if !s.bushelsFit v.tenant need then .fail (s.bushelRefused v.tenant need) stNoResource else
    .accepted (s.overlayBegin whom c v)

/-- The guard that GUARD_SET describes. -/
def guardOf (c : Cmd) : Guard :=
  { on := c.flag 1 1 0, locked := c.flag 1 1 1, blank := c.flag 1 1 2, layer := c.u 2 1, x := c.u 4 2, y := c.u 6 2,
    w := c.u 8 2, h := c.u 10 2, crc := c.u 12 4 }

/-- GUARD_SET (R453, R457). -/
def bodyGuardSet : Body := fun _ c s =>
  let i := hIdx c.obj
  match s.canvas i with
  | none => .fail s stNoObject
  | some v =>
    if c.fn ≠ 0 && c.fn ≠ v.tenant then .fail s stNoObject else
    if !(c.rng 0 1 0 3 && c.mask 1 1 7 && c.rng 2 1 1 7 && c.zero 3 1) then .fail s stBadParam else
    let n := c.u 0 1
    if c.flag 1 1 1 && c.fn ≠ 0 then .fail s stNotPermitted else
    if (v.guardsNext.getD n {}).locked && c.fn ≠ 0 then .fail s stGuardLocked else
    let g := guardOf c
    if !v.guardsOk v.latest (setAt v.guardsNext n g) then .fail s stGuardCovered else
    let k := frameAfter v.fps s.now
    .ok (s.modCanvas i fun v => { v with guardPend := (v.guardPend.filter fun p => !(p.1 == k && p.2.1 == n)) ++ [(k, n, g)] }) (le 8 k)

/-- A mask with a bit for each guard that passes a test. -/
def guardMask (gs : List Guard) (p : Guard → Bool) : Nat :=
  sumOf gs.zipIdx fun x => if p x.1 then 2 ^ x.2 else 0

/-- CANVAS_QUERY (Table 12-5). -/
def bodyCanvasQuery : Body := fun _ c s =>
  match s.canvas (hIdx c.obj) with
  | none => .fail s stNoObject
  | some v =>
    let pend := match v.pend with
      | (k, _) :: _ => k
      | [] => match v.guardPend with | (k, _) :: _ => k | [] => 0
    .ok s (le 2 v.w ++ le 2 v.h ++ le 1 v.fps ++ le 1 v.flags ++ le 1 v.layout.length ++ le 1 (b2n v.shed) ++
      le 8 v.published ++ le 8 pend ++ le 4 v.count ++ le 4 v.skipped ++ le 4 v.guardFails ++
      le 1 (guardMask v.guards fun g => g.on) ++ le 1 (guardMask v.guards fun g => g.on && g.failing) ++ zeros 2 ++
      le 4 v.bushels ++ zeros 4)

/-- COMP_STATS (Table 12-6). -/
def bodyCompStats : Body := fun _ _ s =>
  .ok s (le 4 (s.rates2 none / 2000000) ++ le 4 (s.capacity 4 2000) ++ le 4 (s.lastLoad 1) ++
    le 4 s.vid.canvases.length ++ le 4 (sumOf s.vid.canvases fun p => p.2.bushels) ++ le 4 s.vid.compHangs ++
    le 4 s.vid.compSkipped ++ zeros 4)

def execCanvasCreate (c : Cmd) (s : State) := runBelex 0x0A00 bodyCanvasCreate c s
def execCanvasDelete (c : Cmd) (s : State) := runBelex 0x0A01 bodyCanvasDelete c s
def execCanvasLayoutSet (c : Cmd) (s : State) := runBelex 0x0A02 bodyCanvasLayoutSet c s
def execOverlayLoad (c : Cmd) (s : State) := runBelex 0x0A03 bodyOverlayLoad c s
def execGuardSet (c : Cmd) (s : State) := runBelex 0x0A04 bodyGuardSet c s
def execCanvasQuery (c : Cmd) (s : State) := runBelex 0x0A05 bodyCanvasQuery c s
def execCompStats (c : Cmd) (s : State) := runBelex 0x0A10 bodyCompStats c s

end Sys2Proof.Machine
end

