-- ==== Sys2Proof/Machine/Packetize.lean ====
section
/-! DEFINITION. Packetization of a coded frame (R490): RFC 6184 and RFC 7798 with single NAL unit packets and fragmentation
units, and the AV1 RTP payload format with aggregated OBUs. The spec names these formats; their byte layouts are PRESUMED from
the RFCs. -/

namespace Sys2Proof.Machine

/-- A byte string cut into pieces of `n` bytes. -/
def chunks (n : Nat) : Nat → List Byte → List (List Byte)
  | 0, _ => []
  | fuel + 1, l => if l.isEmpty then [] else l.take n :: chunks n fuel (l.drop n)

/-- The fragments of a unit's bytes after its header: `head` stands before each, then a header byte with the start and end
bits and the unit's type. -/
def fragments (head : List Byte) (typ room : Nat) (body : List Byte) : List (List Byte) :=
  let l := chunks room body.length body
  l.zipIdx.map fun q =>
    head ++ le 1 ((if q.2 = 0 then 128 else 0) + (if q.2 + 1 = l.length then 64 else 0) + typ) ++ q.1

/-- The packets of a NAL unit of H.264 (RFC 6184: FU-A, type 28). -/
def nal264 (mtu : Nat) (u : List Byte) : List (List Byte) :=
  if u.length ≤ mtu then [u] else
  let b := (u.headD 0).toNat
  fragments (le 1 (b / 32 * 32 + 28)) (b % 32) (mtu - 2) (u.drop 1)

/-- The packets of a NAL unit of HEVC (RFC 7798: FU, type 49). -/
def nal265 (mtu : Nat) (u : List Byte) : List (List Byte) :=
  if u.length ≤ mtu then [u] else
  let b := (u.headD 0).toNat
  fragments (le 1 (b / 128 * 128 + 98 + b % 2) ++ (u.drop 1).take 1) (b / 2 % 64) (mtu - 3) (u.drop 2)

/-- A number as leb128. -/
def leb128 : Nat → Nat → List Byte
  | 0, _ => []
  | fuel + 1, n => if n < 128 then le 1 n else le 1 (n % 128 + 128) ++ leb128 fuel (n / 128)

/-- The packets of the OBUs of a frame: `cur` is the packet being filled, which continues an OBU when `z` holds; an OBU that
does not fit goes on in the next packet. The aggregation header holds Z, Y, and N for the first packet of a key frame. -/
def obuPackets (mtu : Nat) (key : Bool) : Nat → List (List Byte) → List Byte → Bool → Bool → List (List Byte)
  | 0, _, _, _, _ => []
  | fuel + 1, us, cur, z, first =>
    let out (y : Bool) (l : List Byte) : List Byte :=
      le 1 ((if z then 128 else 0) + (if y then 64 else 0) + (if first && key then 8 else 0)) ++ l
    match us with
    | [] => if cur.isEmpty then [] else [out false cur]
    | u :: rest =>
      let room := mtu - 1 - cur.length
      let whole := leb128 8 u.length ++ u
      if whole.length ≤ room then obuPackets mtu key fuel rest (cur ++ whole) z first
      else
        let m := room - (leb128 8 room).length
        if m = 0 then out false cur :: obuPackets mtu key fuel us [] false false
        else out true (cur ++ leb128 8 m ++ u.take m) :: obuPackets mtu key fuel (u.drop m :: rest) [] true false

/-- The payloads of the packets of a frame, by codec, each of at most `mtu` bytes (R490). -/
def packetize (codec mtu : Nat) (key : Bool) (units : List (List Byte)) : List (List Byte) :=
  match codec with
  | 18 => units.flatMap (nal264 mtu)
  | 17 => units.flatMap (nal265 mtu)
  | _ =>
    let n := units.foldl (fun (a : Nat) (u : List Byte) => a + 2 * u.length + 2) 2
    obuPackets mtu key n units [] false true

end Sys2Proof.Machine
end

