-- ==== Sys2Proof/Machine/SpliceSet.lean ====
section
/-! DEFINITION. What tiles are coded in: the spliced parameter set, the limit on motion vectors, reconstructions, the content
of a cell, and the units of a spliced picture (R499 to R501, R510, R511). -/

namespace Sys2Proof.Machine

/-- The settings of Table 14-2. Both codecs: one reference, which is the previous picture; translational motion only; nothing
crosses a tile's edge. -/
structure SpliceSet where
  /-- CTB or superblock, and the smallest coding block. -/
  block : Nat := 64
  minBlock : Nat
  /-- init_qp with slice_qp_delta 0, or base_q_idx; the row quantizer goes into the deltas of the blocks. -/
  baseQ : Nat
  sliceQpDelta : Nat := 0
  blockDeltas : Bool := true
  /-- cabac_init_flag, or primary_ref_frame PRIMARY_REF_NONE and disable_frame_end_update_cdf: each unit starts from the
  initial entropy state. -/
  cabacInit : Bool := false
  primaryRefNone : Bool
  cdfUpdateOff : Bool
  /-- In-loop filters: deblocking within the tile, never across tiles or slices; SAO or CDEF and loop restoration off. -/
  deblock : Bool
  acrossTiles : Bool := false
  acrossSlices : Bool := false
  sao : Bool := false
  restoration : Bool := false
  /-- Motion. -/
  refs : Nat := 1
  weighted : Bool := false
  temporalMv : Bool := false
  motionSwitchable : Bool := false
  intrabc : Bool := false
  /-- Steps of a motion vector per luma sample, and the samples that the interpolation filters read before and after. -/
  mvSteps : Nat
  lumaTaps : Nat × Nat := (3, 4)
  chromaTaps : Nat × Nat
  /-- transquant_bypass_enabled, or the segment whose q index is 0. -/
  bypass : Bool
  losslessSegment : Option Nat
deriving DecidableEq, Repr

/-- Table 14-2 by codec: 16 AV1, else HEVC. The steps of a motion vector and the chroma taps of HEVC are PRESUMED from the
video standards. -/
def spliceSet (codec : Nat) : SpliceSet :=
  if codec = 16 then
    { minBlock := 4, baseQ := 128, primaryRefNone := true, cdfUpdateOff := true, deblock := false, mvSteps := 8
      chromaTaps := (3, 4), bypass := false, losslessSegment := some 7 }
  else
    { minBlock := 8, baseQ := 26, primaryRefNone := false, cdfUpdateOff := false, deblock := true, mvSteps := 4
      chromaTaps := (1, 2), bypass := true, losslessSegment := none }

/-- The values of a set, as the engine writes them into every spliced picture. -/
def SpliceSet.values (x : SpliceSet) : List Nat :=
  [x.block, x.minBlock, x.baseQ, x.sliceQpDelta, b2n x.blockDeltas, b2n x.cabacInit, b2n x.primaryRefNone, b2n x.cdfUpdateOff,
   b2n x.deblock, b2n x.acrossTiles, b2n x.acrossSlices, b2n x.sao, b2n x.restoration, x.refs, b2n x.weighted,
   b2n x.temporalMv, b2n x.motionSwitchable, b2n x.intrabc, b2n x.bypass, x.losslessSegment.getD 255]

/-- The delta that carries a row's quantizer. -/
def SpliceSet.delta (x : SpliceSet) (q : Nat) : Int := (q : Int) - x.baseQ

/-! Blocks and motion (R500). -/

/-- Whether the samples that prediction reads in one direction lie at least `inset` samples inside an area of `size`: of a
block at `pos` with `len` samples, under a vector of `steps` per sample. -/
def readsInside (size inset steps : Nat) (taps : Nat × Nat) (pos len : Nat) (mv : Int) : Bool :=
  let lo : Int := (pos : Int) + mv / steps
  let frac := mv % steps != 0
  let first := if frac then lo - taps.1 else lo
  let last := lo + len - 1 + (if frac then (taps.2 : Int) else 0)
  decide ((inset : Int) ≤ first) && decide (last + inset < size)

/-- Whether a block may use its motion vector: every reference sample lies at least 4 luma and 2 chroma samples inside the
tile's own area (R500). -/
def blockInside (b : TileBlock) (x : SpliceSet) (w h : Nat) : Bool :=
  match b.mv with
  | none => true
  | some (u, v) =>
    readsInside w 4 x.mvSteps x.lumaTaps b.x b.w u && readsInside h 4 x.mvSteps x.lumaTaps b.y b.h v &&
    readsInside (w / 2) 2 (2 * x.mvSteps) x.chromaTaps (b.x / 2) (b.w / 2) u &&
    readsInside (h / 2) 2 (2 * x.mvSteps) x.chromaTaps (b.y / 2) (b.h / 2) v

/-- Whether a block is one of the set: its size, and its place in the tile. -/
def blockFits (b : TileBlock) (x : SpliceSet) (w h : Nat) : Bool :=
  decide (x.minBlock ≤ b.w) && decide (b.w ≤ x.block) && decide (x.minBlock ≤ b.h) && decide (b.h ≤ x.block) &&
    decide (b.x + b.w ≤ w) && decide (b.y + b.h ≤ h)

/-- Whether a tile frame is coded as the set allows (R495, R499 to R501): its payload is one unit; a start frame and a refresh
variant are intra, a refresh variant lossless besides, and no other block is. -/
def codedSuits (c : Coded) (codec w h : Nat) (intra lossless : Bool) : Bool :=
  let x := spliceSet codec
  c.units.length == 1 && c.blocks.all fun b =>
    blockFits b x w h && blockInside b x w h && (b.mv.isNone || !intra) && b.lossless == lossless

/-- The payload of a coded tile. -/
def codedPayload (c : Coded) : List Byte := c.units.headD []

/-- What a payload decodes to, given the tile's own area in the reference; the place in the picture does not enter it
(R499, R500). -/
def tileRecon (codec w h : Nat) (payload : List Byte) (ref : Pix) : Pix :=
  let plane (n : Nat) : List Nat := Config.tilePlane codec payload ref.y ref.cb ref.cr n
  { w := w, h := h, y := plane 0, cb := plane 1, cr := plane 2 }

/-- The frame of a tile that has been coded, with its reconstruction over that of the last coded frame; a start frame needs
none (R495). -/
def Tile.coding (x : Tile) (k : Nat) (start : Bool) (payload : List Byte) : TileCoded :=
  let ref : Pix := if start then {} else match x.store with | c :: _ => c.recon | [] => {}
  { k := k, payload := payload, recon := tileRecon x.rc.codec x.rc.w x.rc.h payload ref }

/-- The coded frame `k` of a tile. -/
def Tile.frameOf (x : Tile) (k : Nat) : Option TileCoded := x.store.find? fun c => c.k == k

/-! Cells and pictures (R510, R511). -/

/-- What a cell of picture `k` carries by row of Table 14-4: the tile payload where there is one. -/
def Tile.cellPayload (x : Tile) (k row : Nat) : List Byte :=
  let frame := match x.frameOf k with | some c => c.payload | none => []
  match row with
  | 3 => match x.variants.find? fun v => v.k == k && v.made with
    | some v => v.payload
    | none => frame
  | 8 => match x.variants.find? fun v => v.k == k && v.made && v.form == 0 with
    | some v => v.payload
    | none => []
  | _ => frame

/-- The area of a cell after picture `k`: a fill, what it held before, a normal variant decoded over what it held, or the
reconstruction of frame `k`, which a start frame and a refresh variant give bit for bit (R501). -/
def cellArea (x : Option Tile) (k row fill : Nat) (old : Option Area) : Area :=
  let before := old.getD (.flat fill)
  match row, x with
  | 0, _ | 2, _ | 4, _ | 10, _ => .flat fill
  | 3, some t | 5, some t | 8, some t => match t.frameOf k with | some c => .tile c.recon | none => before
  | 6, some t =>
    let ref : Pix := match before with | .tile p => p | .flat _ => {}
    .tile (tileRecon t.rc.codec t.rc.w t.rc.h (t.cellPayload k 6) ref)
  | _, _ => before

/-- The unit of a cell: a tile payload, a flat fill or a skip tile. -/
def cellUnit (codec : Nat) (x : Option Tile) (k row fill w h : Nat) : List Byte :=
  match row, x with
  | 3, some t | 5, some t | 6, some t | 8, some t => t.cellPayload k row
  | 0, _ | 2, _ | 4, _ | 10, _ => Config.spliceUnit codec 2 [w, h, fill]
  | _, _ => Config.spliceUnit codec 3 [w, h]

/-- The parts of a picture in coding order (R510). HEVC: the parameter sets (VPS, SPS and PPS in a key picture, a PPS in an
inter picture whose grid changes), then a slice for each cell, its header before the payload. AV1: the sequence header in a
key picture, then the frame with its tiles, the size before each but the last. `head` are the values of the picture: the choices
that the syntax leaves, size, frame rate and grid. -/
def pictureUnits (codec : Nat) (key regrid : Bool) (head : List Nat) (cells : List (List Byte)) : List (List Byte) :=
  let set := (spliceSet codec).values ++ head
  if codec = 16 then
    let tiles := cells.zipIdx.flatMap fun c => if c.2 + 1 = cells.length then c.1 else le 4 (c.1.length - 1) ++ c.1
    (if key then [Config.spliceUnit codec 0 (0 :: set)] else []) ++
      [Config.spliceUnit codec 1 (b2n key :: set) ++ tiles]
  else
    (if key then [Config.spliceUnit codec 0 (0 :: set), Config.spliceUnit codec 0 (1 :: set), Config.spliceUnit codec 0 (2 :: set)]
      else if regrid then [Config.spliceUnit codec 0 (2 :: set)] else []) ++
      cells.zipIdx.map fun c => Config.spliceUnit codec 1 (b2n key :: c.2 :: set) ++ c.1

end Sys2Proof.Machine
end

