-- ==== Sys2Proof/Machine/TileOps.lean ====
section
/-! DEFINITION. Shared operations on tiles: their frames from ready to coded, and their refresh variants (file 14 of
spec/). -/

namespace Sys2Proof.Machine

/-- Handle of a tile. -/
def tileH (i : Nat) : Nat := mkHandle 7 i

def State.tile (s : State) (i : Nat) : Option Tile := tget s.vid.tiles i

def State.modTile (s : State) (i : Nat) (f : Tile → Tile) : State :=
  s.modVid fun v => { v with tiles := tmod v.tiles i f }

/-- The size of a CLASS (Table 14-1). -/
def classSize : Nat → Nat × Nat
  | 0 => (320, 192) | 1 => (640, 384) | 2 => (1280, 768) | _ => (1920, 1088)

/-! The input stage (R494). -/

/-- The largest centred, even-aligned rectangle of a `w` × `h` frame that has the aspect ratio of `tw` × `th`; the whole frame
where it holds none. -/
def tileCrop (w h tw th : Nat) : Rect :=
  let g := Nat.gcd tw th
  let n := min (w / (tw / g)) (h / (th / g)) / 2 * 2
  if n = 0 then ⟨0, 0, w, h⟩ else
  let cw := n * (tw / g)
  let ch := n * (th / g)
  ⟨(w - cw) / 2 / 2 * 2, (h - ch) / 2 / 2 * 2, cw, ch⟩

/-- What the input stage makes of a source's frame: its crop scaled to the class size, in 8 bits (R444 to R446). -/
def tileInput (b : DecBuf) (w h : Nat) : Pix :=
  let c := tileCrop b.w b.h w h
  let plane (n : Nat) : List Nat :=
    let luma := n == 0
    let half (v : Nat) : Nat := if luma then v else v / 2
    (List.range (half h)).flatMap fun y => (List.range (half w)).map fun x =>
      toDepth (scaleAt luma (planeOf b.pix n) (half b.w) (if b.depth = 8 then 255 else 1023) (if luma then c else c.half)
        (half w) (half h) x y) b.depth false
  { w := w, h := h, y := plane 0, cb := plane 1, cr := plane 2 }

/-- The last frame coded before frame `k`. -/
def Tile.lastBefore (x : Tile) (k : Nat) : Option Nat := (x.coded.find? fun c => decide (c.1 < k)).map fun c => c.1

/-- Whether frame `k` has been coded, and whether as a start frame. -/
def Tile.codedAt (x : Tile) (k : Nat) : Option Bool := (x.coded.find? fun c => c.1 == k).map fun c => c.2

/-- Whether frame `k` is coded or known not to be coded (R509). -/
def Tile.settled (x : Tile) (k : Nat) : Bool :=
  (match x.seen with | some n => decide (k ≤ n) | none => false) &&
  (match x.wait with | some f => f.k != k | none => true) && (match x.run with | some f => f.k != k | none => true)

/-- Whether the variant of a form granted for frame `k` has been made. -/
def Tile.madeAt (x : Tile) (k form : Nat) : Bool := x.variants.any fun v => v.k == k && v.form == form && v.made

/-- Whether a variant granted for frame `k` is neither made nor lost. -/
def Tile.openAt (x : Tile) (k : Nat) : Bool := x.variants.any fun v => v.k == k && !v.made && !v.lost

/-- Event 222: the state of a tile. -/
def State.tileState (s : State) (i : Nat) (st : TileSt) (k : Nat) : State :=
  match s.tile i with
  | none => s
  | some x => if x.st = st then s else
    (s.modTile i fun x => { x with st := st }).raise 222 (tileH i) (le 1 st.code ++ le 8 k)

/-- Variants of a tile that are not made are lost, with event 223 (R505). -/
def State.variantLost (s : State) (i : Nat) (p : Variant → Bool) : State :=
  match s.tile i with
  | none => s
  | some x =>
    (x.variants.filter fun v => !v.made && !v.lost && p v).foldl (fun (s : State) v =>
      let s := (s.taskDrop v.task).modTile i fun x => { x with variants := x.variants.map fun u =>
        if u.k = v.k && u.form = v.form then { u with lost := true } else u }
      s.raise 223 (tileH i) (le 8 v.k ++ le 1 v.form)) s

/-- A tile frame that has not started is skipped, with its variants (R497, R505). -/
def State.tileSkip (s : State) (i : Nat) (f : TileFrame) (source : Nat) : State :=
  let s := (s.decRead source f.src false).modTile i fun x => { x with wait := none, skipped := x.skipped + 1 }
  let n := s.countIn 217 (tileH i) 1
  (n.2.raiseW 217 (tileH i) (le 4 n.1)).variantLost i fun v => v.k == f.k

/-- The next frame of a shed tile, which is not made: what has not started of the frames before it is dropped (R520, R693). -/
def State.tileShedNext (s : State) (i k : Nat) : State :=
  let s := s.variantLost i fun v => decide (v.k < k) && (s.unitOf v.task).isNone
  match s.tile i with
  | none => s
  | some x =>
    match x.wait with
    | some f => if f.k < k then (s.taskDrop f.task).tileSkip i f x.source else s
    | none => s

/-- The ready instant of tile frame `k` (R494, R495): variants of earlier frames that have not started are lost, a frame
that has not started gives way, and the source's output is taken, or the tile is WAITING. -/
def State.tileReady (s : State) (i k : Nat) : State :=
  match s.tile i with
  | none => s
  | some x =>
    if x.st = .shed then s.tileShedNext i k else
    if (match x.seen with | some n => decide (k ≤ n) | none => false) then s else
    let s := s.variantLost i fun v => decide (v.k < k) && (s.unitOf v.task).isNone
    let s := s.modTile i fun x => { x with
      seen := some k, variants := x.variants.filter fun v => decide (k ≤ v.k + 8) || (!v.made && !v.lost) }
    match s.sourceFrame x.source (frameAt x.rc.fps k) with
    | none =>
      let s := match x.wait with
        | some f => (s.taskDrop f.task).tileSkip i f x.source
        | none => s
      (s.tileState i .waiting k).modTile i fun x => { x with start := true, idle := (k :: x.idle).take 16 }
    | some b =>
      let s := s.tileState i .encoding k
      let s := s.decRead x.source b.num true
      let input := tileInput b x.rc.w x.rc.h
      match x.wait with
      | some f =>
        let s := (s.tileSkip i f x.source).modTile i fun x => { x with wait := some ⟨k, s.now, f.task, b.num, input⟩ }
        s.modTask f.task fun t => { t with readyDt := s.now, succ := [] }
      | none =>
        let t : Task := { st := .waiting, cls := 1, tenant := x.tenant, key := some x.key, reload := b2n x.run.isSome,
                          target := 4, work := .tile i, owner := tileH i }
        match s.newTask t with
        | (none, s) => s.tileSkip i ⟨k, s.now, 0xFFFFFFFF, b.num, input⟩ x.source
        | (some n, s) =>
          let s := match x.run with
            | some r => s.modTask r.task fun t => { t with succ := t.succ ++ [n] }
            | none => s
          s.modTile i fun x => { x with wait := some ⟨k, s.now, n, b.num, input⟩ }

/-- The frame of a tile that waits starts on an encoder (R495, R496). -/
def State.tileStart (s : State) (i : Nat) : State :=
  match s.tile i with
  | none => s
  | some x =>
    match x.wait, x.run with
    | some f, none =>
      let due (p : Nat × Nat) : Bool := decide (p.1 ≤ f.k)
      let rc := match (x.pend.filter due).getLast? with | some p => { x.rc with kbps := p.2 } | none => x.rc
      s.modTile i fun x => { x with
        rc := rc.start f.k x.start none 0 (if x.start then rc.blocks else 0), pend := x.pend.filter fun p => !due p
        start := false, wait := none, run := some f }
    | _, _ => s

/-- The frame of a tile has been coded (R496): its payload and reconstruction, its carry and weights, event 218, and what the
next frame is. -/
def State.tileDone (s : State) (i : Nat) (payload : List Byte) : State :=
  match s.tile i with
  | none => s
  | some x =>
    match x.run, x.rc.frame with
    | some f, some r =>
      let s := (s.decRead x.source f.src false).modTile i fun x => { x with
        rc := x.rc.finish s.now, run := none, coded := ((f.k, r.isKey) :: x.coded).take 16
        store := (x.coding f.k r.isKey payload :: x.store).take 16, frames := x.frames + 1
        start := x.start || (r.isKey && r.replaced.isSome) }
      let s := if r.exhausted.isSome then s.raiseW 218 (tileH i) (le 1 0 ++ le 8 f.k) else s
      if r.replaced.isSome then s.raiseW 218 (tileH i) (le 1 1 ++ le 8 f.k) else s
    | _, _ => s

/-- A refresh variant granted for frame `k`: its task follows that of the normal variant (R502, R503). -/
def State.grantVariant (s : State) (i k form : Nat) : State :=
  match s.tile i with
  | none => s
  | some x =>
    if x.variants.any fun v => v.k == k && v.form == form then s else
    let normal := match x.wait, x.run with
      | some f, r => if f.k = k then some f.task else (match r with | some g => if g.k = k then some g.task else none | none => none)
      | none, some g => if g.k = k then some g.task else none
      | none, none => none
    let t : Task := { st := .waiting, cls := 1, tenant := x.tenant, key := some x.key, reload := b2n normal.isSome,
                      target := 4, work := .variant i form, owner := tileH i }
    let s := s.modVid fun v => { v with granted := v.granted + 1 }
    match s.newTask t with
    | (none, s) =>
      (s.modTile i fun x => { x with variants := x.variants ++ [{ k := k, form := form, task := 0xFFFFFFFF, lost := true }] }).raise 223 (tileH i)
        (le 8 k ++ le 1 form)
    | (some n, s) =>
      let s := match normal with
        | some m => s.modTask m fun t => { t with succ := t.succ ++ [n] }
        | none => s
      s.modTile i fun x => { x with variants := x.variants ++ [{ k := k, form := form, task := n }] }

/-- Tiles shed in RIDETHROUGH: no further frame is made (R520, R693). -/
def State.tileShed (s : State) : State :=
  s.vid.tiles.foldl (fun (s : State) p => s.tileState p.1 .shed (frameAfter p.2.rc.fps s.now)) s

/-- Shed tiles on return to SERVICE: each resumes with a start frame (R520). -/
def State.tileResume (s : State) : State :=
  s.vid.tiles.foldl (fun (s : State) p =>
    if p.2.st = .shed then
      (s.modTile p.1 fun x => { x with start := true, seen := some (frameNow x.rc.fps s.now) }).tileState p.1 .waiting
        (frameAfter p.2.rc.fps s.now)
    else s) s

/-- A tile removed: its task, source marks and bushels freed. -/
def State.tileFree (s : State) (i : Nat) : State :=
  match s.tile i with
  | none => s
  | some x =>
    let rel (s : State) (f : Option TileFrame) : State :=
      match f with | some f => s.decRead x.source f.src false | none => s
    let s := rel (rel s x.wait) x.run
    ((s.dropOwned (tileH i)).freeBushel x.tenant x.bushels).modVid fun v => { v with tiles := tdel v.tiles i }

end Sys2Proof.Machine
end

