-- ==== Sys2Proof/Machine/Encode.lean ====
section
/-! DEFINITION. Video encoding: rows and frames coded, refresh timers, hangs, attachment, and the 0x0Bxx commands
(file 13 of spec/). Rows and frames of tiles are coded here as well. -/

namespace Sys2Proof.Machine

def stEncCodec : Nat := 0x8B00
def stEncOvercommit : Nat := 0x8B01
def stEncRateLow : Nat := 0x8B02
def stEncFlowBusy : Nat := 0x8B03

/-! Rows and frames. -/

/-- A row of an encode context coded: event 207 when the budget is exhausted by it (R477). -/
def State.encRow (s : State) (i bits repl : Nat) : State :=
  match s.enc i with
  | none => s
  | some e =>
    let rc := e.rc.row bits repl
    let s := s.modEnc i fun e => { e with rc := rc }
    match e.rc.frame, rc.frame with
    | some f, some g =>
      match f.exhausted, g.exhausted with
      | none, some r => s.raise 207 (encH i) (le 8 g.k ++ le 2 r ++ le 2 (g.rows.length - r))
      | _, _ => s
    | _, _ => s

/-- ENCODE_ROW_DONE: a block row of the frame in progress of a video output or tile has been coded in `bits`, and would
cost `repl` bits when replaced (R474, R475, R477, R478). -/
def execEncodeRowDone (t h bits repl : Nat) (s : State) : Host.Outcome State Fault Refusal :=
  let s := s.advance t
  if hType h = 5 then
    match s.enc (hIdx h) with
    | none => .next s
    | some e =>
      match e.run with
      | none => .next s
      | some (_, _, _, task, _) => if (s.unitOf task).isNone then .next s else .next (s.encRow (hIdx h) bits repl)
  else if hType h = 7 then
    match s.tile (hIdx h) with
    | none => .next s
    | some x =>
      match x.run with
      | none => .next s
      | some f => if (s.unitOf f.task).isNone then .next s else
          .next (s.modTile (hIdx h) fun x => { x with rc := x.rc.row bits repl })
  else .next s

/-- A coded frame packetized and sent on every attached flow that its key frame has begun (R488 to R490). -/
def State.encSend (s : State) (e : EncCtx) (f : RowFrame) (units : List (List Byte)) : State :=
  let pkts := packetize e.codec e.mtu f.isKey units
  let l : Layer := { t := f.layer, frame := f.k, key := f.isKey, tUp := e.codec == 17 && 0 < f.layer }
  (e.flows.filter fun x => x.2).foldl (fun (s : State) x =>
    match s.flow x.1 with
    | some fl => if s.legSends fl then s.sendPicture x.1 (frameAt e.rc.fps f.k) l pkts else s
    | none => s) s

/-- A late frame (R467): event 209 first per window, with the largest lateness. -/
def State.encLate (s : State) (i us : Nat) : State :=
  let w := windowOf s.now
  let s := s.modEnc i fun e => { e with
    late := e.late + 1, lateMax := (w, if e.lateMax.1 = w then max e.lateMax.2 us else us) }
  let s := s.modVid fun v => { v with encLate := v.encLate + 1 }
  let n := s.countIn 209 (encH i) 1
  n.2.raiseW 209 (encH i) (le 4 n.1 ++ le 4 (match s.enc i with | some e => e.lateMax.2 | none => us))

/-! What a frame is coded as (Table 13-1, R469, R481). The types of units are PRESUMED from the video standards. -/

/-- The type of a unit: OBU type, or NAL unit type. -/
def unitType (codec : Nat) (u : List Byte) : Nat :=
  let b := (u.headD 0).toNat
  match codec with | 16 => b / 8 % 16 | 17 => b / 2 % 64 | _ => b % 32

/-- Whether a unit type is that of a slice, or of a frame's one tile. -/
def isSlice (codec n : Nat) : Bool :=
  match codec with | 16 => n == 6 || n == 4 | 17 => decide (n < 32) | _ => decide (1 ≤ n) && decide (n ≤ 5)

/-- Whether a slice has the type that its frame gives it: IDR in a key frame, TSA above layer 0. -/
def sliceSuits (codec : Nat) (key : Bool) (layer n : Nat) : Bool :=
  match codec with
  | 16 => true
  | 17 => if key then n == 20 else if 0 < layer then n == 2 || n == 3 else n == 0 || n == 1
  | _ => if key then n == 5 else n == 1

/-- The parameter sets before a key frame, or its sequence header. -/
def keySets (codec : Nat) : List Nat := match codec with | 16 => [1] | 17 => [32, 33, 34] | _ => [7, 8]

/-- The unit type of the SEI that a sweep's first frame carries. -/
def seiType (codec : Nat) : Nat := if codec = 17 then 39 else 6

/-- Slices of a frame: one for each SLICE_ROWS block rows, else one (Table 13-1). -/
def EncCtx.slices (e : EncCtx) : Nat :=
  if e.codec = 16 || e.sliceRows = 0 then 1 else (e.rc.nRows + e.sliceRows - 1) / e.sliceRows

/-- Whether a block suits the frame of a sweep whose refreshed columns end at `left` and whose column ends at `right` (R481): a
block of the column is intra, and one of a refreshed column moves only inside those, 4 pixels from their end. -/
def sweepSuits (left right : Nat) (b : TileBlock) : Bool :=
  if b.x < left then
    match b.mv with
    | some (u, v) => (u == 0 && v == 0) || decide (4 * (b.x + b.w : Int) + u ≤ 4 * ((left : Int) - 4))
    | none => true
  else decide (right ≤ b.x) || b.mv.isNone

/-- Whether what a frame is coded as has the structure of Table 13-1, and of a gradual refresh while one is in progress (R470,
R481). -/
def EncCtx.suits (e : EncCtx) (f : RowFrame) (c : Coded) : Bool :=
  let types := c.units.map (unitType e.codec)
  let cut := types.filter (isSlice e.codec)
  let i := e.sweep - e.sweepLeft
  let left := i * (e.rc.blocks / e.sweep) * blockH e.codec
  let right := left + e.column i * blockH e.codec
  cut.length == e.slices && cut.all (sliceSuits e.codec f.isKey f.layer) &&
    (!f.isKey || (keySets e.codec).all types.contains) &&
    (if e.sweepLeft = 0 then c.blocks.all fun b => b.mv.isNone || !f.isKey
     else (e.sweepLeft != e.sweep || types.contains (seiType e.codec)) && c.blocks.all (sweepSuits left right))

/-- The frame of a video output is complete: its accounts, packets, and what waits for its end. -/
def State.encDone (s : State) (i : Nat) (units : List (List Byte)) : State :=
  match s.enc i with
  | none => s
  | some e =>
    match e.run, e.rc.frame with
    | some (k, taint, ready, task, _), some f =>
      let s := match s.unitOf task with | some u => s.unitGood u | none => s
      let s := (s.taskDone task).addLoad 2 (e.rc.w * e.rc.h)
      let s := s.modVid fun v => { v with taintedIn := v.taintedIn + b2n taint }
      let rc := e.rc.finish s.now
      let low := e.rc.maxWin.2 && decide (e.rc.maxWin.1 < windowOf s.now)
      let s := s.modEnc i fun e => { e with
        rc := rc, run := none, runPix := {}, coded := e.coded + 1
        lastAt := if f.isKey then [(0, k)] else tset e.lastAt f.layer k, pattern := e.pattern + 1, sweepLeft := e.sweepLeft - 1
        exhausted := e.exhausted + b2n f.exhausted.isSome, replaced := e.replaced + b2n f.replaced.isSome }
      let s := s.encSend e f units
      let s := match f.replaced with
        | some r => s.raise 208 (encH i) (le 8 k ++ le 2 r ++ le 4 f.sum)
        | none => s
      let s := if f.isKey && f.replaced.isSome then s.encAsk i 4 false else s
      let s := if low then s.raiseW 212 (encH i) (le 4 e.rc.kbps) else s
      let s := match lateMs e.prio with
        | some m => if ready + m * msU < s.now then s.encLate i ((s.now - ready - m * msU) / usU) else s
        | none => s
      let s := if e.leaving.isEmpty then s else s.encDetach i e.leaving k
      if e.delReply.isEmpty then s.encCovered i else s.encFree i
    | _, _ => s

/-- ENCODE_FRAME_DONE: the last row of a frame is done, with what it is coded as (R467 to R480, R490, R495, R499, R500). -/
def execEncodeFrameDone (t h : Nat) (coded : Coded) (s : State) : Host.Outcome State Fault Refusal :=
  let s := s.advance t
  if hType h = 5 then
    match s.enc (hIdx h) with
    | none => .next s
    | some e =>
      match e.run with
      | none => .next s
      | some (_, _, _, task, _) =>
        if (s.unitOf task).isNone || !e.rc.rowsDone || !(e.rc.frame.any fun f => e.suits f coded) then .next s
        else .next (s.encDone (hIdx h) coded.units)
  else if hType h = 7 then
    match s.tile (hIdx h) with
    | none => .next s
    | some x =>
      match x.run with
      | none => .next s
      | some f =>
        match s.unitOf f.task with
        | none => .next s
        | some u =>
          let key := match x.rc.frame with | some r => r.isKey | none => false
          if !x.rc.rowsDone || !codedSuits coded x.rc.codec x.rc.w x.rc.h key false then .next s else
          .next ((((s.unitGood u).taskDone f.task).addLoad 2 (x.rc.w * x.rc.h)).tileDone (hIdx h) (codedPayload coded))
  else .next s

/-- The task an encoder has for a handle, with the time of its frame in ns as far as known: of a video output, of a
tile's frame, or of a tile's refresh variant (R486, R502). -/
def State.encTask (s : State) (h bits : Nat) : Option (Nat × Nat) :=
  let on (task : Nat) : Bool := (s.unitOf task).isSome
  match hType h with
  | 5 => (s.enc (hIdx h)).bind fun e => match e.run with
    | some (_, _, _, task, _) => if on task then some (task, max e.rc.time bits) else none
    | none => none
  | 7 => (s.tile (hIdx h)).bind fun x =>
    match x.run with
    | some f => if on f.task then some (f.task, max x.rc.time bits) else none
    | none => (x.variants.find? fun v => !v.made && on v.task).map fun v => (v.task, max (x.rc.w * x.rc.h) bits)
  | _ => none

/-- A hung encoder reset, or retired, with event 213, its frame to be coded again (R486). -/
def State.encHang (s : State) (unit h task : Nat) : State :=
  let r := s.unitHang unit task
  let s := r.2.modVid fun v => { v with encHangs := v.encHangs + 1 }
  let s := if hType h = 5 then s.modEnc (hIdx h) fun e => { e with rc := e.rc.again }
    else s.modTile (hIdx h) fun x => { x with rc := x.rc.again }
  s.raise 213 (mkHandle 12 (unit / 16)) (le 2 unit ++ le 2 (hIdx h) ++ le 1 (b2n r.1))

/-- ENCODER_HANG: the encoder of a frame has passed 4 times its time plus 100 µs, `bits` being coded so far; the frame is
coded again from its input and saved context (R486). -/
def execEncoderHang (t h bits : Nat) (s : State) : Host.Outcome State Fault Refusal :=
  let s := s.advance t
  match s.encTask h bits with
  | none => .next s
  | some (task, ns) =>
    match s.unitOf task, tget s.disp.tasks task with
    | some unit, some k =>
      if s.now ≤ k.startDt + 4 * ns * nsU + 100 * usU then .next s else
      .next (s.encHang unit h task)
    | _, _ => .next s

/-! Refresh timers (R482, R483). -/

/-- REFRESH_DEFER_EXPIRY: REFRESH_MIN has passed since a context's last refresh; the deferred requests are to be
served. -/
def execRefreshDeferExpiry (t ctx : Nat) (s : State) : Host.Outcome State Fault Refusal :=
  let s := s.advance t
  match s.enc ctx with
  | none => .next s
  | some e =>
    match e.lastRefresh with
    | none => .next s
    | some r =>
      if s.now < r + refreshMin || e.deferred.isEmpty then .next s else
      let keep := e.deferred.filter fun a => a.2 || e.sweepLeft == 0
      .next (s.modEnc ctx fun e => { e with asks := e.asks ++ keep, deferred := [] })

/-- KEY_S_EXPIRY: KEY_S seconds have passed since a context's last key frame. -/
def execKeySExpiry (t ctx : Nat) (s : State) : Host.Outcome State Fault Refusal :=
  let s := s.advance t
  match s.enc ctx with
  | none => .next s
  | some e =>
    if e.keyS = 0 || e.st != .encoding || s.now < e.lastKey + e.keyS * secU ||
      (e.asks ++ e.deferred).any (fun a => a.1 == 6) then .next s
    else .next (s.encAsk ctx 6 false)

/-! Commands. -/

/-- Whether a codec and profile carry a canvas of 8 or 10 bits (R460, Table 13-1). -/
def encCarries (codec profile : Nat) (ten : Bool) : Bool :=
  match codec, profile with
  | 16, 0 => true
  | 17, 0 => !ten
  | 17, 1 => true
  | 18, p => decide (p ≤ 2) && !ten
  | _, _ => false

/-- Q_MIN and Q_MAX: both 0 select the defaults; else they lie in the codec's range, in order. -/
def encQ (codec qMin qMax : Nat) : Option (Nat × Nat) :=
  if qMin = 0 && qMax = 0 then some (qDefault codec)
  else if qMin ≤ qMax && qMax ≤ (if codec = 16 then 255 else 51) then some (qMin, qMax) else none

/-- Whether the parameters of ENC_CREATE are in range (Table 13-5). -/
def encFields (c : Cmd) : Bool :=
  let codec := c.u 4 1
  c.rng 6 1 0 2 && c.mask 7 1 1 && c.rng0 8 1 1 4 && c.rng0 9 1 1 3 && (codec != 18 || c.dflt 9 1 1 == 1) &&
    (codec != 16 || (c.zero 10 2 && !c.flag 7 1 0)) && c.rng 12 4 30 50000 && c.zero 16 1 && c.rng0 17 1 1 8 &&
    c.rng0 20 2 1 3600 && c.rng0 22 2 600 8800 && c.rng0 24 1 2 60 && c.zero 25 1 && c.rng0 26 2 100 400 &&
    c.zero 28 4 && (encQ codec (c.u 18 1) (c.u 19 1)).isSome

/-- The rate controller that ENC_CREATE describes for a canvas. -/
def encRc (c : Cmd) (v : Canvas) (now : Nat) : RateCtl :=
  let q := (encQ (c.u 4 1) (c.u 18 1) (c.u 19 1)).getD (0, 0)
  { codec := c.u 4 1, w := v.w, h := v.h, fps := v.fps, div := c.dflt 8 1 1, kbps := c.u 12 4, cap := c.dflt 26 2 125,
    keyX := c.dflt 17 1 4, qMin := q.1, qMax := q.2, maxWin := (windowOf now, false) }

/-- The context that ENC_CREATE describes, with the memory it takes. -/
def encOf (c : Cmd) (k : Conf) (v : Canvas) (now : Nat) : EncCtx :=
  let rc := encRc c v now
  { tenant := k.tenant, conf := hIdx c.obj, input := hIdx (c.u 0 4), codec := c.u 4 1, profile := c.u 5 1,
    prio := c.u 6 1, mode1 := c.flag 7 1 0, div := rc.div, tlayers := c.dflt 9 1 1, sliceRows := c.u 10 2,
    keyS := c.u 20 2, mtu := c.dflt 22 2 1200, sweep := c.dflt 24 1 10, rc := rc,
    pics := 3 * pictureBushels v.w v.h v.ten, bushels := 3 * pictureBushels v.w v.h v.ten + rc.bitBushels, key := 0,
    lastKey := now }

/-- The status of ENC_CREATE before its memory is taken; 0 where all is in order. -/
def encCreateSts (c : Cmd) (s : State) (k : Conf) (v : Canvas) : Nat :=
  if !encFields c then stBadParam else
  if k.state = .closing then stWrongState else
  if !encCarries (c.u 4 1) (c.u 5 1) v.ten then stEncCodec else
  let rc := encRc c v s.now
  if c.u 6 1 < 2 && !s.encAdmits rc.rate12 then stEncOvercommit else
  if !rc.covers then stEncRateLow else
  if 4096 ≤ s.vid.encs.length then stNoResource else 0

/-- A context added, with a fresh key; one that the present shedding covers is shed. -/
def State.addEnc (s : State) (e : EncCtx) : Nat × State :=
  let k := s.newKey
  let r := k.2.free
  let i := freeIndex (tkeys r.2.vid.encs) 4096 r.1
  (i, ((r.2.takeBushels e.tenant e.bushels).modVid fun x => { x with encs := tset x.encs i { e with key := k.1 } }).encCovered i)

/-- ENC_CREATE (R459 to R463). -/
def bodyEncCreate : Body := fun _ c s =>
  let conf := hIdx c.obj
  let h := c.u 0 4
  let r := checkHandle s c.fn false [6] h
  if r ≠ 0 then .fail s r else
  if s.confOf h ≠ some conf then .fail s stNoObject else
  match s.canvas (hIdx h), s.conf conf with
  | some v, some k =>
    if encCreateSts c s k v ≠ 0 then .fail s (encCreateSts c s k v) else
    let e := encOf c k v s.now
    if !s.bushelsFit k.tenant e.bushels then .fail (s.bushelRefused k.tenant e.bushels) stNoResource else
    let r := s.addEnc e
    .ok r.2 (le 4 (encH r.1))
  | _, _ => .fail s stNoObject

/-- What a delete of a context with a frame in progress leaves: no further frame, and the reply that waits (R464). -/
def State.encDeleteLater (s : State) (i : Nat) (e : EncCtx) (whom : ReplyTo) : State :=
  let s := match e.wait with | some (_, _, _, task) => s.taskDrop task | none => s
  s.modEnc i fun e => { e with wait := none, delReply := e.delReply ++ [whom] }

/-- ENC_DELETE (R464): the flows are detached after the last packet of the frame in progress, which the reply waits for. -/
def bodyEncDelete : Body := fun whom c s =>
  let i := hIdx c.obj
  match s.enc i with
  | none => .fail s stNoObject
  | some e => if e.run.isNone then .ok (s.encFree i) else .wait (s.encDeleteLater i e whom)

/-- Whether the parameters of ENC_SET are in range for a context. -/
def encSetFields (c : Cmd) (e : EncCtx) : Bool :=
  (encQ e.codec (c.u 6 1) (c.u 7 1)).isSome && c.rng 0 4 30 50000 && c.zero 4 1 && c.rng 5 1 0 2 &&
    c.rng0 8 2 1 3600 && c.mask 10 1 1 && (e.codec != 16 || !c.flag 10 1 0) && c.zero 11 1 && c.rng0 12 2 100 400 &&
    c.zero 14 2

/-- The rate controller of a context with the rate of ENC_SET. -/
def encSetRc (c : Cmd) (e : EncCtx) : RateCtl := { e.rc with kbps := c.u 0 4, cap := c.dflt 12 2 125 }

/-- The bushels that ENC_SET takes: those of larger bitstream buffers. -/
def encSetNeed (c : Cmd) (e : EncCtx) : Nat := (encSetRc c e).bitBushels - (e.bushels - e.pics)

/-- ENC_SET taken by a context that is shed, and codes nothing: a new priority can be one that is not shed. -/
def State.encTakeSet (s : State) (i : Nat) : State :=
  let s := s.modEnc i EncCtx.takeSet
  match s.enc i with
  | some e => if shedPrio s.shedNow e.prio then s else s.encReturn i e
  | none => s

/-- The settings of ENC_SET held for the next frame that starts, with the bushels it takes (R473, R492). -/
def State.encSet (s : State) (i : Nat) (c : Cmd) (e : EncCtx) : State :=
  let need := encSetNeed c e
  let q := (encQ e.codec (c.u 6 1) (c.u 7 1)).getD (0, 0)
  let s := if need = 0 then s else s.takeBushels e.tenant need
  let p : EncSet := ⟨c.u 0 4, c.u 5 1, q.1, q.2, c.u 8 2, c.flag 10 1 0, c.dflt 12 2 125⟩
  let s := s.modEnc i fun e => { e with pend := some p, bushels := e.bushels + need }
  if e.st = .shed then s.encTakeSet i else s

/-- ENC_SET (R473, R492). -/
def bodyEncSet : Body := fun _ c s =>
  let i := hIdx c.obj
  match s.enc i with
  | none => .fail s stNoObject
  | some e =>
    if !encSetFields c e then .fail s stBadParam else
    if c.u 5 1 < 2 && !e.counted && !s.encAdmits e.rc.rate12 then .fail s stEncOvercommit else
    if !(encSetRc c e).covers then .fail s stEncRateLow else
    let need := encSetNeed c e
    if !s.bushelsFit e.tenant need then .fail (s.bushelRefused e.tenant need) stNoResource else
    .ok (s.encSet i c e) (le 8 (s.encNextFrame e))

/-- The send flow that ENC_ATTACH or ENC_DETACH names: a KIND 2 send flow of a leg of the conference. -/
def State.outputFlow (s : State) (fn conf h : Nat) : Nat :=
  let r := checkParam s fn [3] h
  if r ≠ 0 then r
  else if s.confOf h ≠ some conf then stNoObject
  else match s.flow (hIdx h) with
    | some f => if f.kind = 2 && f.dir = 2 then 0 else stBadParam
    | none => stNoObject

/-- The status of ENC_ATTACH; 0 where all is in order. -/
def encAttachSts (s : State) (e : EncCtx) (f : Flow) : Nat :=
  if bit f.flags 2 then stNotPermitted else
  if f.prof.codec ≠ e.codec then stEncCodec else
  if f.fwd.bound || f.outCtx ≠ 0 then stEncFlowBusy else
  if 4096 ≤ e.flows.length then stNoResource else
  if s.trust.rngFailed then stBusy else 0

/-- A flow attached to a context: its timestamps from a random base on, and a key frame asked for (R488). -/
def State.encAttach (s : State) (i n : Nat) : State :=
  let r := s.free
  let s := r.2.modFlow n fun f => { f with outCtx := encH i, tsBase := r.1 % 2 ^ 32 }
  (s.modEnc i fun e => { e with flows := e.flows ++ [(n, false)] }).encAsk i 2 true

/-- ENC_ATTACH (R488). -/
def bodyEncAttach : Body := fun _ c s =>
  let i := hIdx c.obj
  match s.enc i with
  | none => .fail s stNoObject
  | some e =>
    let r := s.outputFlow c.fn e.conf (c.u 0 4)
    if r ≠ 0 then .fail s r else
    if !c.zero 4 4 then .fail s stBadParam else
    let n := hIdx (c.u 0 4)
    match s.flow n with
    | none => .fail s stNoObject
    | some f =>
      if encAttachSts s e f ≠ 0 then .fail s (encAttachSts s e f) else
      .ok (s.encAttach i n) (le 8 (s.refreshFrame e))

/-- A flow leaves its context: after the frame in progress, or at once (R491). -/
def State.encLeave (s : State) (i n : Nat) (e : EncCtx) : State :=
  if e.run.isSome then s.modEnc i fun e => { e with leaving := e.leaving ++ [n] }
  else s.encDetach i [n] (frameAfter e.rc.fps s.now)

/-- ENC_DETACH (R491). A flow that is not attached to the context gives WRONG_STATE. -/
def bodyEncDetach : Body := fun _ c s =>
  let i := hIdx c.obj
  match s.enc i with
  | none => .fail s stNoObject
  | some e =>
    let r := s.outputFlow c.fn e.conf (c.u 0 4)
    if r ≠ 0 then .fail s r else
    if !c.zero 4 4 then .fail s stBadParam else
    let n := hIdx (c.u 0 4)
    if !e.flows.any fun f => f.1 == n then .fail s stWrongState else .ok (s.encLeave i n e)

/-- The frame with which ENC_REFRESH's refresh starts: that of a gradual refresh in progress, unless a key frame is
asked for (R482, R483). -/
def State.refreshReply (s : State) (e : EncCtx) (key : Bool) : Nat :=
  if 0 < e.sweepLeft && !key then (match e.run with | some (k, _) => k | none => s.refreshFrame e)
  else s.refreshFrame e

/-- ENC_REFRESH (R482, R483). -/
def bodyEncRefresh : Body := fun _ c s =>
  let i := hIdx c.obj
  if !c.mask 0 4 1 then .fail s stBadParam else
  match s.enc i with
  | none => .fail s stNoObject
  | some e => .ok (s.encAsk i 3 (c.flag 0 4 0)) (le 8 (s.refreshReply e (c.flag 0 4 0)))

/-- ENC_QUERY (Table 13-7). -/
def bodyEncQuery : Body := fun _ c s =>
  match s.enc (hIdx c.obj) with
  | none => .fail s stNoObject
  | some e =>
    .ok s (le 1 e.st.code ++ le 1 e.codec ++ le 1 e.profile ++ le 1 e.prio ++ le 4 (mkHandle 6 e.input) ++ le 2 e.rc.w ++
      le 2 e.rc.h ++ le 1 e.rc.qLast ++ zeros 1 ++ le 2 e.flows.length ++ le 4 e.coded ++ le 4 e.refreshes ++
      le 4 e.exhausted ++ le 4 e.replaced ++ le 4 e.late ++ le 4 e.skipped ++ le 4 e.rc.carry ++ le 4 e.rc.lastBits)

/-- ENC_STATS (Table 13-8). -/
def bodyEncStats : Body := fun _ _ s =>
  .ok s (le 4 (s.encRates12 / 12000000) ++ le 4 (s.capacity 3 1000) ++ le 4 (s.lastLoad 2) ++ le 4 s.vid.encs.length ++
    le 4 (sumOf s.vid.encs fun p => p.2.bushels) ++ le 4 s.vid.encHangs ++ le 4 s.vid.encLate ++ le 4 s.vid.taintedIn)

def execEncCreate (c : Cmd) (s : State) := runBelex 0x0B00 bodyEncCreate c s
def execEncDelete (c : Cmd) (s : State) := runBelex 0x0B01 bodyEncDelete c s
def execEncSet (c : Cmd) (s : State) := runBelex 0x0B02 bodyEncSet c s
def execEncAttach (c : Cmd) (s : State) := runBelex 0x0B03 bodyEncAttach c s
def execEncDetach (c : Cmd) (s : State) := runBelex 0x0B04 bodyEncDetach c s
def execEncRefresh (c : Cmd) (s : State) := runBelex 0x0B05 bodyEncRefresh c s
def execEncQuery (c : Cmd) (s : State) := runBelex 0x0B06 bodyEncQuery c s
def execEncStats (c : Cmd) (s : State) := runBelex 0x0B10 bodyEncStats c s

end Sys2Proof.Machine
end

