-- ==== Sys2Proof/Machine/Splice.lean ====
section
/-! DEFINITION. Spliced composition: the tile pool, refresh allocation, spliced outputs and the 0x0Cxx commands (file
14 of spec/). -/

namespace Sys2Proof.Machine

def stSpliceCodec : Nat := 0x8C00
def stTileExists : Nat := 0x8C01
def stGridInvalid : Nat := 0x8C02
def stCellMismatch : Nat := 0x8C03
def stSpliceOvercommit : Nat := 0x8C04
def stTileInUse : Nat := 0x8C05
def stSpliceFlowBusy : Nat := 0x8C06

def State.splice (s : State) (flow : Nat) : Option Splice := tget s.vid.splices flow

def State.modSplice (s : State) (flow : Nat) (f : Splice → Splice) : State :=
  s.modVid fun v => { v with splices := tmod v.splices flow f }

/-! Ladders and levels (R493, R515 to R517). -/

/-- Whether two tiles are of one ladder. -/
def sameLadder (a b : Tile) : Bool :=
  a.source == b.source && a.cls == b.cls && a.rc.codec == b.rc.codec && a.rc.fps == b.rc.fps

/-- RATE_KBPS as last set. -/
def Tile.kbps (x : Tile) : Nat := match x.pend.getLast? with | some (_, r) => r | none => x.rc.kbps

/-- The tile that a cell naming tile `t` shows at level `l`: of its ladder the largest RUNG at most `l`, else the
smallest (R515). -/
def State.rungTile (s : State) (t l : Nat) : Nat :=
  match s.tile t with
  | none => t
  | some x =>
    let all := s.vid.tiles.filter fun p => sameLadder p.2 x
    let up := sortBy (fun a b => decide (a.2.rung < b.2.rung)) all
    match (up.filter fun p => decide (p.2.rung ≤ l)).getLast?, up.head? with
    | some p, _ => p.1
    | none, some p => p.1
    | none, none => t

/-- The layout an output will have. -/
def Splice.latest (o : Splice) : Option Grid :=
  match o.atomic with
  | some a => a.grid.orElse fun _ => o.grid
  | none => o.grid

/-- The rate of a level in kbit/s, over the layout in force, or over the first one while none is. -/
def State.levelRate (s : State) (o : Splice) (l : Nat) : Nat :=
  match o.grid.orElse fun _ => o.latest with
  | none => 0
  | some g => sumOf g.cells fun c => match c with
    | some t => (match s.tile (s.rungTile t l) with | some x => x.rc.kbps | none => 0)
    | none => 0

/-! Grids (R507, R508). -/

/-- The rectangles of a grid's cells, row by row. -/
def Grid.rects (g : Grid) : List (Nat × Nat × Nat × Nat) :=
  g.rows.zipIdx.flatMap fun r => g.cols.zipIdx.map fun c =>
    (64 * sumOf (g.cols.take c.2) id, 64 * sumOf (g.rows.take r.2) id, 64 * c.1, 64 * r.1)

/-- The size of a grid's picture. -/
def Grid.size (g : Grid) : Nat × Nat := (64 * sumOf g.cols id, 64 * sumOf g.rows id)

/-- Placed cells per second of an output. -/
def Splice.cellRate (o : Splice) : Nat := match o.latest with | some g => g.cells.length * o.fps | none => 0

/-- The history of a rectangle. -/
def Splice.hist (o : Splice) (r : Nat × Nat × Nat × Nat) : Option CellHist := o.cells.find? fun h => h.rect == r

/-! Refreshes (R503 to R505, R512, R513). -/

/-- The form of a refresh in a key picture (Table 14-3). -/
def keyForm (codec : Nat) : Nat := if codec = 16 then 1 else 0

/-- Whether the next frame of a tile is a start frame. -/
def Tile.starts (x : Tile) : Bool := x.start || (match x.rc.frame with | some f => f.isKey && f.replaced.isSome | none => false)

/-- Whether a cell holds a tile's last coded frame before frame `k` (R511). -/
def Tile.clean (x : Tile) (h : CellHist) (i k : Nat) : Bool := h.tile == some i && x.lastBefore k == some h.last

/-- Whether an atomic request needs a key picture (R512). -/
def Splice.needsKey (o : Splice) (a : Atomic) (g : Grid) : Bool := o.frame.isNone || a.fir || g.size != o.size

/-- The refreshes an atomic request needs at frame `k`, as tile and form, in cell order; `start` says which tiles' frame
`k` is a start frame. The truth value says that one of them cannot be made. -/
def State.atomicNeeds (s : State) (o : Splice) (a : Atomic) (k : Nat) (start : Tile → Bool) : List (Nat × Nat) × Bool :=
  match a.grid.orElse fun _ => o.grid with
  | none => ([], false)
  | some g =>
    let key := o.needsKey a g
    let at_ := o.next.getD k
    let need (c : (Nat × Nat × Nat × Nat) × Option Nat) : Option ((Nat × Nat) × Bool) :=
      match c.2 with
      | none => none
      | some t =>
        let w := s.rungTile t o.level
        match s.tile w with
        | none => none
        | some x =>
          if x.idle.contains k then none
          else if key then (if start x then (if o.codec = 16 then some ((w, 1), true) else none)
            else some ((w, keyForm o.codec), false))
          else if start x || (match o.hist c.1 with | some h => x.clean h w at_ | none => false) then none
          else some ((w, 0), false)
    let l := (g.rects.zip g.cells).filterMap need
    ((l.map fun x => x.1).eraseDups, l.any fun x => x.2)

/-- Whether a variant of a form has been granted for frame `k`. -/
def State.grantedAt (s : State) (k : Nat) (x : Nat × Nat) : Bool :=
  match s.tile x.1 with | some y => y.variants.any fun v => v.k == k && v.form == x.2 | none => false

/-- What the allocator has at hand: the state, the refreshes left, and the requests deferred. -/
structure Alloc where
  st : State
  left : Nat
  deferred : Nat

/-- Refreshes granted in order while the limit has room. -/
def Alloc.grant (a : Alloc) (k : Nat) (l : List (Nat × Nat)) : Alloc :=
  l.foldl (fun a x =>
    if a.st.grantedAt k x then a
    else if 0 < a.left then { a with st := a.st.grantVariant x.1 k x.2, left := a.left - 1 } else a) a

/-- A single-cell request served (R504). -/
def Alloc.single (a : Alloc) (k tile : Nat) : Alloc :=
  match a.st.tile tile with
  | none => a
  | some x => if x.idle.contains k || x.starts then a else a.grant k [(tile, 0)]

/-- An atomic request served, deferred, or served in fallback after four deferred frames (R504, R513). -/
def Alloc.atomic (a : Alloc) (k flow : Nat) : Alloc :=
  match a.st.splice flow with
  | none => a
  | some o =>
    match o.atomic with
    | none => a
    | some r =>
      if k < r.eff || r.granted.isSome then a else
      let (need, never) := a.st.atomicNeeds o r k Tile.starts
      let cost := countOf need fun x => !a.st.grantedAt k x
      let give (a : Alloc) (fallback : Bool) : Alloc :=
        let b := a.grant k need
        { b with st := b.st.modSplice flow fun o => { o with
          next := some (o.next.getD k), atomic := o.atomic.map fun r => { r with granted := some (k, fallback) } } }
      if 4 ≤ r.deferred then give a true
      else if !never && cost ≤ a.left then give a false
      else
        let s := a.st.modSplice flow fun o => { o with
          atomic := o.atomic.map fun r => { r with deferred := r.deferred + 1 } }
        { a with st := s.modVid fun v => { v with deferred := v.deferred + 1 }, deferred := a.deferred + 1 }

/-- The pending requests of the outputs of a frame rate, oldest first, ties to the lower flow index: flow, and the tile
wanted by a cell or nothing for an atomic request. -/
def State.requests (s : State) (fps : Nat) : List (Nat × Nat × Option Nat) :=
  let outs := s.vid.splices.filter fun p => p.2.fps == fps && !p.2.shed
  let all := outs.flatMap fun p =>
    (match p.2.atomic with | some a => [(a.since, p.1, none)] | none => []) ++
    p.2.cells.filterMap fun h => h.ask.map fun q => (q.2, p.1, some q.1)
  sortBy (fun a b => decide (a.1 < b.1) || (a.1 == b.1 && decide (a.2.1 < b.2.1))) all

/-- The tile frames `k` of a frame rate made ready, and refresh variants granted to the requests, oldest first, within an
eighth of the tiles (R503, R504). -/
def State.allocate (s : State) (fps k : Nat) : State :=
  let s := s.modVid fun v => { v with alloc := tset v.alloc fps k }
  let ids := (s.vid.tiles.filter fun p => p.2.rc.fps == fps).map fun p => p.1
  let s := ids.foldl (fun (s : State) i => s.tileReady i k) s
  let n := countOf s.vid.tiles fun p => p.2.rc.fps == fps && p.2.st == .encoding
  let a := (s.requests fps).foldl (fun (a : Alloc) q =>
    match q.2.2 with
    | some tile => a.single k tile
    | none => a.atomic k q.2.1) ⟨s, max 1 (n / 8), 0⟩
  if a.deferred = 0 then a.st else a.st.raiseWK 216 fps 0 (le 1 fps ++ le 4 a.deferred)

/-- REFRESH_ALLOCATE: the ready instant of the tile frames of a frame rate, and the grant of their refresh variants
(R494, R495, R503 to R505, R513). -/
def execRefreshAllocate (t fps : Nat) (s : State) : Host.Outcome State Fault Refusal :=
  let s := s.advance t
  if fps = 0 || 60 < fps then .next s else
  let k := frameNow fps s.now
  if (match tget s.vid.alloc fps with | some n => decide (k ≤ n) | none => false) then .next s else
  .next (s.allocate fps k)

/-- The refresh variant of a tile in a form is made (R501). -/
def State.variantMade (s : State) (tile form : Nat) (payload : List Byte) (x : Tile) (v : Variant) : State :=
  let s := match s.unitOf v.task with | some u => s.unitGood u | none => s
  let s := (s.taskDone v.task).addLoad 2 (x.rc.w * x.rc.h)
  s.modTile tile fun x => { x with
    refreshes := x.refreshes + 1, refreshBits := 8 * payload.length
    variants := x.variants.map fun u => if u.k = v.k && u.form = form then { u with made := true, payload := payload } else u }

/-- REFRESH_VARIANT_DONE: the refresh variant of a tile in a form has been made, coded intra and lossless
(R501, R502). -/
def execRefreshVariantDone (t tile form : Nat) (coded : Coded) (s : State) : Host.Outcome State Fault Refusal :=
  let s := s.advance t
  match s.tile tile with
  | none => .next s
  | some x =>
    match x.variants.find? fun v => v.form == form && !v.made && (s.unitOf v.task).isSome with
    | none => .next s
    | some v =>
      if !codedSuits coded x.rc.codec x.rc.w x.rc.h true true then .next s else
      .next (s.variantMade tile form (codedPayload coded) x v)

/-! Pictures (R509 to R511). -/

/-- What a cell of picture `k` carries, by row of Table 14-4 from 0, and its history after. -/
def State.cellOf (s : State) (o : Splice) (k : Nat) (key : Bool) (since : Nat)
    (c : (Nat × Nat × Nat × Nat) × Option Nat) : Nat × CellHist :=
  let h := o.hist c.1
  match c.2 with
  | none =>
    let held := match h with | some x => x.tile.isNone && x.ask.isNone | none => false
    (if held && !key then 1 else 0, { rect := c.1, tile := none })
  | some t =>
    let w := s.rungTile t o.level
    let from_ := match h with
      | some x => (match x.ask with | some q => q.2 | none => since)
      | none => since
    let fill : CellHist := { rect := c.1, tile := none, ask := some (w, from_) }
    let full : CellHist := { rect := c.1, tile := some w, last := k }
    match s.tile w with
    | none => (2, fill)
    | some x =>
      if x.idle.contains k then (2, fill)
      else if key then
        if x.madeAt k (keyForm o.codec) || (o.codec == 17 && x.codedAt k == some true) then (3, full) else (4, fill)
      else if x.codedAt k = some true then (5, full)
      else
        match h with
        | none => if x.madeAt k 0 then (8, full) else (10, fill)
        | some old =>
          if old.ask.isSome && x.madeAt k 0 then (8, full)
          else if x.clean old w k then
            if (x.codedAt k).isSome then (6, { old with last := k }) else (7, old)
          else if x.madeAt k 0 then (8, full)
          else
            let keep : CellHist := { old with ask := some (w, from_) }
            match old.tile with
            | none => (9, keep)
            | some u =>
              match s.tile u with
              | none => (9, keep)
              | some y =>
                if u = w || !sameLadder x y then (9, keep)
                else if y.codedAt k = some true then (5, { keep with last := k })
                else if y.clean old u k then
                  if (y.codedAt k).isSome then (6, { keep with last := k }) else (7, keep)
                else (9, keep)

/-- The tiles on which a picture in a layout waits. -/
def State.pictureTiles (s : State) (o : Splice) (g : Option Grid) : List Nat :=
  (match g with
   | some g => g.cells.filterMap fun c => c.map fun t => s.rungTile t o.level
   | none => []) ++ o.cells.filterMap fun h => h.tile

/-- The atomic request whose refreshes were granted for picture `k`, and whether in fallback. -/
def Splice.grantAt (o : Splice) (k : Nat) : Option (Atomic × Bool) :=
  match o.atomic with
  | some a => (match a.granted with | some (j, fb) => if j = k then some (a, fb) else none | none => none)
  | none => none

/-- Whether all inputs of an output's picture `k` are settled (R505, R509). -/
def State.pictureReady (s : State) (o : Splice) (k : Nat) : Bool :=
  let due := match tget s.vid.alloc o.fps with | some n => decide (k ≤ n) | none => false
  let tiles := s.pictureTiles o o.grid ++
    (match o.grantAt k with | some (a, _) => s.pictureTiles o a.grid | none => [])
  let ready := tiles.all fun i => match s.tile i with
    | some x => x.settled k && !x.openAt k
    | none => true
  (!o.shed || decide (k < o.shedFrom)) && due && ready

/-- The atomic request that picture `k` serves: one granted for it in fallback, or with no refresh lost (R505, R513). -/
def State.pictureTake (s : State) (o : Splice) (k : Nat) : Option (Atomic × Bool) :=
  let lost (a : Atomic) : Bool := (s.atomicNeeds o a k fun x => x.codedAt k == some true).1.any fun x =>
    match s.tile x.1 with | some y => !y.madeAt k x.2 | none => true
  match o.grantAt k with
  | some (a, fb) => if fb || !lost a then some (a, fb) else none
  | none => none

/-- A granted request whose refresh was lost waits on, one frame more deferred (R505). -/
def State.pictureRetry (s : State) (flow : Nat) : State :=
  (s.modVid fun v => { v with deferred := v.deferred + 1 }).modSplice flow fun o => { o with
    atomic := o.atomic.map fun a => { a with granted := none, deferred := a.deferred + 1 } }

/-- The tile that a cell's history names. -/
def State.cellTile (s : State) (h : CellHist) : Option Tile := h.tile.bind fun i => s.tile i

/-- The units of picture `k` of an output in a grid, from what its cells carry (R510). -/
def State.unitsOf (s : State) (o : Splice) (k syn : Nat) (key : Bool) (g : Grid) (cells : List (Nat × CellHist)) : List (List Byte) :=
  let units := cells.map fun c =>
    cellUnit o.codec (s.cellTile c.2) k c.1 g.fill c.2.rect.2.2.1 c.2.rect.2.2.2
  let regrid := match o.grid with | some old => old.cols != g.cols || old.rows != g.rows | none => true
  pictureUnits o.codec key regrid ([syn, g.size.1, g.size.2, o.fps] ++ g.cols ++ g.rows) units

/-- A spliced output removed; its flow can be bound or attached again (R519). -/
def State.spliceFree (s : State) (flow : Nat) : State :=
  if (s.splice flow).isNone then s else
  (s.modFlow flow fun f => { f with outCtx := 0 }).modVid fun v => { v with splices := tdel v.splices flow }

/-- SPLICE_DELETE: at once, or after the picture in progress, whose sample instant has come (R519). -/
def State.spliceEnd (s : State) (flow : Nat) : State :=
  match s.splice flow with
  | none => s
  | some o =>
    match o.next with
    | some k => if (o.shed && decide (o.shedFrom ≤ k)) || decide (s.now < frameAt o.fps k) then s.spliceFree flow
        else s.modSplice flow fun o => { o with ending := some k }
    | none => s.spliceFree flow

/-- Picture `k` of an output in a grid: its cells and their histories, its counts, its packets, and its events (R510 to
R514). -/
def State.pictureSend (s : State) (flow k syn : Nat) (o : Splice) (take : Option (Atomic × Bool)) (g : Grid) : State :=
  let key := match take with | some (a, _) => o.needsKey a g | none => false
  let since := match take with | some (a, _) => a.since | none => s.now
  let cells := (g.rects.zip g.cells).map fun c =>
    let x := s.cellOf o k key since c
    (x.1, { x.2 with area := cellArea (s.cellTile x.2) k x.1 g.fill ((o.hist c.1).map fun h => h.area) })
  let pkts := packetize o.codec o.mtu key (s.unitsOf o k syn key g cells)
  let fills := countOf (cells.zip g.cells) fun c => c.2.isSome && (c.1.1 == 2 || c.1.1 == 4 || c.1.1 == 10)
  let fb := match take with | some (_, b) => b | none => false
  let late := decide (frameAt o.fps k + 60 * msU < s.now)
  let s := s.modSplice flow fun o => { o with
    grid := some g, atomic := if take.isSome then none else o.atomic, cells := cells.map fun c => c.2
    content := cells.map fun c => c.1, frame := some k, next := some (k + 1), size := g.size
    pictures := o.pictures + 1, keys := o.keys + b2n key, fallbacks := o.fallbacks + b2n fb
    late := o.late + b2n late }
  let s := s.modVid fun v => { v with fallbacks := v.fallbacks + b2n fb }
  let s := match s.flow flow with
    | some f => if s.legSends f then s.sendPicture flow (frameAt o.fps k) { frame := k, key := key } pkts else s
    | none => s
  let s := if key then
      let cause := if o.frame.isNone then 0 else
        match take with | some (a, _) => if a.fir then 1 else 2 | none => 2
      s.raise 219 (flowH flow) (le 1 cause ++ le 8 k)
    else s
  let s := match take with
    | some (a, _) =>
      if a.grid.isSome then s.raise 214 (flowH flow) (le 8 k ++ le 1 a.deferred ++ le 1 fills) else s
    | none => s
  let s := if fb then s.raise 215 (flowH flow) (le 8 k ++ le 1 fills) else s
  let s := if late then s.raiseCount 221 (flowH flow) (flowH flow) [] else s
  if o.ending.isSome then s.spliceFree flow else s

/-- SPLICE_PICTURE_ASSEMBLE: the next picture of an output, once all its inputs are settled (R505, R509 to R513); `syn` is what
the engine chooses where the syntax of parameter sets and headers leaves a choice that Table 14-2 does not fix. -/
def execSplicePictureAssemble (t flow syn : Nat) (s : State) : Host.Outcome State Fault Refusal :=
  let s := s.advance t
  match s.splice flow with
  | none => .next s
  | some o =>
    match o.next with
    | none => .next s
    | some k =>
      if !s.pictureReady o k then .next s else
      let take := s.pictureTake o k
      let s := if (o.grantAt k).isSome && take.isNone then s.pictureRetry flow else s
      let grid := match take with | some (a, _) => a.grid.orElse fun _ => o.grid | none => o.grid
      match grid with
      | none => .next (if o.ending.isSome then s.spliceFree flow else s.modSplice flow fun o => { o with next := none })
      | some g => .next (s.pictureSend flow k syn o take g)

/-! Requests (R517, R518) and levels (R516). -/

/-- A PLI from the viewer: every tile cell becomes a single-cell request, at most once per 200 ms, and not while earlier
requests are pending. -/
def State.splicePli (s : State) (flow : Nat) : State :=
  match s.splice flow with
  | none => s
  | some o =>
    let early := match o.pliAt with | some t => decide (s.now < t + 200 * msU) | none => false
    if early || o.atomic.isSome || o.cells.any (fun h => h.ask.isSome) then s else
    s.modSplice flow fun o => { o with
      pliAt := some s.now
      cells := o.cells.map fun h => match h.tile with | some t => { h with ask := some (t, s.now) } | none => h }

/-- A FIR from the viewer: a key picture is asked for. -/
def State.spliceFir (s : State) (flow : Nat) : State :=
  s.modSplice flow fun o =>
    match o.atomic with
    | some a => { o with atomic := some { a with fir := true } }
    | none => if o.frame.isNone then o else
      { o with atomic := some { grid := none, fir := true, since := s.now, eff := frameAfter o.fps s.now } }

/-- The level of an output set at an estimator run of its leg with video budget `v` kbit/s (R516, R517). -/
def State.spliceRun (s : State) (flow v : Nat) : State :=
  match s.splice flow with
  | none => s
  | some o0 =>
    let o := match o0.setPend with
      | some (a, b) => { o0 with minL := a, maxL := b, setPend := none }
      | none => o0
    let rate (l : Nat) : Nat := s.levelRate o l
    let ok := (List.range 3).filter fun l => decide (o.minL ≤ l) && decide (l ≤ o.maxL) && decide (rate l ≤ v)
    let target := ok.getLast?.getD o.minL
    let base := max o.minL (min o.maxL o.level)
    let fits := if base < target && 10 * rate target ≤ 9 * v then o.fits + 1 else 0
    let lv := if target < base then target else if 20 ≤ fits then target else base
    let fits := if lv = base then fits else 0
    let s := s.modSplice flow fun _ => { o with level := lv, fits := fits }
    if lv = o.level then s else
    let want : List ((Nat × Nat × Nat × Nat) × Nat) := match o.grid with
      | some g => (g.rects.zip g.cells).filterMap fun c => c.2.map fun t => (c.1, s.rungTile t lv)
      | none => []
    let upd (h : CellHist) : CellHist :=
      match want.find? (fun q => q.1 == h.rect) with
      | some (_, w) => if h.tile = some w then { h with ask := h.ask.filter fun q => q.1 == w }
          else { h with ask := some (w, match h.ask with | some q => q.2 | none => s.now) }
      | none => h
    let s := s.modSplice flow fun x => { x with cells := x.cells.map upd }
    s.raise 220 (flowH flow) (le 1 o.level ++ le 1 lv ++ le 4 (rate lv))

/-- The configured rate of a flow's composed or spliced output, deducted from its leg's video budget (R226). -/
def State.outputRate (s : State) (flow : Nat) : Nat :=
  match s.splice flow with
  | some o => s.levelRate o o.level
  | none =>
    match s.flow flow with
    | some f => if hType f.outCtx = 5 then (match s.enc (hIdx f.outCtx) with | some e => e.rc.kbps | none => 0) else 0
    | none => 0

/-- A PLI or FIR about a composed or spliced output (R205, R482, R518). -/
def State.outputAsk (s : State) (flow : Nat) (fir : Bool) : State :=
  match s.flow flow with
  | none => s
  | some f =>
    if hType f.outCtx = 5 then s.encAsk (hIdx f.outCtx) (b2n fir) fir
    else if f.outCtx = 0 then s
    else if fir then s.spliceFir flow else s.splicePli flow

/-- Spliced outputs shed in RIDETHROUGH, after the pictures whose sample instants have come (R520, R693). -/
def State.spliceShed (s : State) : State :=
  s.modVid fun v => { v with splices := tmap v.splices fun _ o =>
    if o.shed then o else { o with shed := true, shedFrom := frameAfter o.fps s.now } }

/-- Spliced outputs on return: each resumes with inter pictures (R520); one that was to end with a picture not sent is gone. -/
def State.spliceResume (s : State) : State :=
  let s := s.vid.splices.foldl (fun (s : State) p => if p.2.shed && p.2.ending.isSome then s.spliceFree p.1 else s) s
  s.modVid fun v => { v with splices := tmap v.splices fun _ o =>
    if !o.shed then o else
    { o with shed := false, next := o.frame.map fun _ => frameAfter o.fps s.now
             atomic := o.atomic.map fun a => { a with granted := none } } }

/-! Commands. -/

/-- A spliced output that no SPLICE_DELETE has ended. -/
def State.spliceLive (s : State) (flow : Nat) : Option Splice := (s.splice flow).filter fun o => o.ending.isNone

/-- Whether RATE_KBPS of a tile lies between those of its ladder's lower and higher rungs (R493). -/
def State.ladderOk (s : State) (i : Option Nat) (x : Tile) (kbps : Nat) : Bool :=
  s.vid.tiles.all fun p => some p.1 == i || !sameLadder p.2 x || p.2.rung == x.rung ||
    (if p.2.rung < x.rung then decide (p.2.kbps < kbps) else decide (kbps < p.2.kbps))

/-- Bushels of a tile (R498). -/
def Tile.need (x : Tile) : Nat :=
  3 * pictureBushels x.rc.w x.rc.h false + 2 * x.rc.bitBushels +
    bushelsOf (x.rc.w * x.rc.h * 2) * (if x.rc.codec = 16 then 2 else 1)

/-- The tile that TILE_CREATE describes. -/
def tileOf (c : Cmd) (tenant now : Nat) : Tile :=
  let size := classSize (c.u 4 1)
  let q := qDefault (c.u 5 1)
  let rc : RateCtl := { codec := c.u 5 1, w := size.1, h := size.2, fps := c.u 6 1, kbps := c.u 8 4, qMin := q.1,
                        qMax := q.2 }
  { tenant := tenant, conf := hIdx c.obj, source := hIdx (c.u 0 4), cls := c.u 4 1, rung := c.u 7 1, rc := rc,
    bushels := 0, key := 0, seen := some (frameNow (c.u 6 1) now) }

/-- The status of TILE_CREATE before its memory is taken; 0 where all is in order. -/
def tileCreateSts (c : Cmd) (s : State) : Nat :=
  let h := c.u 0 4
  let r := checkHandle s c.fn false [4] h
  if r ≠ 0 then r else
  if s.confOf h ≠ some (hIdx c.obj) then stNoObject else
  if !(c.rng 4 1 0 3 && c.rng 6 1 1 60 && c.rng 7 1 0 2 && c.rng 8 4 30 50000 && c.zero 12 4) then stBadParam else
  match s.conf (hIdx c.obj) with
  | none => stNoObject
  | some k =>
    if k.state = .closing then stWrongState else
    if c.u 5 1 ≠ 16 && c.u 5 1 ≠ 17 then stSpliceCodec else
    let x := tileOf c k.tenant s.now
    if s.vid.tiles.any fun p => sameLadder p.2 x && p.2.rung == x.rung then stTileExists else
    if !s.ladderOk none x x.rc.kbps then stBadParam else
    if !s.encAdmits x.rc.rate12 then stEncOvercommit else
    if 16384 ≤ s.vid.tiles.length then stNoResource else 0

/-- A tile added, with a fresh key and the memory it needs (R498). -/
def State.addTile (s : State) (x : Tile) : Nat × State :=
  let k := s.newKey
  let r := k.2.free
  let i := freeIndex (tkeys r.2.vid.tiles) 16384 r.1
  (i, (r.2.takeBushels x.tenant x.need).modVid fun v => { v with
    tiles := tset v.tiles i { x with bushels := x.need, key := k.1, st := if s.shedNow.2.1 then .shed else .waiting } })

/-- TILE_CREATE (R493, R497, R498). -/
def bodyTileCreate : Body := fun _ c s =>
  if tileCreateSts c s ≠ 0 then .fail s (tileCreateSts c s) else
  let x := tileOf c ((s.conf (hIdx c.obj)).elim 0 fun k => k.tenant) s.now
  if !s.bushelsFit x.tenant x.need then .fail (s.bushelRefused x.tenant x.need) stNoResource else
  let r := s.addTile x
  .ok r.2 (le 4 (tileH r.1))

/-- Whether a layout names a tile, or a cell shows it (R519). -/
def State.tileNamed (s : State) (i : Nat) : Bool :=
  let of (g : Option Grid) : Bool := match g with | some g => g.cells.any fun c => c == some i | none => false
  s.vid.splices.any fun p => of p.2.grid || of p.2.latest || p.2.cells.any fun h => h.tile == some i

/-- TILE_DELETE (R519). -/
def bodyTileDelete : Body := fun _ c s =>
  let i := hIdx c.obj
  if s.tileNamed i then .fail s stTileInUse else .ok (s.tileFree i)

/-- TILE_SET (R493, R496). -/
def bodyTileSet : Body := fun _ c s =>
  let i := hIdx c.obj
  match s.tile i with
  | none => .fail s stNoObject
  | some x =>
    if !(c.rng 0 4 30 50000 && c.zero 4 4) || !s.ladderOk (some i) x (c.u 0 4) then .fail s stBadParam else
    let k := frameAfter x.rc.fps s.now
    .ok (s.modTile i fun x => { x with pend := (x.pend.filter fun p => p.1 != k) ++ [(k, c.u 0 4)] }) (le 8 k)

/-- TILE_QUERY (Table 14-9). -/
def bodyTileQuery : Body := fun _ c s =>
  let i := hIdx c.obj
  match s.tile i with
  | none => .fail s stNoObject
  | some x =>
    let n := sumOf s.vid.splices fun p => countOf p.2.cells fun h => h.tile == some i
    .ok s (le 1 x.st.code ++ le 1 x.cls ++ le 1 x.rc.codec ++ le 1 x.rc.fps ++ le 4 (decH x.source) ++ le 1 x.rung ++
      le 1 x.rc.qLast ++ le 2 (satN 16 n) ++ le 4 x.rc.kbps ++ le 4 x.frames ++ le 4 x.skipped ++ le 4 x.refreshes ++
      le 4 x.refreshBits)

/-- The send video flow that OBJ names. -/
def State.spliceObj (s : State) (flow : Nat) : Nat :=
  match s.flow flow with
  | some f => if f.kind = 2 && f.dir = 2 then 0 else stBadParam
  | none => stNoObject

/-- The status of SPLICE_CREATE on a flow; 0 where all is in order. -/
def spliceCreateSts (c : Cmd) (s : State) (f : Flow) : Nat :=
  if (c.u 0 1 ≠ 16 && c.u 0 1 ≠ 17) || f.prof.codec ≠ c.u 0 1 then stSpliceCodec else
  if f.fwd.bound || f.outCtx ≠ 0 then stSpliceFlowBusy else
  if bit f.flags 2 then stNotPermitted else
  if 16384 ≤ s.vid.splices.length then stNoResource else
  if s.trust.rngFailed then stBusy else 0

/-- The splice engine with the fewest outputs, the lowest of several. -/
def State.spliceEngine (s : State) : Nat :=
  let load (e : Nat) : Nat := countOf s.vid.splices fun p => p.2.engine == e
  [1, 2, 3].foldl (fun b e => if load e < load b then e else b) 0

/-- A flow made a spliced output (R506). -/
def State.addSplice (s : State) (n : Nat) (c : Cmd) (f : Flow) : State :=
  let r := s.free
  let o : Splice :=
    { tenant := f.tenant, codec := c.u 0 1, fps := c.u 1 1, mtu := c.dflt 2 2 1200, engine := s.spliceEngine,
      shed := s.shedNow.2.1 }
  (r.2.modFlow n fun f => { f with outCtx := flowH n, tsBase := r.1 % 2 ^ 32 }).modVid fun v => { v with
    splices := tset v.splices n o }

/-- SPLICE_CREATE (R506). -/
def bodySpliceCreate : Body := fun _ c s =>
  let n := hIdx c.obj
  let r := s.spliceObj n
  if r ≠ 0 then .fail s r else
  if !(c.rng 1 1 1 60 && c.rng0 2 2 600 8800 && c.zero 4 4) then .fail s stBadParam else
  match s.flow n with
  | none => .fail s stNoObject
  | some f =>
    if spliceCreateSts c s f ≠ 0 then .fail s (spliceCreateSts c s f) else .ok (s.addSplice n c f)

/-- SPLICE_DELETE (R519). A flow that is not a spliced output gives WRONG_STATE, here and below. -/
def bodySpliceDelete : Body := fun _ c s =>
  let n := hIdx c.obj
  let r := s.spliceObj n
  if r ≠ 0 then .fail s r else
  if (s.spliceLive n).isNone then .fail s stWrongState else .ok (s.spliceEnd n)

/-- The status of a cell of a new layout: its tile's handle, conference and fit (R507). -/
def State.cellCheck (s : State) (fn : Nat) (conf : Option Nat) (o : Splice) (w h cell : Nat) : Nat :=
  if cell = 0 then 0 else
  let r := checkHandle s fn false [7] cell
  if r ≠ 0 then r
  else if s.confOf cell ≠ conf then stNoObject
  else match s.tile (hIdx cell) with
    | none => stNoObject
    | some x => if x.rc.fps = o.fps && x.rc.codec = o.codec && x.rc.w = 64 * w && x.rc.h = 64 * h then 0 else stCellMismatch

/-- Whether the fields of SPLICE_LAYOUT_SET after its counts are in range (Table 14-8). -/
def gridFields (c : Cmd) : Bool :=
  let nc := c.u 0 1
  let nr := c.u 1 1
  c.zero 2 2 && c.mask 4 4 0x3FFFFFFF && c.zero 8 8 &&
    ((List.range nc).all fun i => decide (1 ≤ c.u (16 + i) 1) && decide (c.u (16 + i) 1 ≤ 64)) &&
    ((List.range nr).all fun i => decide (1 ≤ c.u (32 + i) 1) && decide (c.u (32 + i) 1 ≤ 36)) &&
    c.padded 16 nc 16 && c.padded 32 nr 16

/-- The grid that SPLICE_LAYOUT_SET gives. -/
def gridOf (c : Cmd) : Grid :=
  let nc := c.u 0 1
  let nr := c.u 1 1
  let cell (i : Nat) : Nat := c.u (48 + 4 * i) 4
  { cols := (List.range nc).map fun i => c.u (16 + i) 1, rows := (List.range nr).map fun i => c.u (32 + i) 1,
    fill := c.u 4 4,
    cells := (List.range (nc * nr)).map fun i => if cell i = 0 then none else some (hIdx (cell i)) }

/-- The status of SPLICE_LAYOUT_SET; 0 where the layout is sound (R507, R508, R514). -/
def gridSts (c : Cmd) (s : State) (n : Nat) (o : Splice) : Nat :=
  let nc := c.u 0 1
  let nr := c.u 1 1
  if nc = 0 || 16 < nc || nr = 0 || 16 < nr || 128 < nc * nr then stGridInvalid else
  if !gridFields c then stBadParam else
  let g := gridOf c
  let conf := s.confOf (flowH n)
  let checks := (List.range (nc * nr)).map fun i =>
    s.cellCheck c.fn conf o (g.cols.getD (i % nc) 0) (g.rows.getD (i / nc) 0) (c.u (48 + 4 * i) 4)
  match checks.find? (fun r => r ≠ 0 && r ≠ stCellMismatch) with
  | some r => r
  | none =>
    if 4096 < g.size.1 || 2304 < g.size.2 then stGridInvalid else
    if checks.contains stCellMismatch then stCellMismatch else
    let others := sumOf s.vid.splices fun p => if p.1 ≠ n && p.2.engine = o.engine then p.2.cellRate else 0
    if 2000000 < others + nc * nr * o.fps then stSpliceOvercommit else 0

/-- An output's atomic request for a layout, from picture `k` on; a pending one keeps its age (R512). -/
def Splice.askLayout (o : Splice) (g : Grid) (k now : Nat) : Atomic :=
  match o.atomic with
  | some a => { a with grid := some g, eff := k, granted := none }
  | none => { grid := some g, fir := false, since := now, eff := k }

/-- SPLICE_LAYOUT_SET (R507, R508, R512, R514). -/
def bodySpliceLayoutSet : Body := fun _ c s =>
  let n := hIdx c.obj
  let r := s.spliceObj n
  if r ≠ 0 then .fail s r else
  match s.spliceLive n with
  | none => .fail s stWrongState
  | some o =>
    if gridSts c s n o ≠ 0 then .fail s (gridSts c s n o) else
    let k := frameAfter o.fps s.now
    .ok (s.modSplice n fun x => { x with atomic := some (o.askLayout (gridOf c) k s.now) }) (le 8 k)

/-- SPLICE_SET (R521). -/
def bodySpliceSet : Body := fun _ c s =>
  let n := hIdx c.obj
  let r := s.spliceObj n
  if r ≠ 0 then .fail s r else
  if (s.spliceLive n).isNone then .fail s stWrongState else
  if !(c.rng 0 1 0 2 && c.rng 1 1 (c.u 0 1) 2 && c.zero 2 2) then .fail s stBadParam else
  .ok (s.modSplice n fun o => { o with setPend := some (c.u 0 1, c.u 1 1) })

/-- SPLICE_QUERY (Table 14-10). -/
def bodySpliceQuery : Body := fun _ c s =>
  let n := hIdx c.obj
  let r := s.spliceObj n
  if r ≠ 0 then .fail s r else
  match s.spliceLive n with
  | none => .fail s stWrongState
  | some o =>
    let dims := match o.grid with | some g => (g.cols.length, g.rows.length) | none => (0, 0)
    .ok s (le 1 (if o.shed then 2 else if o.frame.isNone then 0 else 1) ++ le 1 o.codec ++ le 1 o.fps ++ le 1 o.level ++
      le 1 o.engine ++ le 1 dims.1 ++ le 1 dims.2 ++ zeros 1 ++ le 2 o.size.1 ++ le 2 o.size.2 ++
      le 2 (countOf o.cells fun h => h.ask.isSome) ++ le 1 (match o.atomic with | some a => a.deferred | none => 0) ++
      zeros 1 ++ le 8 (o.frame.getD 0) ++ le 4 o.pictures ++ le 4 o.keys ++ le 4 o.fallbacks ++
      le 4 (s.levelRate o o.level) ++ le 4 o.late ++ zeros 4)

/-- SPLICE_STATS (Table 14-11). -/
def bodySpliceStats : Body := fun _ _ s =>
  .ok s (le 4 s.vid.splices.length ++ le 4 s.vid.tiles.length ++ le 4 (sumOf s.vid.splices fun p => p.2.cellRate) ++
    le 4 s.vid.granted ++ le 4 s.vid.deferred ++ le 4 s.vid.fallbacks ++
    le 4 (sumOf s.vid.tiles fun p => p.2.bushels) ++ zeros 4)

def execTileCreate (c : Cmd) (s : State) := runBelex 0x0C00 bodyTileCreate c s
def execTileDelete (c : Cmd) (s : State) := runBelex 0x0C01 bodyTileDelete c s
def execTileSet (c : Cmd) (s : State) := runBelex 0x0C02 bodyTileSet c s
def execTileQuery (c : Cmd) (s : State) := runBelex 0x0C03 bodyTileQuery c s
def execSpliceCreate (c : Cmd) (s : State) := runBelex 0x0C10 bodySpliceCreate c s
def execSpliceDelete (c : Cmd) (s : State) := runBelex 0x0C11 bodySpliceDelete c s
def execSpliceLayoutSet (c : Cmd) (s : State) := runBelex 0x0C12 bodySpliceLayoutSet c s
def execSpliceSet (c : Cmd) (s : State) := runBelex 0x0C13 bodySpliceSet c s
def execSpliceQuery (c : Cmd) (s : State) := runBelex 0x0C14 bodySpliceQuery c s
def execSpliceStats (c : Cmd) (s : State) := runBelex 0x0C20 bodySpliceStats c s

end Sys2Proof.Machine
end

