-- ==== Sys2Proof/Machine/Lifecycle.lean ====
section
/-! DEFINITION. Shared operations on the life of conferences, legs and flows (Tables 02-2 to 02-4):
closing and freeing, and what these do to every object that names them. -/

namespace Sys2Proof.Machine

/-- The grain boundary that opens a grain, as an instant. -/
def grainStart (g : Nat) : Nat := g * grainU

/-- The index that names no flow: a binding whose source is gone (R186). -/
def noFlow : Nat := 0xFFFFFFFF

/-- The picture in progress of a flow's source, whose rest stays to be forwarded when the binding goes (R50, R93). -/
def Fwd.rest (w : Fwd) : Option (Nat × Nat) :=
  match w.pics with
  | q :: _ => if w.started && q.sent then some (q.src, q.ts) else w.tail
  | [] => w.tail

/-- Bindings and replacements that name a source flow lose it; the bindings stay (R186). Where the flow itself goes on, the
rest of a picture in progress is still forwarded (R93). -/
def State.fwdSourceGone (s : State) (flow : Nat) (rest : Bool := false) : State :=
  let upd (w : Fwd) : Fwd :=
    let w := { w with next := w.next.filter fun n => n.slot != 0 || n.source != flow
                      slotSource := w.slotSource.filter fun i => i != flow }
    if w.source ≠ flow then w else { w with source := noFlow, started := false, tail := if rest then w.rest else none }
  { s with flows := tmap s.flows fun _ f => { f with fwd := upd f.fwd } }

/-- A send flow that closes leaves its video output. -/
def State.outputGone (s : State) (flow : Nat) : State := (s.encFlowGone flow).spliceFree flow

/-- A send flow that goes on leaves its video output, as by ENC_DETACH or SPLICE_DELETE: after the frame in progress (R93). -/
def State.outputLeave (s : State) (flow : Nat) : State :=
  match s.flow flow with
  | none => s
  | some f =>
    if hType f.outCtx = 5 then
      match s.enc (hIdx f.outCtx) with
      | some e => if e.leaving.contains flow then s else s.encLeave (hIdx f.outCtx) flow e
      | none => s
    else s.spliceEnd flow

/-- A flow put into CLOSING: its cache entry is invalidated and its packets in the miss queue are
discarded and counted as unknown SSRC (R83, R792, Table 02-4). -/
def State.closeFlow (s : State) (flow : Nat) (reply : List ReplyTo) : State :=
  match s.flow flow with
  | none => s
  | some f =>
    let waiting := sumOf s.net.pipes fun p => countOf p.miss fun m => m.flow == flow
    let s := if waiting = 0 then s else s.dropUnknown f.leg waiting
    let s := { s with net := { s.net with pipes := s.net.pipes.map fun (p : Pipeline) =>
      { p with miss := p.miss.filter fun m => m.flow != flow } } }
    let s := if f.dir = 2 then s.outputGone flow else s.fwdSourceGone flow
    s.modFlow flow fun f => { f with state := .closing, cached := false, pinned := false, closeAt := s.now,
                                     closeReply := f.closeReply ++ reply }

/-- The overrides of a leg removed, with event 157 (R229). Causes: 0 command, 1 delete, 2 move. -/
def State.dropOverrides (s : State) (leg cause : Nat) : State :=
  match s.leg leg with
  | none => s
  | some l =>
    if l.ada.ovrMask = 0 then s
    else
      let s := s.modLeg leg fun l => { l with ada := { l.ada with ovrMask := 0 } }
      s.raise 157 (legH leg) (le 1 l.ada.ovrMask ++ le 1 cause)

/-- The frame interval of the video output attached to a flow, in 1/65,536 ns; 0 without one. -/
def State.outputInterval (s : State) (flow : Nat) (f : Flow) : Nat :=
  if hType f.outCtx = 5 then
    match s.enc (hIdx f.outCtx) with
    | some e => e.div * secU / e.rc.fps
    | none => 0
  else match s.splice flow with
    | some o => secU / o.fps
    | none => 0

/-- The frame interval of a leg's slowest video output, in 1/65,536 ns; 0 without one (R72). -/
def State.slowestInterval (s : State) (leg : Nat) : Nat :=
  (s.flowsOf leg).foldl (fun n p => max n (s.outputInterval p.1 p.2)) 0

/-- A leg put into CLOSING: no packet matches it any more (R71), lanes 0 to 6 are discarded (R247), its
flows close, and for a deleted leg one BYE is sent for each send SSRC (R213). -/
def State.closeLeg (s : State) (leg : Nat) (bye : Bool) (reply : List ReplyTo) : State :=
  match s.leg leg with
  | none => s
  | some l =>
    if l.state = .closing then s.modLeg leg fun l => { l with closeReply := l.closeReply ++ reply }
    else
      let sends := (s.flowsOf leg).filter fun p => p.2.dir == 2 && p.2.state != .closing
      let s := if bye && !sends.isEmpty && l.state != .connecting then
          s.sendRtcp leg (sends.map fun p => RtcpItem.bye p.2.ssrc) else s
      let gap := s.slowestInterval leg
      let s := (s.dropOverrides leg 1).detachLeg leg
      let s := (s.flowsOf leg).foldl (fun s p => s.closeFlow p.1 []) s
      let s := s.modLeg leg fun l => { l with
        state := .closing, closeAt := s.now, closeReply := l.closeReply ++ reply, closeGap := gap,
        egr := { l.egr with lanes := List.replicate 7 [] ++ l.egr.lanes.drop 7 },
        dtls := { l.dtls with running := false } }
      s.dropFrames leg (l.egr.lanes.take 7).flatten

/-- A flow FREE: its context is cleared, and its clear context zeroed (R646). -/
def State.freeFlow (s : State) (flow : Nat) : State :=
  match s.flow flow with
  | none => s
  | some f =>
    let s := s.mixDropFlow flow
    let s := { s with flows := tdel s.flows flow,
                      cip := { s.cip with slots := s.cip.slots.filter fun p => p.2.owner != flowH flow } }.noteJitter f.leg
    s.completeAll f.closeReply stDone

/-- The video objects of a conference that is FREE, consumers first. -/
def State.confVideoFree (s : State) (conf : Nat) : State :=
  let s := s.vid.tiles.foldl (fun (s : State) p => if p.2.conf = conf then s.tileFree p.1 else s) s
  let s := s.vid.encs.foldl (fun (s : State) p => if p.2.conf = conf then s.encFree p.1 else s) s
  let s := s.vid.canvases.foldl (fun (s : State) p => if p.2.conf = conf then s.canvasFree p.1 else s) s
  s.vid.decs.foldl (fun (s : State) p => if p.2.conf = conf then s.decFree p.1 else s) s

/-- A conference FREE: its context is cleared, and its deletes reply (Table 02-2). -/
def State.freeConf (s : State) (conf : Nat) : State :=
  match s.conf conf with
  | none => s
  | some c =>
    let s := (s.confVideoFree conf).mixFree conf
    let s := { s with confs := tdel s.confs conf
                      aud := { s.aud with bcn := { s.aud.bcn with rx := tdel s.aud.bcn.rx conf } } }
    s.completeAll c.reply stDone

/-- The packets of a leg leave the cipher cluster. -/
def State.dropJobs (s : State) (leg : Nat) : State :=
  let rest (q : List CipherJob) : List CipherJob := q.filter fun j => j.leg != leg
  { s with cip := { s.cip with inQ := rest s.cip.inQ, outQ := rest s.cip.outQ } }

/-- A leg FREE, with its flows; a CLOSING conference whose last leg it was becomes FREE with it. -/
def State.freeLeg (s : State) (leg : Nat) : State :=
  match s.leg leg with
  | none => s
  | some l =>
    let s := (s.flowsOf leg).foldl (fun s p => s.freeFlow p.1) s
    let s := (s.beaconFree leg l.conf).modMix l.conf fun m => { m with inbox := m.inbox.filter fun g => g.leg != leg }
    let cells := sumOf l.egr.lanes.flatten fun (f : TxFrame) => f.cells
    let s := s.dropJobs leg
    let s := { s with legs := tdel s.legs leg,
                      cip := { s.cip with slots := s.cip.slots.filter fun p => p.2.owner != legH leg } }
    let s := (s.poolFreed cells).completeAll l.closeReply stDone
    match s.conf l.conf with
    | some c => if c.state = .closing && (s.legsOf l.conf).isEmpty then s.freeConf l.conf else s
    | none => s

/-- Whether a CLOSING leg can become FREE now (R72): lane 7 has drained or 20 ms have passed, and one
frame interval of its slowest video output has followed the second grain boundary. -/
def State.legDrained (s : State) (leg : Nat) (l : Leg) : Bool :=
  let empty := (l.egr.lanes.getD 7 []).isEmpty &&
    (s.net.ready.all fun f => f.leg != some leg) && (s.cip.outQ.all fun j => j.leg != leg)
  let second := grainStart (grainOf l.closeAt + 2) + l.closeGap
  (empty || decide (l.closeAt + 20 * msU ≤ s.now)) && decide (second ≤ s.now)

/-- A leg's hold mask in force from an instant on (Table 02-3). -/
def Leg.setHold (l : Leg) (mask at_ : Nat) : Leg :=
  { l with hold := mask, holdPend := none, holdAt := at_, holdOld := l.hold,
           state := if l.state = .active || l.state = .held then (if mask = 0 then .active else .held) else l.state }

/-- A leg leaves CONNECTING: HELD when its hold mask is nonzero, ACTIVE otherwise (Table 02-3). A leg that has had no valid
request yet is given CONSENT_LIMIT from now on for its first (DESIGN CHOICE: R155 counts from the last one). -/
def State.legConnected (s : State) (leg : Nat) : State :=
  s.modLeg leg fun l => if l.state = .connecting then
    { l with state := if l.hold = 0 then .active else .held
             ice := if l.ice.lastValid = 0 then { l.ice with consentFrom := s.now } else l.ice } else l

/-- Keys installed for every flow of a leg and for its RTCP context, and in the clear contexts that hold them; packets already
admitted finish under the old keys (R639, R646). -/
def State.installKeys (s : State) (leg profile : Nat) (rx tx : List Byte) : State :=
  let g := s.cip.gen
  let jobs := s.cip.inQ ++ s.cip.outQ
  let own := (s.flowsOf leg).map fun p => (flowH p.1, p.2.cip)
  let own := own ++ (match s.leg leg with | some l => [(legH leg, l.cip)] | none => [])
  let olds := (own.filter fun p => jobs.any fun j => j.owner == p.1 && j.epoch == p.2.epoch).map fun p => (p.1, p.2.epoch, p.2)
  let s := { s with cip := { s.cip with olds := s.cip.olds ++ olds } }
  let s := { s with flows := tmap s.flows fun _ f =>
    if f.leg = leg then { f with cip := f.cip.install g profile (if f.dir = 1 then rx else tx) } else f }
  let s := s.modLeg leg fun l => { l with cip := l.cip.install g profile rx }
  let fresh (x : ClearCtx) : ClearCtx :=
    if (own.any fun p => p.1 == x.owner) then
      { x with keys := (s.crypto (s.ownerOf x.owner).1 (s.ownerOf x.owner).2).sessionKeys } else x
  own.foldl (fun (s : State) p => s.wrap p.1) { s with cip := { s.cip with slots := tmap s.cip.slots fun _ x => fresh x } }

/-- The flow of a leg's flows that a decode context has as its source, when they carry this MID (R406). -/
def State.sameSource (s : State) (leg : Nat) (mid : List Byte) (ctx : Nat) : Bool :=
  match (s.dec ctx).bind fun d => d.source with
  | none => true
  | some f => match s.flow f with | some x => x.leg == leg && x.mid == mid | none => false

/-- The checks on the SINK of a new flow, by the chapter that owns the sink: admission of its leg to the mix (R282),
or a context that has no source or is bound to this one (R407). -/
def State.sinkCheck (s : State) (leg : Nat) (sink : Nat) (mid : List Byte) : Nat :=
  if sink = 0 then 0 else
  if hType sink = 8 then
    match s.group (hIdx sink), s.leg leg with
    | some g, some _ =>
      let a := s.mixAdmitLeg g.conf leg
      let new := (s.mix g.conf).latest
      if a ≠ 0 then a
      else if !({ new with contribs := tset new.contribs 1048576 ⟨hIdx sink, 0x8000, 0xFF⟩ } : MixSet).fits then stGraphLimit
      else 0
    | _, _ => stNoObject
  else if s.sameSource leg mid (hIdx sink) then 0 else stSourceBusy

/-- A new flow attached to its SINK: a contribution of gain 0x8000 without pan (R280), or the source of a decode
context that had none (R406). -/
def State.attachSink (s : State) (flow sink : Nat) : State :=
  if sink = 0 then s else
  if hType sink = 8 then
    let conf := match s.group (hIdx sink) with | some g => g.conf | none => 0
    let set (y : MixSet) : MixSet := { y with contribs := tset y.contribs flow ⟨hIdx sink, 0x8000, 0xFF⟩ }
    let (_, s) := s.mixChange conf false set
    s.modMix conf fun m => { m with wake := m.wake || m.parked }
  else
    let i := hIdx sink
    match s.dec i with
    | none => s
    | some d =>
      if d.st = .noSource then
        let s := s.modDec i fun d => { d with source := some flow, curE := 0, curS := 0, curT := 0 }
        (s.decState i .waitKey).decKeyRequest i
      else if d.source.isNone then s.modDec i fun d => { d with source := some flow }
      else s

end Sys2Proof.Machine
end

