-- ==== Sys2Proof/Machine/Trust.lean ====
section
/-! DEFINITION. The vault: attestation, provisioning, host keys, DTLS certificates and handshakes (file 18 of spec/, R606
to R630). -/

namespace Sys2Proof.Machine

def stNotProvisioned : Nat := 0x9000
def stKeyInUse : Nat := 0x9001
def stMeshLocked : Nat := 0x9002
def stNoDtlsKey : Nat := 0x9003
def stClassFixed : Nat := 0x9004

def State.modTrust (s : State) (f : TrustState → TrustState) : State := { s with trust := f s.trust }

/-! Measurements and attestation (R618, R346). -/

/-- A cluster's image. -/
def State.imageOf (s : State) (c : Nat) : Option Image := s.trust.clusterImages[(s.cluster c).image]?

/-- The distinct cluster images running, in ascending SVN: those of the ACTIVE clusters. -/
def State.runningImages (s : State) : List Image :=
  let all := (List.range 56).filterMap fun c => if (s.cluster c).state = .active then s.imageOf c else none
  let distinct := all.foldl (fun l x => if l.contains x then l else l ++ [x]) []
  sortBy (fun (a b : Image) => decide (a.svn < b.svn)) distinct

/-- HUB_MEAS. -/
def State.hubMeas (s : State) : List Byte :=
  match s.trust.hubImage with | some i => be 48 i.hash.toNat | none => zeros 48

/-- CLUSTER_MEAS. -/
def State.clusterMeas (s : State) : List Byte :=
  match s.runningImages with
  | [] => zeros 48
  | l => be 48 (Config.sha384 (l.flatMap fun i => be 48 i.hash.toNat)).toNat

/-- KERNEL_DIGEST (R346). -/
def State.kernelDigest (s : State) : List Byte :=
  match s.aud.dsp.kernels with
  | [] => zeros 48
  | l => be 48 (Config.sha384 (l.flatMap fun k => k.2.codeHash ++ le 4 k.2.id ++ le 4 k.2.ver)).toNat

/-- A mask with bit t for each tenant that passes a test. -/
def tenantMask (p : Nat → Bool) : Nat := sumOf (List.range 64) fun t => if p t then 2 ^ t else 0

/-- HOSTKEY_POLICY. -/
def State.hostPolicy (s : State) : Nat := tenantMask fun t => bit (s.quotas.getD t {}).policy 0

/-- Whether a leg names a key handle. -/
def Leg.hostKeyed (l : Leg) : Bool := (l.typ == .trunk || l.typ == .stream) && l.typeObj != 0

/-- HOSTKEY_LIVE. -/
def State.hostLive (s : State) : Nat := tenantMask fun t => s.legs.any fun p => p.2.tenant == t && p.2.hostKeyed

/-- The 416 bytes of an attestation report (Table 18-3) for a tenant; `draw` is the signer's nonce. -/
def State.attestReport (s : State) (tenant : Nat) (nonce : List Byte) (draw : Nat) : List Byte :=
  let r := s.trust
  let low (l : List Image) : Nat := match l with | i :: _ => i.svn | [] => 0
  let flags := b2n r.provisioned + 2 * b2n r.kernelKey.isSome + 4 * b2n (s.sys.slotBooted == 1) +
    8 * b2n (decide (1 < s.runningImages.length))
  let keyHash := match tget r.dtls tenant with
    | some k => be 48 (Config.sha384 k.spki).toNat
    | none => zeros 48
  let b := le 4 0x41545A45 ++ le 2 1 ++ le 2 416 ++ le 4 iwId ++ le 1 s.sys.mode.code ++
    le 1 (b2n r.t0Boot + 2 * b2n r.t1Boot) ++ le 1 tenant ++ le 1 flags ++ le 8 s.hostPolicy ++ le 8 s.hostLive ++
    le 8 r.hostEver ++ le 4 r.provisionCount ++ le 4 r.bootCount ++
    le 2 (match r.hubImage with | some i => i.svn | none => 0) ++ le 2 (low s.runningImages) ++ le 2 r.ctrHub ++
    le 2 r.ctrCluster ++ le 2 s.aud.dsp.kernels.length ++ zeros 6 ++ padTo 16 r.groupId ++ s.hubMeas ++ s.clusterMeas ++
    s.kernelDigest ++ keyHash ++ padTo 32 nonce ++ le 8 (dtSec s.now) ++ le 4 (dtNs s.now) ++ zeros 4
  b ++ be 96 (Config.idSignature draw b).toNat

/-! The public-key engine (R610, R626). -/

/-- One kind's queue served up to now at 24,000 operations per second: operations left, and the instant from which the
next one runs. -/
def pkServe (q from_ now : Nat) : Nat × Nat :=
  let done := (now - from_) * 24000 / secU
  if q ≤ done then (0, now) else (q - done, from_ + done * secU / 24000)

/-- The engine's queues brought to the present. -/
def State.pkUpdate (s : State) : State :=
  s.modTrust fun r =>
    let e := pkServe r.pkE r.pkEDt s.now
    let g := pkServe r.pkS r.pkSDt s.now
    { r with pkE := e.1, pkEDt := e.2, pkS := g.1, pkSDt := g.2 }

/-- Operations given to the engine. -/
def State.pkQueueOps (s : State) (e g : Nat) : State :=
  s.pkUpdate.modTrust fun r => { r with pkE := r.pkE + e, pkS := r.pkS + g }

/-! Certificates (R619 to R623). -/

def daySecs : Nat := 86400

/-- The measurements that a certificate attests, but for the tenant's host-key bits (R621). -/
def State.measurements (s : State) : List Byte := s.hubMeas ++ s.clusterMeas ++ s.kernelDigest

/-- The tenant's bits of HOSTKEY_POLICY and HOSTKEY_EVER. -/
def State.keyBits (s : State) (t : Nat) : Nat := b2n (bit s.hostPolicy t) + 2 * b2n (bit s.trust.hostEver t)

/-- CONNECTING legs of a tenant bound to a generation enter CLOSING, with event 41 (R622). -/
def State.closeBound (s : State) (tenant gen cause : Nat) : State :=
  s.legs.foldl (fun (s : State) p =>
    let l := p.2
    if l.tenant = tenant && l.dtls.set && l.dtls.generation == gen && l.state == .connecting && !l.hostKeyed then
      (s.raise 41 (legH p.1) (le 1 cause ++ le 1 0)).closeLeg p.1 false []
    else s) s

/-- A new generation of a tenant's certificate: event 43 with its cause; a fifth drops the oldest (R620 to R622). Its report
and the certificate itself are P-384 signatures (R610). -/
def State.issueCert (s : State) (tenant cause : Nat) : State :=
  match tget s.trust.dtls tenant with
  | none => s
  | some k =>
    let (serial, s) := (s.pkQueueOps 0 6).free
    let (draw, s) := s.free
    let report := s.attestReport tenant (be 32 (Config.sha256 k.spki).toNat) draw
    let g : CertGen := { gen := k.nextGen, issued := s.now, renewed := false,
                         cert := Config.dtlsCertificate serial k.spki (dtSec s.now) report }
    let all := k.gens ++ [g]
    let k' : DtlsKey := { k with nextGen := k.nextGen + 1, gens := all.drop (all.length - 4),
                                 measured := s.measurements, bits := s.keyBits tenant }
    let s := s.modTrust fun r => { r with dtls := tset r.dtls tenant k' }
    let s := s.raise 43 0 (le 1 tenant ++ le 2 g.gen ++ le 1 cause)
    (all.take (all.length - 4)).foldl (fun (s : State) x => s.closeBound tenant x.gen 4) s

/-- CERT_REISSUE: a measured value, or a host-key bit of the tenant, differs from what its certificate attests (R621). A new
certificate needs a random serial number, so none is issued while the generator has failed (R608, R620). -/
def execCertReissue (t tenant : Nat) (s : State) : Host.Outcome State Fault Refusal :=
  let s := s.advance t
  match tget s.trust.dtls tenant with
  | none => .next s
  | some k =>
    if s.trust.rngFailed then .next s
    else if k.measured ≠ s.measurements then .next (s.issueCert tenant 1)
    else if k.bits ≠ s.keyBits tenant then .next (s.issueCert tenant 2)
    else .next s

/-- The mark of one generation of a tenant changed. -/
def State.modGen (s : State) (tenant gen : Nat) (f : CertGen → CertGen) : State :=
  s.modTrust fun r => { r with dtls := tmod r.dtls tenant fun k =>
    { k with gens := k.gens.map fun g => if g.gen = gen then f g else g } }

/-- A generation that the vault keeps. -/
def State.certGen (s : State) (tenant gen : Nat) : Option CertGen :=
  (tget s.trust.dtls tenant).bind fun k => k.gens.find? fun g => g.gen == gen

/-- CERT_RENEWAL: 335 days after its issue, a generation is followed by a new one with the same key (R623). -/
def execCertRenewal (t tenant gen : Nat) (s : State) : Host.Outcome State Fault Refusal :=
  let s := s.advance t
  match s.certGen tenant gen with
  | none => .next s
  | some g =>
    if s.trust.rngFailed || g.renewed || decide (s.now < g.issued + 335 * daySecs * secU) then .next s
    else .next ((s.modGen tenant gen fun g => { g with renewed := true }).issueCert tenant 3)

/-- CERTIFICATE_EXPIRY: the validity of a generation ends 365 days after its issue (R620, R622). -/
def execCertificateExpiry (t tenant gen : Nat) (s : State) : Host.Outcome State Fault Refusal :=
  let s := s.advance t
  match s.certGen tenant gen with
  | none => .next s
  | some g =>
    if g.expired || decide (s.now < g.issued + 365 * daySecs * secU) then .next s
    else .next ((s.modGen tenant gen fun g => { g with expired := true }).closeBound tenant gen 5)

/-! DTLS handshakes (R624 to R627). -/

def State.modDtls (s : State) (leg : Nat) (f : Dtls → Dtls) : State := s.modLeg leg fun l => { l with dtls := f l.dtls }

/-- A flight sent to the peer in class 7; its timer starts. -/
def State.sendFlight (s : State) (leg : Nat) : State :=
  let (n, s) := s.free
  let rec_ := Config.dtlsFlight n
  (s.modDtls leg fun d => { d with lastFlight := s.now }).sendPlain leg (.dtls rec_) rec_.length

/-- A handshake begins, on a ClientHello or with the client's first flight; with more than 12,000 operations queued the
flight is dropped (R626), and while the random generator has failed, which draws the ECDHE key (R608). -/
def State.hsStart (s : State) (leg : Nat) : State :=
  match s.leg leg with
  | none => s
  | some l =>
    let s := s.pkUpdate
    if s.trust.rngFailed then s
    else if 12000 < s.trust.pkE + s.trust.pkS then s.raiseCount 42 0 0 []
    else
      let s := s.pkQueueOps 2 (if l.typ = .cascade then 11 else 2)
      (s.modDtls leg fun d => { d with running := true, started := s.now, retryS := 1 }).sendFlight leg

/-- Whether a leg takes part in DTLS: bound by DTLS_LEG_SET, not keyed by the host, and with a known remote side. -/
def Leg.dtlsReady (l : Leg) : Bool :=
  l.dtls.set && !l.hostKeyed && l.state != .closing && l.remoteIp != 0 && l.remoteUdp != 0

/-- Whether the generation a leg is bound to may be presented (R622). -/
def State.genValid (s : State) (l : Leg) : Bool :=
  match s.certGen l.tenant l.dtls.generation with
  | some g => !g.expired && decide (s.now < g.issued + 365 * daySecs * secU)
  | none => false

/-- A new handshake on a connected leg whose generation the vault does not present any more is not started: event 41, cause 4 where
the generation was dropped, 5 where its validity has ended (R622). -/
def State.hsRefused (s : State) (leg : Nat) (l : Leg) : State :=
  if l.state = .connecting then s
  else s.raise 41 (legH leg) (le 1 (if (s.certGen l.tenant l.dtls.generation).isNone then 4 else 5) ++ le 1 0)

/-- The client's first flight, when the leg is ready for one: a leg that is connected is not started on a generation past
its validity (R622). -/
def State.clientStart (s : State) (leg : Nat) : State :=
  match s.leg leg with
  | none => s
  | some l =>
    if !l.dtlsReady || !l.dtls.client || l.dtls.running then s
    else if s.genValid l then s.hsStart leg
    else s.hsRefused leg l

/-- A handshake has failed (event 41). The leg stays as it is until CONNECT_LIMIT. -/
def State.hsFail (s : State) (leg cause alert : Nat) : State :=
  (s.modDtls leg fun d => { d with running := false }).raise 41 (legH leg) (le 1 cause ++ le 1 alert)

/-- The bit of PROFILES that stands for a profile of Table 19-2. -/
def profileBit : Nat → Option Nat
  | 1 => some 0 | 2 => some 1 | 4 => some 2 | 5 => some 3 | _ => none

/-- The first step of R625 that a peer's report fails. -/
def State.peerFails (s : State) (p : PeerReport) : Option Nat :=
  if !p.chainOk then some 1
  else if p.group ≠ s.trust.groupId then some 2
  else if !(if s.trust.approved.isEmpty then p.hubMeas == s.hubMeas else s.trust.approved.contains p.hubMeas) then some 3
  else if !bit p.flags 0 || p.tamper != 0 then some 4
  else none

/-- The handshake of a leg completes: its checks, then the keys (R624, R625, R627). -/
def State.hsDone (s : State) (leg version profile : Nat) (fp rx tx : List Byte) (peer : PeerReport) : State :=
  match s.leg leg with
  | none => s
  | some l =>
    let allowed := bit l.dtls.versions (version - 2) &&
      (match profileBit profile with | some b => bit l.dtls.profiles b | none => false)
    if !allowed then s.hsFail leg 2 0
    else match if l.typ = .cascade then s.peerFails peer else none with
    | some step =>
      ((s.modDtls leg fun d => { d with running := false }).sendFlight leg).raise 44 (legH leg) (le 1 step)
    | none =>
      if l.typ ≠ .cascade && fp ≠ l.dtls.fp then (s.sendFlight leg).hsFail leg 1 0
      else
        let s := s.modDtls leg fun d => { d with running := false, session := some (profile, rx, tx) }
        let s := (s.installKeys leg profile rx tx).legConnected leg
        let s := s.modTrust fun r => { r with handshakes := r.handshakes + 1 }
        (s.sendFlight leg).raise 40 (legH leg) (le 1 version ++ le 1 profile ++ le 2 l.dtls.generation)

/-- What a DTLS record does to its leg. -/
def State.dtlsEvent (s : State) (leg : Nat) (e : DtlsEvt) : State :=
  match s.leg leg with
  | none => s
  | some l =>
    if !l.dtls.set || l.hostKeyed || l.state = .closing then s else
    match e with
    | .hello =>
      if l.dtls.client then s
      else if l.dtls.running then s.sendFlight leg
      else if s.genValid l then s.hsStart leg
      else s.hsRefused leg l
    | .flight => if l.dtls.running then
        (s.modDtls leg fun d => { d with retryS := 1 }).sendFlight leg else s
    | .done v p fp rx tx peer => if l.dtls.running then s.hsDone leg v p fp rx tx peer else s
    | .alert code => if l.dtls.running then s.hsFail leg 0 code else s
    | .noCommon => if l.dtls.running then s.hsFail leg 2 0 else s

/-- Whether the hub firmware pause holds the control cores (R714). -/
def State.coresPaused (s : State) : Bool :=
  match s.cp.pausedTill with | some e => decide (s.now < e) | none => false

/-- DTLS_FLIGHT_RETRANSMIT: after 1 s, then 2, 4 and 8 s, until CONNECT_LIMIT (R627). -/
def execDtlsFlightRetransmit (t leg : Nat) (s : State) : Host.Outcome State Fault Refusal :=
  let s := s.advance t
  match s.leg leg with
  | none => .next s
  | some l =>
    if !l.dtls.running || decide (s.now < l.dtls.lastFlight + l.dtls.retryS * secU) || s.coresPaused then .next s else
    let limit := match s.conf l.conf with | some c => c.connectLimit | none => 0
    if l.state ≠ .connecting && decide (l.dtls.started + limit * secU ≤ s.now) then .next (s.hsFail leg 3 0)
    else .next ((s.modDtls leg fun d => { d with retryS := min 8 (2 * d.retryS) }).sendFlight leg)

/-! Commands. -/

def bodyAttestReport : Body := fun _ c s =>
  let t := c.u 0 1
  if !(c.rng 0 1 0 63 && c.zero 1 3) then .fail s stBadParam else
  if c.fn ≠ 0 && t ≠ c.fn then .fail s stNotPermitted else
  let (draw, s) := (s.pkQueueOps 0 3).free
  .ok s (s.attestReport t (c.bytes 4 32) draw)

def bodyIdCertRead : Body := fun _ _ s => .ok s (Config.idCertificate.take 2048)

/-- The parameters of PROVISION_SET. -/
def provisionFields (c : Cmd) : Bool := c.mask 0 1 1 && c.zero 1 3 && (c.flag 0 1 0 || c.zero 20 64)

/-- PROVISION_SET: the last value wins (R611). -/
def bodyProvisionSet : Body := fun _ c s =>
  if !provisionFields c then .fail s stBadParam else
  .ok (s.modTrust fun r => { r with
    enrolled := true, groupId := c.bytes 4 16, kernelKey := if c.flag 0 1 0 then some (c.bytes 20 64) else none })

/-- The enrolment sealed: its count, event 38, and STANDBY (R611). -/
def State.sealVault (s : State) : State :=
  let n := s.trust.provisionCount + 1
  let s := s.modTrust fun r => { r with provisioned := true, provisionCount := n, t0 := 0, t1 := 0 }
  (s.raise 38 0 (le 4 n)).setMode .standby 0 0

/-- PROVISION_DONE: the enrolment is sealed, as it stands, and the device moves to STANDBY (R611). -/
def bodyProvisionDone : Body := fun _ _ s => .ok s.sealVault (le 4 (s.trust.provisionCount + 1))

/-- The operator's enrolment, the tenants' keys and the sensor classes erased (R612, R631, R733, R790). -/
def TrustState.unenrol (r : TrustState) : TrustState :=
  { r with kernelKey := none, groupId := zeros 16, approved := [], dtls := [], keys := [], enrolled := false,
           provisioned := false, classes := [2, 2, 1, 1, 1, 0, 0, 1] }

/-- The enrolment erased, with event 39, a held lockdown ended with event 35, and PROVISION entered (R612). -/
def State.reprovision (s : State) : State :=
  let s := s.modTrust fun r => { r.unenrol with lockdownHeld := false }
  let s := s.raise 39 0 (le 1 s.sys.mode.code)
  let s := if s.sys.mode = .lockdown then s.raise 35 0 (le 1 0) else s
  s.setMode .provision 0 0

/-- TRUST_REPROVISION (R612, R636). -/
def bodyTrustReprovision : Body := fun _ c s =>
  if c.u 0 4 ≠ 0x50524F56 then .fail s stBadParam else
  if s.trust.meshLatch then .fail s stMeshLocked else
  .ok s.reprovision

def bodyPeerMeasSet : Body := fun _ c s =>
  let n := c.u 0 1
  if !(c.rng 0 1 0 8 && c.zero 1 7) then .fail s stBadParam else
  .ok (s.modTrust fun r => { r with approved := (List.range n).map fun i => c.bytes (8 + 48 * i) 48 })

/-- A tenant's DTLS key, or one with no generation yet. -/
def State.dtlsKeyOf (s : State) (tenant : Nat) : DtlsKey := (tget s.trust.dtls tenant).getD ⟨0, 1, [], [], [], 0⟩

/-- A key drawn for a tenant, and a certificate issued for it (R619, R620). -/
def State.newDtlsKey (s : State) (tenant alg : Nat) : State :=
  let r := (s.pkQueueOps 1 0).free
  let k : DtlsKey := { s.dtlsKeyOf tenant with alg := alg, spki := Config.dtlsSpki alg r.1 }
  (r.2.modTrust fun x => { x with dtls := tset x.dtls tenant k }).issueCert tenant 0

/-- DTLS_KEY_CREATE (R619): a repeated one replaces the key and issues the next generation. -/
def bodyDtlsKeyCreate : Body := fun _ c s =>
  if !(c.rng 0 1 1 2 && c.zero 1 3) then .fail s stBadParam else
  if !s.trust.provisioned then .fail s stNotProvisioned else
  if s.trust.rngFailed then .fail s stBusy else
  .ok (s.newDtlsKey c.fn (c.u 0 1)) (le 2 (s.dtlsKeyOf c.fn).nextGen ++ zeros 2)

def bodyDtlsCertRead : Body := fun _ c s =>
  let t := c.u 0 1
  let g := c.u 2 2
  if !(c.rng 0 1 0 63 && c.zero 1 1) then .fail s stBadParam else
  if c.fn ≠ 0 && t ≠ c.fn then .fail s stNotPermitted else
  match tget s.trust.dtls t with
  | none => .fail s stNoDtlsKey
  | some k =>
    match if g = 0 then k.gens.getLast? else k.gens.find? fun x => x.gen % 65536 == g with
    | some x => .ok s (x.cert.take 1024)
    | none => .fail s stBadParam

/-- A leg bound to a generation, and a client's first flight when it is ready (R622, R624). -/
def State.dtlsBind (s : State) (i gen : Nat) (c : Cmd) : State :=
  (s.modDtls i fun d => { d with
    set := true, client := c.u 0 1 == 1, versions := c.u 1 1, profiles := c.u 2 1, fp := c.bytes 8 32
    generation := gen, running := false }).clientStart i

/-- DTLS_LEG_SET: the leg is bound to the generation in force (R622). -/
def bodyDtlsLegSet : Body := fun _ c s =>
  let i := hIdx c.obj
  match s.leg i with
  | none => .fail s stNoObject
  | some l =>
    if !(c.rng 0 1 0 1 && c.mask 1 1 3 && c.u 1 1 != 0 && c.mask 2 1 15 && c.zero 3 5 &&
         (l.typ == .endpoint || l.typ == .cascade || l.typ == .stream)) then .fail s stBadParam else
    if l.hostKeyed then .fail s stWrongState else
    match (tget s.trust.dtls l.tenant).bind fun k => k.gens.getLast? with
    | none => .fail s stNoDtlsKey
    | some g =>
      .ok (s.dtlsBind i g.gen c) (le 2 g.gen ++ zeros 2)

/-- Key and salt lengths of a profile (Table 19-2). -/
def keyLen (p : Nat) : Nat := if p = 5 then 32 else 16
def saltLen (p : Nat) : Nat := if p = 4 || p = 5 then 12 else 14

/-- Whether the parameters of KEY_IMPORT are in range, with zeros behind each key and salt (Table 19-2). -/
def keyFields (c : Cmd) : Bool :=
  let p := c.u 0 1
  let pad (off : Nat) : Bool := c.padded off (keyLen p) 32 && c.padded (off + 32) (saltLen p) 16
  c.rng 0 1 1 5 && c.zero 1 3 && c.zero 100 4 && pad 4 && pad 52

/-- A host key stored, with event 48 at the tenant's first and event 49 while the store is nearly full (R614, R615). -/
def State.importKey (s : State) (fn profile : Nat) (rx tx : List Byte) : Nat × State :=
  let d := s.free
  let i := freeIndex (tkeys d.2.trust.keys) 16384 d.1
  let s := d.2.modTrust fun r => { r with keys := tset r.keys i ⟨fn, profile, rx, tx⟩ }
  let s := if bit s.trust.hostEver fn then s
    else (s.modTrust fun r => { r with hostEver := r.hostEver + 2 ^ fn }).raise 48 0 (le 1 fn)
  let n := s.trust.keys.length
  (i, if 15000 < n then s.raiseWK 49 0 0 (le 4 n) else s)

/-- KEY_IMPORT (R614 to R616). -/
def bodyKeyImport : Body := fun _ c s =>
  if !keyFields c then .fail s stBadParam else
  if !bit (s.quotas.getD c.fn {}).policy 0 then .fail s stNotPermitted else
  if 16384 ≤ s.trust.keys.length then .fail s stNoResource else
  let r := s.importKey c.fn (c.u 0 1) (c.bytes 4 48) (c.bytes 52 48)
  .ok r.2 (le 4 (mkHandle 13 r.1))

/-- KEY_DELETE (R615). -/
def bodyKeyDelete : Body := fun _ c s =>
  if s.legs.any fun p => p.2.hostKeyed && p.2.typeObj == c.obj then .fail s stKeyInUse else
  .ok (s.modTrust fun r => { r with keys := tdel r.keys (hIdx c.obj) })

/-- TRUNK_KEY_SET (R617). -/
def bodyTrunkKeySet : Body := fun _ c s =>
  let i := hIdx c.obj
  let h := c.u 0 4
  let r := checkHandle s c.fn false [13] h
  if r ≠ 0 then .fail s r else
  match s.leg i, tget s.trust.keys (hIdx h) with
  | some l, some k =>
    if !(l.typ == .trunk || (l.typ == .stream && l.typeObj != 0)) then .fail s stWrongState else
    let s := s.modLeg i fun l => { l with typeObj := h }
    .ok ((s.installKeys i k.profile k.rx k.tx).legConnected i)
  | _, _ => .fail s stNoObject

/-- TAMPER_SET (R790, Table 18-6). -/
def bodyTamperSet : Body := fun _ c s =>
  if !(c.rng 0 1 0 7 && c.rng 1 1 0 2 && c.zero 2 2) then .fail s stBadParam else
  if c.u 0 1 = 0 && c.u 1 1 ≠ 2 then .fail s stClassFixed else
  .ok (s.modTrust fun r => { r with classes := setAt r.classes (c.u 0 1) (c.u 1 1) })

/-- STATE of TAMPER_QUERY (Table 18-12). -/
def State.tamperState (s : State) : Nat :=
  if s.sys.mode = .lockdown then (if s.trust.meshLatch then 2 else 1)
  else if s.sys.mode = .fieldReturn && s.trust.lockdownHeld then 3 else 0

def bodyTamperQuery : Body := fun _ _ s =>
  let s := s.pkUpdate
  let r := s.trust
  .ok s (le 1 s.tamperState ++ le 1 (b2n r.provisioned) ++ le 2 r.vbatMv ++ r.classes.flatMap (le 1) ++ le 4 r.active ++
    le 4 r.t0 ++ le 4 r.t1 ++ le 4 r.t2 ++ le 4 r.keys.length ++ le 2 r.ctrHub ++ le 2 r.ctrCluster ++
    le 4 r.provisionCount ++ le 4 r.handshakes ++ le 4 (r.pkE + r.pkS))

/-- The rollback counter after IMAGE_COMMIT: of the hub image or of the oldest running cluster image (R630). -/
def State.committed (s : State) (hub : Bool) : Nat :=
  let old := if hub then s.trust.ctrHub else s.trust.ctrCluster
  max old (if hub then (match s.trust.hubImage with | some i => i.svn | none => old)
    else (match s.runningImages with | i :: _ => i.svn | [] => old))

/-- IMAGE_COMMIT: a rollback counter rises to the SVN of the running image; it never falls (R630). -/
def bodyImageCommit : Body := fun _ c s =>
  if !(c.rng 0 1 1 2 && c.zero 1 3) then .fail s stBadParam else
  let hub := c.u 0 1 == 1
  let new := s.committed hub
  let s := s.modTrust fun r => if hub then { r with ctrHub := new } else { r with ctrCluster := new }
  .ok (s.raise 47 0 (le 1 (c.u 0 1) ++ le 2 new)) (le 2 new ++ zeros 2)

/-! The random generator (R608). -/

/-- RNG_HEALTH_TEST: a failed test stops key generation until a repeated test passes. -/
def execRngHealthTest (t : Nat) (failed : Option Nat) (s : State) : Host.Outcome State Fault Refusal :=
  let s := s.advance t
  match failed with
  | some k => .next ((s.modTrust fun r => { r with rngFailed := true }).raise 51 0 (le 1 (k % 2)))
  | none => .next (s.modTrust fun r => { r with rngFailed := false })

def execAttestReport (c : Cmd) (s : State) := runBelex 0x1000 bodyAttestReport c s
def execIdCertRead (c : Cmd) (s : State) := runBelex 0x1001 bodyIdCertRead c s
def execProvisionSet (c : Cmd) (s : State) := runBelex 0x1010 bodyProvisionSet c s
def execProvisionDone (c : Cmd) (s : State) := runBelex 0x1011 bodyProvisionDone c s
def execTrustReprovision (c : Cmd) (s : State) := runBelex 0x1012 bodyTrustReprovision c s
def execPeerMeasSet (c : Cmd) (s : State) := runBelex 0x1013 bodyPeerMeasSet c s
def execDtlsKeyCreate (c : Cmd) (s : State) := runBelex 0x1020 bodyDtlsKeyCreate c s
def execDtlsCertRead (c : Cmd) (s : State) := runBelex 0x1021 bodyDtlsCertRead c s
def execDtlsLegSet (c : Cmd) (s : State) := runBelex 0x1022 bodyDtlsLegSet c s
def execKeyImport (c : Cmd) (s : State) := runBelex 0x1030 bodyKeyImport c s
def execKeyDelete (c : Cmd) (s : State) := runBelex 0x1031 bodyKeyDelete c s
def execTrunkKeySet (c : Cmd) (s : State) := runBelex 0x1032 bodyTrunkKeySet c s
def execTamperSet (c : Cmd) (s : State) := runBelex 0x1040 bodyTamperSet c s
def execTamperQuery (c : Cmd) (s : State) := runBelex 0x1041 bodyTamperQuery c s
def execImageCommit (c : Cmd) (s : State) := runBelex 0x1050 bodyImageCommit c s

end Sys2Proof.Machine
end

