-- ==== Sys2Proof/Machine/Ingress.lean ====
section
/-! DEFINITION. Packet ingress up to the cipher cluster: the parse tree, policing, flow lookup, STUN, the reservation of ring
space, and the 0x02xx commands (file 04 of spec/). -/

namespace Sys2Proof.Machine

def stPortBusy : Nat := 0x8200
def stAddrInUse : Nat := 0x8201
def stUfragInUse : Nat := 0x8202

/-! Local addresses. -/

/-- The index of a valid local address of a port. -/
def State.localIndex (s : State) (port : Nat) (v6 : Bool) (ip : Nat) : Option Nat :=
  let l := (s.net.ports.getD port {}).addrs
  let i := l.findIdx fun a => a.valid && a.v6 == v6 && a.ip == ip
  if i < l.length then some i else none

/-- The solicited-node multicast of an IPv6 address, as a MAC and as an IP address. -/
def solicitedMac (ip : Nat) : Nat := 0x3333FF000000 + ip % 2 ^ 24
def solicitedIp (ip : Nat) : Nat := 0xFF0200000000000000000001FF000000 + ip % 2 ^ 24

/-- The MAC multicast addresses of PTP (Table 20-1). -/
def ptpMacs : List Nat := [0x01005E000181, 0x01005E00006B, 0x333300000181, 0x33330000006B]

/-- Whether a port is that of the PTP instance. -/
def State.ptpOn (s : State) (port : Nat) : Bool := s.time.instance_ && s.time.netPort == port

/-- Step 1 of Table 04-2; a port whose MAC address is 0 passes broadcast frames alone (R144). -/
def State.forUs (s : State) (port : Nat) (f : RxFrame) : Bool :=
  let p := s.net.ports.getD port {}
  (f.dst == 0xFFFFFFFFFFFF && match f.body with | .arp _ _ _ _ => true | _ => false) ||
  (p.mac != 0 && (f.dst == p.mac ||
    (p.addrs.any fun a => a.valid && a.v6 && solicitedMac a.ip == f.dst) ||
    (s.ptpOn port && ptpMacs.contains f.dst)))

/-! Rings (R159, R160). -/

/-- The ring of a packet: 0 CONTROL, 1 AUDIO, 2 VIDEO, 3 BULK (Table 04-4). -/
def ringOf (kind : Option Nat) : Nat := match kind with | some 1 => 1 | some 2 => 2 | some _ => 3 | none => 0

/-- A ring changed. -/
def State.modRing (s : State) (pipe cls : Nat) (f : Ring → Ring) : State :=
  { s with net := { s.net with pipes := modAt s.net.pipes pipe fun (p : Pipeline) => { p with rings := modAt p.rings cls f } } }

/-- Ring space reserved for a packet whose plaintext has `plain` bytes, or the packet dropped and counted; the truth value
says that there was space. -/
def State.reserve (s : State) (pipe port cls : Nat) (e : RingEntry) : Bool × State :=
  let r := (s.net.pipes.getD pipe {}).rings.getD cls ⟨0, []⟩
  if (sumOf r.entries fun x => x.size) + e.size ≤ r.size then
    (true, s.modRing pipe cls fun r => { r with entries := r.entries ++ [e] })
  else
    let s := (s.modIng e.leg fun g => { g with ringDrops := g.ringDrops + 1 }).portCount port (if cls = 3 then 14 else 13) 1
    (false, s.raiseCount 114 (pipe * 4 + cls) 0 (le 1 pipe ++ le 1 cls))

/-- The size of a ring entry (R159). -/
def ringSize (plain : Nat) : Nat := 64 + (plain + 63) / 64 * 64

/-- The bytes of a packet's plaintext: from the first byte of its RTP or RTCP header, or a DTLS record whole; the SRTCP
index and the tags are not of it. -/
def plainBytes : UdpBody → Nat
  | .rtp p => rtpBytes p
  | .rtcp p => rtcpBytes p - 4
  | .dtls r => r.length
  | _ => 0

/-- The creation of the flow, or else of the leg, that a packet is for. -/
def State.madeFor (s : State) (leg : Nat) (flow : Option Nat) : Nat :=
  match flow with
  | some i => (match s.flow i with | some f => f.order | none => 0)
  | none => (match s.leg leg with | some l => l.created | none => 0)

/-- The ring entry of a packet, not committed yet. -/
def State.ringEntry (s : State) (leg : Nat) (flow : Option Nat) (stamp len : Nat) (b : UdpBody) : RingEntry :=
  { id := s.cip.nextJob, size := ringSize (plainBytes b), committed := false, flow := flow, leg := leg
    tenant := (match s.leg leg with | some l => l.tenant | none => 0), made := s.madeFor leg flow
    stamp := stamp, len := len, body := b, ext := 0 }

/-! Flow lookup (R73, R640) and admission. -/

/-- The receive flow of a leg that an SSRC names. -/
def State.flowBySsrc (s : State) (leg ssrc : Nat) : Option Nat :=
  ((s.flowsOf leg).find? fun p => p.2.dir == 1 && p.2.state == .live && p.2.ssrc == ssrc).map fun p => p.1

/-- The receive flow of an RTP packet: by SSRC, else the LEARNING flow with its MID and RID. -/
def State.flowOfRtp (s : State) (leg : Nat) (p : Rtp) : Option Nat :=
  match s.flowBySsrc leg p.ssrc with
  | some i => some i
  | none => ((s.flowsOf leg).find? fun q => q.2.dir == 1 && q.2.state == .learning && q.2.mid == p.mid && q.2.rid == p.rid).map
      fun q => q.1

/-- Whether every consumer of a receive flow is shed in RIDETHROUGH (Table 04-3). -/
def State.consumerShed (s : State) (flow : Nat) : Bool :=
  let i := s.classFlow flow
  match s.flow i with
  | none => false
  | some f =>
    let ctx := if hType f.sink = 4 then (match s.dec (hIdx f.sink) with | some d => [d.st == .shed] | none => []) else []
    let sends := (s.flows.filter fun p => p.2.dir == 2 && p.2.fwd.bound && p.2.kind == f.kind &&
      (match s.flow p.2.fwd.source with | some x => x.leg == f.leg && x.mid == f.mid | none => false)).map fun p => p.2.fwd.shed
    let all := ctx ++ sends
    !all.isEmpty && all.all fun b => b

/-- Packets dropped for want of a key, before or in the cluster (R642, R645, R655). -/
def State.dropKeyless (s : State) (leg : Nat) : State :=
  (s.cipCount 6 1).modIng leg fun g => { g with noKeys := g.noKeys + 1 }

/-- A packet admitted with its MAC stamp (R140): ring space reserved, and a place in the cluster's admission queue (R158,
R160, R648). -/
def State.admitPacket (s : State) (port leg : Nat) (flow : Option Nat) (stamp len : Nat) (b : UdpBody) : State :=
  let c := s.crypto leg flow
  if c.keyless s.cip.gen || c.ended then s.dropKeyless leg else
  let pipe := port / 4
  let kind := match b with | .rtp _ => flow.bind fun i => (s.flow i).map fun f => f.kind | _ => none
  let cls := ringOf kind
  let beyond := match s.leg leg with | some l => l.overhead | none => 0
  let id := s.cip.nextJob
  let (ok, s) := s.reserve pipe port cls (s.ringEntry leg flow stamp len b)
  if !ok then s else
  let s := s.offer (len - beyond)
  if 16384 ≤ s.cip.inQ.length then
    let s := s.modRing pipe cls fun r => { r with entries := r.entries.filter fun x => x.id != id }
    (s.cipCount 2 1).raiseCount 52 pipe 0 (le 1 pipe)
  else
    let j : CipherJob := ⟨id, pipe, flow, leg, cls, stamp, len, b, true, port, none, none, c.epoch, .queued⟩
    { s with cip := { s.cip with nextJob := id + 1, inQ := s.cip.inQ ++ [j] } }.cipRun

/-- A packet of a flow passes the flow cache, or waits in its pipeline's miss queue (R78, R80). What makes a context more
recently used, for the order of R81, is such a hit by the classifier, and a fill; the sending of a send flow does not
(DESIGN CHOICE: R81 names no use). -/
def State.throughCache (s : State) (port leg flow len : Nat) (b : UdpBody) : State :=
  match s.flow flow with
  | none => s
  | some f =>
    if f.cached then (s.modFlow flow fun f => { f with used := s.now }).admitPacket port leg (some flow) s.now len b
    else if 1024 ≤ (s.net.pipes.getD (port / 4) {}).miss.length then
      (s.dropCache leg).raiseCount 111 (legH leg) (legH leg) []
    else { s with net := { s.net with pipes := modAt s.net.pipes (port / 4) fun (p : Pipeline) =>
      { p with miss := p.miss ++ [⟨flow, leg, s.now, len, b, port⟩] } } }

/-- The packets of a flow that wait for its context, in arrival order. -/
def State.missOf (s : State) (flow : Nat) : List MissEntry := s.net.pipes.flatMap fun p => p.miss.filter fun m => m.flow == flow

/-- A flow's context enters the cache, and its waiting packets are admitted under their MAC stamps. -/
def State.cacheFill (s : State) (flow : Nat) : State :=
  let mine := s.missOf flow
  let s := s.cacheIn flow
  let s := { s with net := { s.net with pipes := s.net.pipes.map fun (p : Pipeline) =>
    { p with miss := p.miss.filter fun m => m.flow != flow } } }
  mine.foldl (fun (s : State) m => s.admitPacket m.port m.leg (some flow) m.stamp m.len m.body) s

/-- FLOW_CACHE_FILL: the context of a flow has been fetched; its packets leave the miss queue in arrival order (R78 to R81). -/
def execFlowCacheFill (t flow : Nat) (s : State) : Host.Outcome State Fault Refusal :=
  let s := s.advance t
  .next (if (s.missOf flow).isEmpty then s else s.cacheFill flow)

/-! Policers (R146 to R149). -/

/-- The media policer: whether a frame passes. -/
def State.mediaPass (s : State) (leg len : Nat) : Bool × State :=
  match s.leg leg with
  | none => (false, s)
  | some l =>
    let g := l.ing.refill s.now
    if len * byteTok ≤ g.mediaTokens then
      (true, s.modIng leg fun _ => { g with mediaTokens := g.mediaTokens - len * byteTok })
    else
      (false, (s.modIng leg fun _ => { g with policed := g.policed + 1 }).raiseCount 100 (legH leg) (legH leg) [])

/-- The control policer: whether a packet passes. -/
def State.ctrlPass (s : State) (leg : Nat) : Bool × State :=
  match s.leg leg with
  | none => (false, s)
  | some l =>
    let g := l.ing.refill s.now
    if pktTok ≤ g.ctrlTokens then (true, s.modIng leg fun _ => { g with ctrlTokens := g.ctrlTokens - pktTok })
    else (false, (s.modIng leg fun _ => { g with ctrlDrops := g.ctrlDrops + 1 }).raiseCount 101 (legH leg) (legH leg) [])

/-- A packet dropped under R156 or R157. -/
def State.ctrlDrop (s : State) (leg : Nat) : State := s.modIng leg fun g => { g with ctrlDrops := g.ctrlDrops + 1 }

/-! STUN (R152 to R156). -/

/-- An address in the form of REMOTE_IP (Table 02-12). -/
def ipField (ip : Nat) : List Byte := be 16 ip

/-- Whether a request passes R152 on a leg. -/
def stunOk (l : Leg) (m : Stun) : Bool :=
  l.ice.set && m.fingerprint && m.username == l.ice.lfrag ++ [58] ++ l.ice.rfrag && m.integrityPwd == l.ice.pwd && m.controlling

/-- The response to a Binding request, to its source: XOR-MAPPED-ADDRESS, MESSAGE-INTEGRITY and FINGERPRINT (R152). -/
def State.stunReply (s : State) (leg src srcPort : Nat) (m : Stun) : State :=
  match s.leg leg with
  | none => s
  | some l =>
    let v6 := bit l.flags 0
    let r : Stun := { binding := false, username := [], integrityPwd := l.ice.pwd, controlling := false
                      transaction := m.transaction, mapped := some (src, srcPort) }
    s.hand ⟨l.netPort, some leg, none, 7, l.overhead + (if v6 then 76 else 64), false,
      .ip v6 true 0 false (s.localIp l) src (.udp l.localUdp srcPort false true (.stun r)), none, none⟩

/-- A frame unmatched (step 8), with event 102 past 10,000 in a window. -/
def State.unmatched (s : State) (port : Nat) : State :=
  let c := (s.portCount port 10 1).countIn 102 port 1
  if c.1 = 10001 then c.2.raise 102 0 (le 1 port ++ le 4 c.1) else c.2

/-- Whether a leg's consent has run out by an instant: at the limit a request is too late (R155). -/
def Leg.consentOver (l : Leg) (t : Nat) : Bool :=
  l.typ == .endpoint && (l.state == .active || l.state == .held) && decide (l.ice.consentFrom + l.ice.consentS * secU ≤ t)

/-- Consent lost: event 105, and the leg closes (R155, Table 02-3). -/
def State.loseConsent (s : State) (leg : Nat) (l : Leg) : State :=
  (s.raise 105 (legH leg) (le 4 (dtSec l.ice.lastValid))).closeLeg leg false []

/-- A STUN message for a leg whose consent stands. -/
def State.stunTake (s : State) (leg src srcPort : Nat) (m : Stun) : State :=
  let (ok, s) := s.ctrlPass leg
  match s.leg leg with
  | none => s
  | some l =>
    if !ok then s
    else if l.typ ≠ .endpoint || !m.binding then s.ctrlDrop leg
    else if !stunOk l m then
      (s.modIng leg fun g => { g with stunAuthFail := g.stunAuthFail + 1 }).raiseCount 106 (legH leg) (legH leg) []
    else
      let heard (s : State) : State :=
        s.modLeg leg fun l => { l with ice := { l.ice with lastValid := s.now, consentFrom := s.now } }
      let fresh := l.remoteIp == 0 && l.remoteUdp == 0
      if l.remoteIp = src && l.remoteUdp = srcPort then (heard s).stunReply leg src srcPort m
      else if !fresh && !m.useCandidate then (heard s).stunReply leg src srcPort m
      else
        let l' := { l with remoteIp := src, remoteUdp := srcPort }
        if s.legs.any fun p => p.1 != leg && p.2.matchable && sameTransport p.2 l' then s.ctrlDrop leg else
        let s := (heard s).modLeg leg fun l => { l with
          remoteIp := src, remoteUdp := srcPort,
          ice := { l.ice with learned := true, moves := if fresh then l.ice.moves else l.ice.moves + 1 } }
        let s := s.raise (if fresh then 103 else 104) (legH leg) (ipField src)
        let s := s.stunReply leg src srcPort m
        if fresh then s.clientStart leg else s

/-- A STUN message for a leg; at CONSENT_LIMIT the leg has closed, and the message matches nothing (R155, R71). -/
def State.stunReceive (s : State) (leg src srcPort : Nat) (m : Stun) : State :=
  match s.leg leg with
  | none => s
  | some l => if l.consentOver s.now then (s.loseConsent leg l).unmatched l.netPort else s.stunTake leg src srcPort m

/-! Media and DTLS of a leg. -/

/-- A DTLS record of a leg: committed to the CONTROL ring for the control cores, and counted (R157, R794). -/
def State.dtlsReceive (s : State) (port leg len : Nat) (r : List Byte) : State :=
  let (ok, s) := s.ctrlPass leg
  match s.leg leg with
  | none => s
  | some l =>
    if !ok then s
    else if !(l.typ == .endpoint || l.typ == .cascade || (l.typ == .stream && l.typeObj == 0)) then s.ctrlDrop leg
    else
      let e := { s.ringEntry leg none s.now len (.dtls r) with committed := true }
      let s := { s with cip := { s.cip with nextJob := s.cip.nextJob + 1 } }
      let (ok, s) := s.reserve (port / 4) port 0 e
      if ok then s.modIng leg fun g => { g with rxBytes := g.rxBytes + len } else s

/-- An RTP packet of a leg, past the media policer. -/
def State.rtpReceive (s : State) (port leg len : Nat) (p : Rtp) : State :=
  match s.flowOfRtp leg p with
  | none =>
    (s.dropUnknown leg 1).raiseW 110 (legH leg) (le 4 p.ssrc)
  | some i =>
    let kind := match s.flow i with | some f => f.kind | none => 1
    if s.sys.mode = .ridethrough && kind ≠ 1 && s.consumerShed i then
      s.modIng leg fun g => { g with shedDrops := g.shedDrops + 1 }
    else s.throughCache port leg i len (.rtp p)

/-- An RTCP packet of a leg, past the media policer: of the flow of its sender, else of the leg RTCP context (R640). -/
def State.rtcpReceive (s : State) (port leg len : Nat) (p : Rtcp) : State :=
  match s.flowBySsrc leg p.ssrc with
  | some i => s.throughCache port leg i len (.rtcp p)
  | none =>
    let c := s.crypto leg none
    match c.bound with
    | some x =>
      if x = p.ssrc then s.admitPacket port leg none s.now len (.rtcp p)
      else
        let s := (s.cipCount 7 1).modIng leg fun g => { g with rtcpUnbound := g.rtcpUnbound + 1 }
        s.raiseW 58 (legH leg) (le 4 p.ssrc)
    | none => s.admitPacket port leg none s.now len (.rtcp p)

/-- RTP or RTCP for a leg: the media policer, then the leg's state, then flow lookup (R146, Table 04-3). -/
def State.mediaReceive (s : State) (port leg len : Nat) (b : UdpBody) : State :=
  let (ok, s) := s.mediaPass leg len
  if !ok then s else
  match s.leg leg with
  | none => s
  | some l =>
    if l.state = .connecting then s.modIng leg fun g => { g with noKeys := g.noKeys + 1 } else
    match b with
    | .rtp p => s.rtpReceive port leg len p
    | .rtcp p => s.rtcpReceive port leg len p
    | _ => s

/-! The parse tree (Table 04-2). Port counters: 6 NOT_FOR_US, 7 BAD_HEADER, 8 FRAGMENT, 9 ICMP, 10 UNMATCHED. -/

/-- The leg that a datagram matches by its full transport (R63), and whether it came to LOCAL_UDP + 1. -/
def State.legFor (s : State) (port : Nat) (tag : Option Nat) (v6 : Bool) (src dst sp dp : Nat) : Option (Nat × Bool) :=
  match s.localIndex port v6 dst with
  | none => none
  | some a =>
    let hit (l : Leg) (odd : Bool) : Bool :=
      l.matchable && l.netPort == port && l.localAddr == a && l.vid == tag && bit l.flags 0 == v6 && l.remoteIp == src &&
      l.remoteUdp != 0 &&
      (if odd then !bit l.flags 2 && l.localUdp + 1 == dp && (l.remoteUdp == sp || l.remoteUdp + 1 == sp)
       else l.localUdp == dp && l.remoteUdp == sp)
    match s.legs.find? fun p => hit p.2 false with
    | some p => some (p.1, false)
    | none => (s.legs.find? fun p => hit p.2 true).map fun p => (p.1, true)

/-- The endpoint leg that a Binding request without a match reaches by LFRAG (R153). -/
def State.legByFrag (s : State) (port : Nat) (v6 : Bool) (dst dp : Nat) (m : Stun) : Option Nat :=
  match s.localIndex port v6 dst with
  | none => none
  | some a => (s.legs.find? fun p => p.2.matchable && p.2.typ == .endpoint && p.2.netPort == port && p.2.localAddr == a &&
      p.2.localUdp == dp && p.2.ice.set && m.username.take (p.2.ice.lfrag.length + 1) == p.2.ice.lfrag ++ [58]).map fun p => p.1

/-- A UDP datagram: steps 8 to 10. -/
def State.udpReceive (s : State) (port len : Nat) (tag : Option Nat) (v6 : Bool) (src dst sp dp : Nat) (b : UdpBody) : State :=
  match s.legFor port tag v6 src dst sp dp with
  | some (leg, odd) =>
    let s := s.modIng leg fun g => { g with rxFrames := g.rxFrames + 1 }
    let mux := match s.leg leg with | some l => bit l.flags 2 | none => false
    match b with
    | .stun m => if odd then s.portCount port 7 1 else s.stunReceive leg src sp m
    | .dtls r => if odd then s.portCount port 7 1 else s.dtlsReceive port leg len r
    | .rtp _ => if odd then s.portCount port 7 1 else s.mediaReceive port leg len b
    | .rtcp _ => if odd || mux then s.mediaReceive port leg len b else s.portCount port 7 1
    | _ => s.portCount port 7 1
  | none =>
    match b with
    | .stun m =>
      (match (if m.binding then s.legByFrag port v6 dst dp m else none) with
       | some leg => (s.modIng leg fun g => { g with rxFrames := g.rxFrames + 1 }).stunReceive leg src sp m
       | none => s.unmatched port)
    | _ => s.unmatched port

/-- A request that step 6 answers, within 1,000 in a window. -/
def State.answerEcho (s : State) (port counter len : Nat) (b : EthBody) : State :=
  let w := windowOf s.now
  let x := (s.net.ports.getD port {}).echoWin
  let n := if x.1 = w then x.2 else 0
  let s := s.modPort port fun p => { p with echoWin := (w, n + 1) }
  if 1000 ≤ n then s.portCount port 9 1 else (s.portCount port counter 1).sendPort port len b

/-- An ICMP error matched to a leg by the header it embeds, with event 118. -/
def State.icmpError (s : State) (port : Nat) (tag : Option Nat) (v6 : Bool) (typ code mtu : Nat) (e : Embedded) : State :=
  let s := s.portCount port 9 1
  if !(if v6 then typ == 1 || typ == 2 else typ == 3) then s else
  match s.legFor port tag v6 e.dstIp e.srcIp e.dstPort e.srcPort with
  | some (leg, _) => s.raise 118 (legH leg) (le 1 typ ++ le 1 code ++ le 2 mtu)
  | none => s

/-- An IP packet: steps 4 to 7. -/
def State.ipReceive (s : State) (port len : Nat) (tag : Option Nat) (v6 ok : Bool) (ext : Nat) (frag : Bool) (src dst : Nat)
    (b : IpBody) : State :=
  let mine := (s.localIndex port v6 dst).isSome
  let ptp := s.ptpOn port && ptpIps.contains dst
  let solicited := v6 && (s.net.ports.getD port {}).addrs.any fun a => a.valid && a.v6 && solicitedIp a.ip == dst
  if !ok || (v6 && decide (2 < ext)) || !(mine || ptp || solicited) then s.portCount port 7 1
  else if frag then s.portCount port 8 1
  else match b with
  | .echoRequest i q =>
    if mine then s.answerEcho port 12 len (.ip v6 true 0 false dst src (.echoRequest i q)) else s.portCount port 9 1
  | .neighbourSolicit target =>
    if v6 && (s.localIndex port true target).isSome then
      s.answerEcho port 11 90 (.ip true true 0 false target src (.neighbourSolicit target))
    else s.portCount port 9 1
  | .icmpError typ code mtu inner => s.icmpError port tag v6 typ code mtu inner
  | .icmpOther => s.portCount port 9 1
  | .otherProtocol => s.portCount port 7 1
  | .udp sp dp zeroSum sumOk u =>
    if (if zeroSum then v6 else !sumOk) then s.portCount port 7 1
    else
      let inst := match (s.net.ports.getD port {}).addrs[s.time.addr]? with | some a => a.valid && a.v6 == v6 && a.ip == dst | none => false
      if s.ptpOn port && (dp = 319 || dp = 320) && (ptp || inst) then
        match u with
        | .ptp d o m => s.ptpReceive d o m
        | _ => s.ptpDrop
      else s.udpReceive port len tag v6 src dst sp dp u

/-- An ARP frame (step 3), with event 119 when another host claims a local address. -/
def State.arpReceive (s : State) (port : Nat) (request : Bool) (mac sender target : Nat) : State :=
  let s := match s.localIndex port false sender with
    | some i => if mac = (s.net.ports.getD port {}).mac then s else s.raise 119 0 (le 1 port ++ le 1 i)
    | none => s
  if request && (s.localIndex port false target).isSome then
    (s.portCount port 11 1).sendPort port 64 (.arp false (s.net.ports.getD port {}).mac target sender)
  else s.portCount port 7 1

/-- Whether the classifier processes frames in the present mode (R142). -/
def State.classifies (s : State) : Bool :=
  match s.sys.mode with
  | .standby => true | .service => true | .degraded => true | .ridethrough => true | .diagnostic => true | _ => false

/-- The modes in which a received frame is counted in the port's frames counter and under R141 alone (R142). -/
def State.dark (s : State) : Bool :=
  match s.sys.mode with
  | .provision => true | .lockdown => true | .fieldReturn => true | _ => false

/-- A frame of good size and FCS, of which the MAC buffer had room. -/
def State.classify (s : State) (port : Nat) (f : RxFrame) : State :=
  let tag := match f.tags with | [] => none | x :: _ => some (x % 4096)
  match f.body with
  | .pfc quanta => s.pauseReceived port quanta
  | _ =>
    if !s.forUs port f then s.portCount port 6 1
    else if 1 < f.tags.length then s.portCount port 7 1
    else match f.body with
      | .arp request mac sender target => s.arpReceive port request mac sender target
      | .ip v6 ok ext frag src dst b => s.ipReceive port f.len tag v6 ok ext frag src dst b
      | _ => s.portCount port 7 1

/-- A frame that the MAC of a port hands on: counted, the MAC buffer's level noted, and refused for its size, its FCS or the
buffer, or classified (R138 to R143, R165). -/
def State.frameArrived (s : State) (port : Nat) (f : RxFrame) (buf : Nat) : State :=
  let s := s.portCount port 0 1
  let s := if s.dark then s else s.portCount port 1 f.len
  let s := ((s.modPhys (port / 4) fun p => { p with macBuf := min buf 2097152 }).pfcUpdate (port / 4)).fcUpdate
  if f.len < 64 then s.portCount port 3 1
  else if 9216 < f.len then s.portCount port 4 1
  else if !f.fcsOk then
    let c := (s.portCount port 2 1).countIn 98 port 1
    if c.1 = 1001 then c.2.raise 98 0 (le 1 port ++ le 4 c.1) else c.2
  else if s.dark then s
  else if 2097152 < buf then (s.portCount port 5 1).raiseCount 99 (port / 4) 0 (le 1 (port / 4))
  else if !s.classifies then s
  else s.classify port f

/-- A port receives: it is provided, its link is up, and the MACs run. -/
def State.receives (s : State) (port : Nat) : Bool :=
  s.sys.macs && !s.sys.inReset && decide (port < 8) && s.portProvided port && (s.net.ports.getD port {}).up

/-- FRAME_RECEIVE: a frame as its MAC hands it on, and the bytes that then wait in the MAC buffer (R138 to R160, R165). -/
def execFrameReceive (t port : Nat) (f : RxFrame) (buf : Nat) (s : State) : Host.Outcome State Fault Refusal :=
  let s := s.advance t
  .next (if s.receives port then s.frameArrived port f buf else s)

/-! Consent and silence. -/

/-- CONSENT_LOST: CONSENT_LIMIT has elapsed since the last valid request of a connected endpoint leg (R155). -/
def execConsentLost (t leg : Nat) (s : State) : Host.Outcome State Fault Refusal :=
  let s := s.advance t
  match s.leg leg with
  | none => .next s
  | some l =>
    .next (if l.consentOver s.now then s.loseConsent leg l else s)

/-- MEDIA_TIMEOUT: no packet for 10 s on a LIVE receive flow that has had one (event 117). -/
def execMediaTimeout (t flow : Nat) (s : State) : Host.Outcome State Fault Refusal :=
  let s := s.advance t
  match s.flow flow with
  | none => .next s
  | some f =>
    if f.dir ≠ 1 || f.state ≠ .live || f.timedOut || f.packets = 0 || decide (s.now < f.lastArr + 10 * secU) then .next s else
    .next ((s.modFlow flow fun f => { f with timedOut := true }).raise 117 (flowH flow) (le 4 (dtSec f.lastArr)))

/-! Commands. -/

/-- PORT_SET_MODE (R138, R139): the links go down, and come up in the new mode with LINK_UP. -/
def bodyPortSetMode : Body := fun _ c s =>
  let n := match c.u 1 1 with | 0 => 1 | 1 => 2 | _ => 4
  if !(c.rng 0 1 0 1 && c.rng 1 1 0 2 && c.zero 2 2 && (List.range 4).all fun i => decide (i < n) || c.zero (4 + 6 * i) 6)
  then .fail s stBadParam else
  let p := c.u 0 1
  if s.legs.any fun l => l.2.typ != .port && l.2.netPort / 4 == p then .fail s stPortBusy else
  let s := (s.linksLost p).modPhys p fun q => { q with mode := c.u 1 1, macBuf := 0 }
  .ok ((List.range 4).foldl (fun (s : State) i => s.modPort (4 * p + i) fun (q : LPort) =>
    { q with mac := c.big (4 + 6 * i) 6, freeAt := s.now }) s)

/-- ADDR_SET (R144). -/
def bodyAddrSet : Body := fun _ c s =>
  let v6 := c.flag 2 2 0
  if !(c.rng 0 1 0 7 && c.rng 1 1 0 31 && c.mask 2 2 3 && c.zero 4 4 && (v6 || c.zero 8 12)) then .fail s stBadParam else
  let a : LocalAddr := ⟨v6, c.flag 2 2 1, c.big 8 16⟩
  let old := (s.net.ports.getD (c.u 0 1) {}).addrs.getD (c.u 1 1) {}
  let used := s.legs.any fun l => l.2.matchable && l.2.netPort == c.u 0 1 && l.2.localAddr == c.u 1 1
  if used && a != old then .fail s stAddrInUse else
  .ok (s.modPort (c.u 0 1) fun p => { p with addrs := setAt p.addrs (c.u 1 1) a })

/-- ICE_SET_CREDENTIALS (R153, R181). -/
def bodyIceSetCredentials : Body := fun _ c s =>
  let i := hIdx c.obj
  let nl := c.u 0 1
  let nr := c.u 1 1
  let np := c.u 2 1
  if !(c.rng 0 1 4 32 && c.rng 1 1 4 32 && c.rng 2 1 22 64 && c.zero 3 1 && c.rng0 4 2 5 120 && c.zero 6 2 &&
       c.padded 8 nl 32 && c.padded 40 nr 32 && c.padded 72 np 64) then .fail s stBadParam else
  match s.leg i with
  | none => .fail s stNoObject
  | some l =>
    if l.typ ≠ .endpoint then .fail s stWrongState else
    let lf := c.bytes 8 nl
    if s.legs.any fun p => p.1 != i && p.2.typ == .endpoint && p.2.matchable && p.2.netPort == l.netPort &&
        p.2.localAddr == l.localAddr && p.2.localUdp == l.localUdp && p.2.ice.set && p.2.ice.lfrag == lf
    then .fail s stUfragInUse else
    .ok (s.modLeg i fun l => { l with ice := { l.ice with
      set := true, lfrag := lf, rfrag := c.bytes 40 nr, pwd := c.bytes 72 np, consentS := c.dflt 4 2 30 } })

/-- POLICER_SET (R150). -/
def bodyPolicerSet : Body := fun _ c s =>
  let i := hIdx c.obj
  if !(c.rng 4 4 9216 1048576 && c.rng 8 2 1 10000 && c.rng 10 2 1 1024 && c.zero 12 4) then .fail s stBadParam else
  let kbps (l : Leg) : Nat := if c.u 0 4 = 0 then mediaDefault l.maxKbps else c.u 0 4
  .ok (s.modLeg i fun l =>
    let g := l.ing.refill s.now
    { l with ing := { g with
      mediaKbps := kbps l, mediaBurst := c.u 4 4, mediaTokens := min g.mediaTokens (c.u 4 4 * byteTok),
      ctrlPps := c.u 8 2, ctrlBurst := c.u 10 2, ctrlTokens := min g.ctrlTokens (c.u 10 2 * pktTok) } })

/-- JB_SET (R171). -/
def bodyJbSet : Body := fun _ c s =>
  let i := hIdx c.obj
  match s.flow i with
  | none => .fail s stNoObject
  | some f =>
    if f.kind ≠ 1 || f.dir ≠ 1 || !(c.rng 2 2 5 1000 && decide (c.u 0 2 ≤ c.u 2 2) && c.zero 4 4) then .fail s stBadParam else
    let g := nextGrain s.now
    .ok (s.modFlow i fun f => { f with jb := { f.jb with pend := some (g, c.u 0 2, c.u 2 2) } }) (le 8 g)

/-- INGRESS_STATS (Table 04-13). -/
def bodyIngressStats : Body := fun _ c s =>
  match s.leg (hIdx c.obj) with
  | none => .fail s stNoObject
  | some l =>
    let g := l.ing
    .ok s (le 4 g.rxFrames ++ le 4 g.policed ++ le 4 g.ctrlDrops ++ le 4 g.stunAuthFail ++ le 4 g.authFail ++ le 4 g.replay ++
      le 4 g.noKeys ++ le 4 g.heldDrops ++ le 4 g.shedDrops ++ le 4 g.ringDrops ++ le 4 g.late ++ le 4 g.duplicates ++
      le 4 g.nacksSent ++ le 4 g.rtxRecovered ++ le 4 g.fecRecovered ++ le 4 g.abandoned)

/-- PORT_STATS. -/
def bodyPortStats : Body := fun _ c s =>
  if !(c.rng 0 1 0 7 && c.zero 1 3) then .fail s stBadParam
  else .ok s ((s.net.ports.getD (c.u 0 1) {}).counters.flatMap (le 8))

/-- REMOTE_QUERY (Table 04-14). -/
def bodyRemoteQuery : Body := fun _ c s =>
  match s.leg (hIdx c.obj) with
  | none => .fail s stNoObject
  | some l => .ok s (ipField l.remoteIp ++ le 2 l.remoteUdp ++ le 2 (b2n (bit l.flags 0) + 2 * b2n l.ice.learned) ++ le 4 l.ice.moves)

def execPortSetMode (c : Cmd) (s : State) := runBelex 0x0200 bodyPortSetMode c s
def execAddrSet (c : Cmd) (s : State) := runBelex 0x0201 bodyAddrSet c s
def execIceSetCredentials (c : Cmd) (s : State) := runBelex 0x0210 bodyIceSetCredentials c s
def execPolicerSet (c : Cmd) (s : State) := runBelex 0x0211 bodyPolicerSet c s
def execJbSet (c : Cmd) (s : State) := runBelex 0x0220 bodyJbSet c s
def execIngressStats (c : Cmd) (s : State) := runBelex 0x0230 bodyIngressStats c s
def execPortStats (c : Cmd) (s : State) := runBelex 0x0231 bodyPortStats c s
def execRemoteQuery (c : Cmd) (s : State) := runBelex 0x0232 bodyRemoteQuery c s

end Sys2Proof.Machine
end

