-- ==== Sys2Proof/Machine/Cipher.lean ====
section
/-! DEFINITION. The cipher cluster: clear contexts, verdicts and the commit of received packets, protection of sent
packets, the self-test and the 0x11xx commands (file 19 of spec/, and R161, R162, R794). -/

namespace Sys2Proof.Machine

def stPinLimit : Nat := 0x9100

/-! Clear contexts (R643 to R645, R658). -/

/-- Whether packets of an owner are in the cluster. -/
def State.hasJobs (s : State) (h : Nat) : Bool := (s.cip.inQ ++ s.cip.outQ).any fun j => j.owner == h

/-- Whether an owner's clear context is pinned (R659). -/
def State.pinnedCtx (s : State) (h : Nat) : Bool := let o := s.ownerOf h; (s.crypto o.1 o.2).pinWanted

/-- The slot for a load: a free one, else that of the least recently used context without packets that is not pinned, which
is wrapped again. -/
def State.takeSlot (s : State) : Option Nat × State :=
  if s.cip.slots.length < 4096 then
    let (d, s) := s.free
    (some (freeIndex (tkeys s.cip.slots) 4096 d), s)
  else
    let l := s.cip.slots.filter fun p => !s.hasJobs p.2.owner && !s.pinnedCtx p.2.owner
    match sortBy (fun a b => decide (a.2.used < b.2.used)) l with
    | [] => (none, s)
    | (i, x) :: _ => (some i, { s with cip := { s.cip with slots := tdel s.cip.slots i } }.wrap x.owner)

/-- An owner whose stored state is corrupt: keyless, its leg in CONNECTING, event 54 (R645). -/
def State.unwrapFail (s : State) (h : Nat) : State :=
  let o := s.ownerOf h
  let gen := (s.crypto o.1 o.2).gen
  let s := (s.modCrypto o.1 o.2 fun c => { c with profile := 0 }).cipCount 5 1
  let s := s.raise 54 h (le 2 gen)
  let s := s.modLeg o.1 fun l => if l.state == .active || l.state == .held then
    { l with state := .connecting, connectFrom := s.now, dtls := { l.dtls with running := false, session := none } } else l
  s.clientStart o.1

/-- The unwrap of an owner's state: it takes a slot, where its session keys are derived (R639), or its keys go (R643 to
R645). -/
def State.loadClear (s : State) (h : Nat) (ok : Bool) : State :=
  let s := s.cipWindow
  let s := { s with cip := { s.cip with busy := s.cip.busy + 120 * nsU } }
  if !ok then (s.unwrapFail h).cipRun else
  match s.takeSlot with
  | (none, s) => s
  | (some i, s) =>
    let o := s.ownerOf h
    let x : ClearCtx := ⟨h, s.now, false, (s.crypto o.1 o.2).sessionKeys⟩
    let s := { s with cip := { s.cip with slots := tset s.cip.slots i x, winLoads := s.cip.winLoads + 1 } }.cipCount 3 1
    (s.modCrypto o.1 o.2 fun c => { c with loads := c.loads + 1 }).cipRun

/-- CLEAR_CONTEXT_LOAD: the unwrap of an owner's state ends, with its tag good or not (R643 to R645). -/
def execClearContextLoad (t h : Nat) (ok : Bool) (s : State) : Host.Outcome State Fault Refusal :=
  let s := s.advance t
  let o := s.ownerOf h
  let c := s.crypto o.1 o.2
  if !(hType h == 2 || hType h == 3) || !s.hasJobs h || (s.slotOf h).isSome || c.keyless s.cip.gen then .next s else
  .next (s.loadClear h ok)

/-- That state changed. -/
def State.modJobCtx (s : State) (j : CipherJob) (f : Crypto → Crypto) : State :=
  if (s.crypto j.leg j.flow).epoch = j.epoch then s.modCrypto j.leg j.flow f else
  { s with cip := { s.cip with olds := s.cip.olds.map fun o =>
    if o.1 == j.owner && o.2.1 == j.epoch then (o.1, o.2.1, f o.2.2) else o } }

/-- A packet leaves the cluster, and others take its place and its core; former keys that no packet uses any more go. -/
def State.leaveCluster (s : State) (j : CipherJob) : State :=
  let keep (l : List CipherJob) : List CipherJob := l.filter fun x => x.id != j.id
  let c := { s.cip with inQ := keep s.cip.inQ, outQ := keep s.cip.outQ, winPackets := s.cip.winPackets + 1 }
  let used (o : Nat × Nat × Crypto) : Bool := (c.inQ ++ c.outQ).any fun x => x.owner == o.1 && x.epoch == o.2.1
  { s with cip := { c with olds := c.olds.filter used }.fill }.cipRun

/-- The clear context of a packet, used and not yet wrapped again. -/
def State.touchSlot (s : State) (h : Nat) : State :=
  match s.slotOf h with
  | none => s
  | some i => { s with cip := { s.cip with slots := tmod s.cip.slots i fun x => { x with used := s.now, dirty := true } } }

/-- What the check bits of a clear context say: 1 corrected, which is logged as hub SRAM at an address that the spec does not
give (R568), 2 uncorrectable (R658). The truth value says that the packet can go on. -/
def State.slotEcc (s : State) (h ecc : Nat) : Bool × State :=
  match ecc, s.slotOf h with
  | 1, some _ =>
    let (a, s) := (s.raiseAt 60 0 64).free
    let (b, s) := s.free
    (true, s.sramCorrected 6 (a / 8 * 8) (b % 72) none)
  | 2, some i =>
    let dirty := match tget s.cip.slots i with | some x => x.dirty | none => false
    let s := { s with cip := { s.cip with slots := tdel s.cip.slots i } }.raise 61 h (le 2 i)
    (false, if dirty then s.unwrapFail h else s)
  | _, _ => (true, s)

/-- The lifetime of a key after one more packet under it (R655): kind 0 SRTP, 1 SRTCP. -/
def State.lifetime (s : State) (j : CipherJob) (kind dir : Nat) : State :=
  let c := s.jobCtx j
  let n := if kind = 0 then c.used else c.usedRtcp
  let near := if kind = 0 then 2 ^ 47 else 2 ^ 30
  let end_ := if kind = 0 then 2 ^ 48 else 2 ^ 31
  let h := j.owner
  let s := if n = near && !c.warned then
    (s.modJobCtx j fun c => { c with warned := true }).raise 56 h (le 1 kind ++ le 1 dir) else s
  if n = end_ then (s.modJobCtx j fun c => { c with ended := true }).raise 57 h (le 1 kind ++ le 1 dir) else s

/-! Receive (R650 to R653, R161, R162). -/

/-- The packet index estimated from S_L and ROC; the first packet of a context is taken in the present rollover. -/
def Crypto.estimate (c : Crypto) (seq : Nat) : Int :=
  let v : Int :=
    if !c.started then c.roc
    else if c.sL < 32768 then (if 32768 + c.sL < seq then (c.roc : Int) - 1 else c.roc)
    else if seq + 32768 < c.sL then (c.roc : Int) + 1 else c.roc
  v * 65536 + seq

/-- Whether an index is a replay against the highest one and a window of `n` packets. -/
def replayed (high : Nat) (started : Bool) (win n : Nat) (idx : Int) : Bool :=
  started && decide (idx ≤ high) && (decide ((n : Int) ≤ high - idx) || bit win (high - idx).toNat)

/-- The highest index and window after a packet that passed. -/
def slideWin (high : Nat) (started : Bool) (win n idx : Nat) : Nat × Nat :=
  if !started then (idx, 1)
  else if high < idx then (idx, if n ≤ idx - high then 1 else (win * 2 ^ (idx - high) + 1) % 2 ^ n)
  else (high, win ||| 2 ^ (high - idx))

/-- A packet dropped by its verdict: its ring entry goes, and the cause is counted (R162): 0 FCS, 1 replay,
2 authentication. -/
def State.rewind (s : State) (j : CipherJob) (cause : Nat) : State :=
  let s := s.modRing j.pipe j.cls fun r => { r with entries := r.entries.filter fun e => e.id != j.id }
  let flow (s : State) (f : Flow → Flow) : State := match j.flow with | some i => s.modFlow i f | none => s
  match cause with
  | 0 =>
    let c := ((flow s fun f => { f with fcsFails := f.fcsFails + 1 }).portCount j.port 2 1).countIn 98 j.port 1
    if c.1 = 1001 then c.2.raise 98 0 (le 1 j.port ++ le 4 c.1) else c.2
  | 1 =>
    let s := (flow s fun f => { f with replays := f.replays + 1 }).modIng j.leg fun g => { g with replay := g.replay + 1 }
    (s.modCrypto j.leg j.flow fun c => { c with replay := c.replay + 1 }).raiseAt 108 j.owner 16
  | _ =>
    let s := (flow s fun f => { f with authFails := f.authFails + 1 }).modIng j.leg fun g => { g with authFail := g.authFail + 1 }
    (s.modCrypto j.leg j.flow fun c => { c with authFail := c.authFail + 1 }).raiseAt 107 j.owner 16

/-- Whether an extended sequence number jumps so far that the flow's accounting is anchored again (R176). -/
def Flow.jumps (f : Flow) (ext : Nat) : Bool := match f.extSeq with | some x => decide (x + 32768 < ext) | none => false

/-- RFC 3550 accounting of a received RTP packet: extended sequence number, loss and jitter. A jump anchors it again; the
loss counted so far stays. -/
def Flow.account (f : Flow) (stamp ext : Nat) (p : Rtp) : Flow :=
  let d : Int := match f.transit with
    | none => 0
    | some (t, ts) => ((stamp : Int) - t) - tsDiff p.ts ts * (secU : Int) / (max 1 f.clockRate : Nat)
  let f := { f with transit := some (stamp, p.ts), jitter := f.jitter + d.natAbs - (f.jitter + 8) / 16 }
  if f.jumps ext then
    { f with extSeq := some ext, baseSeq := ext - f.lost, rtpRec := 1, rrExp := f.lost, rrRec := 0 }
  else
    let high := match f.extSeq with | none => ext | some x => max x ext
    let base := if f.extSeq.isNone then ext else f.baseSeq
    { f with extSeq := some high, baseSeq := base, rtpRec := f.rtpRec + 1, lost := high + 1 - base - (f.rtpRec + 1) }

/-- A LEARNING flow bound to the SSRC of a packet that passed every verdict (Table 02-4, R791), with event 109. A context in
the cache moves to its new set; one that has left it comes back by its own fetch, behind the packets that wait for that
(R79). -/
def State.bindSsrc (s : State) (flow ssrc : Nat) : State :=
  match s.flow flow with
  | none => s
  | some f =>
    let room := s.pinnedIn (cacheSet f.leg ssrc) < 12
    let s := s.modFlow flow fun f => { f with ssrc := ssrc, state := .live, pinned := f.pinned && room }
    (if f.cached then s.cacheIn flow else s).raise 109 (flowH flow) (le 4 ssrc)

/-- A packet committed: its ring entry becomes visible, and it is counted (R161, R794). -/
def State.commit (s : State) (j : CipherJob) : State :=
  let s := s.modIng j.leg fun g => { g with rxBytes := g.rxBytes + j.len }
  let s := s.metric j.leg fun m => { m with rxPackets := m.rxPackets + 1 }
  let s := match j.flow with
    | some i => s.modFlow i fun f => { f with packets := f.packets + 1, bytes := f.bytes + j.len, lastArr := j.stamp, timedOut := false }
    | none => s
  let (ext, s) : Nat × State := match j.body, j.flow with
    | .rtp p, some i => (match s.flow i with
      | none => (0, s)
      | some f =>
        let ext := seqExt f.extSeq p.seq
        let new := match f.extSeq with | none => 1 | some x => if f.jumps ext then 1 else ext - x
        let s := s.modFlow i fun f => f.account j.stamp ext p
        (ext, (s.metric j.leg fun m => { m with expected := m.expected + new, rtpRx := m.rtpRx + 1 }).noteJitter j.leg))
    | _, _ => (0, s)
  s.modRing j.pipe j.cls fun r => { r with entries :=
    (r.entries.filter fun e => e.id != j.id) ++
    (r.entries.filter fun e => e.id == j.id).map fun (e : RingEntry) => { e with committed := true, ext := ext } }

/-- An RTP packet whose processing ends. -/
def State.verdictRtp (s : State) (j : CipherJob) (p : Rtp) (auth fcs : Bool) : State :=
  let c := s.jobCtx j
  let idx := c.estimate p.seq
  let high := c.roc * 65536 + c.sL
  if !fcs then s.rewind j 0
  else if decide (idx < 0) || replayed high c.started c.rtpWin 64 idx then s.rewind j 1
  else if !auth then s.rewind j 2
  else
    let flow := j.flow.getD 0
    let other := match s.flow flow with | some f => f.state != FlowState.learning && f.ssrc != p.ssrc | none => true
    if other then
      (s.dropUnknown j.leg 1).modRing j.pipe j.cls fun r =>
        { r with entries := r.entries.filter fun e => e.id != j.id }
    else
      let (h, w) := slideWin high c.started c.rtpWin 64 idx.toNat
      let s := s.modJobCtx j fun c => { c with
        sL := h % 65536, roc := h / 65536 % 2 ^ 32, rtpWin := w, started := true, used := c.used + 1 }
      let s := s.lifetime j 0 1
      let s := match s.flow flow with | some f => if f.state = FlowState.learning then s.bindSsrc flow p.ssrc else s | none => s
      s.commit j

/-- An RTCP packet whose processing ends; one of an SSRC that its leg's context has been bound against since its admission
is dropped as one before it (R640). -/
def State.verdictRtcp (s : State) (j : CipherJob) (p : Rtcp) (auth fcs : Bool) : State :=
  let c := s.jobCtx j
  let started := c.rtcpWin != 0
  let bad := j.flow.isNone && match c.bound with | some x => x != p.ssrc | none => false
  if bad then
    let s := (s.cipCount 7 1).modIng j.leg fun g => { g with rtcpUnbound := g.rtcpUnbound + 1 }
    (s.raiseW 58 (legH j.leg) (le 4 p.ssrc)).modRing j.pipe j.cls fun r =>
      { r with entries := r.entries.filter fun e => e.id != j.id }
  else if !fcs then s.rewind j 0
  else if replayed c.rtcpIndex started c.rtcpWin 32 p.index then s.rewind j 1
  else if !auth then s.rewind j 2
  else
    let (h, w) := slideWin c.rtcpIndex started c.rtcpWin 32 p.index
    let s := s.modJobCtx j fun c => { c with
      rtcpIndex := h, rtcpWin := w, usedRtcp := c.usedRtcp + 1
      bound := if j.flow.isNone then some p.ssrc else c.bound }
    let s := s.modCrypto j.leg j.flow fun c => if p.encrypted then c else { c with srtcpClear := c.srtcpClear + 1 }
    (s.lifetime j 1 1).commit j

/-- A received packet dropped for want of keys. -/
def State.dropJob (s : State) (j : CipherJob) : State :=
  (s.modRing j.pipe j.cls fun r => { r with entries := r.entries.filter fun e => e.id != j.id }).dropKeyless j.leg

/-- The verdict on a received packet whose context is loaded and sound (R650 to R653). -/
def State.verdict (s : State) (j : CipherJob) (auth fcs : Bool) : State :=
  let s := (s.cipCount 0 1).touchSlot j.owner
  let s := match j.body with
    | .rtp p => s.verdictRtp j p auth fcs
    | .rtcp p => s.verdictRtcp j p auth fcs
    | _ => s
  s.leaveCluster j

/-- CIPHER_VERDICT: the processing of a received packet ends, with its authentication, its FCS and the check bits of its
clear context. A packet is processed on a core, and with its clear context loaded (R643, R647). -/
def execCipherVerdict (t id : Nat) (auth fcs : Bool) (ecc : Nat) (s : State) : Host.Outcome State Fault Refusal :=
  let s := (s.advance t).cipWindow.cipRun
  match s.cip.inQ.find? fun j => j.id == id with
  | none => .next s
  | some j =>
    let c := s.jobCtx j
    if j.phase != .running then .next s
    else if c.keyless s.cip.gen || c.ended then .next ((s.dropJob j).leaveCluster j)
    else if (s.slotOf j.owner).isNone then .next s
    else
      let r := s.slotEcc j.owner ecc
      if !r.1 then .next (if (r.2.jobCtx j).keyless r.2.cip.gen then (r.2.dropJob j).leaveCluster j else r.2)
      else .next (r.2.verdict j auth fcs)

/-! Send (R654, R648). -/

/-- The highest index of a send flow after a packet with an index: S_L and ROC hold that one. A packet that leaves late, with
an earlier sequence number (R198), takes its index from the same estimate as on receive and moves neither (DEDUCED from
R650: R654 gives the ROC only for numbers that rise). -/
def Crypto.nextSend (c : Crypto) (idx : Nat) : Crypto :=
  if c.started && decide (idx ≤ c.roc * 65536 + c.sL) then c
  else { c with sL := idx % 65536, started := true, roc := idx / 65536 % 2 ^ 32 }

/-- The session keys of a packet: those of its clear context, or those under which it was admitted (R646). -/
def State.jobKeys (s : State) (j : CipherJob) : List (List Byte) :=
  match (s.slotOf j.owner).bind fun i => tget s.cip.slots i with
  | some x => if (s.crypto j.leg j.flow).epoch = j.epoch then x.keys else (s.jobCtx j).sessionKeys
  | none => []

/-- A packet protected: its index, and the body that leaves. A retransmission keeps the index of its first sending. -/
def State.protectJob (s : State) (j : CipherJob) : Nat × UdpBody × State :=
  match j.body with
  | .rtp p =>
    let idx := j.index.getD ((s.jobCtx j).estimate p.seq).toNat
    let s := s.modJobCtx j fun c => { (if j.index.isSome then c else c.nextSend idx) with used := c.used + 1 }
    let note (h : HistEntry) : HistEntry := if h.out = p.seq && h.index.isNone then { h with index := some idx } else h
    let s := match j.flow with
      | some i => if j.index.isSome then s else s.modFlow i fun f => { f with hist := f.hist.map note }
      | none => s
    (idx, .rtp p, s.lifetime j 0 2)
  | .rtcp p =>
    let s := s.modJobCtx j fun c => { c with rtcpIndex := (c.rtcpIndex + 1) % 2 ^ 31, usedRtcp := c.usedRtcp + 1 }
    let idx := (s.jobCtx j).rtcpIndex
    (idx, .rtcp { p with index := idx, encrypted := true }, s.lifetime j 1 2)
  | b => (0, b, s)

/-- A packet protected under its session keys and handed to the enqueue (R239, R654). -/
def State.encrypted (s : State) (j : CipherJob) : State :=
  let (idx, b, s) := ((s.cipCount 1 1).touchSlot j.owner).protectJob j
  let k : Seal := ⟨(s.jobCtx j).profile, s.jobKeys j, idx⟩
  let s := (s.leaveCluster j).backCheck j.pipe
  match s.leg j.leg with
  | none => s
  | some l =>
    let media := match b with | .rtp _ => true | _ => false
    s.hand ⟨l.netPort, some j.leg, j.flow, j.cls, j.len, media, s.legBody l b, j.src, some k⟩

/-- CIPHER_ENCRYPT_DONE: the protection of a packet ends, and it is handed to the enqueue (R239). -/
def execCipherEncryptDone (t id ecc : Nat) (s : State) : Host.Outcome State Fault Refusal :=
  let s := (s.advance t).cipWindow.cipRun
  match s.cip.outQ.find? fun j => j.id == id with
  | none => .next s
  | some j =>
    let c := s.jobCtx j
    if j.phase != .running then .next s
    else if c.keyless s.cip.gen || c.ended then .next (((s.dropKeyless j.leg).leaveCluster j).backCheck j.pipe)
    else if (s.slotOf j.owner).isNone then .next s
    else
      let r := s.slotEcc j.owner ecc
      if !r.1 then .next (if (r.2.jobCtx j).keyless r.2.cip.gen
        then ((r.2.dropKeyless j.leg).leaveCluster j).backCheck j.pipe else r.2)
      else .next (r.2.encrypted j)

/-- CIPHER_SELFTEST: the known-answer tests of the units, with the units that failed (kind 0 AES, 1 GHASH, 2 SHA), and
whether the test made again at once failed too (R657). -/
def execCipherSelftest (t : Nat) (fails : List (Nat × Nat × Bool)) (s : State) : Host.Outcome State Fault Refusal :=
  let s := s.advance t
  if s.sys.mode.code < 4 || s.sys.inReset then .next s else
  .next (fails.foldl (fun (s : State) f =>
    if !f.2.2 || !(decide (f.1 < 3) && decide (f.2.1 < if f.1 = 2 then 16 else 48)) then s
    else (s.fatal 5 (f.1 * 256 + f.2.1)).raiseRec 59 0 (le 1 f.1 ++ le 1 f.2.1) true) s)

/-! Commands. -/

/-- CIPHER_FLOW_QUERY (Table 19-7). -/
def bodyCipherFlowQuery : Body := fun _ c s =>
  let h := c.obj
  let o := s.ownerOf h
  let x := s.crypto o.1 o.2
  let none_ := x.keyless s.cip.gen
  let state := if none_ then 0 else if (s.slotOf h).isNone then 1 else if x.pinWanted then 3 else 2
  .ok s (le 1 (if none_ then 0 else x.profile) ++ le 1 state ++ zeros 2 ++
    le 8 (if o.2.isSome then x.roc * 65536 + x.sL else 0) ++
    le 4 x.rtcpIndex ++ le 4 x.authFail ++ le 4 x.replay ++ le 4 x.srtcpClear ++ le 4 x.loads)

/-- CIPHER_PIN: at most 1,024 pins (R644, R659). -/
def bodyCipherPin : Body := fun _ c s =>
  let i := hIdx c.obj
  if !c.mask 0 4 1 then .fail s stBadParam else
  let pin := c.flag 0 4 0
  let held := match s.flow i with | some f => f.cip.pinWanted | none => false
  if pin && !held && decide (1024 ≤ countOf s.flows fun p => p.2.cip.pinWanted) then .fail s stPinLimit else
  .ok (s.modFlow i fun f => { f with cip := { f.cip with pinWanted := pin } })

/-- CIPHER_STATS. -/
def bodyCipherStats : Body := fun _ _ s => .ok s (s.cip.counters.flatMap (le 8))

def execCipherFlowQuery (c : Cmd) (s : State) := runBelex 0x1100 bodyCipherFlowQuery c s
def execCipherPin (c : Cmd) (s : State) := runBelex 0x1101 bodyCipherPin c s
def execCipherStats (c : Cmd) (s : State) := runBelex 0x1110 bodyCipherStats c s

end Sys2Proof.Machine
end

