-- ==== Sys2Proof/Machine/Kernel.lean ====
section
/-! DEFINITION. Kernel images and the commands 0x06xx: loading with its checks, unloading, queries (file 08
of spec/). -/

namespace Sys2Proof.Machine

def stKernelBadImage : Nat := 0x8600
def stKernelInUse : Nat := 0x8601
def stKernelTooLarge : Nat := 0x8602

/-! The static checks of the loader (R344). -/

/-- Whether an instruction is a control instruction. -/
def DspIns.isCtrl : DspIns → Bool
  | .ctrl _ _ _ _ => true
  | _ => false

/-- Whether a control instruction stands at an index of the code. -/
def ctrlAt (code : List (Option DspIns)) (i : Nat) : Bool :=
  match code.getD i none with
  | some x => x.isCtrl
  | none => false

/-- The static checks on the instruction at index `i` (R324, R325, R327, R344). -/
def staticOk (code : List (Option DspIns)) (i : Nat) : Bool :=
  match code.getD i none with
  | none => false
  | some x =>
    x.legal &&
    (match x with
     | .ctrl op _ _ addr =>
       (match op with
        | 1 => decide (addr < code.length) && !ctrlAt code (i + 1) && !ctrlAt code (i + 2)
        | 2 => decide (addr < code.length) && !ctrlAt code (i + 1) && !ctrlAt code (i + 2)
        | 3 => decide (addr < code.length) && !ctrlAt code (i + 1) && !ctrlAt code (i + 2)
        | 4 => !ctrlAt code (i + 1) && !ctrlAt code (i + 2)
        | 5 => decide (addr < code.length) && decide (i < addr)
        | 6 => decide (addr < code.length) && decide (i < addr)
        | 7 => (match code.getD (i + 1) none with
            | some (.dual _ _ _ _) => true
            | some (.alu _ _ _ _ _ _ _) => true
            | _ => false) &&
          !(code.any fun y => match y with
            | some (.ctrl 5 _ _ e) => e == i
            | some (.ctrl 6 _ _ e) => e == i
            | _ => false)
        | _ => true)
     | _ => true)

/-- The 64-bit words of a byte string, little-endian. -/
def words64 : Nat → List Byte → List Nat
  | 0, _ => []
  | n + 1, l => ofLe (l.take 8) :: words64 n (l.drop 8)

/-- The kernel an image describes (Table 08-9), or the status with which it is refused (R343, R344). -/
def kernelOf (key image : List Byte) (mask : Nat) : Except Nat Kernel :=
  let f (o n : Nat) : Nat := ofLe ((image.drop o).take n)
  let n := (image.length - 128) / 8
  let code := (image.drop 64).take (8 * n)
  let hash := be 32 (Config.sha256 code).toNat
  if !Config.verifies key (image.take (64 + 8 * n)) (image.drop (64 + 8 * n)) ||
      (image.drop 32).take 32 != hash then .error stIntegrity
  else
    let words := words64 n code
    let ins := words.map dspDecode
    let ok := f 0 4 == 0x4B4C5A45 && f 4 2 == 1 && f 6 2 == n && 1 ≤ n && n ≤ 2048 &&
      1 ≤ f 8 4 && f 8 4 ≤ 200000 && f 12 2 % 4 == 0 && f 12 2 ≤ 8192 && f 14 2 % 4 == 0 && f 14 2 ≤ 8192 &&
      f 16 2 < n && f 18 2 == 0 && f 28 4 == 0 && (List.range n).all (staticOk ins)
    if !ok then .error stKernelBadImage
    else .ok { code := words, cycMax := f 8 4, stateX := f 12 2, stateY := f 14 2, entry := f 16 2,
               id := f 20 4, ver := f 24 4, codeHash := hash, mask := mask }

/-! Space and budget on the cores. -/

/-- The instances on a core: those running, and those that shadow programs will bring (R305). -/
def State.instsOn (s : State) (core : Nat) : Tbl KInst :=
  let inst (k : KPlace) : KInst := { kernel := k.kernel, core := k.core, param := k.param, num := k.num, x := k.x, y := k.y }
  let coming := s.aud.mixes.flatMap fun p => (p.2.pends.flatMap fun q =>
      (q.2.insts.filter fun k => k.core == core &&
        (match tget s.aud.dsp.insts (p.1 * 256 + k.node) with | some i => i.kernel != k.kernel | none => true)).map
          fun k => (p.1 * 256 + k.node, inst k)).eraseDups
  (s.aud.dsp.insts.filter fun p => p.2.core == core) ++ coming

/-- Cycles reserved on a core (R339). -/
def State.reserved (s : State) (core : Nat) : Nat :=
  sumOf (s.instsOn core) fun p =>
    match tget s.aud.dsp.kernels p.2.kernel with | some k => k.cycMax + 4107 | none => 0

/-- Operator bytes of PMEM, XMEM and YMEM that instances of kernels take: the code of each kernel once (Table 08-7). -/
def State.kernelSpace (s : State) (l : List Nat) : Nat × Nat × Nat :=
  let of (k : Nat) (f : Kernel → Nat) : Nat := match tget s.aud.dsp.kernels k with | some x => f x | none => 0
  (sumOf l.eraseDups fun k => of k fun x => 8 * x.code.length,
   sumOf l fun k => of k (fun x => x.stateX) + 480, sumOf l fun k => of k (fun x => x.stateY) + 480)

/-- Whether a core has operator space for one more instance of a kernel, beside the instances on it and others of kernels
that the same load places there. A core that holds the kernel's code needs no second copy. -/
def State.coreFits (s : State) (core idx : Nat) (k : Kernel) (extra : List Nat) : Bool :=
  let l := ((s.instsOn core).map fun p => p.2.kernel) ++ extra
  let u := s.kernelSpace l
  let code := if l.contains idx then 0 else 8 * k.code.length
  decide (u.1 + code ≤ 32768) && decide (u.2.1 + k.stateX + 480 ≤ 24576) && decide (u.2.2 + k.stateY + 480 ≤ 24576)

/-- The active audio clusters. -/
def State.audioClusters (s : State) : List Nat :=
  (List.range 56).filter fun c => isAudioCluster c && (s.cluster c).state == .active

/-- Whether a kernel fits the free operator space of every active audio cluster (KERNEL_TOO_LARGE). -/
def State.kernelFits (s : State) (k : Kernel) : Bool :=
  s.audioClusters.all fun c => (List.range 8).any fun u => s.coreFits (coreNumber c u) 256 k []

/-! Commands. -/

def bodyKernelLoad : Body := fun whom c s =>
  let len := c.u 8 4
  if !(c.u 0 8 % 8 == 0 && decide (136 ≤ len) && decide (len ≤ 16512) && len % 8 == 0 && c.zero 12 4)
  then .fail s stBadParam else
  if s.trust.kernelKey.isNone then .fail s stNotPermitted else
  let (id, s) := s.startLong whom 172 0
  let job : KernelJob := ⟨id, c.u 0 8, len, c.u 16 8⟩
  .accepted { s with aud := { s.aud with dsp := { s.aud.dsp with loading := s.aud.dsp.loading ++ [job] } } }

/-- A kernel that passes the checks copied to every active audio cluster and stored under a free index (R345), and the end of its command; one that fits no cluster, or
finds no index, ends it with that status. -/
def State.storeKernel (s : State) (id : Nat) (k : Kernel) : State :=
  if !s.kernelFits k then s.finishLong id stKernelTooLarge [] else
  let used := tkeys s.aud.dsp.kernels
  match (List.range 240).find? fun i => !used.contains (16 + i) with
  | none => s.finishLong id stNoResource []
  | some _ =>
    let (r, s) := s.free
    let i := 16 + freeIndex (used.map fun x => x - 16) 240 r
    let s := { s with aud := { s.aud with dsp := { s.aud.dsp with kernels := tset s.aud.dsp.kernels i { k with copies := s.audioClusters } } } }
    s.finishLong id stDone (le 4 (mkHandle 9 i))

/-- A load that is no longer in progress. -/
def State.loadGone (s : State) (id : Nat) : State :=
  { s with aud := { s.aud with dsp := { s.aud.dsp with
    loading := s.aud.dsp.loading.filter fun (j : KernelJob) => j.id != id } } }

/-- KERNEL_LOADED: the image read from host memory is checked and stored, and event 172 ends the command
(R343 to R345). -/
def execKernelLoaded (t id : Nat) (image : List Byte) (fetchErr : Bool) (s : State) :
    Host.Outcome State Fault Refusal :=
  let s := s.advance t
  match s.aud.dsp.loading.find? fun j => j.id == id with
  | none => .next s
  | some j =>
    let s := s.loadGone id
    if fetchErr then .next (s.finishLong id stIntegrity []) else
    match s.trust.kernelKey with
    | none => .next (s.finishLong id stNotPermitted [])
    | some key =>
      match kernelOf key (padTo j.len image) j.mask with
      | .error e => .next (s.finishLong id e [])
      | .ok k => .next (s.storeKernel id k)

/-- Whether a loaded or shadow program of a conference names a kernel. -/
def State.kernelNamed (s : State) (i : Nat) : Bool :=
  let names (m : MixSet) : Bool := m.nodes.any fun n => n.typ == 5 && n.ref == mkHandle 9 i
  s.aud.mixes.any fun p => names p.2.run || p.2.pends.any fun q => names q.2

def bodyKernelUnload : Body := fun _ c s =>
  let i := hIdx c.obj
  if s.kernelNamed i then .fail s stKernelInUse else
  .ok { s with aud := { s.aud with dsp := { s.aud.dsp with kernels := tdel s.aud.dsp.kernels i } } }

def bodyKernelQuery : Body := fun _ c s =>
  let i := hIdx c.obj
  match tget s.aud.dsp.kernels i with
  | none => .fail s stNoObject
  | some k =>
    if c.fn ≠ 0 && !bit k.mask c.fn then .fail s stNoObject else
    let l := s.aud.dsp.insts.filter fun p => p.2.kernel == i
    .ok s (le 4 k.id ++ le 4 k.ver ++ le 4 k.cycMax ++ le 4 k.cycPeak ++ le 8 k.mask ++ le 4 l.length ++
      le 4 (countOf l fun p => p.2.disabled) ++ le 4 k.watchdogs ++ le 4 k.faults ++ le 8 k.invocations)

/-- KERNEL_RESET: disabled instances, of one conference or of all, run again (R341); a CLOSING conference gives WRONG_STATE
(R69). -/
def bodyKernelReset : Body := fun _ c s =>
  let h := c.u 0 4
  let r := if h = 0 then 0 else checkHandle s c.fn true [1] h
  if r ≠ 0 then .fail s r else
  if h ≠ 0 && s.isClosing h then .fail s stWrongState else
  let i := hIdx c.obj
  let upd (key : Nat) (x : KInst) : KInst :=
    if x.kernel = i && (h == 0 || key / 256 == hIdx h) then { x with disabled := false, faults := 0 } else x
  .ok { s with aud := { s.aud with dsp := { s.aud.dsp with insts := tmap s.aud.dsp.insts upd } } }

def bodyDspSet : Body := fun _ c s =>
  let b := c.u 0 4
  if !(c.rng 0 4 0 640000 && c.zero 4 4) then .fail s stBadParam else
  if (List.range 288).any fun k => decide (b < s.reserved k) then .fail s stNoResource else
  .ok { s with aud := { s.aud with dsp := { s.aud.dsp with opkBudget := b } } }

def bodyDspStats : Body := fun _ c s =>
  let cl := hIdx c.obj
  let x := (tget s.aud.dsp.stats cl).getD {}
  let w := windowOf s.now
  let peak := if x.peakWin = w then x.peakLast else if x.peakWin + 1 = w then x.peakNow else 0
  let audio := isAudioCluster cl
  let res := if audio then (List.range 8).foldl (fun m u => max m (s.reserved (coreNumber cl u))) 0 else 0
  .ok s (le 4 peak ++ le 4 res ++ le 4 x.corrected ++ le 4 x.uncorrectable ++ le 4 x.faults ++
    le 1 (if audio then countOf (List.range 8) fun u => bit (s.cluster cl).failed u else 0) ++ zeros 11)

def execKernelLoad (c : Cmd) (s : State) := runBelex 0x0600 bodyKernelLoad c s
def execKernelUnload (c : Cmd) (s : State) := runBelex 0x0601 bodyKernelUnload c s
def execKernelQuery (c : Cmd) (s : State) := runBelex 0x0602 bodyKernelQuery c s
def execKernelReset (c : Cmd) (s : State) := runBelex 0x0603 bodyKernelReset c s
def execDspSet (c : Cmd) (s : State) := runBelex 0x0610 bodyDspSet c s
def execDspStats (c : Cmd) (s : State) := runBelex 0x0611 bodyDspStats c s

end Sys2Proof.Machine
end

