-- ==== Sys2Proof/Machine/MixPre.lean ====
section
/-! DEFINITION. What opens a grain for the mix: jitter buffers release the grain (R167 to R171), levels, and the
pre-selection of the flows to decode within the engines' budgets (R286, R287, R291). -/

namespace Sys2Proof.Machine

/-! Levels, in 0.5 dB steps relative to 0 dBFS. -/

/-- The sum of squares of a grain. -/
def sumSq (x : List Int) : Nat := sumOf x fun v => (v * v).toNat

/-- The level of `n` samples of a sum of squares: 10 × log10(sum / n / 2^45) dBFS in whole steps of 0.5 dB, not below
−127 dBFS. Step k is reached when (sum / (n × 2^45))^20 is at least 10^k. -/
def levelOf (n sum : Nat) : Int :=
  let base := n ^ 20 * 2 ^ 900
  let at_ (k : Int) : Bool :=
    if k < 0 then decide (base ≤ sum ^ 20 * 10 ^ (-k).toNat) else decide (base * 10 ^ k.toNat ≤ sum ^ 20)
  Int.ofNat (countOf (List.range 261) fun i => at_ ((i : Int) - 253)) - 254

/-- Grains that one packet of a jitter buffer covers; before two packets give an interval, the eight grains of a 20 ms
packet (DESIGN CHOICE). -/
def JitterBuf.span (j : JitterBuf) : Nat := if j.interval = 0 then 8 else max 1 (j.interval / grainU)

/-- The buffered packets that cover a playout grain. -/
def JitterBuf.covering (j : JitterBuf) (n : Nat) : List Packet :=
  (j.packets.filter fun p => decide (p.1 ≤ n) && decide (n < p.1 + j.span)).map fun p => p.2

/-- Whether a flow carries the audio-level extension (EXT_IDS of FLOW_PROFILE_SET). -/
def Flow.hasLevel (f : Flow) : Bool := f.media.exts.getD 0 0 != 0

/-- The level of a grain from the extension (R286): the largest among the packets that cover it, extension value l being
−l + 3 dBFS; the lowest level when no packet covers it. -/
def Flow.extLevel (f : Flow) (n : Nat) : Int :=
  (f.jb.covering n).foldl (fun m p => match p.rtp.level with
    | some l => max m (2 * (3 - (l : Int)))
    | none => m) (-254)

/-- Whether a packet carries only DTX (Opus: at most its two header bytes). -/
def isDtx (p : Packet) : Bool := decide (p.rtp.payload.length ≤ 2)

/-! Jitter buffers (R167 to R171). -/

/-- A depth clamped to the range from JB_MIN to JB_MAX, in grains. -/
def JitterBuf.clamp (j : JitterBuf) (d : Nat) : Nat := max ((j.minMs * 2 + 4) / 5) (min (j.maxMs * 2 / 5) d)

/-- The target depth in grains (R169). -/
def JitterBuf.newTarget (j : JitterBuf) (jitter : Nat) : Nat := j.clamp ((3 * jitter + j.interval + grainU - 1) / grainU)

/-- One grain of movement (R170). Later: every packet that begins at `n` or after plays one grain later, and the grain left
between it and the packet before is concealed. Earlier: grain `n` is dropped, so that what follows it, within its packet
too, plays one grain earlier. -/
def JitterBuf.slide (j : JitterBuf) (n : Nat) (later : Bool) : JitterBuf :=
  let move (p : Nat × Packet) : Nat × Packet :=
    if later then (if n ≤ p.1 then (p.1 + 1, p.2) else p) else (if n < p.1 + j.span then (p.1 - 1, p.2) else p)
  { j with packets := j.packets.map move, depth := if later then j.depth + 1 else j.depth - 1
           anchor := j.anchor.map fun a => (a.1, if later then a.2 + grainU else a.2 - grainU) }

/-- Whether a grain of a flow is one that a shrinking buffer may drop: below the silence threshold, by the extension or else
by what it decodes to, or DTX. -/
def State.quietGrain (s : State) (flow : Nat) (f : Flow) (conf n : Nat) (quiet : List Nat) : Bool :=
  let cover := f.jb.covering n
  (!cover.isEmpty && f.media.codec == 1 && cover.all isDtx) ||
  (if f.hasLevel then decide (f.extLevel n < -2 * ((s.mix conf).run.silDb : Int)) else quiet.contains flow)

/-- One grain of movement of a jitter buffer toward its target, at the boundary that opens grain `m`, for playout grain
`n`; the target is formed anew at a window boundary, and packets stay for the grains by which the mix lags. -/
def JitterBuf.grain (j : JitterBuf) (m n lag jitter : Nat) (quiet : Bool) : JitterBuf :=
  let j := { j with packets := j.packets.filter fun p => decide (n < p.1 + j.span + lag) }
  let j := if m % 400 = 0 then { j with target := j.newTarget jitter } else j
  if j.anchor.isNone then j
  else if j.depth < j.target then j.slide n true
  else if j.target < j.depth && quiet then j.slide n false else j

/-- A packet put into a jitter buffer, or discarded as a duplicate or late (R166, R167, R179); one too far from its playout
waits for the re-anchoring (R168). Packets that come after it and before the grain boundary of the re-anchoring wait with it
and are placed by the new anchor, also those that the old anchor would have played in time (DESIGN CHOICE: the buffer is
flushed at that boundary). -/
def State.jbPlace (s : State) (flow : Nat) (p : Packet) : State :=
  match s.flow flow with
  | none => s
  | some f =>
    let j := f.jb
    let ets := nearest (j.lastTs.map fun x => x.2) p.rtp.ts 32
    let gap := match j.lastTs with
      | some (e, t) => if e < p.ext && t < ets then (ets - t) * secU / (max 1 f.clockRate * (p.ext - e)) else j.interval
      | none => j.interval
    let j := { j with lastTs := some (p.ext, ets), interval := gap }
    let put (s : State) (j : JitterBuf) : State := s.modFlow flow fun f => { f with jb := j }
    let took (j : JitterBuf) : JitterBuf := { j with taken := (p.ext :: j.taken).take 1024 }
    if j.taken.contains p.ext then (put s j).modIng f.leg fun g => { g with duplicates := g.duplicates + 1 }
    else if j.reanchorAt.isSome then put s (took { j with waiting := j.waiting ++ [p] })
    else
      let j := if j.anchor.isSome then j else
        { j with anchor := some (ets, (grainOf p.stamp + j.target) * grainU), depth := j.target }
      let a := j.anchor.getD (0, 0)
      let pd : Int := (a.2 : Int) + ((ets : Int) - a.1) * (secU : Int) / (max 1 f.clockRate : Nat)
      if pd > ((p.stamp + (j.maxMs + 500) * msU : Nat) : Int) || pd + ((500 * msU : Nat) : Int) < p.stamp then
        put s (took { j with reanchorAt := some (nextGrain s.now), waiting := [p] })
      else
        let g := pd.toNat / grainU
        if (g + 1) * grainU ≤ p.stamp then
          ((put s j).modIng f.leg fun g => { g with late := g.late + 1 }).raiseAt 112 (flowH flow) 40
        else put s (took { j with packets := j.packets ++ [(g, p)] })

/-- JB_SET and a re-anchoring due at the boundary that opens grain `m` (R168, R171), with event 113. -/
def State.jbTurn (s : State) (m flow : Nat) (f : Flow) : State :=
  let j := f.jb
  let j := match j.pend with
    | some (g, a, b) => if g ≤ m then
        let j := { j with minMs := a, maxMs := b, pend := none }
        { j with target := j.clamp j.target } else j
    | none => j
  match j.reanchorAt with
  | none => s.modFlow flow fun f => { f with jb := j }
  | some g =>
    if m < g then s.modFlow flow fun f => { f with jb := j } else
    let j' := { j with reanchorAt := none, anchor := none, packets := [], waiting := [], played := none
                       taken := j.taken.filter fun e => j.waiting.all fun p => p.ext != e }
    let s := j.waiting.foldl (fun (s : State) p => s.jbPlace flow p) (s.modFlow flow fun f => { f with jb := j' })
    match (s.flow flow).bind fun f => f.jb.anchor with
    | some a => s.raise 113 (flowH flow) (le 8 (a.2 / grainU))
    | none => s

/-- The packets that begin to play by grain `n`: the sequence numbers missing before them are residual loss. -/
def State.jbPlayed (s : State) (n flow : Nat) (f : Flow) : State :=
  let now := sortBy (fun a b => decide (a < b)) ((f.jb.packets.filter fun p => decide (p.1 ≤ n)).map fun p => p.2.ext)
  let go := now.foldl (fun (a : Option Nat × Nat) e => match a.1 with
    | none => (some e, a.2)
    | some x => if x + 32768 < e then (some e, a.2) else if x < e then (some e, a.2 + (e - x - 1)) else a) (f.jb.played, 0)
  let s := s.modFlow flow fun f => { f with jb := { f.jb with played := go.1 } }
  if go.2 = 0 then s else s.metric f.leg fun k => { k with lostResidual := k.lostResidual + go.2 }

/-- The level of a flow's grain in its leg's metrics (Table 02-8): the extension gives it before decoding, whether or not
the flow is mixed (R286). -/
def State.extMetric (s : State) (n : Nat) (f : Flow) : State :=
  if f.hasLevel && !(f.jb.covering n).isEmpty then
    s.metric f.leg fun k => { k with level := min k.level (-(f.extLevel n)).toNat }
  else s

/-- The jitter buffers of all audio receive flows at a grain boundary. -/
def State.jbGrain (s : State) (m : Nat) (quiet : List Nat) : State :=
  s.flows.foldl (fun (s : State) p =>
    if p.2.kind ≠ 1 || p.2.dir ≠ 1 then s else
    let s := s.jbTurn m p.1 p.2
    match s.flow p.1 with
    | none => s
    | some f =>
      let conf := match s.leg f.leg with | some l => l.conf | none => 0
      let j := f.jb.grain m (m - 1) (s.mixLag conf) (s.legJitter f.leg) (s.quietGrain p.1 f conf (m - 1) quiet)
      let s := s.modFlow p.1 fun f => { f with jb := j }
      (s.jbPlayed (m - 1) p.1 { f with jb := j }).extMetric (m - 1) { f with jb := j }) s

/-! Contributions of a set. -/

/-- All contributions of a set to the groups of a conference. -/
def State.contribs (s : State) (conf : Nat) (x : MixSet) : List Contrib :=
  (s.groupsOf conf).flatMap fun p => x.contribsTo p.1

/-- The flows of SELECT contributions, and of the others. -/
def State.mixFlows (s : State) (conf : Nat) (x : MixSet) (select : Bool) : List Nat :=
  ((s.contribs conf x).filterMap fun c => if c.select = select then x.contribFlow c else none).eraseDups

/-- Whether a leg's contributions count as silent: its receive direction is held (R284), or a co-location action says so
(R314). -/
def State.contribMuted (s : State) (m : ConfMix) (leg : Nat) : Bool :=
  (match s.leg leg with | some l => (l.state != .active && l.state != .held) || bit l.holdMix 1 | none => true) ||
  ((m.run.coloc == 1 || m.run.coloc == 3) && m.acts.any fun a => a.1 == leg)

/-- Whether a leg's outputs carry silence: its send direction is held, or a co-location action says so. -/
def State.outputMuted (s : State) (m : ConfMix) (leg : Nat) : Bool :=
  (match s.leg leg with | some l => (l.state == .active || l.state == .held) && bit l.holdMix 0 | none => true) ||
  ((m.run.coloc == 2 || m.run.coloc == 3) && m.acts.any fun a => a.1 == leg)

/-- Successive grains below the threshold, one more with this level. -/
def ConfMix.belowAt (m : ConfMix) (key : Nat) (level : Int) : Nat :=
  let b := match tget m.levels key with | some l => l.below | none => 0
  if level < -2 * (m.run.silDb : Int) then b + 1 else 0

/-! Pre-selection (R287, R291). -/

/-- Whether a flow with the extension is silent at a grain, judged by the extension (R285, R286). -/
def State.flowQuiet (s : State) (m : ConfMix) (f : Nat) (x : Flow) (n : Nat) : Bool :=
  s.contribMuted m x.leg || decide (m.run.silHold ≤ m.belowAt (4 * f) (x.extLevel n))

/-- Flows with the extension in rank order at a grain: loudest first, ties to the lower leg (R287). -/
def State.byExt (s : State) (n : Nat) (l : List Nat) : List Nat :=
  let rank := l.filterMap fun f => match s.flow f with | some y => some (f, y.extLevel n, y.leg) | none => none
  (sortBy (fun (a b : Nat × Int × Nat) =>
    if a.2.1 = b.2.1 then decide (a.2.2 < b.2.2) else decide (b.2.1 < a.2.1)) rank).map fun a => a.1

/-- The decode list of a conference for grain `n`, in the order in which flows are dropped last to first: talkers' flows, then
ranked ones, then flows without the extension; each with 0 when it is never dropped, 1 for a ranked one, 2 for one without
the extension (R287, R291). Flows that take no part in talker selection rank with the others, by their extension (DESIGN
CHOICE: R291 drops non-talkers by rank, and R288 ranks SELECT flows). A parked conference decodes the flows without the
extension, in the grains whose number is a multiple of 4 (R311; which one of four is a DESIGN CHOICE). -/
def State.preselect (s : State) (conf n : Nat) : List (Nat × Nat) :=
  let m := s.mix conf
  let x := m.run
  let sel := s.mixFlows conf x true
  let plain := (s.mixFlows conf x false).filter fun f => !sel.contains f
  let ext (f : Nat) : Bool := match s.flow f with | some y => y.hasLevel | none => true
  let noExt := sortBy (fun a b => decide (s.flowLeg a < s.flowLeg b)) ((sel ++ plain).filter fun f => !ext f)
  if m.parked then
    if n % 4 = 0 then noExt.map fun f => (f, 2) else []
  else
    let talks (f : Nat) : Bool := m.talkers.any fun t => t.1 == s.flowLeg f
    let loud (f : Nat) : Bool := match s.flow f with | some y => y.hasLevel && !s.flowQuiet m f y n | none => false
    let top := (s.byExt n (sel.filter loud)).take (min (x.n + 4) 20)
    let ranked := s.byExt n ((top ++ plain.filter ext).filter fun f => !talks f)
    ((sel ++ plain).filter talks).map (fun f => (f, 0)) ++ ranked.map (fun f => (f, 1)) ++
    (noExt.filter fun f => !talks f).map fun f => (f, 2)

/-- One flow dropped from the lists of an engine's conferences: the last of a kind, of the first conference in turn that
has one (kind 1), or the one of the highest leg index (kind 2). -/
def State.dropDecode (s : State) (kind turn : Nat) (l : List (Nat × List (Nat × Nat))) :
    Option (Nat × List (Nat × List (Nat × Nat)) × Nat) :=
  let have_ := l.filter fun c => c.2.any fun f => f.2 == kind
  if kind = 1 then
    match (have_.filter fun c => decide (turn ≤ c.1)).head?.orElse fun _ => have_.head? with
    | none => none
    | some c =>
      match (c.2.filter fun f => f.2 == 1).getLast? with
      | none => none
      | some f => some (f.1, l.map fun d => if d.1 = c.1 then (d.1, d.2.filter fun g => g.1 != f.1) else d, c.1 + 1)
  else
    let all := have_.flatMap fun c => (c.2.filter fun f => f.2 == 2).map fun f => f.1
    match (sortBy (fun a b => decide (s.flowLeg a < s.flowLeg b)) all).getLast? with
    | none => none
    | some f => some (f, l.map fun d => (d.1, d.2.filter fun g => g.1 != f), 0)

/-- Flows dropped until an engine's list fits DEC_BUDGET; `fuel` bounds them. The flows dropped come with the lists. -/
def State.fitDecodes (s : State) : Nat → Nat → List (Nat × List (Nat × Nat)) → List Nat → List (Nat × List (Nat × Nat)) × List Nat
  | 0, _, l, out => (l, out)
  | fuel + 1, turn, l, out =>
    if sumOf l (fun c => c.2.length) ≤ 128 then (l, out) else
    match s.dropDecode 1 turn l with
    | some (f, l', t) => s.fitDecodes fuel t l' (out ++ [f])
    | none =>
      match s.dropDecode 2 0 l with
      | some (f, l', _) => s.fitDecodes fuel turn l' (out ++ [f])
      | none => (l, out)

/-- The groups to which a flow contributes. -/
def ConfMix.groupsOf (m : ConfMix) (s : State) (conf f : Nat) : List Nat :=
  ((s.groupsOf conf).filter fun p => (m.run.contribsTo p.1).any fun c => m.run.contribFlow c == some f).map fun p => p.1

/-- The flows to decode, at the boundary that opens grain `m`, on one engine. -/
def State.selectOn (s : State) (m cluster : Nat) : State :=
  let confs := s.aud.mixes.filter fun p => p.2.cluster == some cluster
  let lists := confs.map fun p => (p.1, s.preselect p.1 (m - 1 - s.mixLag p.1))
  let total := sumOf lists fun c => c.2.length
  let (fit, out) := s.fitDecodes total 0 lists []
  let s := fit.foldl (fun (s : State) c => s.modMix c.1 fun x => { x with decoded := c.2.map fun f => f.1 }) s
  let s := out.foldl (fun (s : State) f =>
    let conf := (s.confOf (flowH f)).getD 0
    ((s.mix conf).groupsOf s conf f).foldl (fun (s : State) g =>
      s.modGroup g fun x => { x with decSkips := x.decSkips + 1 }) s) s
  if out.isEmpty then s else
  let c := s.countIn 165 (mkHandle 12 cluster) out.length
  c.2.raiseW 165 (mkHandle 12 cluster) (le 4 c.1)

/-- Pre-selection on every engine. -/
def State.selectGrain (s : State) (m : Nat) : State :=
  ((s.aud.mixes.filterMap fun p => p.2.cluster).eraseDups).foldl (fun (s : State) c => s.selectOn m c) s

end Sys2Proof.Machine
end

