-- ==== Sys2Proof/Machine/Mix.lean ====
section
/-! DEFINITION. The commands 0x05xx: mix groups, contributions and listeners, the Osdun graph and its
compiler, settings and queries (file 07 of spec/). -/

namespace Sys2Proof.Machine

/-- A mix group handle named in a parameter, of a given conference (R13, R62). -/
def checkGroup (s : State) (fn conf h : Nat) : Nat :=
  let r := checkHandle s fn false [8] h
  if r ≠ 0 then r else if s.confOf h = some conf then 0 else stNoObject

/-- The package with a new group of a conference on a mix engine, and its index, a free one. -/
def State.addGroup (s : State) (conf cluster channels : Nat) : State × Nat :=
  let m := s.mix conf
  let (r, s) := s.free
  let i := freeIndex (tkeys s.aud.groups) 16384 r
  let s := s.setMix conf { m with cluster := some cluster, runGrain := if m.cluster.isNone then grainOf s.now else m.runGrain }
  ({ s with aud := { s.aud with groups := tset s.aud.groups i { conf := conf, channels := channels } } }, i)

/-- The mix engine of a conference: its own, or the one on which it would be placed (R277). -/
def State.mixPlace (s : State) (conf : Nat) : Option Nat :=
  match (s.mix conf).cluster with | some k => some k | none => s.placeMix

/-- Whether the engine of a cluster has room for a conference's first group, or for one more (Table 07-6). -/
def State.engineFull (s : State) (conf k : Nat) : Bool :=
  let on := s.aud.mixes.filter fun p => p.2.cluster == some k
  let groups := countOf s.aud.groups fun p => (s.mix p.2.conf).cluster == some k
  ((s.mix conf).cluster.isNone && decide (256 ≤ on.length)) || decide (512 ≤ groups)

/-- MIX_GROUP_CREATE: the first group of a conference places it on a mix engine (R277, Table 07-6). -/
def bodyMixGroupCreate : Body := fun _ c s =>
  let conf := hIdx c.obj
  if !(c.rng 0 1 1 2 && c.zero 1 7) then .fail s stBadParam else
  if s.isClosing c.obj then .fail s stWrongState else
  if 64 ≤ (s.groupsOf conf).length then .fail s stGraphLimit else
  match s.mixPlace conf with
  | none => .fail s stNoResource
  | some k =>
    if s.engineFull conf k then .fail s stEngineFull else
    if 16384 ≤ s.aud.groups.length then .fail s stNoResource else
    let r := s.addGroup conf k (c.u 0 1)
    .ok r.1 (le 4 (mkHandle 8 r.2))

/-- Whether a set uses a group: contributors, listeners, or nodes that name it. -/
def MixSet.usesGroup (x : MixSet) (g : Nat) : Bool :=
  (x.contribs.any fun p => p.2.group == g) || (x.listens.any fun p => p.2.group == g) ||
  (x.nodes.any fun n => (n.typ == 3 || n.typ == 4) && n.ref == mkHandle 8 g)

/-- MIX_GROUP_DELETE: refused while the loaded or the shadow set uses the group. -/
def bodyMixGroupDelete : Body := fun _ c s =>
  let g := hIdx c.obj
  match s.group g with
  | none => .fail s stNoObject
  | some x =>
    let m := s.mix x.conf
    if m.run.usesGroup g || m.latest.usesGroup g then .fail s stGroupInUse else
    .ok { s with aud := { s.aud with groups := tdel s.aud.groups g } }

/-- The conference of a flow. -/
def State.flowConf (s : State) (f : Nat) : Nat := (s.confOf (flowH f)).getD 0

/-- The set after MIX_CONTRIBUTE of a flow. -/
def contribSet (c : Cmd) (f : Nat) (y : MixSet) : MixSet :=
  if c.u 0 4 = 0 then { y with contribs := tdel y.contribs f }
  else { y with contribs := tset y.contribs f ⟨hIdx (c.u 0 4), c.u 4 2, c.u 6 1⟩ }

/-- MIX_CONTRIBUTE (R214, R280, R282, R302, R316). -/
def bodyMixContribute : Body := fun _ c s =>
  let f := hIdx c.obj
  let conf := s.flowConf f
  let h := c.u 0 4
  let r := if h = 0 then 0 else checkGroup s c.fn conf h
  if r ≠ 0 then .fail s r else
  match s.flow f with
  | none => .fail s stNoObject
  | some x =>
    if !(x.kind == 1 && x.dir == 1 && (c.rng 6 1 0 8 || c.u 6 1 == 0xFF) && c.mask 7 1 1) then .fail s stBadParam else
    let m := s.mix conf
    if m.run.nodes.any fun n => n.typ == 1 && n.ref == c.obj then .fail s stWrongState else
    if h ≠ 0 && bit x.flags 2 then .fail s stNotPermitted else
    let new := contribSet c f m.latest
    let a := s.mixAdmit conf new
    if a ≠ 0 then .fail s a else
    if !new.fits then .fail s stGraphLimit else
    let s := s.modFlow f fun x => { x with sink := h }
    let r := s.mixChange conf (c.flag 7 1 0) (contribSet c f)
    .ok r.2 (le 8 r.1)

/-- Whether a codec can be encoded for a listener on a leg type (R315). -/
def codecListens (typ : LegType) (codec : Nat) : Bool :=
  codec == 1 || codec == 2 || codec == 3 || codec == 4 || (codec == 5 && typ == .stream)

/-- The BITRATE range of a codec (MIX_LISTEN). -/
def bitrateOk (codec rate : Nat) : Bool :=
  match codec with
  | 1 => decide (6000 ≤ rate) && decide (rate ≤ 510000)
  | 5 => decide (32000 ≤ rate) && decide (rate ≤ 320000)
  | _ => rate == 0

/-- The set after MIX_LISTEN of a flow. -/
def listenSet (c : Cmd) (f : Nat) (y : MixSet) : MixSet :=
  { y with listens := tset y.listens f ⟨hIdx (c.u 0 4), c.u 4 4, c.u 8 1, c.u 9 1, c.u 10 1, c.u 11 1⟩ }

/-- MIX_LISTEN (R281, R282, R315). -/
def bodyMixListen : Body := fun _ c s =>
  let f := hIdx c.obj
  let conf := s.flowConf f
  let h := c.u 0 4
  let r := checkGroup s c.fn conf h
  if r ≠ 0 then .fail s r else
  match s.flow f with
  | none => .fail s stNoObject
  | some x =>
    match s.leg x.leg with
    | none => .fail s stNoObject
    | some l =>
      let pt := c.u 8 1
      if !(x.kind == 1 && x.dir == 2 && (pt == 4 || pt == 8 || pt == 16 || pt == 24) && c.mask 9 1 7 &&
           c.rng 11 1 0 127 && c.zero 12 4) then .fail s stBadParam else
      if !codecListens l.typ x.prof.codec then .fail s stCodecUnsupported else
      if !(bitrateOk x.prof.codec (c.u 4 4) && (if x.prof.codec = 1 then c.rng 10 1 0 10 else c.zero 10 1))
      then .fail s stBadParam else
      if bit x.flags 2 then .fail s stNotPermitted else
      let new := listenSet c f (s.mix conf).latest
      let a := s.mixAdmit conf new
      if a ≠ 0 then .fail s a else
      if 4096 < new.listeners (hIdx h) then .fail s stGraphLimit else
      let r := s.mixChange conf false (listenSet c f)
      .ok r.2 (le 8 r.1)

def bodyMixUnlisten : Body := fun _ c s =>
  let f := hIdx c.obj
  match s.flow f with
  | none => .fail s stNoObject
  | some x =>
    if !(x.kind == 1 && x.dir == 2) then .fail s stBadParam else
    let r := s.mixChange (s.flowConf f) false fun y => { y with listens := tdel y.listens f }
    .ok r.2 (le 8 r.1)

/-! The graph (R299 to R303). -/

/-- A graph read from its bytes (Tables 07-2 to 07-4): nodes, edges and whether a crossfade is asked for. -/
structure Graph where
  nodes : List GNode
  edges : List GEdge
  crossfade : Bool
deriving DecidableEq, Repr

/-- A graph node from its 16 bytes, with whether its reserved fields are 0. -/
def graphNode (c : Cmd) (i : Nat) : GNode × Bool :=
  let o := 32 + 16 * i
  (⟨c.u o 1, c.u (o + 1) 1, c.u (o + 4) 4, c.u (o + 8) 4⟩, c.zero (o + 2) 2 && c.zero (o + 12) 4)

/-- A graph edge from its 8 bytes, with whether its reserved fields are 0. -/
def graphEdge (c : Cmd) (base j : Nat) : GEdge × Bool :=
  let o := base + 8 * j
  (⟨c.u o 1, c.u (o + 1) 1, c.u (o + 2) 2, c.u (o + 4) 1, c.flag (o + 5) 1 0⟩,
   c.mask (o + 5) 1 1 && c.zero (o + 6) 2)

/-- The header and the tables of a graph: the CRC gives INTEGRITY, any other breach GRAPH_INVALID. -/
def graphParse (c : Cmd) : Except Nat Graph :=
  let n := c.u 6 2
  let e := c.u 8 2
  let whole := (c.bytes 0 c.len)
  let crc := crc32c (whole.take 12 ++ zeros 4 ++ whole.drop 16)
  if crc ≠ c.u 12 4 then .error stIntegrity
  else if !(c.u 0 4 == 0x4E44534F && c.u 4 2 == 1 && decide (n ≤ 200) && decide (e ≤ 400) && c.mask 10 2 1 &&
      c.zero 16 16 && c.len == 32 + 16 * n + 8 * e) then .error stGraphInvalid
  else
    let ns := (List.range n).map (graphNode c)
    let es := (List.range e).map (graphEdge c (32 + 16 * n))
    if (ns.all fun p => p.2) && (es.all fun p => p.2) then
      .ok ⟨ns.map fun p => p.1, es.map fun p => p.1, c.flag 10 2 0⟩
    else .error stGraphInvalid

/-- A node of the graph; out of range one of no type. -/
def Graph.node (g : Graph) (i : Nat) : GNode := g.nodes.getD i ⟨0, 0, 0, 0⟩

/-- The edges into a node. -/
def Graph.into (g : Graph) (i : Nat) : List GEdge := g.edges.filter fun e => e.dst == i

/-- Whether the path through KERNEL nodes that ends at a node starts at IN_FLOW; `fuel` bounds it. -/
def Graph.fromFlow (g : Graph) : Nat → Nat → Bool
  | 0, _ => false
  | fuel + 1, i =>
    let n := g.node i
    if n.typ = 1 then true
    else if n.typ = 5 then (match g.into i with | e :: _ => g.fromFlow fuel e.src | [] => false)
    else false

/-- Channels of the group that a node names. -/
def State.groupChannels (s : State) (h : Nat) : Nat :=
  match s.group (hIdx h) with | some x => x.channels | none => 0

/-- The layout rules of nodes and edges (Tables 07-3 to 07-5). -/
def graphShape (s : State) (g : Graph) : Bool :=
  ((List.range g.nodes.length).all fun i =>
    let n := g.node i
    let ins := g.into i
    (1 ≤ n.typ && n.typ ≤ 6) && (n.typ == 5 || n.param == 0) &&
    (match n.typ with
     | 1 => n.chan == 0 && ins.isEmpty
     | 2 => decide (n.chan < 32) && ins.isEmpty
     | 3 => (s.groupChannels n.ref == 0 || decide (n.chan < s.groupChannels n.ref)) && ins.isEmpty
     | 4 => n.chan == 0
     | 5 => n.chan == 0 && ins.length == 1
     | _ => decide (n.chan < 32) && ins.length == 1)) &&
  (g.edges.all fun e =>
    let a := g.node e.src
    let b := g.node e.dst
    decide (e.src < g.nodes.length) && decide (e.dst < g.nodes.length) &&
    (match b.typ with
     | 4 => a.typ == 1 || a.typ == 2 || a.typ == 3 || a.typ == 5
     | 5 => a.typ == 1 || a.typ == 2 || a.typ == 3 || a.typ == 5
     | 6 => a.typ == 4
     | _ => false) &&
    (b.typ == 4 || e.gain == 0x8000) &&
    (e.pan == 0xFF || (decide (e.pan ≤ 8) && b.typ == 4 && s.groupChannels b.ref == 2)) &&
    (!e.select || g.fromFlow g.nodes.length e.src))

/-- Whether a node's REF names a fitting object of the conference (Table 07-5, R345). -/
def graphRefOk (s : State) (conf : Nat) (n : GNode) : Bool :=
  let i := hIdx n.ref
  let portLeg : Bool := hType n.ref == 2 &&
    (match s.leg i with | some l => l.conf == conf && l.typ == .port && l.state != .closing | none => false)
  match n.typ with
  | 1 => hType n.ref == 3 && s.confOf n.ref == some conf &&
    (match s.flow i with | some f => f.kind == 1 && f.dir == 1 && f.state != .closing | none => false)
  | 2 => portLeg
  | 3 => hType n.ref == 8 && s.confOf n.ref == some conf
  | 4 => hType n.ref == 8 && s.confOf n.ref == some conf
  | 5 => hType n.ref == 9 &&
    (match tget s.aud.dsp.kernels i, s.conf conf with
     | some k, some x => bit k.mask x.tenant
     | _, _ => false)
  | _ => portLeg

/-- Whether CHAN of a port node counts a set bit of its leg's slot mask (Table 07-5). -/
def graphChanOk (s : State) (n : GNode) : Bool :=
  !(n.typ == 2 || n.typ == 6) ||
  (match s.leg (hIdx n.ref) with | some l => (nthSetBit l.slotMask n.chan).isSome | none => false)

/-- Whether an IN_FLOW node names an E2EE flow (R214). -/
def graphE2ee (s : State) (n : GNode) : Bool :=
  n.typ == 1 && (match s.flow (hIdx n.ref) with | some f => bit f.flags 2 | none => false)

/-- What a node depends on: the sources of its edges, and for IN_GROUP the SUM nodes of its group. -/
def Graph.deps (g : Graph) (i : Nat) : List Nat :=
  ((g.into i).map fun e => e.src) ++
  (if (g.node i).typ = 3 then
    (List.range g.nodes.length).filter fun j => (g.node j).typ == 4 && (g.node j).ref == (g.node i).ref
   else [])

/-- The nodes that are on no cycle: those whose dependences are done, repeatedly. -/
def Graph.resolve (g : Graph) : Nat → List Nat → List Nat
  | 0, done => done
  | fuel + 1, done =>
    let more := (List.range g.nodes.length).filter fun i =>
      !done.contains i && (g.deps i).all fun j => done.contains j
    if more.isEmpty then done else g.resolve fuel (done ++ more)

/-- One more round of how many IN_GROUP nodes lie on the longest chain that ends at each node. -/
def Graph.deeper (g : Graph) (d : List Nat) : List Nat :=
  (List.range g.nodes.length).map fun i =>
    (g.deps i).foldl (fun m j => max m (d.getD j 0)) 0 + b2n ((g.node i).typ == 3)

/-- The IN_GROUP nodes on the longest chain that ends at each node of a graph without cycles. -/
def Graph.depths (g : Graph) : List Nat :=
  (List.range g.nodes.length).foldl (fun d _ => g.deeper d) (List.replicate g.nodes.length 0)

/-- The limits of Table 07-6 that the graph itself decides. -/
def graphLimitsOk (g : Graph) : Bool :=
  let sums := g.nodes.filter fun n => n.typ == 4
  decide (sums.length ≤ 64) && decide ((g.nodes.filter fun n => n.typ == 5).length ≤ 16) &&
  (sums.map fun n => n.ref).eraseDups.length == sums.length && g.depths.all fun d => decide (d ≤ 4)

/-- The lowest address from 0xA000 on, in the operator partition, where a block of a length lies clear of
the blocks in use; addresses within the partition are the model's choice. -/
def firstFit (used : List (Nat × Nat)) (len : Nat) : Nat :=
  let cands := 0xA000 :: used.map fun b => b.1 + b.2
  let ok (a : Nat) : Bool := used.all fun b => decide (a + len ≤ b.1) || decide (b.1 + b.2 ≤ a)
  cands.foldl (fun m a => if ok a && decide (a < m) then a else m) 0x10000

/-- The core with the most unreserved budget on which an instance of a kernel fits, ties to the lower unit
(R339). `extra` are the places made by the same load. -/
def State.pickCore (s : State) (cluster idx : Nat) (k : Kernel) (extra : List KPlace) : Option Nat :=
  let free (core : Nat) : Int := (s.aud.dsp.opkBudget : Int) - s.reserved core -
    sumOf extra fun p => if p.core = core then
      (match tget s.aud.dsp.kernels p.kernel with | some x => x.cycMax + 4107 | none => 0) else 0
  let cores := ((List.range 8).filter fun u => !bit (s.cluster cluster).failed u).map fun u => coreNumber cluster u
  (cores.filter fun c => decide ((k.cycMax : Int) + 4107 ≤ free c) && s.coreFits c idx k
      ((extra.filter fun p => p.core == c).map fun p => p.kernel)).foldl
    (fun (b : Option Nat) c => match b with
      | none => some c
      | some d => if free d < free c then some c else some d) none

/-- The KERNEL nodes of a graph placed on cores: instances of the same kernel at the same node are kept
(R337, R339). -/
def State.placeKernels (s : State) (conf cluster : Nat) (g : Graph) : Option (List KPlace) :=
  let nodes := (List.range g.nodes.length).filter fun i => (g.node i).typ == 5
  (nodes.foldl (fun (acc : Option (List KPlace × Nat)) i =>
    match acc with
    | none => none
    | some (l, num) =>
      let n := g.node i
      let kept := match tget s.aud.dsp.insts (conf * 256 + i) with
        | some x => if x.kernel = hIdx n.ref then some x else none
        | none => none
      match kept with
      | some x => some (l ++ [⟨i, x.kernel, x.core, n.param, num, x.x, x.y⟩], num + 1)
      | none =>
        match tget s.aud.dsp.kernels (hIdx n.ref) with
        | none => none
        | some k =>
          match s.pickCore cluster (hIdx n.ref) k l with
          | none => none
          | some core =>
            let on := s.instsOn core
            let len (p : Nat) (f : Kernel → Nat) : Nat :=
              (match tget s.aud.dsp.kernels p with | some q => f q | none => 0) + 480
            let mine := l.filter fun p => p.core == core
            let x := firstFit ((on.map fun p => (p.2.x, len p.2.kernel fun q => q.stateX)) ++
              mine.map fun p => (p.x, len p.kernel fun q => q.stateX)) (k.stateX + 480)
            let y := firstFit ((on.map fun p => (p.2.y, len p.2.kernel fun q => q.stateY)) ++
              mine.map fun p => (p.y, len p.kernel fun q => q.stateY)) (k.stateY + 480)
            if 0x10000 < x + k.stateX + 480 || 0x10000 < y + k.stateY + 480 then none
            else some (l ++ [⟨i, hIdx n.ref, core, n.param, num, x, y⟩], num + 1))
    (some ([], 0))).map fun p => p.1

/-- The groups whose sums go into a group, through KERNEL nodes or not. -/
def MixSet.feeders (x : MixSet) (g : Nat) : List Nat :=
  ((x.contribsTo g).filterMap fun c => match c.node with
    | some i => let n := x.node (x.pathStart i); if n.typ = 3 then some (hIdx n.ref) else none
    | none => none).eraseDups

/-- The groups that feed a group, over a chain of so many. -/
def MixSet.feed (x : MixSet) : Nat → Nat → List Nat
  | 0, _ => []
  | k + 1, g => (x.feeders g ++ (x.feeders g).flatMap fun h => x.feed k h).eraseDups

/-- The qualification of R296: a listener of a group, a send flow or a port slot, contributes to another group that feeds
it. -/
def State.heardBack (s : State) (x : MixSet) : Bool :=
  let ears := (x.listens.map fun p => (s.flowLeg p.1, p.2.group)) ++ x.outPorts.map fun o => (o.1, o.2.2)
  ears.any fun p => (x.feed 4 p.2).any fun h => h != p.2 && (x.contribsTo h).any fun c => s.contribLeg x c == some p.1

/-- The set after a graph is loaded. -/
def graphSet (g : Graph) (places : List KPlace) (y : MixSet) : MixSet :=
  { y with nodes := g.nodes, edges := g.edges, insts := places, loaded := true }

/-- A compiled graph put into the shadow; a program of the same grain that it replaces never runs and is named by event 162
(R306). -/
def State.loadGraph (s : State) (conf h : Nat) (g : Graph) (places : List KPlace) : Nat × State :=
  let s := match (s.mix conf).pends.getLast? with
    | some (g0, x) => if x.loaded && g0 == grainOf s.now then s.raise 162 h (le 8 g0) else s
    | none => s
  s.mixChange conf g.crossfade (graphSet g places)

/-- MIX_GRAPH_LOAD: the graph is checked, compiled and put into the shadow (R299 to R308). -/
def bodyMixGraphLoad : Body := fun _ c s =>
  let conf := hIdx c.obj
  match graphParse c with
  | .error e => .fail s e
  | .ok g =>
    if !graphShape s g then .fail s stGraphInvalid else
    if !(g.nodes.all (graphRefOk s conf)) then .fail s stGraphRef else
    if !(g.nodes.all (graphChanOk s)) then .fail s stGraphInvalid else
    if g.nodes.any (graphE2ee s) then .fail s stNotPermitted else
    if (g.resolve g.nodes.length []).length ≠ g.nodes.length then .fail s stGraphCycle else
    if !graphLimitsOk g then .fail s stGraphLimit else
    let m := s.mix conf
    let cluster := m.cluster.getD ((s.placeMix).getD 10)
    match s.placeKernels conf cluster g with
    | none => .fail s stNoResource
    | some places =>
      let new := graphSet g places m.latest
      if !new.fits || (new.outPorts.any fun o => decide (4096 < new.listeners o.2.2)) then .fail s stGraphLimit else
      let a := s.mixAdmit conf new
      if a ≠ 0 then .fail s a else
      let r := s.loadGraph conf c.obj g places
      ⟨r.2, if r.2.heardBack new then stWarn else stDone, le 8 r.1, false⟩

/-- The set after MIX_SET, a 0 selecting the default. -/
def settingsSet (c : Cmd) (y : MixSet) : MixSet :=
  { y with n := c.dflt 0 1 3, coloc := c.u 1 1, hang := c.dflt 2 2 120, silDb := c.dflt 4 1 70,
           parkS := c.dflt 5 1 30, silHold := c.dflt 6 2 40, limV := if c.u 8 1 = 0xFF then 2 else c.u 8 1,
           talkEvents := c.flag 9 1 1, noPark := c.flag 9 1 2, releaseMs := c.dflt 10 2 50 }

/-- MIX_SET. -/
def bodyMixSet : Body := fun _ c s =>
  let conf := hIdx c.obj
  if !(c.rng 0 1 0 16 && c.rng 1 1 0 3 && c.rng0 2 2 1 800 && c.rng0 4 1 40 90 && c.rng0 5 1 5 255 &&
       c.rng0 6 2 1 400 && (c.rng 8 1 0 40 || c.u 8 1 == 0xFF) && c.mask 9 1 7 && c.rng0 10 2 5 1000 &&
       c.zero 12 4) then .fail s stBadParam else
  if !(settingsSet c (s.mix conf).latest).fits then .fail s stGraphLimit else
  let r := s.mixChange conf (c.flag 9 1 0) (settingsSet c)
  .ok r.2 (le 8 r.1)

/-- MIX_PAN_SET (R304). -/
def bodyMixPanSet : Body := fun _ c s =>
  let conf := hIdx c.obj
  let h := c.u 4 4
  let r := if c.u 0 1 = 2 then
      (let r := checkHandle s c.fn false [6] h
       if r ≠ 0 then r else if s.confOf h = some conf then 0 else stNoObject)
    else 0
  if r ≠ 0 then .fail s r else
  if !(c.rng 0 1 0 2 && c.mask 1 1 1 && c.zero 2 2 && (c.u 0 1 == 2 || h == 0)) then .fail s stBadParam else
  let r := s.mixChange conf (c.flag 1 1 0) fun y => { y with panMode := c.u 0 1, canvas := h }
  .ok r.2 (le 8 r.1)

/-- MIX_QUERY (Table 07-12). -/
def bodyMixQuery : Body := fun _ c s =>
  let m := s.mix (hIdx c.obj)
  let legs := (m.talkers.take 16).map fun t => legH t.1
  .ok s (le 1 (if m.parked then 2 else 1) ++ le 1 m.run.n ++ le 1 m.talkers.length ++ le 1 m.run.coloc ++
    le 4 (match m.cluster with | some k => mkHandle 12 k | none => 0) ++ le 8 m.runGrain ++
    le 8 (match m.pends.getLast? with | some (g, _) => g | none => 0) ++
    (legs ++ List.replicate (16 - legs.length) 0).flatMap (le 4))

/-- Whether a leg is a talker of a conference. -/
def ConfMix.isTalker (m : ConfMix) (leg : Nat) : Bool := m.talkers.any fun t => t.1 == leg

/-- The encoder settings under which listeners share an encode (R297). -/
def State.encSettings (s : State) (f : Nat) (l : Listener) : List Nat :=
  match s.flow f with
  | some x => [x.media.codec, x.clockRate, l.bitrate, l.ptime, l.flags, l.complexity]
  | none => []

/-- Whether a leg holds a modulator, whose outputs are encoded for it alone (R382). -/
def State.modOf (s : State) (leg n : Nat) : Option Nat :=
  (s.aud.bcn.mods.find? fun p => p.2.leg == leg && decide (p.2.from_ ≤ n) &&
    (match p.2.detach with | some g => decide (n < g) | none => true)).map fun p => p.1

/-! Outputs and their encodes (R297). -/

/-- A send flow with an output in a grain: its settings, and its group in the set before and in the running one. -/
structure MixOut where
  flow : Nat
  set : Listener
  old : Option Nat
  new : Option Nat
deriving DecidableEq, Repr

/-- The outputs to send flows in a grain: of the running set, and over the grain of a crossfade of the one before (R307). -/
def ConfMix.outs (m : ConfMix) : List MixOut :=
  let was (f : Nat) (l : Listener) : Option Nat :=
    match m.old with | some o => (tget o.listens f).map fun q => q.group | none => some l.group
  (m.run.listens.map fun p => ⟨p.1, p.2, was p.1 p.2, some p.2.group⟩) ++
  match m.old with
  | some o => (o.listens.filter fun p => (tget m.run.listens p.1).isNone).map fun p => ⟨p.1, p.2, some p.2.group, none⟩
  | none => []

/-- The group whose channels an output has. -/
def MixOut.group (o : MixOut) : Nat := (o.new.orElse fun _ => o.old).getD 0

/-- The encode of an output: its own, or the one it shares (R297). Silent outputs share one of their own (R284, R312). -/
def State.encKey (s : State) (m : ConfMix) (o : MixOut) : EncKey :=
  if m.ownEnc.contains o.flow then .own o.flow
  else .shared o.old o.new (s.encSettings o.flow o.set) (m.parked || s.outputMuted m (s.flowLeg o.flow))

/-- MIX_STATS (Table 07-13). -/
def bodyMixStats : Body := fun _ c s =>
  let g := hIdx c.obj
  match s.group g with
  | none => .fail s stNoObject
  | some x =>
    let m := s.mix x.conf
    let keys := ((m.outs.filter fun o => o.new == some g).map fun o => s.encKey m o).eraseDups
    let own := countOf keys fun k => match k with | .own _ => true | _ => false
    let w := windowOf s.now
    let red := if x.redWin = w then x.redLast else if x.redWin + 1 = w then x.redNow else 0
    .ok s (le 4 (m.run.listeners g) ++ le 4 (keys.length - own) ++ le 4 own ++ le 4 x.limGrains ++
      le 4 x.satSamples ++ le 1 red ++ zeros 3 ++ le 4 x.decSkips ++ le 4 x.lateGrains ++ zeros 8)

def execMixGroupCreate (c : Cmd) (s : State) := runBelex 0x0500 bodyMixGroupCreate c s
def execMixGroupDelete (c : Cmd) (s : State) := runBelex 0x0501 bodyMixGroupDelete c s
def execMixContribute (c : Cmd) (s : State) := runBelex 0x0502 bodyMixContribute c s
def execMixListen (c : Cmd) (s : State) := runBelex 0x0503 bodyMixListen c s
def execMixUnlisten (c : Cmd) (s : State) := runBelex 0x0504 bodyMixUnlisten c s
def execMixGraphLoad (c : Cmd) (s : State) := runBelex 0x0510 bodyMixGraphLoad c s
def execMixSet (c : Cmd) (s : State) := runBelex 0x0511 bodyMixSet c s
def execMixPanSet (c : Cmd) (s : State) := runBelex 0x0512 bodyMixPanSet c s
def execMixQuery (c : Cmd) (s : State) := runBelex 0x0520 bodyMixQuery c s
def execMixStats (c : Cmd) (s : State) := runBelex 0x0521 bodyMixStats c s

end Sys2Proof.Machine
end

