-- ==== Sys2Proof/Machine/MixSum.lean ====
section
/-! DEFINITION. The sums of a playout grain (R285, R293 to R295, R300, R303, R304, R307): samples of the sources, pan gains,
products, sums and mix-minus. -/

namespace Sys2Proof.Machine

/-- A grain of silence. -/
def silence : List Int := List.replicate 120 0

/-- A list brought to a grain of 120 samples. -/
def grainOfPcm (l : List Int) : List Int := (List.range 120).map fun k => l.getD k 0

/-- The sample-wise sum and difference of grains. -/
def addPcm (a b : List Int) : List Int := (List.range 120).map fun k => a.getD k 0 + b.getD k 0
def subPcm (a b : List Int) : List Int := (List.range 120).map fun k => a.getD k 0 - b.getD k 0
def sumPcm (l : List (List Int)) : List Int := l.foldl addPcm silence

/-! Pan gains (Table 07-7, R303, R304). -/

def panTable : List Nat := [32768, 32138, 30274, 27246, 23170, 18205, 12540, 6393, 0]

/-- The effective gain of a contribution for a channel of a group. -/
def panGain (gain pan chan channels : Nat) : Nat :=
  if channels < 2 || pan = 0xFF then gain
  else gain * panTable.getD (if chan = 0 then pan else 8 - pan) 0 / 32768

/-! The evaluation of one set for a grain. -/

/-- What one set is evaluated over: the samples of its flows and IN_PORT nodes, the legs whose SELECT contributions are
mixed, the mix, and whether it is the set before the running one. -/
structure MixEnv where
  s : State
  conf : Nat
  m : ConfMix
  x : MixSet
  n : Nat
  pcm : List (Nat × List Int)
  ports : List (Nat × List Int)
  talk : List Nat
  old : Bool

/-- The running set of a conference, or the one before it, over a grain in the making. On a remote package all local
candidates are mixed, so that each has its product in the home's sum (R57, R232); elsewhere the talkers are. -/
def State.mixEnv (s : State) (conf : Nat) (g : MixGrain) (old : Bool) : MixEnv :=
  let m := s.mix conf
  { s := s, conf := conf, m := m, x := if old then m.old.getD m.run else m.run, n := g.n, pcm := g.pcm
    ports := if old then g.oldPorts else g.ports
    talk := if (s.cascLegs conf 1).isEmpty then m.talkers.map fun t => t.1 else g.cands, old := old }

/-- A product that went into a sum: its source leg, its samples. -/
structure Term where
  leg : Option Nat
  c : List Int

def MixEnv.flowPcm (e : MixEnv) (f : Nat) : List Int :=
  match e.pcm.find? fun p => p.1 == f with | some p => grainOfPcm p.2 | none => silence

def MixEnv.port (e : MixEnv) (i : Nat) : List Int :=
  match e.ports.find? fun p => p.1 == i with | some p => p.2 | none => silence

/-- The output of a KERNEL node: of its instance, in the set before the running one of an instance that only that has. -/
def MixEnv.kernel (e : MixEnv) (i : Nat) : List Int :=
  let all := e.s.aud.dsp.insts
  let now := tget all (e.conf * 256 + i)
  match (if e.old then (tget all ((oldConf + e.conf) * 256 + i)).orElse fun _ => now else now) with
  | some k => (match k.out with | some (g, l) => if g = e.n then grainOfPcm l else silence | none => silence)
  | none => silence

/-- The level key of a source: a flow, a slot of a port leg, a group's channel, a kernel node, a cascade leg's channel. -/
def flowKey (f : Nat) : Nat := 4 * f
def portKey (leg chan : Nat) : Nat := (leg * 32 + chan) * 4 + 1
def groupKey (g chan : Nat) : Nat := (g * 2 + chan) * 4 + 2
def kernelKey (node : Nat) : Nat := node * 4 + 3
def cascKey (leg chan : Nat) : Nat := (1024 + leg * 16 + chan) * 4 + 3

/-- The level key of what a contribution brings. -/
def MixEnv.key (e : MixEnv) (c : Contrib) : Nat :=
  match e.x.contribFlow c, c.node with
  | some f, _ => flowKey f
  | none, some i =>
    let n := e.x.node i
    if n.typ = 2 then portKey (hIdx n.ref) n.chan else if n.typ = 3 then groupKey (hIdx n.ref) n.chan else kernelKey i
  | none, none => 0

/-- Whether a contribution is silent at the grain (R284, R285, R314). The levels of flows and port slots stand at the grain's
beginning; those of sums and kernels come with their samples. -/
def MixEnv.quiet (e : MixEnv) (c : Contrib) (pcm : List Int) : Bool :=
  let key := e.key c
  (match e.s.contribLeg e.x c with | some l => e.s.contribMuted e.m l | none => false) ||
  decide (e.m.run.silHold ≤ if key % 4 < 2 then (match tget e.m.levels key with | some l => l.below | none => 0)
    else e.m.belowAt key (levelOf 120 (sumSq pcm)))

/-- The samples of a node for the grain (Table 07-5), given the sums of groups. -/
def MixEnv.samples (e : MixEnv) (sum : Nat → Nat → List Int) (i : Nat) : List Int :=
  let n := e.x.node i
  match n.typ with
  | 1 => e.flowPcm (hIdx n.ref)
  | 2 => e.port i
  | 3 => (sum (hIdx n.ref) n.chan).map sat24
  | _ => e.kernel i

/-- The position of a contribution (R304). -/
def MixEnv.pan (e : MixEnv) (c : Contrib) : Nat :=
  match e.x.panMode with
  | 0 => 0xFF
  | 1 => c.pan
  | _ => (match e.s.contribLeg e.x c with
    | some l => (match e.m.pos.find? fun p => p.1 == l with | some p => p.2 | none => 4)
    | none => c.pan)

/-- Whether a contribution is mixed if it is not silent: one without SELECT, or a decoded one of a leg that is mixed. -/
def MixEnv.chosen (e : MixEnv) (c : Contrib) : Bool :=
  !c.select || ((match e.s.contribLeg e.x c with | some l => e.talk.contains l | none => false) &&
    (match e.x.contribFlow c with | some f => e.pcm.any fun p => p.1 == f | none => false))

/-- The place of a group's channel among a conference's channels. -/
def chanPlace (l : List (Nat × Nat)) (g chan : Nat) : Nat := l.findIdx fun p => p == (g, chan)

/-- The products of a grain that came from remote packages for a channel (R232), each with its cascade leg. -/
def ConfMix.cascTerms (m : ConfMix) (n chan : Nat) : List (Nat × List Int) :=
  (m.inbox.filter fun c => c.grain == n && c.chan == chan && c.flags % 2 == 0).map fun c => (c.leg, c.pcm)

/-- The products that go into a channel of a group, of this package and on the home package of the others (R232, R293, R294,
R300); `fuel` bounds the chain of IN_GROUP nodes. -/
def MixEnv.terms (e : MixEnv) : Nat → Nat → Nat → List Term
  | 0, _, _ => []
  | fuel + 1, g, chan =>
    let channels := match e.s.group g with | some y => y.channels | none => 1
    ((e.m.cascTerms e.n (chanPlace (e.s.channelsOf e.conf) g chan)).map fun p => ⟨none, p.2⟩) ++
    (e.x.contribsTo g).filterMap fun c =>
      let src := match c.flow, c.node with
        | some f, _ => e.flowPcm f
        | none, some i => e.samples (fun h k => sumPcm ((e.terms fuel h k).map fun t => t.c)) i
        | none, none => silence
      let gain := panGain c.gain (e.pan c) chan channels
      if !e.chosen c || e.quiet c src then none
      else some ⟨e.s.contribLeg e.x c, src.map fun v => v * gain / 32768⟩

/-- Depth of fuel for the IN_GROUP chains: 4 between SUM nodes (Table 07-6). -/
def MixEnv.sumTerms (e : MixEnv) (g chan : Nat) : List Term := e.terms 6 g chan

/-- S of a channel of a group. -/
def MixEnv.sum (e : MixEnv) (g chan : Nat) : List Int := sumPcm ((e.sumTerms g chan).map fun t => t.c)

/-- The products of a leg in a channel of a group. -/
def legPart (t : List Term) (leg : Nat) : List Int := sumPcm ((t.filter fun x => x.leg == some leg).map fun x => x.c)

/-- The output of a leg, or of a shared encode, from a channel of a group before limiting (R295): the sum, less the leg's own
products when it is a talker. -/
def MixEnv.output (e : MixEnv) (leg : Option Nat) (g chan : Nat) : List Int :=
  let t := e.sumTerms g chan
  let all := sumPcm (t.map fun x => x.c)
  match leg with
  | some i => if e.talk.contains i then subPcm all (legPart t i) else all
  | none => all

end Sys2Proof.Machine
end

