-- ==== Sys2Proof/Machine/MixRun.lean ====
section
/-! DEFINITION. The mix of a playout grain (R278, R284 to R300, R307 to R313, R231 to R234): levels and talkers as it opens,
then outputs, limiters, beacons and the hand-over; parking, and power gates of audio clusters. -/

namespace Sys2Proof.Machine

/-- Whether a leg is the source of a video source handle: a decode context of one of its flows. -/
def State.videoLeg (s : State) (h : Nat) : Option Nat :=
  if hType h = 4 then
    match tget s.vid.decs (hIdx h) with
    | some d => (match d.source with | some f => some (s.flowLeg f) | none => none)
    | none => none
  else none

/-- The positions of the legs that a canvas shows (R304). -/
def State.layoutPos (s : State) (canvas : Nat) : List (Nat × Nat) :=
  match tget s.vid.canvases (hIdx canvas) with
  | none => []
  | some c => c.layout.filterMap fun l =>
    match s.videoLeg l.src with
    | none => none
    | some g => some (g, min 8 ((9 * (l.x + (l.w : Int) / 2)).toNat / max 1 c.w))

/-! Levels and talkers (R285 to R289). -/

/-- A source's level memory after a grain: its level, and the sum of squares of its samples where they were measured. -/
def ConfMix.note (m : ConfMix) (key n : Nat) (level : Int) (sq : Option Nat) : ConfMix :=
  let l := (tget m.levels key).getD {}
  let sums := match sq with | some q => (n, q) :: l.sums | none => l.sums
  { m with levels := tset m.levels key { below := m.belowAt key level, level := level, sums := sums.filter fun p => decide (n < p.1 + 8) } }

/-- The rank level of a flow at grain `n`: the level of the mean square over the 8 grains from n − 7 (R288). A grain in which
the flow was not decoded adds nothing to it (DESIGN CHOICE: R288 speaks of decoded flows). -/
def ConfMix.rankLevel (m : ConfMix) (key n : Nat) : Int :=
  levelOf 960 (match tget m.levels key with
    | some l => sumOf (l.sums.filter fun p => decide (n < p.1 + 8)) fun p => p.2
    | none => 0)

/-- One update of a talker set (R289): the ranked candidates with those that are not silent marked, and the legs that
are silent. The talkers come out in rank order. -/
def talkerStep (old : List (Nat × Nat)) (ranked : List Nat) (silent : Nat → Bool) (limit hang n : Nat) : List (Nat × Nat) :=
  let old := old.take limit
  let top := (ranked.filter fun i => !silent i).take limit
  let kept := (old.map fun t => if top.contains t.1 then (t.1, n) else t).filter fun t =>
    !silent t.1 && decide (n < t.2 + hang)
  let all := top.foldl (fun (l : List (Nat × Nat)) c =>
    if (l.any fun t => t.1 == c) || decide (limit ≤ l.length) then l else l ++ [(c, n)]) kept
  (ranked.filterMap fun i => all.find? fun t => t.1 == i) ++ (all.filter fun t => !ranked.contains t.1)

/-- The candidates of a conference at grain `n`, loudest leg first, ties to the lower leg (R288, R290): legs with a decoded
SELECT flow of a gain above 0. -/
def State.candidates (s : State) (conf n : Nat) (m : ConfMix) (decoded : List Nat) : List Nat :=
  let fl := ((s.contribs conf m.run).filter fun c => c.select && c.gain != 0).filterMap fun c => m.run.contribFlow c
  let fl := fl.eraseDups.filter fun f => decoded.contains f
  let legs := (fl.map fun f => s.flowLeg f).eraseDups
  let rank (l : Nat) : Int := (fl.filter fun f => s.flowLeg f == l).foldl (fun a f => max a (m.rankLevel (flowKey f) n)) (-1000)
  sortBy (fun a b => if rank a = rank b then decide (a < b) else decide (rank b < rank a)) legs

/-- Whether a leg is silent: every SELECT flow of it is (R285), by the level memory that holds this grain already. -/
def State.legSilent (s : State) (conf : Nat) (m : ConfMix) (leg : Nat) : Bool :=
  s.contribMuted m leg ||
  (((s.mixFlows conf m.run true).filter fun f => s.flowLeg f == leg).all fun f =>
    match tget m.levels (flowKey f) with | some l => decide (m.run.silHold ≤ l.below) | none => false)

/-- Levels of the grain measured and noted for each flow and slot of the running set, and for what came from other packages
(R284 to R286), with the metrics of their legs; a flow's samples are those decoded. -/
def State.mixLevels (s : State) (conf : Nat) (g : MixGrain) : State :=
  let e := s.mixEnv conf g false
  let flows := ((s.contribs conf e.x).filterMap fun c => e.x.contribFlow c).eraseDups
  let note (s : State) (leg key : Nat) (level : Int) (sq : Option Nat) : State :=
    (s.modMix conf fun m => m.note key g.n level sq).metric leg fun k => { k with level := min k.level (-level).toNat }
  let s := flows.foldl (fun (s : State) f =>
    match s.flow f with
    | none => s
    | some y =>
      let done := g.pcm.any fun p => p.1 == f
      if !done && !y.hasLevel then s else
      let sq := if done then some (sumSq (e.flowPcm f)) else none
      let s := note s y.leg (flowKey f) (if y.hasLevel then y.extLevel g.n else levelOf 120 (sq.getD 0)) sq
      if done && y.jb.anchor.isSome && (y.jb.covering g.n).isEmpty then
        s.metric y.leg fun k => { k with concealed := k.concealed + 1 }
      else s) s
  let s := g.ports.foldl (fun (s : State) p =>
    let nd := e.x.node p.1
    let sq := sumSq p.2
    note s (hIdx nd.ref) (portKey (hIdx nd.ref) nd.chan) (levelOf 120 sq) (some sq)) s
  let late := g.n - 2 * s.cascD conf 1
  let came := e.m.inbox.filter fun c => if c.flags % 2 = 0 then c.grain == g.n else c.grain == late
  let keys := ((e.m.levels.map fun p => p.1).filter fun k => k % 4 == 3 && decide (4096 ≤ k)) ++
    came.map fun c => cascKey c.leg c.chan
  keys.eraseDups.foldl (fun (s : State) k =>
    let sq := match came.find? fun c => cascKey c.leg c.chan == k with | some c => sumSq c.pcm | none => 0
    s.modMix conf fun m => m.note k g.n (levelOf 120 sq) none) s

/-- Levels of IN_GROUP and KERNEL sources noted, once the sums are formed. -/
def State.mixSumLevels (s : State) (e : MixEnv) : State :=
  (e.x.nodes.zipIdx).foldl (fun (s : State) p =>
    if p.1.typ ≠ 3 && p.1.typ ≠ 5 then s else
    let key := if p.1.typ = 3 then groupKey (hIdx p.1.ref) p.1.chan else kernelKey p.2
    s.modMix e.conf fun m => m.note key e.n (levelOf 120 (sumSq (e.samples e.sum p.2))) none) s

/-- The talkers and candidates after the grain's levels, with event 160 (R288, R289). -/
def State.mixTalkers (s : State) (conf n : Nat) (decoded : List Nat) : State :=
  let m := s.mix conf
  let ranked := s.candidates conf n m decoded
  let silent := s.legSilent conf m
  let new := talkerStep m.talkers ranked silent m.run.n m.run.hang n
  let added := (new.map fun t => t.1).filter fun i => !m.isTalker i
  let gone := m.talkers.any fun t => !(new.any fun u => u.1 == t.1)
  let s := s.modMix conf fun m => { m with
    talkers := new, now := m.now.map fun g => { g with cands := (ranked.filter fun i => !silent i).take 16 } }
  if m.run.talkEvents && (gone || !added.isEmpty) then
    s.raise 160 (confH conf) (le 8 n ++ le 1 new.length ++ (added.take 3).flatMap (le 2))
  else s

/-- The sources of a conference that may be heard, by level key and leg: the flows and slots of the running set, and the
channels of cascade legs. -/
def State.heard (s : State) (conf : Nat) : List (Nat × Option Nat) :=
  let m := s.mix conf
  (((s.contribs conf m.run).filterMap fun c => m.run.contribFlow c).map fun f => (flowKey f, some (s.flowLeg f))) ++
  ((m.run.nodes.filter fun n => n.typ == 2).map fun n => (portKey (hIdx n.ref) n.chan, some (hIdx n.ref))) ++
  ((m.levels.map fun p => p.1).filter fun k => k % 4 == 3 && decide (4096 ≤ k)).map fun k => (k, none)

/-- Whether every contribution of a conference was silent (R311); what comes over cascade legs is one. -/
def State.allSilent (s : State) (conf : Nat) : Bool :=
  let m := s.mix conf
  (s.heard conf).all fun k => (match k.2 with | some l => s.contribMuted m l | none => false) ||
    match tget m.levels k.1 with | some l => decide (m.run.silHold ≤ l.below) | none => true

/-- Whether a contribution exceeded SIL_THRESH at the last grain (R313). -/
def State.anyLoud (s : State) (conf : Nat) : Bool :=
  let m := s.mix conf
  (s.heard conf).any fun k => !(match k.2 with | some l => s.contribMuted m l | none => false) &&
    match tget m.levels k.1 with | some l => decide (-2 * (m.run.silDb : Int) < l.level) | none => false

/-- The E2EE audio receive flows of a conference, ranked by the audio level extension under the loudest-N rule, and the
slots of R215 that carry them. -/
def State.e2eeGrain (s : State) (conf n : Nat) : State :=
  let fl := s.flows.filter fun p => p.2.kind == 1 && p.2.dir == 1 && bit p.2.flags 2 && p.2.hasLevel &&
    p.2.state == .live && (match s.leg p.2.leg with | some l => l.conf == conf | none => false)
  if fl.isEmpty && (s.mix conf).e2ee.isEmpty then s else
  let m := fl.foldl (fun (m : ConfMix) p => m.note (flowKey p.1) n (p.2.extLevel n) none) (s.mix conf)
  let ranked := (sortBy (fun (a b : Nat × Flow) =>
    let x := a.2.extLevel n
    let y := b.2.extLevel n
    if x = y then decide (a.2.leg < b.2.leg) else decide (y < x)) fl).map fun p => p.1
  let silent (f : Nat) : Bool := s.contribMuted m (s.flowLeg f) ||
    match tget m.levels (flowKey f) with | some l => decide (m.run.silHold ≤ l.below) | none => true
  let new := talkerStep (m.e2ee.filter fun t => fl.any fun p => p.1 == t.1) ranked silent m.run.n m.run.hang n
  let s := s.setMix conf { m with e2ee := new }
  let pick (f : Flow) (k : Nat) : Option Nat := ((new.map fun t => t.1).filter fun i => s.flowLeg i != f.leg)[k - 1]?
  let next (f : Flow) (n : FwdNext) : FwdNext := if n.slot = 0 then n else { n with slotSource := pick f n.slot }
  { s with flows := tmap s.flows fun _ f =>
      if f.dir = 2 && f.fwd.bound && s.confOf (legH f.leg) == some conf then
        { f with fwd := { f.fwd with
          slotSource := if f.fwd.slot = 0 then none else pick f f.fwd.slot, next := f.fwd.next.map fun n => next f n } }
      else f }

/-! Outputs and their encodes (R292, R297, R298). -/

/-- The grain whose outputs a remote package gives while it processes grain `n` (R233). -/
def State.lateGrain (s : State) (conf n : Nat) : Nat := n - 2 * s.cascD conf 1

/-- The legs whose outputs lack a part of their own, lowest-ranked last: the talkers; on a remote package the legs whose
products are in the mix that comes back (R232). -/
def State.encTalk (s : State) (conf n : Nat) : List Nat :=
  let m := s.mix conf
  let l := if (s.cascLegs conf 1).isEmpty then m.talkers.map fun t => t.1
    else match m.own.find? fun o => o.grain == s.lateGrain conf n with
      | some o => (o.legs.map fun p => p.1).eraseDups
      | none => []
  l.filter fun i => !m.cut.contains i

/-- Whether a packet of PTIME grains ends with a grain. Packets lie at the grains whose number is a multiple of PTIME, so that
all listeners of an encode send the packets of that encode (DESIGN CHOICE: no rule gives the phase). -/
def packetEnds (ptime n : Nat) : Bool := (n + 1) % ptime == 0

/-- Whether a listener's output can carry a beacon (R383). -/
def State.beaconFits (s : State) (f : Nat) (l : Listener) : Bool :=
  match s.flow f with
  | some x => (x.media.codec == 1 && decide (32000 ≤ l.bitrate)) || (x.media.codec == 5 && decide (96000 ≤ l.bitrate))
  | none => false

/-- The send flows encoded for themselves in a grain: of talkers' legs, and those to which a beacon is added (R382); a leg that was a talker
returns to the shared encode at its next packet boundary (R298), one removed under R292 at once (DEDUCED: the engine starts
no encode for it). -/
def State.ownFlows (s : State) (conf n : Nat) : List Nat :=
  let m := s.mix conf
  let talk := s.encTalk conf n
  (m.outs.filter fun o =>
    let leg := s.flowLeg o.flow
    talk.contains leg || ((s.modOf leg n).isSome && s.beaconFits o.flow o.set) ||
      (m.ownEnc.contains o.flow && n % max 1 o.set.ptime != 0 && !m.cut.contains leg)).map fun o => o.flow

/-- Encodes that a conference starts in a grain: those whose packet ends. -/
def State.encodesOf (s : State) (conf n : Nat) : Nat :=
  let m := { s.mix conf with ownEnc := s.ownFlows conf n }
  (((m.outs.filter fun o => packetEnds o.set.ptime n).map fun o => s.encKey m o).eraseDups).length

/-- The conferences of an engine with a grain in the making, with that grain. -/
def State.making (s : State) (cluster : Nat) : List (Nat × Nat) :=
  s.aud.mixes.filterMap fun p => if p.2.cluster == some cluster then p.2.now.map fun g => (p.1, g.n) else none

/-- Talkers removed from the engine's conferences, highest index first and lowest rank first, until the encodes due are at
most 128 (R292); `fuel` bounds them. The number removed comes with the state. -/
def State.limitEncodes (s : State) (cluster : Nat) : Nat → Nat → State × Nat
  | 0, k => (s, k)
  | fuel + 1, k =>
    let on := s.making cluster
    if sumOf on (fun p => s.encodesOf p.1 p.2) ≤ 128 then (s, k) else
    match (on.filter fun p => !(s.encTalk p.1 p.2).isEmpty).getLast? with
    | none => (s, k)
    | some p =>
      let out := (s.encTalk p.1 p.2).getLast?
      let drop (m : ConfMix) : ConfMix :=
        { m with talkers := m.talkers.filter fun t => some t.1 != out, cut := m.cut ++ out.toList }
      (s.modMix p.1 drop).limitEncodes cluster fuel (k + 1)

/-- The encodes of an engine's grain settled, with event 166 for talkers removed. -/
def State.settleEncodes (s : State) (cluster : Nat) : State :=
  let r := s.limitEncodes cluster 4096 0
  let s := if r.2 = 0 then r.1 else
    let c := r.1.countIn 166 (mkHandle 12 cluster) r.2
    c.2.raiseW 166 (mkHandle 12 cluster) (le 4 c.1)
  (s.making cluster).foldl (fun (s : State) p => s.modMix p.1 fun m => { m with ownEnc := s.ownFlows p.1 p.2 }) s

/-! The grain opens. -/

/-- A port leg's slot mask as a set sees it: that before a PORT_LEG_MASK_SET with crossfade (R369), or the present. -/
def Leg.maskFor (l : Leg) (old : Bool) : Nat := if old then l.slotOld.getD l.slotMask else l.slotMask

/-- The samples of the IN_PORT nodes of a set (Table 07-5). -/
def State.readPorts (s : State) (x : MixSet) (n : Nat) (old : Bool) : List (Nat × List Int) × State :=
  (x.nodes.zipIdx.filter fun p => p.1.typ == 2).foldl (fun (a : List (Nat × List Int) × State) p =>
    match a.2.leg (hIdx p.1.ref) with
    | none => a
    | some l =>
      match nthSetBit (l.maskFor old) p.1.chan with
      | none => a
      | some slot =>
        let r := a.2.sapRead (hIdx l.typeObj) n slot
        (a.1 ++ [(p.2, r.1)], r.2)) ([], s)

/-- Whether a conference's mix engine forms grain `n`: media runs, the engine works, and the grain is not done. -/
def State.mixRuns (s : State) (conf n : Nat) : Bool :=
  let m := s.mix conf
  (s.conf conf).isSome && s.mediaOn && (match m.cluster with | some c => s.unitWorks c 8 | none => false) &&
    (match m.done with | some d => decide (d < n) | none => true)

/-- A conference's grain begins, at the boundary that opens the grain of DT that processes it: the samples that the codec
kernels decode come in, ports are read, levels measured and talkers selected (R278, R284 to R290). That all this stands at
the boundary, and not some time within the grain, is a DESIGN CHOICE: Table 07-1 gives latest instants. -/
def State.mixOpen (s : State) (m conf : Nat) (pcm : List (Nat × List Int)) : State :=
  let lag := 1 + s.mixLag conf
  if m < lag then s else
  let n := m - lag
  let s := s.e2eeGrain conf n
  let x := s.mix conf
  if !s.mixRuns conf n then s.modMix conf fun x => { x with now := none } else
  let remap := s.legs.any fun p => p.2.conf == conf && p.2.slotOld.isSome
  let fading := x.old.isSome || remap
  let rp := s.readPorts x.run n false
  let ro := if fading then rp.2.readPorts (x.old.getD x.run) n true else (rp.1, rp.2)
  let g : MixGrain := { n := n, target := m + 1, pcm := pcm.filter fun p => x.decoded.contains p.1, ports := rp.1, oldPorts := ro.1, fading := fading }
  let s := (ro.2.modMix conf fun x => { x with now := some g, cut := [] }).mixLevels conf g
  let s := if x.parked then s else s.mixTalkers conf n x.decoded
  let loud := s.anyLoud conf
  let quiet := s.allSilent conf
  s.modMix conf fun x => { x with wake := x.wake || (x.parked && loud), quiet := if quiet then x.quiet + 1 else 0 }

/-- The grains of all conferences begin at the boundary that opens grain `m` (R278, R292). -/
def State.mixesOpen (s : State) (m : Nat) (pcm : List (Nat × List Int)) : State :=
  let s := (s.confs.map fun p => p.1).foldl (fun (s : State) c => s.mixOpen m c pcm) s
  ((s.aud.mixes.filterMap fun p => p.2.cluster).eraseDups).foldl (fun (s : State) c => s.settleEncodes c) s

/-! The limiter (R309, R310). -/

/-- T of a threshold −v/2 dBFS: floor(2^23 × 10^(−v / 40)). -/
def limThreshold : List Nat :=
  [8388608, 7919356, 7476354, 7058134, 6663308, 6290568, 5938679, 5606475, 5292853, 4996776, 4717260, 4453381, 4204263,
   3969080, 3747053, 3537446, 3339564, 3152752, 2976390, 2809893, 2652710] ++
  [2504320, 2364230, 2231977, 2107123, 1989252, 1877975, 1772923, 1673747, 1580119, 1491728, 1408282, 1329504, 1255133,
   1184922, 1118638, 1056063, 996987, 941217, 888566, 838860]

/-- The terms of e^(−2.5 / R) in 64-bit fixed point, signs in turn. -/
def expTerms (r : Nat) : Nat → Nat → Nat → Int → Int → Int
  | 0, _, _, _, acc => acc
  | fuel + 1, k, t, sign, acc => expTerms r fuel (k + 1) (t * 5 / (2 * r * (k + 1))) (-sign) (acc + sign * t)

/-- α of a release time R in ms: floor(32,768 × (1 − e^(−2.5 / R))). -/
def limAlpha (r : Nat) : Nat :=
  (32768 * ((2 ^ 64 : Int) - expTerms r 24 0 (2 ^ 64) 1 0) / 2 ^ 64).toNat

/-- One grain through a limiter of gain H: the output, the new gain, and the saturated samples. -/
def limiter (t alpha h : Nat) (y : List Int) : List Int × Nat × Nat :=
  let peak := y.foldl (fun p v => max p v.natAbs) 0
  let req := if t < peak then t * 32768 / peak else 32768
  let rel := h + (32768 - h) * alpha / 32768
  let g1 := min req rel
  let raw : List Int := y.zipIdx.map fun p =>
    let g : Nat := if g1 < h then g1 else h + (g1 - h) * (p.2 + 1) / 120
    p.1 * (g : Int) / 32768
  (raw.map sat24, g1, countOf raw fun v => sat24 v != v)

/-- The reduction of a gain in whole 0.5 dB steps. -/
def reduction (g : Nat) : Nat :=
  if g = 0 then 255 else countOf (List.range 254) fun k => decide (10 ^ (k + 1) * g ^ 40 ≤ 32768 ^ 40)

/-- A limiter's result noted for its group: what R310 counts. -/
def State.limNote (s : State) (g h sat : Nat) : State :=
  let w := windowOf s.now
  let r := reduction h
  let upd (x : MixGroup) : MixGroup :=
    let y : MixGroup := if x.redWin = w then x
      else { x with redWin := w, redNow := 0, redLast := if x.redWin + 1 = w then x.redNow else 0 }
    { y with redNow := max y.redNow r, satSamples := y.satSamples + sat,
             limGrains := if h < 32768 then y.limGrains + 1 else y.limGrains }
  let s := s.modGroup g upd
  let s := if h < 16384 then s.raiseW 167 (mkHandle 8 g) (le 1 (min 255 r)) else s
  if sat = 0 then s else
  let c := s.countIn 168 (mkHandle 8 g) sat
  c.2.raiseW 168 (mkHandle 8 g) (le 4 c.1)

/-- An output of a group limited from a gain H: its samples, the new gain, and the state. -/
def State.limit (s : State) (x : MixSet) (g h : Nat) (y : List Int) : List Int × Nat × State :=
  let r := limiter (limThreshold.getD x.limV 7476354) (limAlpha x.releaseMs) h y
  (r.1, r.2.1, s.limNote g r.2.1 r.2.2)

/-! Beacons on outputs (R382, R383). -/

/-- The beacon of a leg's modulator added to an output; clipped samples are counted. -/
def State.addBeacon (s : State) (leg n : Nat) (z : List Int) : List Int × State :=
  match s.modOf leg n with
  | none => (z, s)
  | some ch =>
    match tget s.aud.bcn.mods ch with
    | none => (z, s)
    | some b =>
      let sum := addPcm z (b.samples n)
      let clips := countOf sum fun v => sat24 v != v
      (sum.map sat24, s.modBcn ch fun b => { b with clips := b.clips + clips })

/-- An output of a leg with a modulator that cannot carry the beacon: counted, and event 190. -/
def State.beaconBlocked (s : State) (leg flow n : Nat) : State :=
  match s.modOf leg n with
  | none => s
  | some ch => (s.modBcn ch fun b => { b with blocked := b.blocked + 1 }).raiseW 190 (mkHandle 11 ch) (le 4 flow)

/-! Cascade (R231 to R234). -/

/-- The send audio flow of codec 6 of a cascade leg. -/
def State.cascFlow (s : State) (leg : Nat) : Option Nat :=
  ((s.flowsOf leg).find? fun p => p.2.dir == 2 && p.2.kind == 1 && p.2.media.codec == 6 && p.2.state != .closing).map
    fun p => p.1

/-- The payload of a cascade packet (R231). The table leaves open what is chosen here: the header's numbers and the samples
are big-endian as other RTP payloads, FLAGS [1] says that all 120 samples are 0, Level is in 0.5 dB steps below 0 dBFS as
levels are kept, and the source leg index of a return mix is 0 (DESIGN CHOICE). -/
def cascPayload (n chan : Nat) (back : Bool) (src : Nat) (c : List Int) : List Byte :=
  let sq := sumSq c
  be 8 n ++ be 1 chan ++ be 1 (b2n back + 2 * b2n (sq == 0)) ++ be 1 (-(levelOf 120 sq)).toNat ++ be 1 0 ++ be 4 src ++
    c.flatMap fun v => (leI 4 v).reverse

/-- One grain of one channel sent on a cascade leg. -/
def State.sendCasc (s : State) (leg n chan : Nat) (back : Bool) (src : Nat) (c : List Int) : State :=
  match s.cascFlow leg with
  | none => s
  | some i =>
    match s.flow i with
    | none => s
    | some f =>
      let p : Rtp := { ssrc := f.ssrc, seq := f.sendSeq % 65536, ts := (f.tsBase + n * f.clockRate / 400) % 2 ^ 32,
                       pt := f.pt, mid := f.mid, payload := cascPayload n chan back src c }
      (s.modFlow i fun f => { f with sendSeq := f.sendSeq + 1 }).sendRtp i p none

/-- A remote package's part: its candidates' products, of at most 16 legs, sent to the home package in the first 16 channels,
and kept until the return mix comes (R231, R232). -/
def State.cascRemote (s : State) (conf : Nat) (e : MixEnv) : State :=
  let legs := s.cascLegs conf 1
  if legs.isEmpty then s else
  let per := (s.channelsOf conf).zipIdx.map fun p =>
    let t := e.sumTerms p.1.1 p.1.2
    (p.2, sumPcm (t.map fun x => x.c), e.talk.map fun l => (l, legPart t l))
  let s := legs.foldl (fun (s : State) g => (per.take 16).foldl (fun (s : State) q =>
    q.2.2.foldl (fun (s : State) l => s.sendCasc g.1 e.n q.1 false l.1 l.2) s) s) s
  let own : OwnGrain :=
    { grain := e.n, sums := per.map fun q => (q.1, q.2.1), legs := per.flatMap fun q => q.2.2.map fun l => (l.1, q.1, l.2) }
  s.modMix conf fun m => { m with own := m.own ++ [own] }

/-- A home package's part: to each remote the sum less that remote's products. -/
def State.cascHome (s : State) (conf : Nat) (e : MixEnv) : State :=
  (s.cascLegs conf 0).foldl (fun (s : State) g => (((s.channelsOf conf).zipIdx).take 16).foldl (fun (s : State) p =>
    let mine := sumPcm (((e.m.cascTerms e.n p.2).filter fun t => t.1 == g.1).map fun t => t.2)
    s.sendCasc g.1 e.n p.2 true 0 (subPcm (e.sum p.1.1 p.1.2) mine)) s) s

/-- A remote package's output of a leg, or of a shared encode, at playout grain `n` (R232, R234): the return mix, the own
products, less the leg's. -/
def ConfMix.remoteOutput (m : ConfMix) (n : Nat) (leg : Option Nat) (place : Nat) : List Int :=
  let back := match m.inbox.find? fun c => c.grain == n && c.chan == place && c.flags % 2 == 1 with
    | some c => c.pcm
    | none => silence
  match m.own.find? fun o => o.grain == n with
  | none => back
  | some o =>
    let sum := match o.sums.find? fun p => p.1 == place with | some p => p.2 | none => silence
    let mine := match o.legs.find? fun p => some p.1 == leg && p.2.1 == place with | some p => p.2.2 | none => silence
    subPcm (addPcm back sum) mine

/-- A late return mix of a grain counted (R234), where one of a channel in which products were sent is missing. -/
def State.cascMissing (s : State) (conf n : Nat) : State :=
  let m := s.mix conf
  if !(m.own.any fun o => o.grain == n) then s else
  let miss := ((s.channelsOf conf).zipIdx.take 16).any fun p =>
    !(m.inbox.any fun c => c.grain == n && c.chan == p.2 && c.flags % 2 == 1)
  if !miss then s else
  match s.cascLegs conf 1 with
  | (i, _) :: _ => s.modLeg i fun l => { l with casc := { l.casc with lateReturns := l.casc.lateReturns + 1 } }
  | [] => s

/-! The hand-over of the outputs. -/

/-- The sample values of an output before limiting, by its leg, its group in the set before and in the running one, and a
channel. -/
abbrev MixY := Option Nat → Option Nat → Option Nat → Nat → List Int

/-- A listener's packet when it ends with this grain: the payload that the encode gave, under the flow's own SSRC, sequence
numbers and timestamps (R297, R312). -/
def State.audioPacket (s : State) (n flow : Nat) (l : Listener) (quiet : Bool) (payload : List Byte) : State :=
  match s.flow flow with
  | none => s
  | some f =>
    let on := match s.leg f.leg with | some g => g.state == .active || g.state == .held | none => false
    if !packetEnds l.ptime n || !on || f.state == .closing || payload.isEmpty then s else
    let cn := quiet && decide (2 ≤ f.media.codec) && decide (f.media.codec ≤ 4) && l.cnPt != 0
    let first := n + 1 - l.ptime
    let p : Rtp := { ssrc := f.ssrc, seq := f.sendSeq % 65536, ts := (f.tsBase + first * f.clockRate / 400) % 2 ^ 32,
                     pt := if cn then l.cnPt else f.pt, mid := f.mid, payload := payload }
    (s.modFlow flow fun f => { f with sendSeq := f.sendSeq + 1, srMap := some (p.ts, first * grainU) }).sendRtp flow p none

/-- The payload of an output among those that the encodes gave, each for the lowest flow of its encode. -/
def State.payloadOf (s : State) (m : ConfMix) (coded : List (Nat × List Byte)) (o : MixOut) : List Byte :=
  let rep := match m.outs.find? fun q => s.encKey m q == s.encKey m o with | some q => q.flow | none => o.flow
  match coded.find? fun c => c.1 == rep with | some c => c.2 | none => []

/-- The encoder and limiter state with which an encode begins a grain: its own of the grain before; for a leg that becomes a
talker the one it had, or a copy of the shared encode of its settings; a shared encode that is new goes on from one of its
listeners'; else reset (R298, R309). -/
def State.outStart (s : State) (m : ConfMix) (n : Nat) (key : EncKey) (l : List MixOut) : OutEnc :=
  let had := l.filterMap fun o => tget m.encs o.flow
  let copy : Option OutEnc := match key, l with
    | .own _, o :: _ => (m.encs.find? fun p => match p.2.key with
        | .shared _ g set false => g == o.new && set == s.encSettings o.flow o.set
        | _ => false).map fun p => p.2
    | _, _ => none
  match (had.find? fun x => x.key == key).orElse fun _ => had.head?.orElse fun _ => copy with
  | some x => { x with key := key }
  | none => { key := key, since := n }

/-- One encode of a grain: its output limited in each channel of its group, with the beacon where it is a leg's own; the state
it leaves, kept for each of its listeners. -/
def State.mixEncode (s : State) (conf n : Nat) (m : ConfMix) (y : MixY) (key : EncKey) (l : List MixOut) : State :=
  match l with
  | [] => s
  | o :: _ =>
    let leg := s.flowLeg o.flow
    let mine := match key with | .own _ => true | _ => false
    let quiet := m.parked || s.outputMuted m leg
    let channels := match s.group o.group with | some g => g.channels | none => 1
    let x := s.outStart m n key l
    let r := (List.range channels).foldl (fun (a : List Nat × State) c =>
      let z := a.2.limit m.run o.group (x.h.getD c 32768)
        (if quiet then silence else y (if mine then some leg else none) o.old o.new c)
      let s := if mine && z.2.2.beaconFits o.flow o.set then (z.2.2.addBeacon leg n z.1).2 else z.2.2
      (a.1 ++ [z.2.1], s)) ([], s)
    r.2.modMix conf fun m => { m with encs := l.foldl (fun (t : Tbl OutEnc) o => tset t o.flow { x with h := r.1 }) m.encs }

/-- One grain of a conference's outputs to send flows: each encode once, then each listener's packet (R297, R298). -/
def State.mixOutputs (s : State) (conf n : Nat) (y : MixY) (coded : List (Nat × List Byte)) : State :=
  let m := s.mix conf
  let outs := m.outs
  let keys := (outs.map fun o => s.encKey m o).eraseDups
  let s := s.modMix conf fun m => { m with encs := [] }
  let s := keys.foldl (fun (s : State) k => s.mixEncode conf n m y k (outs.filter fun o => s.encKey m o == k)) s
  outs.foldl (fun (s : State) o =>
    let leg := s.flowLeg o.flow
    let s := if s.beaconFits o.flow o.set then s else s.beaconBlocked leg o.flow n
    s.audioPacket n o.flow o.set (m.parked || s.outputMuted m leg) (s.payloadOf m coded o)) s

/-- The slots that the OUT_PORT nodes of a set fill of a port leg, under a mask: slot and group. -/
def MixSet.slotsOut (x : MixSet) (leg mask : Nat) : List (Nat × Nat) :=
  (x.outPorts.filter fun o => o.1 == leg).filterMap fun o => (nthSetBit mask o.2.1).map fun i => (i, o.2.2)

/-- The slot groups of the port legs of a conference, committed for their target grain (R361, R362): each slot's
output by the set and mask before and the present ones, which a crossfade joins before the limiter (R307, R369). -/
def State.mixPorts (s : State) (conf n target : Nat) (y : MixY) : State :=
  let m := s.mix conf
  let old := m.old.getD m.run
  let legs := ((m.run.outPorts ++ old.outPorts).map fun o => o.1).eraseDups
  let s := s.modMix conf fun m => { m with slots := [] }
  legs.foldl (fun (s : State) leg =>
    match s.leg leg with
    | none => s
    | some l =>
      let new := m.run.slotsOut leg l.slotMask
      let was := old.slotsOut leg (l.maskFor true)
      let idx := ((new ++ was).map fun p => p.1).eraseDups
      let quiet := m.parked || s.outputMuted m leg
      let r := idx.foldl (fun (a : List (Nat × List Int) × State) i =>
        let key : EncKey := .port leg i
        let h := match m.slots.find? fun x => x.key == key with | some x => x.h.getD 0 32768 | none => 32768
        let og := (was.find? fun p => p.1 == i).map fun p => p.2
        let ng := (new.find? fun p => p.1 == i).map fun p => p.2
        let z := a.2.limit m.run ((ng.orElse fun _ => og).getD 0) h (if quiet then silence else y (some leg) og ng 0)
        let b := z.2.2.addBeacon leg n z.1
        (a.1 ++ [(i, b.1)], b.2.modMix conf fun m => { m with slots := m.slots ++ [⟨key, n, [z.2.1]⟩] })) ([], s)
      r.2.sapCommit (hIdx l.typeObj) ⟨target, 1 + leg, r.1⟩) s

/-! The grain. -/

/-- A grain of a conference is over: handed over, or replaced as late. What was kept for its crossfade and for the cascade
goes. -/
def State.mixClose (s : State) (conf n : Nat) : State :=
  let remote := !(s.cascLegs conf 1).isEmpty
  let late := s.lateGrain conf n
  let s := s.modMix conf fun m => { m with
    done := some n, old := none, now := none
    inbox := m.inbox.filter fun c => if remote then decide (late < c.grain) else decide (n < c.grain)
    own := m.own.filter fun o => decide (late < o.grain) }
  { (s.dropInsts (oldConf + conf)) with
    legs := s.legs.map fun p => if p.2.conf = conf then (p.1, { p.2 with slotOld := none }) else p }

/-- A conference's grain, whose levels and talkers stand: sums, outputs and hand-over (R293 to R300, R307). -/
def State.mixForm (s : State) (conf : Nat) (g : MixGrain) (coded : List (Nat × List Byte)) : State :=
  let m := s.mix conf
  let n := g.n
  let e := s.mixEnv conf g false
  let old := s.mixEnv conf g true
  let s := if m.parked then s else s.cascRemote conf e
  let chans := s.channelsOf conf
  let remote := !(s.cascLegs conf 1).isEmpty
  let m2 := s.mix conf
  let late := s.lateGrain conf n
  let part (e : MixEnv) (leg k : Option Nat) (c : Nat) : List Int := match k with
    | none => silence
    | some q => if remote then m2.remoteOutput late leg (chanPlace chans q c) else e.output leg q c
  let y : MixY := fun leg og ng c =>
    if m.parked then silence
    else if g.fading then crossfade (part old leg og c) (part e leg ng c) else part e leg ng c
  let s := if m.parked then s else s.cascHome conf e
  let s := if remote then s.cascMissing conf late else s
  let s := (s.mixOutputs conf n y coded).mixPorts conf n g.target y
  (s.mixSumLevels e).mixClose conf n

/-- The present grain of a conference is still to be mixed. -/
def State.mixDue (s : State) (conf : Nat) : Option MixGrain :=
  match (s.mix conf).now with
  | some g => if s.mixRuns conf g.n && g.n + 1 + s.mixLag conf == grainOf s.now then some g else none
  | none => none

/-- The slot groups of the port legs of a conference committed after their target grain has begun: each a late discard (R279,
R363). -/
def State.mixLate (s : State) (conf : Nat) : State :=
  match (s.mix conf).overdue with
  | none => s
  | some (g, legs) =>
    let s := s.modMix conf fun m => { m with overdue := none }
    legs.foldl (fun (s : State) leg =>
      match s.leg leg with
      | some l => s.sapCommit (hIdx l.typeObj) ⟨g, 1 + leg, []⟩
      | none => s) s

/-- MIX_GRAIN_COMPLETE: the mix engine has formed the playout grain that the present grain processes (R233, R277 to R313), of
the samples and the talkers with which the grain began; or, when `late`, a grain that was replaced as late (R279). The row carries
the payloads that the codec kernels encoded. -/
def execMixGrainComplete (t conf : Nat) (late : Bool) (coded : List (Nat × List Byte)) (s : State) :
    Host.Outcome State Fault Refusal :=
  let s := s.advance t
  .next (if late then s.mixLate conf else match s.mixDue conf with | some g => s.mixForm conf g coded | none => s)

/-- A conference parks (R311). -/
def State.parkConf (s : State) (conf : Nat) : State :=
  let done := (s.mix conf).done.getD 0
  let s := s.modMix conf fun m => { m with parked := true, wake := false, talkers := [] }
  let s := s.modConf conf fun c => if c.state = .active then { c with state := .parked } else c
  s.raise 163 (confH conf) (le 8 done)

/-- Every contribution of a conference has been silent for PARK_S, and it may park. -/
def State.parkDue (s : State) (conf : Nat) : Bool :=
  let m := s.mix conf
  (s.conf conf).isSome && m.cluster.isSome && !m.parked && !m.run.noPark && decide (m.run.parkS * 400 ≤ m.quiet)

/-- CONF_PARK: every contribution of a conference has been silent for PARK_S (R311). -/
def execConfPark (t conf : Nat) (s : State) : Host.Outcome State Fault Refusal :=
  let s := s.advance t
  .next (if s.parkDue conf then s.parkConf conf else s)

/-! Power of audio clusters (R313, R30). -/

/-- Whether an audio cluster has work in a grain: a conference of its mix engine that is not parked, or a task. -/
def State.audioWork (s : State) (c : Nat) : Bool :=
  (s.aud.mixes.any fun p => p.2.cluster == some c && !p.2.parked) ||
  (s.disp.tasks.any fun p => p.2.st == .dispatched && p.2.unit / 16 == c)

/-- A cluster is powered down, and its region with it when no other cluster there runs and no castling is in progress (R30,
R313). -/
def State.gateCluster (s : State) (c : Nat) : State :=
  let r := regionOf c
  let stay := ((regionClusters r).any fun d => d != c && !(s.cluster d).gated) || (s.units.castling.getD r none).isSome
  let s := s.modCluster c fun k => { k with gated := true }
  { s with units := { s.units with regionOn := setAt s.units.regionOn r stay } }

/-- An active audio cluster has had no work for 200 ms. -/
def State.gateDue (s : State) (c : Nat) : Bool :=
  let k := s.cluster c
  isAudioCluster c && decide (c < 56) && k.state == .active && !k.gated && !s.audioWork c &&
    match k.idleSince with | some d => decide (d + 200 * msU ≤ s.now) | none => false

/-- CLUSTER_POWER_GATE: an audio cluster has had no work for 200 ms (R313). -/
def execClusterPowerGate (t c : Nat) (s : State) : Host.Outcome State Fault Refusal :=
  let s := s.advance t
  .next (if s.gateDue c then s.gateCluster c else s)

end Sys2Proof.Machine
end

