-- ==== Sys2Proof/Machine/Forward.lean ====
section
/-! DEFINITION. Forwarding: the packets of a source passed to its bound send flows, switch points and rewriting
(R183 to R202, R214 to R216), and the wait for a switch (R193, R194). -/

namespace Sys2Proof.Machine

/-- Whether the measured frames of a flow have temporal layers (R193). -/
def Flow.temporal (f : Flow) : Bool := f.rates.any fun r => r.2.any fun x => decide (0 < x.t)

/-- Whether a change of E, or the first frame of a binding, is waited for. -/
def Fwd.waiting (w : Fwd) : Bool := !w.started || w.tgt.e != w.cur.e

/-- The change to encoding `e`, at a packet with stamp `stamp`, timestamp `ts` and layers `l`: numbering goes on, the
reservations are dropped and the offsets set again (R199, R200). What is left of a picture of the source before stays
behind. -/
def Fwd.turn (w : Fwd) (e clock base stamp ts : Nat) (l : Layer) : Fwd :=
  let delta := max 1 (roundDiv ((stamp - w.lastStamp) * clock) secU)
  let off := match w.lastFrame with
    | none => base
    | some _ => (w.lastTs + delta + 2 ^ 32 - ts % 2 ^ 32) % 2 ^ 32
  let next (last : Option Int) (n : Nat) : Int := match last with
    | none => 0
    | some x => x + 1 - n
  { w with cur := ⟨e, w.tgt.s, w.tgt.t⟩, state := .forwarding, started := true, srcHigh := none, kept := [], tsOff := off
           frOff := next w.lastFrame l.frame, tl0Off := next w.lastTl0 (l.tl0.getD 0), e2eeBoundary := false
           pics := [], tail := none }

/-- The source number, target and state of a picture for a packet that a flow brings: the picture noted, or for a packet of a
picture of which nothing came before, as one that would begin now. -/
def Fwd.picOf (w : Fwd) (src : Nat) (ext : Nat) (p : Rtp) : FwdPic :=
  (w.pics.find? fun q => q.src == src && q.ts == p.ts).getD { src := src, ext := ext, ts := p.ts, tgt := w.cur }

/-- Whether a packet is the last that is forwarded of its picture (R201): the end of the frame of the highest spatial layer
selected that the picture has. -/
def FwdPic.ends (q : FwdPic) (l : Layer) : Bool := l.last && !l.upper.any fun x => decide (x ≤ q.tgt.s)

/-- A rewritten number of so many bits. -/
def offsetBy (n : Nat) (off : Int) (bits : Nat) : Nat := (((n : Int) + off) % (2 ^ bits : Nat)).toNat

/-- A packet sent on under the numbers and headers of its send flow (R197, R200 to R202); without a payload it is the
padding packet of R198. -/
def State.sendForwarded (s : State) (d src out : Nat) (pad : Bool) (q : FwdPic) (p : Rtp) : State :=
  match s.flow d, s.flow src with
  | some x, some f =>
    let w := x.fwd
    let l := p.layer
    let ts := (p.ts + w.tsOff) % 2 ^ 32
    let mark := if f.kind = 1 || f.opaque_ then p.marker else q.ends l
    let dd := if f.media.exts.getD 5 0 = 0 then none else some (q.tgt.s, q.tgt.t)
    let base : Rtp := { ssrc := x.ssrc, seq := out % 65536, ts := if pad then w.sentTs else ts, pt := x.pt, mid := x.mid }
    let r : Rtp :=
      if pad then { base with pad := 1 }
      else { base with
        marker := mark, csrc := p.csrc, level := p.level, payload := p.payload
        layer := { l with frame := offsetBy l.frame w.frOff l.frameBits, tl0 := l.tl0.map fun n => offsetBy n w.tl0Off 8, dd := dd } }
    let upd (w : Fwd) : Fwd :=
      if pad then { w with padding := w.padding + 1 } else { w with pkts := w.pkts + 1, sentTs := ts }
    let s := s.modFlow d fun x => { x with fwd := upd x.fwd }
    let s := if x.kind = 2 then s.keepHist d r else s
    s.sendRtp d r none (some f.leg)
  | _, _ => s

/-- A send flow's forwarding state changed; the sequence numbers of a flow that is not bound any more follow (R50). -/
def State.modFwd (s : State) (d : Nat) (f : Fwd → Fwd) : State :=
  s.modFlow d fun x =>
    let w := f x.fwd
    { x with fwd := w, sendSeq := if w.bound then x.sendSeq else w.outSeq }

/-- The numbers of R198 for a source packet, forwarded or not; a late packet of a flow that sends nothing now leaves its
reservation. -/
def State.numberForwarded (s : State) (d src ext : Nat) (go quiet : Bool) (q : FwdPic) (p : Rtp) : State :=
  match s.flow d with
  | none => s
  | some x =>
    let w := x.fwd
    let high := w.srcHigh.getD (ext - 1)
    if high < ext || w.srcHigh.isNone then
      let missing := if go then ext - high - 1 else 0
      let res := (List.range missing).map fun i => (high + 1 + i, w.outSeq + i)
      let kept := (w.kept ++ res).filter fun k => decide (ext < k.1 + 1024)
      let n := w.outSeq + missing
      let s := s.modFwd d fun w => { w with srcHigh := some ext, kept := kept, outSeq := if go then n + 1 else w.outSeq }
      if go then s.sendForwarded d src n false q p else s
    else if quiet then s
    else
      match w.kept.find? fun k => k.1 == ext with
      | none => s
      | some k => (s.modFwd d fun w => { w with kept := w.kept.filter fun k => k.1 != ext }).sendForwarded d src k.2 (!go) q p

/-- What the first packet sent of a picture, and of each of its frames, leaves for the next change (R200), and the mapping of
R211. -/
def State.noteForwarded (s : State) (d src stamp : Nat) (q : FwdPic) (p : Rtp) : State :=
  let play := s.decPres src stamp
  let l := p.layer
  let s := if !l.first then s else s.modFwd d fun w => { w with
    lastFrame := some ((l.frame : Int) + w.frOff), lastTl0 := (l.tl0.map fun n => (n : Int) + w.tl0Off).orElse fun _ => w.lastTl0 }
  if q.sent then s else
  let sent (w : Fwd) : List FwdPic := w.pics.map fun x => if x.src = q.src && x.ts = q.ts then { x with sent := true } else x
  s.modFlow d fun x =>
    let ts := (p.ts + x.fwd.tsOff) % 2 ^ 32
    { x.frameTurn with srMap := some (ts, play), fwd := { x.fwd with
      lastTs := ts, lastStamp := stamp, framesOut := x.fwd.framesOut + 1, pics := sent x.fwd
      lastFrame := x.fwd.lastFrame.orElse fun _ => some ((l.frame : Int) + x.fwd.frOff) } }

/-- A completed switch, with event 120. -/
def State.toldSwitch (s : State) (d : Nat) (old : Target) : State :=
  match s.flow d with
  | none => s
  | some x =>
    let n := x.fwd.cur
    if n = old then s else s.raise 120 (flowH d) (le 1 old.e ++ le 1 old.s ++ le 1 old.t ++ le 1 n.e ++ le 1 n.s ++ le 1 n.t)

/-- Whether a flow brings the packets of a binding to a source, or to a slot with its source. -/
def State.brings (s : State) (src source slot : Nat) (slotSource : Option Nat) : Bool :=
  if slot ≠ 0 then slotSource == some src else (s.sourceSet source).contains src

/-- Whether a flow brings the packets of a binding, and of the replacement that waits (R185). -/
def State.bringsNow (s : State) (w : Fwd) (src : Nat) : Bool := w.bound && s.brings src w.source w.slot w.slotSource
def State.bringsNext (s : State) (w : Fwd) (src : Nat) : Bool :=
  w.bound && match w.next with | some n => s.brings src n.source n.slot n.slotSource | none => false

/-- The switch points that a packet of a source brings to a send flow: a replacement source (R185), the source of an
automatic slot (R216), a change of E (R191), or at the begin of a picture layers of the same encoding. A replacement starts
at target E0 S0 T0, so that a key frame of its encoding 0 is its first switch point (DESIGN CHOICE: R185 does not say which
target a replacement starts with). -/
def State.followSource (s : State) (d src stamp : Nat) (begins : Bool) (p : Rtp) : State :=
  match s.flow d, s.flow src with
  | some x, some f =>
    let w := x.fwd
    let l := p.layer
    let put (s : State) (w : Fwd) : State := s.modFlow d fun x => { x with fwd := w }
    let turn (w : Fwd) (e : Nat) : Fwd := w.turn e f.clockRate x.tsBase stamp p.ts l
    let point (w : Fwd) : Bool := if f.kind = 1 then true else if f.opaque_ then w.e2eeBoundary else l.parsed && l.first && l.key
    let ask (s : State) : State := if f.opaque_ then s.keyRequest src else s
    if s.bringsNext w src then
      match w.next with
      | none => s
      | some n =>
        if (n.slot ≠ 0 || (s.sourceSet n.source).idxOf src = 0) && point w then
          let w' := { w with source := if n.slot = 0 then n.source else src, slot := n.slot, slotSource := n.slotSource
                             prio := n.prio, caps := n.caps, next := none, tgt := {} }
          (ask (put s (turn w' 0))).toldSwitch d w.cur
        else put s { w with e2eeBoundary := f.opaque_ && p.marker }
    else if w.slot ≠ 0 then
      if w.slotSource = some src && (w.source ≠ src || !w.started) then put s (turn { w with source := src } 0) else s
    else
      let e := (s.sourceSet w.source).idxOf src
      if w.state = .suspended then s
      else if w.waiting && e = w.tgt.e then
        if point w then (ask (put s (turn w e))).toldSwitch d w.cur
        else put s { w with e2eeBoundary := f.opaque_ && p.marker }
      else if w.started && e = w.cur.e && !f.opaque_ && f.kind = 2 && begins then
        (put s { w with cur := w.cur.follow f.switchRow w.tgt l }).toldSwitch d w.cur
      else s
  | _, _ => s

/-- Whether a send flow sends nothing now (R188, R194, R225). -/
def Fwd.quiet (w : Fwd) : Bool := w.shed || w.state == .paused || w.state == .suspended

/-- Whether a packet belongs to what is forwarded of its picture (R193, R196). -/
def FwdPic.takes (q : FwdPic) (f : Flow) (l : Layer) : Bool :=
  q.go && (f.kind == 1 || f.opaque_ || (l.parsed && q.tgt.needs l && (!q.base || l.t == 0)))

/-- A picture that begins noted, with the target and the hold it is forwarded under; those that no reservation reaches any
more go. -/
def Fwd.begin (w : Fwd) (f : Flow) (src ext : Nat) (go : Bool) (p : Rtp) : Fwd :=
  let q : FwdPic := { src := src, ext := ext, ts := p.ts, tgt := w.cur, base := decide (w.tgt.e < w.cur.e) && f.temporal, go := go }
  { w with pics := q :: w.pics.filter fun q => decide (ext < q.ext + 1024) }

/-- A packet of the source that a send flow forwards from: a picture that begins is noted, and the packet is sent or not as
its picture is (R198). -/
def State.forwardBody (s : State) (d src stamp ext : Nat) (p : Rtp) : State :=
  match s.flow d, s.flow src with
  | some x, some f =>
    let w := x.fwd
    let late := match w.srcHigh with | some h => decide (ext ≤ h) | none => false
    let begins := !late && !w.pics.any fun q => q.src == src && q.ts == p.ts
    let w := if begins && w.tail ≠ some (src, p.ts) then w.begin f src ext (s.legSends x) p else w
    let s := s.modFlow d fun x => { x with fwd := w }
    let q := w.picOf src ext p
    let go := !w.quiet && q.takes f p.layer
    let s := if go && !late then s.noteForwarded d src stamp q p else s
    s.numberForwarded d src ext go w.quiet q p
  | _, _ => s

/-- A packet that the reorder buffer releases, for one send flow: one of the picture in progress of a binding that has gone
is still forwarded, until another picture begins (R50, R93). -/
def State.forwardTo (s : State) (d src stamp ext : Nat) (p : Rtp) : State :=
  match s.flow d, s.flow src with
  | some x, some f =>
    let w := x.fwd
    let rest := w.tail == some (src, p.ts) && !w.started
    let ended := match w.tail with
      | some (i, ts) => i == src && ts != p.ts && (match w.srcHigh with | some h => decide (h < ext) | none => true)
      | none => false
    let s := if ended then s.modFlow d fun x => { x with fwd := { x.fwd with tail := none } } else s
    let bad := f.kind = 2 && !f.opaque_ && !p.layer.parsed
    if rest then s.forwardBody d src stamp ext p
    else if !s.bringsNow w src && !s.bringsNext w src then s
    else
      let s := s.modFlow d fun x => { x with fwd := { x.fwd with lastSource := stamp, silentTold := false } }
      let begins := match w.pics with | q :: _ => q.src != src || q.ts != p.ts | [] => true
      let s := if bad || w.shed then s else s.followSource d src stamp begins p
      match s.flow d with
      | none => s
      | some x =>
        let w := x.fwd
        let e := if w.slot ≠ 0 then 0 else (s.sourceSet w.source).idxOf src
        if !s.bringsNow w src || e ≠ w.cur.e || !w.started then s
        else s.forwardBody d src stamp ext p
  | _, _ => s

/-- A packet that the reorder buffer releases, for every send flow that its source reaches; a packet without layer
information is counted and raises event 125 (R196). -/
def State.forwardPacket (s : State) (src stamp ext : Nat) (p : Rtp) : State :=
  match s.flow src with
  | none => s
  | some f =>
    let s := if f.kind = 2 && !f.opaque_ && !p.layer.parsed then
      (s.modFlow src fun f => { f with unparsed := f.unparsed + 1 }).raiseW 125 (flowH src) (le 1 ((p.payload.headD 0).toNat)) else s
    let near (x : Flow) : Bool := s.bringsNow x.fwd src || s.bringsNext x.fwd src ||
      (match x.fwd.tail with | some (i, _) => i == src | none => false)
    let ds := (s.flows.filter fun q => q.2.dir == 2 && q.2.kind == f.kind && near q.2).map fun q => q.1
    ds.foldl (fun (s : State) d => s.forwardTo d src stamp ext p) s

/-- A change of E given up (R194): an up-switch goes back to the layer it has, any other pauses; event 121. -/
def Fwd.giveUp (w : Fwd) : Fwd :=
  if w.started && decide (w.cur.e < w.tgt.e) then { w with tgt := w.cur, state := .forwarding } else { w with state := .paused }

/-- Whether key frames of a forward's source cannot be seen: end to end encrypted video, or audio. -/
def State.fwdBlind (s : State) (w : Fwd) : Bool :=
  match s.flow w.source with | some f => f.opaque_ || f.kind == 1 | none => true

/-- SWITCH_TIMEOUT: no key frame within SWITCH_WAIT, 500 ms, of a change of E (R194). -/
def execSwitchTimeout (t flow : Nat) (s : State) : Host.Outcome State Fault Refusal :=
  let s := s.advance t
  match s.flow flow with
  | none => .next s
  | some x =>
    let w := x.fwd
    .next (if !w.bound || w.state != .pending || !w.waiting || s.fwdBlind w || decide (s.now < w.since + 500 * msU) then s
      else (s.modFlow flow fun x => { x with fwd := w.giveUp }).raise 121 (flowH flow)
        (le 1 w.tgt.e ++ le 1 w.tgt.s ++ le 1 w.tgt.t))

end Sys2Proof.Machine
end

