-- ==== Sys2Proof/Machine/Receive.lean ====
section
/-! DEFINITION. What the readers of the ingress rings do: holds, jitter and reorder buffers, NACK and abandonment, RTX and
FEC recovery, received RTCP, cascade grains, DTLS records (R151, R163 to R179, R204 to R218, R234, R235, R624). -/

namespace Sys2Proof.Machine

/-! Holds (R151). -/

/-- Whether a leg's receive direction is held at a stamp. -/
def Leg.rxHeld (l : Leg) (t : Nat) : Bool :=
  match l.holdPend with
  | some (g, m) => if g * grainU ≤ t then bit m 1 else bit (if l.holdAt ≤ t then l.hold else l.holdOld) 1
  | none => bit (if l.holdAt ≤ t then l.hold else l.holdOld) 1

/-- A packet discarded for a hold. -/
def State.dropHeld (s : State) (leg : Nat) : State := s.modIng leg fun g => { g with heldDrops := g.heldDrops + 1 }

/-! The reorder buffer (R172 to R176). -/

/-- Whether a flow's buffer holds its packets until gaps close (R172). -/
def Flow.holds (f : Flow) : Bool := f.ro.mode == 1 || (f.ro.mode == 0 && hType f.sink == 4)

/-- The settings of a reorder buffer in force: mode, retries, delay and limit. -/
def Flow.setReorder (f : Flow) (m r d x : Nat) : Flow :=
  { f with ro := { f.ro with mode := m, retries := r, delayUs := d, limitMs := x, pend := none } }

/-- FEC_SET in force for the FEC flows with a sink, whose frame boundary has come (R182). -/
def State.fecTurn (s : State) (sink : Nat) : State :=
  let turn (x : FecRecv) : FecRecv :=
    match x.pend with | some (e, w) => { x with enable := e, windowMs := w, pend := none } | none => x
  { s with flows := tmap s.flows fun _ (f : Flow) => if f.kind == 3 && f.sink == sink then { f with fec := turn f.fec } else f }

/-- A packet released to the decoder and the send flows of its flow. -/
def State.release (s : State) (flow : Nat) (p : Packet) : State :=
  let l := p.rtp.layer
  let turn (f : Flow) : Flow :=
    match f.ro.pend with
    | some (m, r, d, x) => f.setReorder m r d x
    | none => f
  let s := if l.first then s.modFlow flow turn else s
  let s := match s.flow flow with | some f => if l.first && hType f.sink == 4 then s.fecTurn f.sink else s | none => s
  let s := if l.parsed && l.first && l.key then s.keyArrived flow p.stamp else s
  let s := match s.flow flow with
    | some f => if hType f.sink = 4 then s.decPacket (hIdx f.sink) flow p.stamp p.rtp else s
    | none => s
  s.forwardPacket flow p.stamp p.ext p.rtp

/-- The packets of a flow that nothing holds back any more, released in sequence order. -/
def State.drain (s : State) (flow : Nat) : State :=
  match s.flow flow with
  | none => s
  | some f =>
    let stop := f.ro.gaps.foldl (fun (m : Option Nat) (g : Gap) => match m with | some x => some (min x g.ext) | none => some g.ext) none
    let free (p : Packet) : Bool := !f.holds || match stop with | some x => decide (p.ext < x) | none => true
    let go := sortBy (fun a b => decide (a.ext < b.ext)) (f.ro.held.filter free)
    let s := s.modFlow flow fun f => { f with ro := { f.ro with held := f.ro.held.filter fun p => !free p } }
    go.foldl (fun (s : State) p => s.release flow p) s

/-- Missing packets given up: residual loss, with event 115 for the first of the window (R175). -/
def State.abandon (s : State) (flow : Nat) (l : List Nat) : State :=
  match s.flow flow, l with
  | some f, x :: _ =>
    let n := l.length
    let s := s.modFlow flow fun f => { f with ro := { f.ro with gaps := f.ro.gaps.filter fun g => !l.contains g.ext } }
    let s := (s.modIng f.leg fun g => { g with abandoned := g.abandoned + n }).metric f.leg fun k =>
      { k with lostResidual := k.lostResidual + n }
    let s := s.raiseW 115 (flowH flow) (le 4 (x - 65536))
    if hType f.sink = 4 then s.decLoss (hIdx f.sink) else s
  | _, _ => s

/-- The measured frame bytes of a video flow with one more packet that has layers, in steps of 25 ms, those of the last 500 ms
kept (R189, R196). -/
def Flow.measured (f : Flow) (stamp len : Nat) (l : Layer) : Flow :=
  if !l.parsed then f else
  let k := stamp / (25 * msU)
  let same (y : LayerBytes) : Bool := y.s == l.s && y.t == l.t && y.needs == l.needs
  let add (x : List LayerBytes) : List LayerBytes :=
    if x.any same then x.map fun y => if same y then { y with bytes := y.bytes + len } else y
    else x ++ [⟨l.s, l.t, l.needs, len⟩]
  let r := if f.rates.any fun r => r.1 == k then f.rates.map fun r => if r.1 = k then (k, add r.2) else r
    else (k, add []) :: f.rates
  { f with rates := r.filter fun r => decide (k < r.1 + 21) }

/-- A packet for the reorder buffer: in order, at a jump that anchors the flow again (R176), revealing a gap, filling one, or
a duplicate. The truth value says that it
was taken. -/
def State.reorderIn (s : State) (flow : Nat) (p : Packet) : Bool × State :=
  match s.flow flow with
  | none => (false, s)
  | some f =>
    let r := f.ro
    let next := r.next.getD p.ext
    let put (s : State) (g : List Gap) (n : Nat) : State :=
      s.modFlow flow fun f =>
        { (f.measured p.stamp p.len p.rtp.layer) with ro := { f.ro with gaps := g, next := some n, held := f.ro.held ++ [p] } }
    if next + 32768 < p.ext then (true, (put s r.gaps (p.ext + 1)).drain flow)
    else if next ≤ p.ext then
      let m := p.ext - next
      let ids := (List.range m).map fun i => next + i
      if 256 < m then (true, ((put s r.gaps (p.ext + 1)).abandon flow ids).drain flow)
      else
        let gap (e : Nat) : Gap := ⟨e, p.stamp, if r.retries = 0 then none else some (p.stamp + r.delayUs * usU), 0,
          p.stamp + r.limitMs * msU⟩
        let s := put s (r.gaps ++ ids.map gap) (p.ext + 1)
        let old := (r.gaps.filter fun g => decide (g.ext + 1024 ≤ p.ext)).map fun g => g.ext
        (true, (s.abandon flow old).drain flow)
    else
      match r.gaps.find? fun g => g.ext == p.ext && decide (p.stamp < g.abandonAt) with
      | none => (false, s.modIng f.leg fun g => { g with duplicates := g.duplicates + 1 })
      | some _ => (true, (put s (r.gaps.filter fun g => g.ext != p.ext) next).drain flow)

/-! Recovery (R177 to R179). -/

/-- A packet placed in a media flow's buffer as the original. The truth value says that it was taken. -/
def State.place (s : State) (flow : Nat) (p : Packet) : Bool × State :=
  match s.flow flow with
  | none => (false, s)
  | some f =>
    if f.kind = 1 then
      let n := f.jb.packets.length + f.jb.waiting.length
      let s := s.jbPlace flow p
      let m := match s.flow flow with | some f => f.jb.packets.length + f.jb.waiting.length | none => 0
      (decide (n < m), s)
    else s.reorderIn flow p

/-- A packet rebuilt from a repair packet and the other packets it protects (RFC 8627). -/
def fecRebuild (f : Flow) (h : FecHdr) (seq : Nat) (others : List Rtp) (l : Layer) : Rtp :=
  let x := fecParity h.ssrc none others
  let len := h.len ^^^ x.len
  let level := h.level ^^^ x.level
  { ssrc := f.ssrc, seq := seq, ts := h.ts ^^^ x.ts, pt := h.pt ^^^ x.pt, marker := h.marker != x.marker, mid := f.mid
    csrc := (xorNats h.csrc x.csrc).take (h.cc ^^^ x.cc)
    level := if level < 128 then none else some (level - 128), payload := padTo len (xorBytes h.payload x.payload), layer := l }

/-- What the protected set of a repair packet lacks, when that is exactly one packet: its number, and the others. -/
def FecRecv.lacks (r : FecRecv) (h : FecHdr) : Option (Nat × List Rtp) :=
  let has (n : Nat) : Option Rtp := (r.copies.find? fun p => p.rtp.seq == n).map fun p => p.rtp
  match h.seqs.filter fun n => (has n).isNone with
  | [n] => some (n, h.seqs.filterMap has)
  | _ => none

/-- What a FEC flow keeps: packets within WINDOW_MS, and at most 500. -/
def FecRecv.fresh (r : FecRecv) (now : Nat) : FecRecv :=
  let young (t : Nat) : Bool := decide (now < t + r.windowMs * msU)
  let c := r.copies.filter fun p => young p.stamp
  { r with copies := c.drop (c.length - 500), repairs := r.repairs.filter fun q => young q.2 }

/-- The repairs whose protected set is complete are of no more use. -/
def FecRecv.prune (r : FecRecv) : FecRecv :=
  { r with repairs := r.repairs.filter fun q => q.1.seqs.any fun n => r.copies.all fun p => p.rtp.seq != n }

/-- The FEC receive flows that protect a media flow. -/
def State.fecFlows (s : State) (flow : Nat) : List Nat :=
  (s.flows.filter fun q => q.2.kind == 3 && q.2.dir == 1 && q.2.fec.enable && q.2.assoc == flowH flow &&
    q.2.state != .closing).map fun q => q.1

/-- A change made to what every FEC flow of a media flow keeps. -/
def State.modFec (s : State) (flow : Nat) (f : FecRecv → FecRecv) : State :=
  (s.fecFlows flow).foldl (fun (s : State) k => s.modFlow k fun x => { x with fec := f x.fec }) s

/-- A packet rebuilt, placed as the original, and kept for every FEC flow of its media flow. -/
def State.fecRebuilt (s : State) (flow stamp : Nat) (h : FecHdr) (seq : Nat) (others : List Rtp) (l : Layer) : State :=
  match s.flow flow with
  | none => s
  | some f =>
    let pk : Packet := ⟨flow, stamp, 0, nearest f.extSeq seq 16, fecRebuild f h seq others l, 2⟩
    let (ok, s) := (s.modFec flow fun r => { r with copies := r.copies ++ [pk] }).place flow pk
    if !ok then s else
      (s.modFlow flow fun f => { f with fecRec := f.fecRec + 1 }).modIng f.leg fun g => { g with fecRecovered := g.fecRecovered + 1 }

/-- One pass over repairs, each with its FEC flow: those whose set lacks exactly one packet rebuild it, with the layers that
the headers of the rebuilt packets give. The layers not used yet come with the state. -/
def State.fecPass (s : State) (flow stamp : Nat) : List (Nat × FecHdr) → List Layer → State × List Layer
  | [], parse => (s, parse)
  | (k, h) :: rest, parse =>
    match (s.flow k).bind fun x => x.fec.lacks h with
    | some (seq, others) => (s.fecRebuilt flow stamp h seq others (parse.headD {})).fecPass flow stamp rest (parse.drop 1)
    | none => s.fecPass flow stamp rest parse

/-- A number of passes over the repairs of the FEC flows of a media flow. -/
def State.fecPasses (s : State) (flow stamp : Nat) : Nat → List Layer → State
  | 0, _ => s
  | n + 1, parse =>
    let of (k : Nat) : List (Nat × FecHdr) :=
      match s.flow k with | some x => x.fec.repairs.map fun q => (k, q.1) | none => []
    let r := s.fecPass flow stamp ((s.fecFlows flow).flatMap of) parse
    r.1.fecPasses flow stamp n r.2

/-- Rebuilds after an arrival for a media flow: up to 4 passes, over rows and columns alike (R178). -/
def State.fecRun (s : State) (flow stamp : Nat) (parse : List Layer) : State :=
  ((s.modFec flow fun r => r.fresh stamp).fecPasses flow stamp 4 parse).modFec flow fun r => r.prune

/-- A media packet copied for the FEC flows that protect its flow. -/
def State.fecCopy (s : State) (flow : Nat) (p : Packet) (parse : List Layer) : State :=
  if (s.fecFlows flow).isEmpty then s else
  (s.modFec flow fun r => { r with copies := r.copies ++ [p] }).fecRun flow p.stamp parse

/-- A repair packet (Table 04-5). -/
def State.fecReceive (s : State) (k stamp : Nat) (h : FecHdr) (parse : List Layer) : State :=
  match s.flow k with
  | none => s
  | some x =>
    let size := match h.fixed with | some (l, d) => 1 ≤ l && decide (l ≤ 32) && 1 ≤ d && decide (d ≤ 32) | none => true
    if h.retrans || !size then
      if x.fec.told then s else
      (s.modFlow k fun x => { x with fec := { x.fec with told := true } }).raise 116 (flowH k) (le 1 h.firstByte)
    else
      let ok := match s.flow (hIdx x.assoc) with | some f => f.ssrc == h.ssrc | none => false
      if !x.fec.enable || !ok then s else
      (s.modFlow k fun x => { x with fec := { x.fec with repairs := x.fec.repairs ++ [(h, stamp)] } }).fecRun (hIdx x.assoc)
        stamp parse

/-! Media packets. -/

/-- A grain of cascade audio (R231, R234, R235). One for a channel above 15, which no sender sends, is discarded (DESIGN
CHOICE). -/
def State.cascReceive (s : State) (leg stamp : Nat) (b : List Byte) : State :=
  match s.leg leg with
  | none => s
  | some l =>
    let g := ofBe (b.take 8)
    let back := bit (ofBe ((b.drop 9).take 1)) 0
    let off : Int := (g : Int) - grainOf stamp
    let d := l.casc.grains
    let s := if off < -(d : Int) || off > 1 then s.raiseW 127 (legH leg) (leI 4 off) else s
    let limit := if back then g + 2 * d + 1 else g + d + 1
    if 15 < ofBe ((b.drop 8).take 1) then s else
    if limit ≤ grainOf stamp then
      if back then s else
      (s.modLeg leg fun l => { l with casc := { l.casc with late := l.casc.late + 1 } }).raiseW 126 (legH leg) (le 8 g)
    else
      let pcm := (List.range 120).map fun i => toSigned 32 (ofBe ((b.drop (16 + 4 * i)).take 4))
      s.modMix l.conf fun m => { m with inbox := m.inbox ++
        [(⟨leg, g, ofBe ((b.drop 8).take 1), ofBe ((b.drop 9).take 1), ofBe ((b.drop 12).take 4), pcm⟩ : CascGrain)] }

/-- An RTP packet of a receive flow past its ring. Under a receive hold it is discarded by its stamp (R151); since it does
not reach the reorder or jitter buffer, the first packet after the hold reveals the numbers discarded as a gap, which is
asked for and abandoned like any other (DESIGN CHOICE: no rule says whether they are missing). -/
def State.rtpRead (s : State) (flow : Nat) (f : Flow) (e : RingEntry) (p : Rtp) (parse : List Layer) : State :=
  let pk : Packet := ⟨flow, e.stamp, e.len, e.ext, p, e.recovery⟩
  let held := match s.leg f.leg with | some l => l.rxHeld e.stamp | none => false
  if held then s.dropHeld f.leg else
  match f.kind with
  | 1 =>
    if f.media.codec = 6 then s.cascReceive f.leg e.stamp p.payload
    else
      let s := s.jbPlace flow pk
      (if bit f.flags 2 then s.forwardPacket flow e.stamp e.ext p else s).fecCopy flow pk parse
  | 2 =>
    (s.reorderIn flow pk).2.fecCopy flow pk parse
  | 3 => match p.fec with | some h => s.fecReceive flow e.stamp h parse | none => s
  | _ =>
    let v := hIdx f.assoc
    match s.flow v with
    | none => s
    | some m =>
      if m.state ≠ .live then s else
      let q : Rtp := { p with ssrc := m.ssrc, seq := p.osn.getD 0, pt := m.pt, mid := m.mid, rid := m.rid, osn := none }
      let pk : Packet := ⟨v, e.stamp, e.len, nearest m.extSeq q.seq 16, q, 1⟩
      let (ok, s) := s.place v pk
      let s := if !ok then s else (s.modFlow v fun m => { m with rtxRec := m.rtxRec + 1 }).modIng f.leg fun g =>
        { g with rtxRecovered := g.rtxRecovered + 1 }
      s.fecCopy v pk parse

/-! Received RTCP (R213). -/

/-- An instant as an NTP timestamp (R663). -/
def TimeUnit.ntp (u : TimeUnit) (t : Nat) : Nat :=
  (dtSec t + 2208988800 - u.utc) * 2 ^ 32 + dtNs t * 2 ^ 32 / 1000000000

/-- A NACK of one number of a send flow (R207, R208). -/
def State.nackServe (s : State) (flow out : Nat) : State :=
  match s.flow flow with
  | none => s
  | some f =>
    let rtt := match s.leg f.leg with | some l => l.rtcp.rtt * usU | none => 0
    match f.hist.find? fun h => h.out == out && decide (s.now < h.sent + 1000 * msU) with
    | none =>
      (s.modFlow flow fun f => { f with fwd := { f.fwd with rtxMiss := f.fwd.rtxMiss + 1 } }).raiseAt 124 (flowH flow) 16
    | some h =>
      if 3 ≤ h.resends || decide (s.now < h.lastTx + max rtt (10 * msU)) || h.index.isNone then s else
      let s := s.modFlow flow fun f => { f with
        fwd := { f.fwd with rtxSent := f.fwd.rtxSent + 1 }
        hist := f.hist.map fun (x : HistEntry) => if x.out = out then { x with resends := x.resends + 1, lastTx := s.now } else x }
      match (s.flowsOf f.leg).find? fun p => p.2.dir == 2 && p.2.kind == 4 && p.2.assoc == flowH flow && p.2.state != .closing with
      | some (r, x) =>
        let p := { h.rtp with ssrc := x.ssrc, seq := x.sendSeq % 65536, pt := x.pt, mid := x.mid, osn := some out }
        (s.modFlow r fun x => { x with sendSeq := x.sendSeq + 1 }).sendRtp r p none
      | none => s.sendRtp flow h.rtp h.index

/-- A viewer's PLI or FIR about a send flow (R203, R205). -/
def State.viewerAsk (s : State) (flow : Nat) (fir : Bool) : State :=
  match s.flow flow with
  | none => s
  | some f =>
    if f.outCtx ≠ 0 then s.outputAsk flow fir
    else if f.fwd.bound then
      let set := s.sourceSet f.fwd.source
      match set[f.fwd.tgt.e]? with | some x => s.keyRequest x | none => s
    else s

/-- A feedback mark written into its record, which a later report of the packet replaces; one whose record is in the ring no
more is late (R218). -/
def State.twccMark (s : State) (leg seq : Nat) (arr : Option Nat) : State :=
  s.modLeg leg fun l =>
    if l.ada.records.any fun r => r.seq == seq then
      { l with ada := { l.ada with records := l.ada.records.map fun r =>
          if r.seq = seq then { r with report := some arr } else r } }
    else { l with ada := { l.ada with fbLate := l.ada.fbLate + 1 } }

/-- One item of a received compound packet. -/
def State.rtcpItem (s : State) (leg stamp : Nat) (i : RtcpItem) : State :=
  let sendOf (ssrc : Nat) : Option Nat :=
    ((s.flowsOf leg).find? fun p => p.2.dir == 2 && p.2.ssrc == ssrc && p.2.state != .closing).map fun p => p.1
  let other (s : State) : State := s.modIng leg fun g => { g with otherRtcp := g.otherRtcp + 1 }
  match i with
  | .sr ssrc ntp _ =>
    (match s.flowBySsrc leg ssrc with
     | some f => s.modFlow f fun x => { x with lastSr := some (ntp / 65536 % 2 ^ 32, stamp) }
     | none => s)
  | .rr => s
  | .sdes _ => other s
  | .block ssrc frac lost _ _ lsr dlsr =>
    let s := match sendOf ssrc with | some f => s.modFlow f fun x => { x with rrLoss := (frac, lost) } | none => s
    if lsr = 0 then s else
    let d := (s.time.ntp stamp / 65536 % 2 ^ 32 + 2 ^ 33 - lsr - dlsr) % 2 ^ 32
    let us := d * 1000000 / 65536
    let s := s.modLeg leg fun l => { l with rtcp := { l.rtcp with rtt := us } }
    if 500000 < us then s.raiseW 148 (legH leg) (le 4 us) else s
  | .nack ssrc l => match sendOf ssrc with | some f => l.foldl (fun (s : State) n => s.nackServe f n) s | none => s
  | .pli ssrc => match sendOf ssrc with | some f => s.viewerAsk f false | none => s
  | .fir ssrc _ => match sendOf ssrc with | some f => s.viewerAsk f true | none => s
  | .twcc ok marks =>
    if !ok then s.raiseCount 150 (legH leg) (legH leg) [] else
    let s := s.modLeg leg fun l => { l with ada := { l.ada with lastFeedback := s.now, feedbackLost := false, halvings := 0 } }
    marks.foldl (fun (s : State) m => s.twccMark leg m.1 m.2) s
  | .elzc ssrc e x t =>
    (match s.leg leg, sendOf ssrc with
     | some l, some f => if l.typ = .cascade then
         s.modLeg leg fun l => { l with casc := { l.casc with caps := tset l.casc.caps f (e, x, t) } } else other s
     | _, _ => other s)
  | .bye _ => other s
  | .other => other s

/-- FEC_SET in force at a grain boundary for FEC flows whose sink is a mix group, or is no more. -/
def State.fecTurnGrain (s : State) : State :=
  (s.flows.filter fun p => p.2.kind == 3 && p.2.fec.pend.isSome && !(hType p.2.sink == 4 && (s.dec (hIdx p.2.sink)).isSome)).foldl
    (fun (s : State) p => s.fecTurn p.2.sink) s

/-! RING_READ. -/

/-- The committed packet that a pipeline's reader presents next: the rings in strict priority (R164). DTLS records wait
for the control cores. -/
def Pipeline.head (p : Pipeline) : Option (Nat × RingEntry) :=
  ((p.rings.zipIdx).findSome? fun r => (r.1.entries.find? fun e => e.committed && match e.body with | .dtls _ => false | _ => true).map
    fun e => (r.2, e))

/-- An entry leaves its ring. -/
def State.ringDrop (s : State) (pipe cls id : Nat) : State :=
  s.modRing pipe cls fun r => { r with entries := r.entries.filter fun x => x.id != id }

/-- The flow of a packet is no longer there to take it. -/
def State.flowGone (s : State) (flow : Option Nat) : Bool :=
  match flow with
  | some i => (match s.flow i with | some f => f.state == .closing | none => true)
  | none => false

/-- The arrival of a packet noted for transport feedback, when its flow negotiates the extension (R212). -/
def State.twccNote (s : State) (leg : Nat) (f : Flow) (twcc : Option Nat) (stamp : Nat) : State :=
  match twcc with
  | some n => if f.media.exts.getD 1 0 = 0 then s else
      s.modLeg leg fun l => { l with rtcp := { l.rtcp with twccSeen := l.rtcp.twccSeen ++ [(n, stamp)] } }
  | none => s

/-- A video frame begins with the reception of its first packet: a profile set before is in force from it on (R237). -/
def Flow.received (f : Flow) (p : Rtp) (stamp : Nat) : Flow :=
  if f.kind = 2 && p.layer.first && decide (f.profAt ≤ stamp) then f.frameTurn else f

/-- A packet that the reader presents, taken to its flow or its leg; one of a leg or flow that closes, or that is no more, is
dropped (R163, R792). -/
def State.ringTake (s : State) (e : RingEntry) (parse : List Layer) : State :=
  match s.leg e.leg with
  | none => s
  | some l =>
    if l.state == .closing || s.flowGone e.flow || s.madeFor e.leg e.flow != e.made then
      (if l.tenant = e.tenant && l.created ≤ e.stamp then s.dropUnknown e.leg 1 else s)
    else match e.body with
    | .rtp p =>
      (match e.flow with
       | none => s
       | some i =>
         match s.flow i with
         | none => s
         | some f =>
           let f := f.received p e.stamp
           ((s.modFlow i fun _ => f).twccNote e.leg f p.twcc e.stamp).rtpRead i f e p parse)
    | .rtcp p =>
      if l.rxHeld e.stamp then s.dropHeld e.leg
      else p.items.foldl (fun (s : State) i => s.rtcpItem e.leg e.stamp i) s
    | _ => s

/-- RING_READ: the next committed packet of a pipeline, with the layers that the headers of rebuilt packets give. -/
def execRingRead (t pipe : Nat) (parse : List Layer) (s : State) : Host.Outcome State Fault Refusal :=
  let s := s.advance t
  match (s.net.pipes.getD pipe {}).head with
  | none => .next s
  | some (cls, e) => .next ((s.ringDrop pipe cls e.id).ringTake e parse)

/-- The DTLS records of a leg that wait, oldest first: pipeline and entry. -/
def State.dtlsWaiting (s : State) (leg : Nat) : List (Nat × Nat) :=
  let isIt (e : RingEntry) : Bool := e.leg == leg && e.committed && match e.body with | .dtls _ => true | _ => false
  let all := (s.net.pipes.zipIdx).flatMap fun p => ((p.1.rings.getD 0 ⟨0, []⟩).entries.filter isIt).map fun e => (p.2, e.id)
  sortBy (fun (a b : Nat × Nat) => decide (a.2 < b.2)) all

/-- DTLS_RECORD_PROCESS: the control cores take a leg's oldest DTLS record and act on what it holds (R624). -/
def execDtlsRecordProcess (t leg : Nat) (evt : DtlsEvt) (s : State) : Host.Outcome State Fault Refusal :=
  let s := s.advance t
  match s.dtlsWaiting leg with
  | [] => .next s
  | (pipe, id) :: _ => .next (if s.coresPaused then s else (s.ringDrop pipe 0 id).dtlsEvent leg evt)

/-! The timers of gaps (R173 to R175): each fires on the first tick whose start is at or after its deadline. -/

/-- Whether a deadline has fired by now. -/
def State.ticked (s : State) (d : Nat) : Bool := decide (tickAtOrAfter d ≤ tickOf s.now)

/-- The gaps of a flow whose NACK is due. -/
def State.nacksDue (s : State) (f : Flow) : List Gap :=
  f.ro.gaps.filter fun g => match g.nackAt with | some d => s.ticked d | none => false

/-- When a gap is asked for again: after 1.2 round trips, at least 10 ms, or 50 ms where none is measured (R173). -/
def nackPeriod (rtt : Nat) : Nat := if rtt = 0 then 50 * msU else max (rtt * usU * 12 / 10) (10 * msU)

/-- One more NACK of a gap sent. -/
def Gap.asked (g : Gap) (retries again : Nat) : Gap :=
  { g with nacks := g.nacks + 1, nackAt := if g.nacks + 1 < retries then g.nackAt.map fun d => d + again else none }

/-- The NACKs due, as one generic NACK. -/
def State.nackSend (s : State) (flow : Nat) (f : Flow) : State :=
  let go := s.nacksDue f
  let rtt := match s.leg f.leg with | some l => l.rtcp.rtt | none => 0
  let upd (g : Gap) : Gap := if (match g.nackAt with | some d => s.ticked d | none => false)
    then g.asked f.ro.retries (nackPeriod rtt) else g
  let s := s.modFlow flow fun f => { f with ro := { f.ro with gaps := f.ro.gaps.map upd } }
  let s := s.modIng f.leg fun g => { g with nacksSent := g.nacksSent + go.length }
  s.sendFeedback f.leg (.nack f.ssrc (go.map fun g => g.ext % 65536))

/-- NACK_TIMER: the NACKs of a flow that are due form one generic NACK. -/
def execNackTimer (t flow : Nat) (s : State) : Host.Outcome State Fault Refusal :=
  let s := s.advance t
  match s.flow flow with
  | none => .next s
  | some f =>
    .next (if (s.nacksDue f).isEmpty || f.state == .closing then s else s.nackSend flow f)

/-- The gaps of a flow past their limit, in order. -/
def State.gapsOver (s : State) (f : Flow) : List Nat :=
  sortBy (fun a b => decide (a < b)) ((f.ro.gaps.filter fun g => s.ticked g.abandonAt).map fun g => g.ext)

/-- REORDER_ABANDON: gaps of a flow past their limit are given up, and release resumes past them. -/
def execReorderAbandon (t flow : Nat) (s : State) : Host.Outcome State Fault Refusal :=
  let s := s.advance t
  match s.flow flow with
  | none => .next s
  | some f =>
    .next (if (s.gapsOver f).isEmpty then s else (s.abandon flow (s.gapsOver f)).drain flow)

/-- Whether a flow's last PLI or FIR is not yet KEYREQ_MIN old (R204). -/
def State.pliEarly (s : State) (flow : Nat) : Bool :=
  match (s.flow flow).bind fun x => x.keyReq.lastPli with | some p => decide (s.now < p + 200 * msU) | none => false

/-- PLI_TIMEOUT: no key frame within max(2 × round trip, 100 ms) of a PLI (R204): it is unanswered. A request still wanted is
sent again, not before KEYREQ_MIN. -/
def execPliTimeout (t flow : Nat) (s : State) : Host.Outcome State Fault Refusal :=
  let s := s.advance t
  match s.flow flow with
  | none => .next s
  | some f =>
    match f.keyReq.lastPli with
    | none => .next s
    | some p =>
      if !f.keyReq.wanted || f.state == .closing || (f.keyReq.awaits && decide (s.now < s.pliLimit f p)) then .next s else
      let s := if f.keyReq.awaits then s.pliFailed flow else s
      .next (if s.pliEarly flow then s else s.sendPli flow false)

/-! Commands. -/

/-- REORDER_SET (R172, R182): at the next frame boundary of the flow's sink; at once when the sink is null, and packets that
the new mode holds no longer are released. -/
def bodyReorderSet : Body := fun _ c s =>
  let i := hIdx c.obj
  match s.flow i with
  | none => .fail s stNoObject
  | some f =>
    if f.kind ≠ 2 || f.dir ≠ 1 || !(c.rng 0 1 0 2 && c.rng 1 1 0 15 && c.rng 2 2 0 50000 && c.rng 4 2 10 1000 && c.zero 6 2)
    then .fail s stBadParam else
    let m := c.u 0 1
    let r := c.u 1 1
    .ok (if f.sink = 0 then (s.modFlow i fun f => f.setReorder m r (c.u 2 2) (c.u 4 2)).drain i
      else s.modFlow i fun f => { f with ro := { f.ro with pend := some (m, r, c.u 2 2, c.u 4 2) } })

/-- FEC_SET (R182): at the next frame boundary of the flow's sink, at once when the sink is null. The frame boundary of a mix
group is a grain boundary (DESIGN CHOICE). -/
def bodyFecSet : Body := fun _ c s =>
  let i := hIdx c.obj
  match s.flow i with
  | none => .fail s stNoObject
  | some f =>
    if f.kind ≠ 3 || f.dir ≠ 1 || !(c.rng 0 1 0 1 && c.zero 1 1 && c.rng 2 2 20 1000 && c.zero 4 4) then .fail s stBadParam else
    let s := s.modFlow i fun f => { f with fec := { f.fec with pend := some (c.flag 0 1 0, c.u 2 2) } }
    .ok (if f.sink = 0 then s.modFlow i fun f => { f with fec := { f.fec with enable := c.flag 0 1 0, windowMs := c.u 2 2, pend := none } }
      else s)

def execReorderSet (c : Cmd) (s : State) := runBelex 0x0221 bodyReorderSet c s
def execFecSet (c : Cmd) (s : State) := runBelex 0x0222 bodyFecSet c s

end Sys2Proof.Machine
end

