-- ==== Sys2Proof/Machine/Adapt.lean ====
section
/-! DEFINITION. Leg adaptation and the RTCP that a leg sends: the estimator, layer selection, compound packets,
transport-wide feedback, and the 0x03xx commands (file 05 of spec/). -/

namespace Sys2Proof.Machine

def stNotSource : Nat := 0x8300
def stSameLeg : Nat := 0x8301
def stCodecMismatch : Nat := 0x8302
def stE2eeMismatch : Nat := 0x8303

/-! What the records say (R220). -/

/-- The last reported packets of each complete 5 ms group of sent packets, oldest first: send DT and arrival, in units of
DT. -/
def groupEnds (l : List TwccRecord) (now : Nat) : List (Nat × Nat) :=
  let sent := l.filterMap fun r => if r.dropped then none else r.sent.map fun t => (t, r.report)
  let keys := (sent.map fun r => r.1 / (5 * msU)).eraseDups
  let keys := sortBy (fun a b => decide (a < b)) (keys.filter fun k => decide ((k + 1) * (5 * msU) ≤ now))
  keys.filterMap fun k =>
    let g := sent.filter fun r => r.1 / (5 * msU) == k
    if g.any fun r => r.2.isNone then none else
    ((sortBy (fun (a b : Nat × Option (Option Nat)) => decide (a.1 < b.1)) g).filterMap fun r => match r.2 with
      | some (some a) => some (r.1, a * 250 * usU)
      | _ => none).getLast?

/-- The delay variations of successive groups, summed, each with its arrival. -/
def delaySums : List (Nat × Nat) → Int → List (Int × Int)
  | a :: b :: r, acc =>
    let v : Int := ((b.2 : Int) - a.2) - ((b.1 : Int) - a.1)
    ((b.2 : Int), acc + v) :: delaySums (b :: r) (acc + v)
  | _, _ => []

/-- The least-squares slope of points, as a ratio. -/
def slopeOf (l : List (Int × Int)) : Int × Int :=
  let n : Int := l.length
  let sx := l.foldl (fun (a : Int) p => a + p.1) 0
  let sy := l.foldl (fun (a : Int) p => a + p.2) 0
  let sxy := l.foldl (fun (a : Int) p => a + p.1 * p.2) 0
  let sxx := l.foldl (fun (a : Int) p => a + p.1 * p.1) 0
  (n * sxy - sx * sy, n * sxx - sx * sx)

/-- The packets reported lost, and all, among those sent from an instant on and before another. -/
def lossOf (l : List TwccRecord) (from_ whom : Nat) : Nat × Nat :=
  let q := l.filter fun r => !r.dropped && match r.sent with | some t => decide (from_ ≤ t) && decide (t < whom) | none => false
  (countOf q fun r => r.report == some none, q.length)

/-- The acknowledged rate over the last 500 ms, in millionths of kbit/s. -/
def ackOf (l : List TwccRecord) (now : Nat) : Nat :=
  sumOf (l.filter fun r => match r.sent, r.report with
    | some t, some (some _) => decide (now ≤ t + 500 * msU)
    | _, _ => false) (fun r => r.bytes) * 16000

/-- Millionths of a ratio. -/
def ppm (x : Nat × Nat) : Nat := if x.2 = 0 then 0 else x.1 * 1000000 / x.2

/-- The lower and upper clamps of E (R221), in kbit/s. -/
def Leg.minRate (l : Leg) : Nat := max 30 l.minKbps
def Leg.clampRate (l : Leg) (e : Nat) : Nat :=
  max (l.minRate * 1000000) (if l.maxKbps = 0 then e else min e (l.maxKbps * 1000000))

/-- The FEC overhead that a loss calls for (Table 05-3). -/
def fecFor (x : Nat × Nat) : Nat :=
  let below (pct : Nat) : Bool := decide (x.1 * 100 < pct * x.2) || x.2 == 0
  if below 1 then 0 else if below 3 then 10 else if below 8 then 20 else if below 15 then 35 else 50

/-- The estimator's state and estimate after a run (R220 to R222). -/
def Leg.estimate (l : Leg) (now : Nat) : Adapt :=
  let a := l.ada
  let ends := groupEnds a.records now
  let sl := slopeOf ((delaySums (ends.drop (ends.length - 21)) 0))
  let beyond := decide (15 * sl.2 < 1000 * sl.1) && decide (0 < sl.2)
  let under := decide (1000 * sl.1 < -(15 * sl.2)) && decide (0 < sl.2)
  let overs := if beyond then a.overs + 1 else 0
  let st : EstState := if 2 ≤ overs then .overuse else if under then .underuse else .normal
  let loss := lossOf a.records (now - 100 * msU) (now + 1)
  let ack := ackOf a.records now
  let cutOk := match a.lastLossCut with | some t => decide (t + 100 * msU ≤ now) | none => true
  let cut := st != .overuse && decide (loss.2 < 10 * loss.1) && cutOk
  let e :=
    if st = .overuse then min a.est (ack * 85 / 100)
    else if cut then a.est - a.est * loss.1 / (2 * loss.2)
    else if st = .normal && (decide (50 * loss.1 < loss.2) || loss.2 == 0) then min (a.est + a.est / 400) (ack * 3 / 2 + 100000000)
    else a.est
  let fb := if a.lastFeedback = 0 then now else a.lastFeedback
  let n := (now - fb) / (500 * msU)
  let e := e / 2 ^ (n - a.halvings)
  { a with est := l.clampRate e, ack := ack, lossPpm := ppm loss, slope := if sl.2 = 0 then 0 else sl.1 * 1000000 / sl.2
           state := st, overs := overs, lastLossCut := if cut then some now else a.lastLossCut, lastFeedback := fb
           halvings := max n a.halvings }

/-- The events of a run: 149, 144 and 145, 146 and 147, 151 and 152. `old` is the leg before it. -/
def State.estEvents (s : State) (leg : Nat) (old : Adapt) : State :=
  match s.leg leg with
  | none => s
  | some l =>
    let a := l.ada
    let h := legH leg
    let k (x : Nat) : Nat := x / 1000000
    let put (s : State) (f : Adapt → Adapt) : State := s.modLeg leg fun l => { l with ada := f l.ada }
    let s := if !a.feedbackLost && decide (a.lastFeedback + secU ≤ s.now) then
      (put s fun a => { a with feedbackLost := true }).raise 149 h (le 4 (dtSec a.lastFeedback)) else s
    let hist := (a.history.filter fun x => decide (s.now ≤ x.1 + secU)) ++ [(s.now, a.est)]
    let top := (hist.map fun x => x.2).foldl max 0
    let fell := a.dropFrom.isNone && decide (10 * a.est < 7 * top)
    let s := put s fun a => { a with history := hist, dropFrom := if fell then some top else a.dropFrom }
    let s := if fell then s.raise 144 h (le 4 (k top) ++ le 4 (k a.est)) else
      match a.dropFrom with
      | some x => if 9 * x < 10 * a.est then (put s fun a => { a with dropFrom := none, history := [(s.now, a.est)] }).raise 145 h (le 4 (k a.est)) else s
      | none => s
    let w := windowOf s.now
    let s := if windowOf old.lastRun = w then s else
      let x := lossOf a.records ((w - 1) * secU) (w * secU)
      if !a.lossHigh && decide (x.2 < 10 * x.1) then (put s fun a => { a with lossHigh := true }).raise 146 h (le 4 (ppm x))
      else if a.lossHigh && decide (50 * x.1 < x.2) then (put s fun a => { a with lossHigh := false }).raise 147 h (le 4 (ppm x))
      else s
    let atMin := a.est == l.minRate * 1000000
    let atMax := l.maxKbps != 0 && a.est == l.maxKbps * 1000000
    let since (on : Bool) (x : Option Nat) : Option Nat := if !on then none else match x with | some t => some t | none => some s.now
    let mn := since atMin a.atMinSince
    let mx := since atMax a.atMaxSince
    let long (x : Option Nat) : Bool := match x with | some t => decide (t + 5 * secU ≤ s.now) | none => false
    let s := put s fun a => { a with atMinSince := mn, atMaxSince := mx, minTold := long mn, maxTold := long mx }
    let s := if long mn && !a.minTold then s.raise 151 h (le 4 (k a.est)) else s
    if long mx && !a.maxTold then s.raise 152 h (le 4 (k a.est)) else s

/-! Layer selection (R189, R190, R225, R226). -/

/-- Whether a target is before another: by E, then S, then T. -/
def Target.before (a b : Target) : Bool :=
  decide (a.e < b.e) || (a.e == b.e && (decide (a.s < b.s) || (a.s == b.s && decide (a.t < b.t))))

/-- The caps of a send flow (R190): of its binding, of its leg or the override that replaces them, and of the remote
package on a cascade leg. -/
def State.capsOf (s : State) (flow : Nat) (f : Flow) : Target :=
  match s.leg f.leg with
  | none => f.fwd.caps
  | some l =>
    let a := l.ada
    let g : Target := if bit a.ovrMask 2 then ⟨a.ovrE, a.ovrS, a.ovrT⟩ else ⟨a.maxE, a.maxS, a.maxT⟩
    let m (x y : Target) : Target := ⟨min x.e y.e, min x.s y.s, min x.t y.t⟩
    let c := m f.fwd.caps g
    match (if l.typ = .cascade then tget l.casc.caps flow else none) with
    | some (e, x, t) => m c ⟨e, x, t⟩
    | none => c

/-- The measured rate of a target of a flow in kbit/s, over the last 500 ms in steps of 25 ms (R189). -/
def Flow.rate (f : Flow) (now sp tp : Nat) : Nat :=
  let k := now / (25 * msU)
  sumOf (f.rates.filter fun r => decide (r.1 < k) && decide (k ≤ r.1 + 20)) (fun r =>
    sumOf r.2 fun x => if (decide (x.s ≤ sp) && decide (x.t ≤ tp)) || x.needs.contains (sp, tp) then x.bytes else 0) * 8 / 500

/-- The allowed targets of a send flow, lowest first, each with its rate: the layers that had a packet in the last 500 ms, of
the encodings within the caps, or for opaque end-to-end encryption of the one that is forwarded (Table 05-2). -/
def State.targetsOf (s : State) (flow : Nat) (f : Flow) : List (Target × Nat) :=
  let c := s.capsOf flow f
  (((s.sourceSet f.fwd.source).zipIdx).filter fun p =>
      if f.opaque_ then p.2 == f.fwd.tgt.e else decide (p.2 ≤ c.e)).flatMap fun p =>
    match s.flow p.1 with
    | none => []
    | some x =>
      let k := s.now / (25 * msU)
      let seen := (x.rates.filter fun r => decide (r.1 < k) && decide (k ≤ r.1 + 20)).flatMap fun r => r.2
      let ss := sortBy (fun a b => decide (a < b)) ((seen.map fun y => y.s).eraseDups.filter fun v => decide (v ≤ c.s))
      let ts := sortBy (fun a b => decide (a < b)) ((seen.map fun y => y.t).eraseDups.filter fun v => decide (v ≤ c.t))
      ss.flatMap fun a => ts.map fun b => (⟨p.2, a, b⟩, x.rate s.now a b)

/-- A new target of a send flow (R192): equal to the current one it cancels a pending switch; with another E it waits for a
key frame, which is asked for (R203). -/
def State.aim (s : State) (flow : Nat) (t : Target) : State :=
  match s.flow flow with
  | none => s
  | some f =>
    let w := f.fwd
    if w.tgt = t then s else
    let change := t.e != w.tgt.e
    let st : FwdState := if w.started && t.e == w.cur.e then .forwarding else if change then .pending else w.state
    let s := s.modFlow flow fun f => { f with fwd := { f.fwd with tgt := t, state := st, since := if change then s.now else w.since } }
    if st = .pending && change then
      match (s.sourceSet w.source)[t.e]? with | some x => s.keyRequest x | none => s
    else s

/-- The targets that fit within 0.9 × a share, each with the runs in succession for which it has (R226). -/
def fitRuns (old : List (Target × Nat)) (share : Nat) (l : List (Target × Nat)) : List (Target × Nat) :=
  (l.filter fun t => decide (10 * t.2 ≤ 9 * share)).map fun t =>
    (t.1, match old.find? fun x => x.1 == t.1 with | some x => min 20 (x.2 + 1) | none => 1)

/-- The second pass for one send flow with a share: what it uses (R225, R226). A target without a packet in the last 500 ms is
no allowed one; a flow whose present target is none any more is aimed at once at the highest that fits, upward too (DESIGN
CHOICE: R226 speaks of a current target that has a rate). -/
def State.selectFor (s : State) (flow share : Nat) (l : List (Target × Nat)) : Nat × State :=
  match s.flow flow with
  | none => (0, s)
  | some f =>
    let w := f.fwd
    let fits := fitRuns w.fits share l
    let s := s.modFlow flow fun f => { f with fwd := { f.fwd with fits := fits } }
    let best := (l.filter fun t => decide (t.2 ≤ share)).getLast?
    let up := (l.filter fun t => w.tgt.before t.1 && fits.any fun x => x.1 == t.1 && decide (20 ≤ x.2)).getLast?
    match l.find? fun t => t.1 == w.tgt, best with
    | _, none => (0, s)
    | none, some b => (b.2, s.aim flow b.1)
    | some c, some b =>
      if share < c.2 then (b.2, s.aim flow b.1) else
      match up with
      | some u => (u.2, s.aim flow u.1)
      | none => (c.2, s)

/-- The forwarded send flows of a leg, in the order of PRIO and index. -/
def State.forwards (s : State) (leg : Nat) : List Nat :=
  (sortBy (fun (a b : Nat × Flow) => decide (a.2.fwd.prio < b.2.fwd.prio) || (a.2.fwd.prio == b.2.fwd.prio && decide (a.1 < b.1)))
    ((s.flowsOf leg).filter fun p => p.2.dir == 2 && p.2.kind == 2 && p.2.fwd.bound && p.2.state != .closing &&
      (s.flow p.2.fwd.source).isSome)).map fun p => p.1

/-- A send flow suspended for want of rate, or resumed (R225), with events 154 and 155. -/
def State.suspend (s : State) (leg flow : Nat) (on : Bool) : State :=
  match s.flow flow with
  | none => s
  | some f =>
    let is := f.fwd.state == .suspended
    if is == on then s
    else if on then
      (s.modFlow flow fun f => { f with fwd := { f.fwd with state := .suspended, started := false } }).raise 154 (legH leg) (le 4 flow)
    else
      let s := (s.modFlow flow fun f => { f with fwd := { f.fwd with state := .pending, since := s.now, fits := [] } }).raise 155
        (legH leg) (le 4 flow)
      match (s.sourceSet f.fwd.source)[f.fwd.tgt.e]? with | some x => s.keyRequest x | none => s

/-- The video budget shared among a leg's forwarded send flows, in two passes, with event 158 (R225, R226). -/
def State.shareVideo (s : State) (leg v b : Nat) : State :=
  let outs := (s.flowsOf leg).filter fun p => p.2.dir == 2 && p.2.kind == 2 && p.2.outCtx != 0 && p.2.state != .closing
  let s := outs.foldl (fun (s : State) p => s.spliceRun p.1 v) s
  let left := v - sumOf outs fun p => s.outputRate p.1
  let fl := (s.forwards leg).map fun i => match s.flow i with
    | some f => (i, s.targetsOf i f)
    | none => (i, [])
  let low (l : List (Target × Nat)) : Nat := match l with | t :: _ => t.2 | [] => 0
  let p1 := fl.foldl (fun (a : Nat × List (Nat × Bool)) f =>
    if low f.2 ≤ a.1 then (a.1 - low f.2, a.2 ++ [(f.1, true)]) else (a.1, a.2 ++ [(f.1, false)])) (left, [])
  let given (i : Nat) : Bool := p1.2.any fun x => x.1 == i && x.2
  let s := fl.foldl (fun (s : State) f => s.suspend leg f.1 (!given f.1)) s
  let s := (fl.foldl (fun (a : Nat × State) f =>
    if !given f.1 || f.2.isEmpty then a else
    let share := low f.2 + a.1
    let (used, s) := a.2.selectFor f.1 share f.2
    (share - used, s)) (p1.1, s)).2
  let only := !fl.isEmpty && fl.all fun f => decide (v < low f.2)
  let told := match s.leg leg with | some l => l.ada.audioOnly | none => false
  let s := s.modLeg leg fun l => { l with ada := { l.ada with audioOnly := only } }
  if only && !told then s.raise 158 (legH leg) (le 4 b) else s

/-- The highest E, S and T that the viewers of this package need of a receive flow: the send flows bound to its source, each
within the caps of its binding and of its leg, and the decode contexts it feeds. -/
def State.capsNeeded (s : State) (flow : Nat) : Nat × Nat × Nat :=
  let users := s.flows.filter fun q => q.2.dir == 2 && q.2.fwd.bound && q.2.state != .closing && (s.sourceSet q.2.fwd.source).contains flow
  let decs := s.vid.decs.filter fun d => match d.2.source with | some f => (s.sourceSet f).contains flow | none => false
  ((users.map fun q => s.capsOf q.1 q.2) ++ decs.map fun d => (⟨d.2.maxE, d.2.maxS, d.2.maxT⟩ : Target)).foldl
    (fun (a : Nat × Nat × Nat) t => (max a.1 t.e, max a.2.1 t.s, max a.2.2 t.t)) (0, 0, 0)

/-- What the viewers of this package need of each receive flow of a cascade leg on the remote side, told to the other package
when it changes, at most once in 25 ms (R230). -/
def State.sendCaps (s : State) (leg : Nat) : State :=
  match s.leg leg with
  | none => s
  | some l =>
    if l.typ ≠ .cascade || l.casc.role ≠ 1 || !(l.state == .active || l.state == .held) then s else
    (s.rxFlows leg 2).foldl (fun (s : State) p =>
      let m := s.capsNeeded p.1
      let wait := match tget l.casc.sentCaps p.1 with
        | some (old, at_) => old == m || decide (s.now < at_ + 25 * msU)
        | none => false
      if wait then s else
      (s.modLeg leg fun g => { g with casc := { g.casc with sentCaps := tset g.casc.sentCaps p.1 (m, s.now) } }).sendRtcp leg
        [.elzc p.2.ssrc m.1 m.2.1 m.2.2]) s

/-- Send flows whose source has been silent for 2 s, with event 123. -/
def State.sourceSilence (s : State) (leg : Nat) : State :=
  (s.flowsOf leg).foldl (fun (s : State) p =>
    let w := p.2.fwd
    if p.2.dir ≠ 2 || !w.bound || w.silentTold || p.2.state == .closing || decide (s.now < w.lastSource + 2 * secU) then s else
    (s.modFlow p.1 fun f => { f with fwd := { f.fwd with silentTold := true } }).raise 123 (flowH p.1) (le 4 (dtSec w.lastSource))) s

/-- The outputs of a run (Table 05-3), with event 153. -/
def State.estOutputs (s : State) (leg : Nat) : State :=
  match s.leg leg with
  | none => s
  | some l =>
    let a := l.ada
    let b := if bit a.ovrMask 0 then a.ovrRate else a.est / 1000000
    let aud := sumOf ((s.flowsOf leg).filter fun p => p.2.dir == 2 && p.2.kind == 1 && p.2.state != .closing) fun p => p.2.prof.nominal
    let loss := lossOf a.records (s.now - 100 * msU) (s.now + 1)
    let f := if bit a.ovrMask 1 then a.ovrFec else max a.fecMin (min a.fecMax (fecFor loss))
    let v := (b - aud) * 100 / (100 + f)
    let s := s.setShaper leg (b * 5 / 4)
    let s := s.modLeg leg fun l => { l with ada := { l.ada with eff := b, audio := aud, fec := f, video := v } }
    let s := if f = a.fec then s else s.raise 153 (legH leg) (le 1 a.fec ++ le 1 f)
    s.shareVideo leg v b

/-- One run of a leg's estimator, with its events and outputs; a run later than 50 ms after the one before counts (R219). -/
def State.estRun (s : State) (leg : Nat) (l : Leg) : State :=
  let late := l.ada.lastRun ≠ 0 && decide (l.ada.lastRun + 50 * msU < s.now)
  let a := { (l.estimate s.now) with lastRun := s.now, overruns := l.ada.overruns + b2n late }
  let s := s.modLeg leg fun l => { l with ada := a }
  let s := if late then s.raise 159 (legH leg) (le 4 ((s.now - l.ada.lastRun - 25 * msU) / usU)) else s
  ((s.estEvents leg l.ada).estOutputs leg).sourceSilence leg

/-- Whether a leg has a send flow that does not close. -/
def State.hasSend (s : State) (leg : Nat) : Bool := (s.flowsOf leg).any fun p => p.2.dir == 2 && p.2.state != .closing

/-- ESTIMATOR_RUN: the run of a leg with a send flow, every 25 ms (R219 to R226). -/
def execEstimatorRun (t leg : Nat) (s : State) : Host.Outcome State Fault Refusal :=
  let s := s.advance t
  match s.leg leg with
  | none => .next s
  | some l =>
    .next (if !s.hasSend leg || l.state == .closing || s.coresPaused ||
        (l.ada.lastRun != 0 && decide (s.now < l.ada.lastRun + 25 * msU)) then s else s.estRun leg l)

/-! RTCP sent (R210 to R212). -/

/-- The report block of a receive flow, and the flow with its counts taken. -/
def State.reportBlock (s : State) (f : Flow) : RtcpItem :=
  let high := f.extSeq.getD 65536
  let exp := high + 1 - f.baseSeq
  let e := exp - f.rrExp
  let r := f.rtpRec - f.rrRec
  let frac := if e = 0 || e ≤ r then 0 else (e - r) * 256 / e
  let (lsr, dlsr) := match f.lastSr with
    | some (x, t) => (x, (s.now - t) * 65536 / secU)
    | none => (0, 0)
  .block f.ssrc (min 255 frac) f.lost ((high - 65536) % 2 ^ 32) (f.jitter / 16 * f.clockRate / secU) lsr dlsr

/-- Report blocks, at most 31 in each report packet, the excess in further RR packets. -/
def chunkBlocks : Nat → List RtcpItem → List RtcpItem
  | 0, l => l
  | fuel + 1, l => if l.length ≤ 31 then l else l.take 31 ++ [RtcpItem.rr] ++ chunkBlocks fuel (l.drop 31)

/-- The sender report of a send flow: the timestamp that stands for now (R211). -/
def State.senderReport (s : State) (f : Flow) : RtcpItem :=
  let ts : Int := match f.srMap with
    | some (x, play) => (x : Int) + ((s.now : Int) - play) * (f.clockRate : Int) / (secU : Int)
    | none => f.tsBase
  .sr f.ssrc (s.time.ntp s.now) (ts % (2 ^ 32 : Int)).toNat

/-- The compound packet of a leg's interval: sender or receiver reports, report blocks and SDES (R210, R211). -/
def State.rtcpReport (s : State) (leg : Nat) (l : Leg) : State :=
  let senders := l.rtcp.sentMedia.filterMap fun i => s.flow i
  let head := if senders.isEmpty then [RtcpItem.rr] else senders.map fun f => s.senderReport f
  let rx := (s.flowsOf leg).filter fun p => p.2.dir == 1 && p.2.state == .live && p.2.extSeq.isSome
  let blocks := chunkBlocks rx.length (rx.map fun p => s.reportBlock p.2)
  let s := rx.foldl (fun (s : State) p => s.modFlow p.1 fun f => { f with
    rrExp := f.extSeq.getD 65536 + 1 - f.baseSeq, rrRec := f.rtpRec }) s
  let s := s.modLeg leg fun l => { l with rtcp := { l.rtcp with lastDt := s.now, sentMedia := [] } }
  s.sendRtcp leg (head ++ blocks ++ [.sdes l.rtcp.cname])

/-- RTCP_INTERVAL: the drawn interval of a leg, from 0.5 to 1.5 × INTERVAL_MS, has run out (R210). -/
def execRtcpInterval (t leg : Nat) (s : State) : Host.Outcome State Fault Refusal :=
  let s := s.advance t
  match s.leg leg with
  | none => .next s
  | some l =>
    .next (if !(l.state == .active || l.state == .held) || l.typ == .port ||
        decide (s.now < l.rtcp.lastDt + l.rtcp.intervalMs * msU / 2) then s else s.rtcpReport leg l)

/-- The marks of a feedback packet: every number from the first to the last received, with its arrival in 250 µs. -/
def feedbackMarks (l : List (Nat × Nat)) : List (Nat × Option Nat) :=
  match l with
  | [] => []
  | (n0, _) :: _ =>
    let ext := l.map fun p => (nearest (some (65536 + n0)) p.1 16, p.2)
    let lo := ext.foldl (fun m p => min m p.1) (65536 + n0)
    let hi := ext.foldl (fun m p => max m p.1) (65536 + n0)
    (List.range (hi + 1 - lo)).map fun i =>
      ((lo + i) % 65536, (ext.find? fun p => p.1 == lo + i).map fun p => p.2 / (250 * usU))

/-- Transport feedback of a leg is due (R212). -/
def RtcpState.feedbackDue (r : RtcpState) (now : Nat) : Bool :=
  bit r.flags 1 && !r.twccSeen.isEmpty && (decide (r.twccDt + 50 * msU ≤ now) || decide (100 ≤ r.twccSeen.length))

/-- TWCC_FEEDBACK_SEND: every 50 ms, or after 100 packets (R212). -/
def execTwccFeedbackSend (t leg : Nat) (s : State) : Host.Outcome State Fault Refusal :=
  let s := s.advance t
  match s.leg leg with
  | none => .next s
  | some l =>
    let r := l.rtcp
    if !r.feedbackDue s.now || l.state == .closing then .next s
    else
      let s := s.modLeg leg fun l => { l with rtcp := { l.rtcp with twccSeen := [], twccDt := s.now } }
      .next (s.sendFeedback leg (.twcc true (feedbackMarks r.twccSeen)))

/-! Commands. -/

/-- A binding in the place of another on the same send flow: the numbering, the offsets and the counts go on (R186, R199). -/
def Fwd.over (new old : Fwd) (sendSeq : Nat) : Fwd :=
  { new with
    outSeq := if old.bound then old.outSeq else sendSeq, srcHigh := old.srcHigh, kept := old.kept
    tsOff := old.tsOff, frOff := old.frOff, tl0Off := old.tl0Off
    lastTs := old.lastTs, lastStamp := old.lastStamp, lastFrame := old.lastFrame, lastTl0 := old.lastTl0, sentTs := old.sentTs
    pics := old.pics, tail := old.rest, framesOut := old.framesOut, pkts := old.pkts, padding := old.padding
    rtxSent := old.rtxSent, rtxMiss := old.rtxMiss }

/-- FWD_BIND (R183 to R187, R215). A new binding starts at target E0 S0 T0 and climbs under R226 (DESIGN CHOICE: no rule gives
the first target). -/
def bodyFwdBind : Body := fun _ c s =>
  let i := hIdx c.obj
  let slot := c.u 4 1
  let src := c.u 0 4
  let caps : Target := ⟨c.u 6 1, c.u 7 1, c.u 8 1⟩
  match s.flow i with
  | none => .fail s stNoObject
  | some f =>
    if !((f.kind == 1 && bit f.flags 2 || f.kind == 2) && f.dir == 2 && c.rng 5 1 0 7 && c.rng 6 1 0 3 && c.rng 7 1 0 3 &&
        c.rng 8 1 0 3 && c.zero 9 7 && (if src = 0 then f.kind == 1 && c.rng 4 1 1 3 else slot == 0)) then .fail s stBadParam else
    let new : Fwd := {
      bound := true, slot := slot, prio := c.u 5 1, caps := caps, state := .pending, since := s.now,
      lastSource := s.now, outSeq := f.sendSeq, source := if src = 0 then noFlow else hIdx src }
    let going := f.fwd.bound && f.fwd.started && if f.fwd.slot = 0 then (s.flow f.fwd.source).isSome else f.fwd.slotSource.isSome
    let next : FwdNext := { source := new.source, slot := slot, prio := new.prio, caps := caps }
    let bind (f : Flow) : Fwd := if going then { f.fwd with next := some next } else new.over f.fwd f.sendSeq
    let put (s : State) : State := s.modFlow i fun f => { f with fwd := bind f }
    if src = 0 then (if f.outCtx ≠ 0 then .fail s stBusy else .ok (put s))
    else
      let r := checkParam s c.fn [3] src
      if r ≠ 0 then .fail s r else
      match s.flow (hIdx src) with
      | none => .fail s stNoObject
      | some x =>
        if s.confOf src ≠ s.confOf c.obj then .fail s stNoObject
        else if x.dir ≠ 1 || x.kind ≠ f.kind then .fail s stNotSource
        else if x.leg = f.leg then .fail s stSameLeg
        else if x.prof.codec ≠ f.prof.codec || f.prof.codec = 0 then .fail s stCodecMismatch
        else if bit x.flags 2 != bit f.flags 2 then .fail s stE2eeMismatch
        else if f.outCtx ≠ 0 then .fail s stBusy
        else
          let s := put s
          .ok (if f.kind = 2 then (match (s.sourceSet (hIdx src))[0]? with | some e => s.keyRequest e | none => s) else s)

/-- A binding removed; numbering and timestamps are kept for a later one, and the rest of the picture in progress is still
forwarded, so that the outgoing stream ends at a frame boundary (R50). -/
def State.fwdUnbind (s : State) (flow : Nat) : State :=
  s.modFlow flow fun f => if !f.fwd.bound then f else { f with
    sendSeq := f.fwd.outSeq
    fwd := { f.fwd with
      bound := false, state := .unbound, source := noFlow, next := none, slot := 0, slotSource := none, started := false, cur := {}
      tgt := {}, tail := f.fwd.rest } }

/-- FWD_UNBIND. -/
def bodyFwdUnbind : Body := fun _ c s =>
  let i := hIdx c.obj
  match s.flow i with
  | none => .fail s stNoObject
  | some f =>
    if f.dir ≠ 2 then .fail s stBadParam
    else if !f.fwd.bound then .fail s stWrongState
    else .ok (s.fwdUnbind i)

/-- The state of a forwarded send flow as FWD_QUERY gives it (Table 05-8). -/
def Fwd.code (w : Fwd) : Nat :=
  if !w.bound then 4 else match w.state with
    | .forwarding => b2n (w.tgt != w.cur) | .pending => 1 | .paused => 2 | .suspended => 3 | .unbound => 4

/-- FWD_QUERY (Table 05-8). -/
def bodyFwdQuery : Body := fun _ c s =>
  match s.flow (hIdx c.obj) with
  | none => .fail s stNoObject
  | some f =>
    if f.dir ≠ 2 then .fail s stBadParam else
    let w := f.fwd
    let src := if w.bound && w.source != noFlow then flowH w.source else 0
    .ok s (le 4 src ++ le 1 w.cur.e ++ le 1 w.cur.s ++ le 1 w.cur.t ++ le 1 w.code ++ le 1 w.tgt.e ++ le 1 w.tgt.s ++ le 1 w.tgt.t ++
      zeros 1 ++ le 4 w.outSeq ++ le 4 w.pkts ++ le 4 w.padding ++ le 4 w.rtxSent ++ le 4 w.rtxMiss)

/-- Whether a codec code suits a flow (Table 05-7). -/
def codecSuits (kind codec : Nat) : Bool :=
  match kind with
  | 1 => decide (1 ≤ codec) && decide (codec ≤ 6)
  | 2 => decide (16 ≤ codec) && decide (codec ≤ 20)
  | _ => codec == 0

/-- FLOW_PROFILE_SET (R237). -/
def bodyFlowProfileSet : Body := fun _ c s =>
  let i := hIdx c.obj
  match s.flow i with
  | none => .fail s stNoObject
  | some f =>
    let audioSend := f.kind == 1 && f.dir == 2
    if !(codecSuits f.kind (c.u 0 1) && c.zero 7 1 && c.zero 12 4 && (audioSend || c.zero 8 4)) then .fail s stBadParam else
    let p : Profile := ⟨c.u 0 1, (List.range 6).map fun k => c.u (1 + k) 1, c.u 8 4⟩
    let fresh := f.kind = 2 && !f.carried
    let keep := f.kind ≠ 1 && f.kind ≠ 2 || fresh
    .ok (s.modFlow i fun f => { f with prof := p, profOld := if keep then none else some f.media, profAt := s.now })

/-- RTCP_SET (Table 05-7). -/
def bodyRtcpSet : Body := fun _ c s =>
  let n := c.u 4 1
  if !(c.rng0 0 2 100 5000 && c.mask 2 2 3 && c.rng 4 1 1 32 && c.zero 5 3 && c.padded 8 n 32) then .fail s stBadParam else
  .ok (s.modLeg (hIdx c.obj) fun l => { l with rtcp := { l.rtcp with
    intervalMs := c.dflt 0 2 1000, flags := c.u 2 2, cname := c.bytes 8 n } })

/-- KEYFRAME_REQUEST (R203): a PLI within R204, or a FIR at once. -/
def bodyKeyframeRequest : Body := fun _ c s =>
  let i := hIdx c.obj
  match s.flow i with
  | none => .fail s stNoObject
  | some f =>
    if f.kind ≠ 2 || f.dir ≠ 1 || !c.mask 0 4 1 then .fail s stBadParam
    else if c.flag 0 4 0 then
      .ok ((s.modFlow i fun f => { f with keyReq := { f.keyReq with wanted := true } }).sendPli i true)
    else .ok (s.keyRequest i)

/-- ADAPT_SET (Table 05-7). -/
def bodyAdaptSet : Body := fun _ c s =>
  if !(c.rng 4 1 0 50 && c.rng 5 1 (c.u 4 1) 50 && c.rng 6 1 0 3 && c.rng 7 1 0 3 && c.rng 8 1 0 3 && c.zero 9 7)
  then .fail s stBadParam else
  .ok (s.modLeg (hIdx c.obj) fun l => { l with ada := { l.ada with
    initKbps := c.dflt 0 4 1000, fecMin := c.u 4 1, fecMax := c.u 5 1, maxE := c.u 6 1, maxS := c.u 7 1, maxT := c.u 8 1,
    est := if l.ada.lastRun = 0 then c.dflt 0 4 1000 * 1000000 else l.ada.est } })

/-- The overrides of a leg set to those of ADAPT_OVERRIDE, with events 153, 156 and 157. -/
def State.override (s : State) (i : Nat) (c : Cmd) (l : Leg) : State :=
  let m := c.u 0 1
  let gone := l.ada.ovrMask - (l.ada.ovrMask &&& m)
  let s := s.modLeg i fun l => { l with ada := { l.ada with
    ovrMask := m, ovrRate := c.u 8 4, ovrFec := c.u 1 1, ovrE := c.u 2 1, ovrS := c.u 3 1, ovrT := c.u 4 1,
    fec := if bit m 1 then c.u 1 1 else l.ada.fec } }
  let s := if bit m 0 then s.setShaper i (c.u 8 4 * 5 / 4) else s
  let s := if gone = 0 then s else s.raise 157 (legH i) (le 1 gone ++ le 1 0)
  let s := if bit m 1 && l.ada.fec ≠ c.u 1 1 then s.raise 153 (legH i) (le 1 l.ada.fec ++ le 1 (c.u 1 1)) else s
  if m = 0 then s else s.raise 156 (legH i) (le 1 m)

/-- ADAPT_OVERRIDE (R227 to R229): operator limits of rate, FEC overhead and layers. Every field keeps to its range, whatever
MASK says; RATE_KBPS, whose range has no 0, is also taken as 0 when MASK [0] is clear (DESIGN CHOICE). -/
def bodyAdaptOverride : Body := fun _ c s =>
  let i := hIdx c.obj
  let m := c.u 0 1
  if !(c.mask 0 1 7 && c.rng 1 1 0 50 && c.rng 2 1 0 3 && c.rng 3 1 0 3 && c.rng 4 1 0 3 && c.zero 5 3 &&
      (if bit m 0 then c.rng 8 4 30 800000 else c.rng0 8 4 30 800000) && c.zero 12 4) then .fail s stBadParam else
  match s.leg i with
  | none => .fail s stNoObject
  | some l => .ok (s.override i c l)

/-- ADAPT_QUERY (Table 05-9). -/
def bodyAdaptQuery : Body := fun _ c s =>
  let i := hIdx c.obj
  match s.leg i with
  | none => .fail s stNoObject
  | some l =>
    let a := l.ada
    let st := if a.feedbackLost then 3 else match a.state with | .normal => 0 | .overuse => 1 | .underuse => 2
    let susp := countOf (s.flowsOf i) fun p => p.2.dir == 2 && p.2.fwd.bound && p.2.fwd.state == .suspended
    .ok s (le 4 (a.est / 1000000) ++ le 4 a.eff ++ le 4 l.egr.shaperKbps ++ le 4 a.video ++ le 4 a.audio ++ le 4 (a.ack / 1000000) ++
      le 4 a.lossPpm ++ le 4 l.rtcp.rtt ++ le 1 a.fec ++ le 1 st ++ le 1 a.ovrMask ++ zeros 1 ++ le 4 susp ++ le 4 a.fbLate ++
      le 4 a.overruns)

/-- CASCADE_SET (R236): D changes at the next grain boundary, and the reply names the first grain that the conference then
mixes and has not mixed before, by its lag over all its cascade legs (`State.outLag`). A leg of another type gives BAD_PARAM
(DEDUCED, log 18). -/
def bodyCascadeSet : Body := fun _ c s =>
  let i := hIdx c.obj
  if !(c.rng0 0 1 1 40 && c.rng 1 1 0 1 && c.zero 2 6) then .fail s stBadParam else
  match s.leg i with
  | none => .fail s stNoObject
  | some l =>
    if l.typ ≠ .cascade then .fail s stBadParam else
    let g := nextGrain s.now
    let d := c.dflt 0 1 4
    let r := c.u 1 1
    let lag (s : State) : Nat := s.outLag l.conf
    let new := lag (s.modLeg i fun l => { l with casc := { l.casc with grains := d, role := r } })
    .ok (s.modLeg i fun l => { l with casc := { l.casc with pend := some (g, d, r) } }) (le 8 (g - 1 - min new (lag s)))

def execFwdBind (c : Cmd) (s : State) := runBelex 0x0300 bodyFwdBind c s
def execFwdUnbind (c : Cmd) (s : State) := runBelex 0x0301 bodyFwdUnbind c s
def execFwdQuery (c : Cmd) (s : State) := runBelex 0x0302 bodyFwdQuery c s
def execFlowProfileSet (c : Cmd) (s : State) := runBelex 0x0310 bodyFlowProfileSet c s
def execRtcpSet (c : Cmd) (s : State) := runBelex 0x0311 bodyRtcpSet c s
def execKeyframeRequest (c : Cmd) (s : State) := runBelex 0x0312 bodyKeyframeRequest c s
def execAdaptSet (c : Cmd) (s : State) := runBelex 0x0320 bodyAdaptSet c s
def execAdaptOverride (c : Cmd) (s : State) := runBelex 0x0321 bodyAdaptOverride c s
def execAdaptQuery (c : Cmd) (s : State) := runBelex 0x0322 bodyAdaptQuery c s
def execCascadeSet (c : Cmd) (s : State) := runBelex 0x0330 bodyCascadeSet c s

end Sys2Proof.Machine
end

