-- ==== Sys2Proof/Machine/Conf.lean ====
section
/-! DEFINITION. Conferences, legs and flows: the 0x01xx commands (Tables 02-10 to 02-16), the expiry of
CONNECT_LIMIT and the freeing of a leg (file 02 of spec/). -/

namespace Sys2Proof.Machine

def stTenantQuota : Nat := 0x8100
def stReserveExceeded : Nat := 0x8101
def stChildLimit : Nat := 0x8102
def stTransportInUse : Nat := 0x8103
def stSsrcInUse : Nat := 0x8104

/-! Capacity accounting (R84 to R87, R793). Pools: 0 conferences, 1 legs, 2 flows. -/

/-- The size of a pool (Table 01-8). -/
def poolSize : Nat → Nat
  | 0 => 8192 | 1 => 65536 | _ => 1048576

/-- A tenant's maximum in a pool. -/
def Quota.maxOf (q : Quota) : Nat → Nat
  | 0 => q.confMax | 1 => q.legMax | _ => q.flowMax

/-- A tenant's reserve in a pool. -/
def Quota.resOf (q : Quota) : Nat → Nat
  | 0 => q.confRes | 1 => q.legRes | _ => q.flowRes

/-- Objects of a tenant in a pool. -/
def State.useOf (s : State) (pool t : Nat) : Nat :=
  match pool with
  | 0 => countOf s.confs fun p => p.2.tenant == t
  | 1 => countOf s.legs fun p => p.2.tenant == t
  | _ => countOf s.flows fun p => p.2.tenant == t

/-- Free contexts of a pool. -/
def State.freeOf (s : State) (pool : Nat) : Nat :=
  poolSize pool - (match pool with | 0 => s.confs.length | 1 => s.legs.length | _ => s.flows.length)

/-- The reserves that other tenants have not used (R87). -/
def State.owed (s : State) (pool t : Nat) : Nat :=
  sumOf (List.range 64) fun u =>
    if u = t then 0 else (s.quotas.getD u {}).resOf pool - s.useOf pool u

/-- R87: 0 when tenant `t` may create in a pool, else the status; a pool without a free context gives NO_RESOURCE, and no
live object makes room (R21). -/
def State.admission (s : State) (pool t : Nat) : Nat :=
  let q := s.quotas.getD t {}
  let use := s.useOf pool t
  if q.maxOf pool ≤ use then stTenantQuota
  else if s.freeOf pool = 0 then stNoResource
  else if use < q.resOf pool || decide (s.owed pool t < s.freeOf pool) then 0
  else stNoResource

/-- Further creates that R87 would allow (R793). -/
def State.further (s : State) (pool t : Nat) : Nat :=
  min ((s.quotas.getD t {}).maxOf pool - s.useOf pool t) (s.freeOf pool - s.owed pool t)

/-! Commands. -/

/-- The package with the conference that CONF_CREATE describes, and its index, a free one. -/
def State.addConf (s : State) (c : Cmd) : State × Nat :=
  let (r, s) := s.free
  let i := freeIndex (tkeys s.confs) 8192 r
  ({ s with confs := tset s.confs i ⟨c.fn, c.u 0 2, c.u 2 1, c.dflt 3 1 30, c.u 4 1, .active, 0, [], []⟩ }, i)

/-- CONF_CREATE (Table 02-11, R88). -/
def bodyConfCreate : Body := fun _ c s =>
  if !(c.rng 0 2 1 4096 && c.mask 2 1 3 && c.rng 4 1 0 15 && c.zero 5 7) then .fail s stBadParam else
  let a := s.admission 0 c.fn
  if a ≠ 0 then .fail s a else
  let r := s.addConf c
  .ok r.1 (le 4 (confH r.2))

/-- A conference put into CLOSING with its legs (Table 02-2); without legs it is FREE at once. The delete that waits for
it is noted. -/
def State.closeConf (s : State) (i : Nat) (whom : ReplyTo) : State :=
  let legs := s.legsOf i
  let s := s.modConf i fun k => { k with state := .closing, reply := k.reply ++ [whom] }
  let s := legs.foldl (fun (s : State) p => if p.2.state = .closing then s else s.closeLeg p.1 true []) s
  if legs.isEmpty then s.freeConf i else s

/-- CONF_DELETE (Table 02-2): WRONG_STATE while a leg is outside CLOSING, unless FORCE closes it. -/
def bodyConfDelete : Body := fun whom c s =>
  if !c.mask 0 4 1 then .fail s stBadParam else
  let i := hIdx c.obj
  if ((s.legsOf i).any fun p => p.2.state != .closing) && !c.flag 0 4 0 then .fail s stWrongState else
  .wait (s.closeConf i whom)

/-- The code of a conference state (CONF_QUERY). -/
def ConfState.code : ConfState → Nat
  | .active => 1 | .parked => 2 | .closing => 3

/-- CONF_QUERY. -/
def bodyConfQuery : Body := fun _ c s =>
  match s.conf (hIdx c.obj) with
  | none => .fail s stNoObject
  | some k => .ok s (le 1 k.state.code ++ zeros 3 ++ le 4 k.maxLegs ++
      le 4 (s.legsOf (hIdx c.obj)).length ++ le 4 k.failedJoins)

/-- The leg type of a code (Table 02-1). -/
def legTypeOf : Nat → Option LegType
  | 1 => some .endpoint | 2 => some .trunk | 3 => some .port | 4 => some .cascade | 5 => some .stream
  | _ => none

/-- The checks of LEG_CREATE on the handle in TYPE_OBJ: a key of the tenant for a trunk leg or a stream
leg keyed by the host, a serial audio port for a port leg, a package number for a cascade leg, else 0
(Table 02-12). -/
def checkTypeObj (s : State) (fn : Nat) (ty : LegType) (h : Nat) : Nat :=
  match ty with
  | .endpoint => if h = 0 then 0 else stBadParam
  | .trunk => checkParam s fn [13] h
  | .port => if !(hType h == 10 && decide (hIdx h < 8)) then stBadParam
    else if (s.aud.sap.ports.getD (hIdx h) {}).owner = fn then 0 else stNoObject
  | .cascade => if h < 16 then 0 else stBadParam
  | .stream => if h = 0 then 0 else checkParam s fn [13] h

/-- The parameter checks of LEG_CREATE (Table 02-12, R67, R91, R138, R144). -/
def legParamsOk (s : State) (c : Cmd) (ty : LegType) : Bool :=
  let v6 := c.flag 2 2 0
  let zeroIp := c.zero 12 16
  let zeroPort := c.u 8 2 == 0
  let a := (s.net.ports.getD (c.u 1 1) {}).addrs.getD (c.u 10 1) {}
  c.zero 44 4 &&
  (if ty = .port then c.zero 1 27 && s.slotsOk (hIdx (c.u 28 4)) (c.u 32 4)
   else
    c.rng 1 1 0 7 && c.mask 2 2 7 && (c.flag 2 2 1 || c.zero 4 2) && c.rng 10 1 0 31 && c.zero 11 1 &&
    c.zero 32 4 && (v6 || c.zero 12 12) && s.portProvided (c.u 1 1) && a.valid && a.v6 == v6 &&
    (if ty = .endpoint then zeroIp == zeroPort else !zeroIp && !zeroPort))

/-- The leg that LEG_CREATE describes. -/
def newLeg (s : State) (c : Cmd) (ty : LegType) (tenant conf : Nat) : Leg :=
  let st : LegState := match ty with
    | .endpoint => .connecting | .cascade => .connecting
    | .stream => if c.u 28 4 = 0 then .connecting else .active
    | _ => .active
  let kbps := mediaDefault (c.u 36 4)
  { tenant := tenant, conf := conf, typ := ty, state := st, created := s.now,
    netPort := c.u 1 1, flags := c.u 2 2, vlan := c.u 4 2, localUdp := c.u 6 2, remoteUdp := c.u 8 2,
    localAddr := c.u 10 1, remoteIp := c.big 12 16, typeObj := c.u 28 4, slotMask := c.u 32 4,
    maxKbps := c.u 36 4, minKbps := c.u 40 4, connectFrom := s.now,
    ing := { mediaKbps := kbps, mediaTokens := 65536 * byteTok, mediaDt := s.now,
             ctrlTokens := 32 * pktTok, ctrlDt := s.now },
    egr := { bucket := 16384 * byteTok, bucketDt := s.now },
    ada := { lastFeedback := s.now, lastRun := s.now },
    cur := { window := windowOf s.now } }

/-- Whether a new leg would break R63, or R91 for port legs. -/
def State.transportUsed (s : State) (l : Leg) : Bool :=
  s.legs.any fun p =>
    if l.typ = .port then
      p.2.typ == .port && p.2.state != .closing && p.2.typeObj == l.typeObj && p.2.slotsHeld &&& l.slotMask != 0
    else
      p.2.matchable && sameTransport p.2 l &&
      !(l.typ == .endpoint && p.2.typ == .endpoint && l.remoteUdp == 0 && p.2.remoteUdp == 0)

/-- The package with a new leg, and its index: a free one; its RTCP reporting SSRC is a free value. -/
def State.addLeg (s : State) (l : Leg) : State × Nat :=
  let (r, s) := s.free
  let (r2, s) := s.free
  let i := freeIndex (tkeys s.legs) 65536 r
  let s := { s with legs := tset s.legs i { l with rtcp := { l.rtcp with ssrc := r2 % 2 ^ 32, lastDt := s.now } } }
  (match s.legKeys l with
   | some (p, rx, tx) => s.installKeys i p rx tx
   | none => s, i)

/-- Legs of a conference, and legs of others on their way to it, but for leg `i` (R61, R92). -/
def State.legLoad (s : State) (conf : Nat) (i : Option Nat) : Nat :=
  (s.legsOf conf).length + countOf s.legs fun p => some p.1 != i && match p.2.movePend with
    | some m => m.2 == conf | none => false

/-- LEG_CREATE (R61 to R67, R87, R88, R91). -/
def bodyLegCreate : Body := fun _ c s =>
  let ci := hIdx c.obj
  match s.conf ci, legTypeOf (c.u 0 1) with
  | some k, some ty =>
    let h := checkTypeObj s c.fn ty (c.u 28 4)
    if h ≠ 0 && h ≠ stWrongState then .fail s h else
    if !legParamsOk s c ty then .fail s stBadParam else
    if k.state = .closing || h = stWrongState then .fail s stWrongState else
    let pol := (s.quotas.getD k.tenant {}).policy
    if (ty = .trunk && !bit pol 0) || (ty = .stream && (!bit pol 1 || (c.u 28 4 != 0 && !bit pol 0)))
    then .fail s stNotPermitted else
    let a := s.admission 1 k.tenant
    if a ≠ 0 then .fail s a else
    if k.maxLegs ≤ s.legLoad ci none then .fail s stChildLimit else
    let l := newLeg s c ty k.tenant ci
    if s.transportUsed l || (ty == .port && s.routeMask (hIdx l.typeObj) &&& l.slotMask != 0)
    then .fail s stTransportInUse else
    let r := s.addLeg l
    .ok r.1 (le 4 (legH r.2))
  | _, _ => .fail s stBadParam

/-- LEG_DELETE (R71, R72): the reply waits until the leg's index is free. -/
def bodyLegDelete : Body := fun whom c s => .wait (s.closeLeg (hIdx c.obj) true [whom])

/-- LEG_MOVE (R92, R93): effective at the first grain boundary. A move to the leg's own conference changes nothing, not
even an earlier move that is still to take effect. -/
def bodyLegMove : Body := fun _ c s =>
  let i := hIdx c.obj
  let h := c.u 0 4
  let r := checkParam s c.fn [1] h
  if r ≠ 0 then .fail s r else
  if !c.zero 4 4 then .fail s stBadParam else
  let g := nextGrain s.now
  match s.leg i, s.conf (hIdx h) with
  | some l, some k =>
    if l.conf = hIdx h then .ok s (le 8 g) else
    if k.maxLegs ≤ s.legLoad (hIdx h) (some i) then .fail s stChildLimit else
    .ok (s.modLeg i fun l => { l with movePend := some (g, hIdx h) }) (le 8 g)
  | _, _ => .fail s stNoObject

/-- LEG_SET_STATE (R92, Table 02-3). -/
def bodyLegSetState : Body := fun _ c s =>
  if !c.mask 0 4 3 then .fail s stBadParam else
  let g := nextGrain s.now
  .ok (s.modLeg (hIdx c.obj) fun l =>
    if l.state = .connecting then { l with hold := c.u 0 4, holdPend := none }
    else { l with holdPend := some (g, c.u 0 4) }) (le 8 g)

/-- LEG_STATS (Table 02-13): the last complete window, the latest round trip and estimate, and the cumulative byte counts
(R89, Table 02-8). -/
def bodyLegStats : Body := fun _ c s =>
  let i := hIdx c.obj
  match s.leg i with
  | none => .fail s stNoObject
  | some l0 =>
    let l := l0.roll s.now
    let m := l.last
    let (r, s') := if windowOf s.now = 0 then s.free else (windowOf s.now - 1, s)
    .ok (s'.modLeg i fun _ => l)
      (le 4 r ++ le 4 m.rxPackets ++ le 4 m.lostRaw ++ le 4 m.lostResidual ++
       le 4 m.jitter ++ le 4 l.rtcp.rtt ++ le 4 (l.ada.est / 1000000) ++
       le 4 (m.txBytes * 8 / 1000) ++ le 2 m.concealed ++ le 1 m.level ++ le 1 l.bcn.code ++
       le 4 (match l.bcn.coloc with | some x => x | none => if l.bcn.code = 1 then l.bcn.lastTag else 0) ++ le 4 m.qdelay ++
       le 4 m.drops ++ le 8 l.ing.rxBytes ++ le 8 l.ing.txBytes)

/-- A padded ASCII string: 7-bit characters, then zeros to the end. -/
def asciiPadded : List Byte → Bool
  | [] => true
  | b :: r => if b = 0 then r.all (· == 0) else decide (b.toNat < 128) && asciiPadded r

/-- The characters of a padded string. -/
def trimZeros (l : List Byte) : List Byte := l.takeWhile (· != 0)

/-- The default traffic class of a send flow (Table 06-1). A FEC or RTX flow goes with its ASSOC flow. -/
def defaultClass (s : State) (l : Leg) (kind assoc : Nat) : Nat :=
  if l.typ = .stream then 3 else
  match kind with
  | 1 => 6 | 2 => 5
  | _ => match s.flow (hIdx assoc) with | some a => if a.kind = 1 then 6 else 5 | none => 5

/-- The handle checks of FLOW_CREATE on ASSOC and SINK (R13, R62). -/
def flowHandles (s : State) (c : Cmd) (conf : Nat) : Nat :=
  let kind := c.u 4 1
  let assoc := c.u 12 4
  let sink := c.u 32 4
  let a := if kind = 3 || kind = 4 then checkHandle s c.fn false [3] assoc else 0
  if a ≠ 0 then a else
  if sink = 0 then 0 else
  let r := checkHandle s c.fn false [8, 4] sink
  if r ≠ 0 then r else if s.confOf sink ≠ some conf then stNoObject else 0

/-- The parameter checks of FLOW_CREATE (Table 02-14, R65, R214). A FEC or RTX flow may name the sink of its media too: the
media itself comes by the flow it repairs (R177). -/
def flowParamsOk (s : State) (c : Cmd) (leg : Nat) (l : Leg) : Bool :=
  let kind := c.u 4 1
  let dir := c.u 5 1
  let assoc := c.u 12 4
  c.rng 4 1 1 4 && c.rng 5 1 1 2 && c.rng 6 1 0 127 && c.mask 7 1 7 && c.u 8 4 != 0 &&
  (c.u 0 4 != 0 || (dir == 1 && c.flag 7 1 1)) &&
  (if kind = 3 || kind = 4 then
    (match s.flow (hIdx assoc) with
     | some a => a.leg == leg && a.dir == dir && (a.kind == 1 || a.kind == 2)
     | none => false)
   else assoc == 0) &&
  asciiPadded (c.bytes 16 8) && asciiPadded (c.bytes 24 8) && c.zero 36 4 &&
  (c.u 32 4 == 0 || (!c.flag 7 1 2 && dir == 1 &&
    ((hType (c.u 32 4) == 8 && kind != 2) || (hType (c.u 32 4) == 4 && kind != 1)))) &&
  !(l.typ == .stream && dir == 1)

/-- Whether a new flow would break uniqueness within its leg (R63, R74). -/
def State.ssrcUsed (s : State) (leg : Nat) (f : Flow) : Bool :=
  (s.flowsOf leg).any fun p => p.2.dir == f.dir &&
    (if f.state = .learning then p.2.state == .learning && p.2.mid == f.mid && p.2.rid == f.rid
     else p.2.state != .learning && p.2.ssrc == f.ssrc)

/-- The flow that FLOW_CREATE describes; the base of its timestamps and its first sequence number are free values. -/
def newFlow (s : State) (c : Cmd) (li : Nat) (l : Leg) (ts sq : Nat) : Flow :=
  { tenant := l.tenant, leg := li, ssrc := c.u 0 4, kind := c.u 4 1, dir := c.u 5 1, pt := c.u 6 1,
    flags := c.u 7 1, clockRate := c.u 8 4, assoc := c.u 12 4, mid := trimZeros (c.bytes 16 8),
    rid := trimZeros (c.bytes 24 8), sink := c.u 32 4,
    state := if c.u 0 4 = 0 then .learning else .live, order := s.fresh + 3,
    cls := defaultClass s l (c.u 4 1) (c.u 12 4), lastArr := s.now, tsBase := ts % 2 ^ 32, sendSeq := sq % 65536 }

/-- Whether a flow's cache set has room for another pinned flow (R82). -/
def State.canPin (s : State) (f : Flow) : Bool := decide (s.pinnedIn f.set < 12)

/-- The package with a new flow of a leg, and its index, a free one: keyed as its leg is, in the cache, attached to the
object it names. -/
def State.addFlow (s : State) (c : Cmd) (li : Nat) (l : Leg) : State × Nat :=
  let f := newFlow s c li l (Config.freeNat (s.fresh + 1)) (Config.freeNat (s.fresh + 2))
  let i := freeIndex (tkeys s.flows) 1048576 (Config.freeNat s.fresh)
  let f := { f with pinned := c.flag 7 1 0 && s.canPin f }
  let f := match s.legKeys l with
    | some (p, rx, tx) => { f with cip := f.cip.install s.cip.gen p (if f.dir = 1 then rx else tx) }
    | none => f
  let s := ({ s with fresh := s.fresh + 3, flows := tset s.flows i f }).wrap (flowH i)
  let s := (s.cacheIn i).noteJitter li
  (if f.kind ≤ 2 then s.attachSink i (c.u 32 4) else s, i)

/-- FLOW_CREATE (R61, R64, R65, R74, R75, R82, R87, R88). Attaching the flow to the mix group or the
decode context named by SINK follows their chapters. -/
def bodyFlowCreate : Body := fun _ c s =>
  let li := hIdx c.obj
  match s.leg li with
  | none => .fail s stNoObject
  | some l =>
    let h := flowHandles s c l.conf
    if h ≠ 0 then .fail s h else
    if !flowParamsOk s c li l then .fail s stBadParam else
    if l.typ = .port || l.state = .closing || s.isClosing (c.u 12 4) then .fail s stWrongState else
    let a := s.admission 2 l.tenant
    if a ≠ 0 then .fail s a else
    if 64 ≤ (s.flowsOf li).length then .fail s stChildLimit else
    let sinkSts := if c.u 4 1 ≤ 2 then s.sinkCheck li (c.u 32 4) (trimZeros (c.bytes 16 8)) else 0
    let f := newFlow s c li l 0 0
    if s.ssrcUsed li f then .fail s stSsrcInUse else
    if sinkSts ≠ 0 then .fail s sinkSts else
    let r := s.addFlow c li l
    ⟨r.1, if c.flag 7 1 0 && !s.canPin f then stWarn else stDone, le 4 (flowH r.2), false⟩

/-- A flow deleted (R792): a send flow of a leg that is connected sends its BYE (R213), and the flow closes. -/
def State.deleteFlow (s : State) (i : Nat) (f : Flow) (whom : ReplyTo) : State :=
  let s := if f.dir = 2 && (match s.leg f.leg with | some l => l.state != .connecting | none => false)
    then s.sendRtcp f.leg [RtcpItem.bye f.ssrc] else s
  (s.closeFlow i [whom]).decFlowGone i

/-- FLOW_DELETE (R792): the reply waits until the flow is FREE; a send flow sends its BYE (R213). -/
def bodyFlowDelete : Body := fun whom c s =>
  let i := hIdx c.obj
  match s.flow i with
  | none => .fail s stNoObject
  | some f => .wait (s.deleteFlow i f whom)

/-- The code of a flow state (Table 02-5). -/
def FlowState.code : FlowState → Nat
  | .learning => 1 | .live => 2 | .closing => 3

/-- FLOW_QUERY. -/
def bodyFlowQuery : Body := fun _ c s =>
  match s.flow (hIdx c.obj) with
  | none => .fail s stNoObject
  | some f => .ok s (le 1 f.state.code ++ le 1 f.kind ++ le 1 f.dir ++
      le 1 (if f.pinned then 2 else if f.cached then 1 else 0) ++ le 4 f.ssrc ++
      le 4 (f.extSeq.getD 65536 - 65536) ++ le 4 f.lost ++ le 8 f.packets ++ le 8 f.bytes)

/-- The quota that TENANT_SET_QUOTA gives (Table 02-15). -/
def quotaOf (c : Cmd) : Quota := ⟨c.u 4 2, c.u 6 2, c.u 8 4, c.u 12 4, c.u 16 4, c.u 20 4, c.u 24 4⟩

/-- The reserves of a pool over all tenants with a tenant's quota replaced (R86). -/
def State.reservesWith (s : State) (pool t : Nat) (q : Quota) : Nat :=
  (sumOf (List.range 64) fun u => if u = t then 0 else (s.quotas.getD u {}).resOf pool) + q.resOf pool

/-- TENANT_SET_QUOTA (R85, R86, R94). -/
def bodyTenantSetQuota : Body := fun _ c s =>
  let q := quotaOf c
  let t := c.u 0 1
  if !(c.rng 0 1 0 63 && c.zero 1 3 && c.rng 4 2 0 8192 && c.rng 8 4 0 65536 && c.rng 16 4 0 1048576 &&
       c.mask 24 4 3 && decide (q.confRes ≤ q.confMax) && decide (q.legRes ≤ q.legMax) &&
       decide (q.flowRes ≤ q.flowMax)) then .fail s stBadParam else
  if [0, 1, 2].any fun p => decide (poolSize p < s.reservesWith p t q) then .fail s stReserveExceeded else
  .ok { s with quotas := setAt s.quotas t q }

/-- TENANT_QUERY (Table 02-16, R90, R793). -/
def bodyTenantQuery : Body := fun _ c s =>
  let t := c.u 0 1
  if !(c.rng 0 1 0 63 && c.zero 1 3) then .fail s stBadParam else
  if c.fn ≠ 0 && t ≠ c.fn then .fail s stNotPermitted else
  let q := s.quotas.getD t {}
  .ok s (le 2 q.confMax ++ le 2 q.confRes ++ le 4 q.legMax ++ le 4 q.legRes ++ le 4 q.flowMax ++
    le 4 q.flowRes ++ le 4 q.policy ++
    le 4 (s.useOf 0 t) ++ le 4 (s.further 0 t) ++ le 4 (s.useOf 1 t) ++ le 4 (s.further 1 t) ++
    le 4 (s.useOf 2 t) ++ le 4 (s.further 2 t))

def execConfCreate (c : Cmd) (s : State) := runBelex 0x0100 bodyConfCreate c s
def execConfDelete (c : Cmd) (s : State) := runBelex 0x0101 bodyConfDelete c s
def execConfQuery (c : Cmd) (s : State) := runBelex 0x0102 bodyConfQuery c s
def execLegCreate (c : Cmd) (s : State) := runBelex 0x0110 bodyLegCreate c s
def execLegDelete (c : Cmd) (s : State) := runBelex 0x0111 bodyLegDelete c s
def execLegMove (c : Cmd) (s : State) := runBelex 0x0112 bodyLegMove c s
def execLegSetState (c : Cmd) (s : State) := runBelex 0x0113 bodyLegSetState c s
def execLegStats (c : Cmd) (s : State) := runBelex 0x0114 bodyLegStats c s
def execFlowCreate (c : Cmd) (s : State) := runBelex 0x0120 bodyFlowCreate c s
def execFlowDelete (c : Cmd) (s : State) := runBelex 0x0121 bodyFlowDelete c s
def execFlowQuery (c : Cmd) (s : State) := runBelex 0x0122 bodyFlowQuery c s
def execTenantSetQuota (c : Cmd) (s : State) := runBelex 0x0130 bodyTenantSetQuota c s
def execTenantQuery (c : Cmd) (s : State) := runBelex 0x0131 bodyTenantQuery c s

/-- A leg that did not connect in time closes and counts as a failed join; a handshake in progress has failed by timeout
(event 41, cause 3). -/
def State.connectFails (s : State) (leg : Nat) (l : Leg) : State :=
  let s := s.modConf l.conf fun k => { k with failedJoins := k.failedJoins + 1 }
  let s := if l.dtls.running then s.raise 41 (legH leg) (le 1 3 ++ le 1 0) else s
  s.closeLeg leg false []

/-- CONNECT_LIMIT elapsed without a handshake (Table 02-3, R70). -/
def execConnectLimitExpiry (t leg : Nat) (s : State) : Host.Outcome State Fault Refusal :=
  let s := s.advance t
  match s.leg leg with
  | none => .next s
  | some l =>
    match s.conf l.conf with
    | none => .next s
    | some k =>
      .next (if l.state == .connecting && decide (l.connectFrom + k.connectLimit * secU ≤ s.now) then s.connectFails leg l
        else s)

/-- A CLOSING leg becomes FREE once its queue has drained and R72's instants have passed. -/
def execLegFreed (t leg : Nat) (s : State) : Host.Outcome State Fault Refusal :=
  let s := s.advance t
  match s.leg leg with
  | none => .next s
  | some l => if l.state = .closing && s.legDrained leg l then .next (s.freeLeg leg) else .next s

end Sys2Proof.Machine
end

