-- ==== Sys2Proof/Machine/Disp.lean ====
section
/-! DEFINITION. The Dispatcher: dispatch and completion of tasks, ticks, timers, promotion, stalemate, and the 0x0Dxx
commands (file 15 of spec/). -/

namespace Sys2Proof.Machine

def stKeyIdle : Nat := 0x8D00

/-! Dispatch (R527 to R529, R532, R533). -/

/-- The place of a READY task among those of its executor kind: the order of the chapter that owns it (R418, R437, R485),
else the instant it became READY; ties by the owner's or its own index. -/
def State.taskRank (s : State) (i : Nat) (t : Task) : List Nat :=
  match t.work with
  | .decode c => (match s.dec c with
    | some d => (match d.frames.find? fun f => f.task == i with
      | some f => [d.prio, f.at_, c]
      | none => [d.prio, t.readyDt, c])
    | none => [2, t.readyDt, c])
  | .encode c => (match s.enc c with | some e => [e.prio, t.readyDt, c] | none => [2, t.readyDt, c])
  | .tile c => [0, t.readyDt, c]
  | .variant c _ => [0, t.readyDt, c]
  | .pass c => (match s.canvas c with
    | some x => (match x.passes.find? fun p => p.task == i with
      | some p => [frameAt x.fps p.k, c, i]
      | none => [t.readyDt, c, i])
    | none => [t.readyDt, c, i])
  | _ => [t.readyDt, i]

/-- Lexicographic order of ranks. -/
def rankBefore : List Nat → List Nat → Bool
  | [], [] => false
  | [], _ => true
  | _, [] => false
  | a :: r, b :: q => decide (a < b) || (a == b && rankBefore r q)

/-- Executors of a kind on the hub die: control cores, hub DMA channels, splice engines. -/
def hubExecs : Nat → Nat
  | 0 => 4 | 7 => 128 | 8 => 4 | _ => 0

/-- The number of a hub-die executor in place of a unit address. -/
def hubExec (target n : Nat) : Nat := 0x8000 + target * 256 + n

/-- Whether an executor is one of a task's kind, inside its SCOPE, and able to run it: its cluster active and powered,
the unit not retired, and the cluster the one its key is bound to. -/
def State.unitFits (s : State) (t : Task) (unit : Nat) : Bool :=
  if 0x8000 ≤ unit then
    (List.range (hubExecs t.target)).any fun n => hubExec t.target n == unit
  else
    let c := unit / 16
    let k := s.cluster c
    let bound := match t.key with
      | some key => (match tget s.disp.keys key with
        | some f => (match f.bound with | some b => b == c | none => true)
        | none => true)
      | none => true
    decide (c < 56) && (unitsOfTarget t.target (isAudioCluster c)).contains (unit % 16) && k.state == .active && !k.gated &&
      !bit k.failed (unit % 16) && bit t.regions (regionOf c) &&
      (match t.cluster with | some x => x == c | none => true) && bound

/-- Every executor that can run a task. -/
def State.unitsFor (s : State) (t : Task) : List Nat :=
  ((List.range (hubExecs t.target)).map (hubExec t.target)) ++
    ((List.range 896).filter fun u => s.unitFits t u)

/-- A unit refused for its epoch: event 238 once for each unit and region epoch (R528). -/
def State.epochRefuse (s : State) (unit : Nat) : State :=
  let e := s.units.epochs.getD (regionOf (unit / 16)) 0
  let s := s.modDisp fun d => { d with epochRefusals := d.epochRefusals + 1 }
  if tget s.disp.refused unit = some e then s else
  (s.modDisp fun d => { d with refused := tset d.refused unit e }).raise 238 (mkHandle 12 (unit / 16))
    (le 2 unit ++ le 2 ((s.cluster (unit / 16)).epochs.getD (unit % 16) 0) ++ le 2 e)

/-- Bindings in use. -/
def State.bindings (s : State) : Nat := countOf s.disp.keys fun p => p.2.bound.isSome

/-- Whether a task of an atomic flow may be dispatched: none of the flow runs, and it is its first READY one (R532). -/
def State.keyTurn (s : State) (i : Nat) (t : Task) : Bool :=
  match t.key with
  | none => true
  | some k => (s.keyTasks k fun st => st == .dispatched).isEmpty &&
    (s.keyTasks k fun st => st == .ready).all fun p => p.1 == i || rankBefore [t.readyDt, i] [p.2.readyDt, p.1]

/-- Whether a unit may not take a task that hung on it: another executor can. -/
def State.mustAvoid (s : State) (t : Task) (unit : Nat) : Bool :=
  t.avoid == some unit && (s.unitsFor t).any fun u => u != unit && s.epochOk u

/-- A READY task given to an executor. -/
def State.dispatch (s : State) (i unit : Nat) (t : Task) : State :=
  let wait := s.now - t.readyDt
  let s := if t.level == 0 && decide (t.cls ≤ 1) && decide (msU < wait) then
      s.raiseWK 245 t.target 0 (le 1 t.target ++ le 4 (wait / usU)) else s
  let s := t.item.elim s s.userBegin
  let s := s.modTask i fun t => { t with st := .dispatched, unit := unit, startDt := s.now, runInst := t.inst }
  let s := match t.key with
    | some k => if unit < 0x8000 then s.modKey k fun f => { f with bound := some (unit / 16) } else s
    | none => s
  match t.work with
  | .encode c => s.encStart c
  | .tile c => s.tileStart c
  | _ => s

/-- The decode context whose frame a task decodes, where its pool has no free buffer (R412). -/
def State.poolWait (s : State) (k : Task) : Option Nat :=
  match k.work with
  | .decode c => if s.decPoolFull c then some c else none
  | _ => none

/-- Whether no READY task of its kind that could run on a unit comes before a task (R527, R529); in the user class, whether R535
chooses it. Which of a READY system task and a READY user task a control core takes follows from the cycles that R534 leaves to
each, which no row gives. -/
def State.firstFor (s : State) (idx unit : Nat) (k : Task) : Bool :=
  match k.item with
  | some i => s.userNext i
  | none => s.disp.tasks.all fun p =>
    p.1 == idx || p.2.item.isSome || p.2.st != .ready || p.2.target != k.target || !s.unitFits p.2 unit || !s.keyTurn p.1 p.2 ||
    s.mustAvoid p.2 unit || (s.poolWait p.2).isSome || !rankBefore (s.taskRank p.1 p.2) (s.taskRank idx k)

/-- Whether a task given to a unit makes a new binding of its key (R533). -/
def State.bindsNew (s : State) (unit : Nat) (k : Task) : Bool :=
  match k.key with
  | some key => (match tget s.disp.keys key with | some f => f.bound.isNone | none => true) && decide (unit < 0x8000)
  | none => false

/-- TASK_DISPATCH: a READY task is offered to an executor, which takes it when it fits, is idle, and no task of its kind
that could run there comes first; a unit of an old epoch is refused (R527 to R533), and a frame without a free buffer waits
(R412). -/
def execTaskDispatch (t idx unit : Nat) (s : State) : Host.Outcome State Fault Refusal :=
  let s := s.advance t
  match tget s.disp.tasks idx with
  | none => .next s
  | some k =>
    if k.st ≠ .ready || !s.unitFits k unit || s.execBusy unit || s.mustAvoid k unit || !s.keyTurn idx k then .next s else
    if !s.epochOk unit then .next (s.epochRefuse unit) else
    if !s.firstFor idx unit k then .next s else
    match s.poolWait k with
    | some c => .next (s.decWaits c idx)
    | none =>
    if s.bindsNew unit k && decide (65536 ≤ s.bindings) then
      let waiting := countOf s.disp.keys fun p => p.2.bound.isNone && s.keyBusy p.1
      .next (s.raiseWK 230 0 0 (le 4 waiting))
    else .next (s.dispatch idx unit k)

/-! Completion. -/

/-- The task entry that firmware allocates; a user task's level is lowered to its tenant's top level (R535). -/
def State.taskOfNew (s : State) (n : NewTask) : Task :=
  { st := .waiting, cls := n.cls % 4, tenant := n.tenant % 64, key := n.key.map (· % 1048576)
    level := if n.cls % 4 = 3 then max (n.level % 8) (s.func (n.tenant % 64)).topLevel else n.level % 8
    reload := n.reload % 256, target := n.target, cluster := n.cluster, regions := n.regions % 256
    succ := n.succ.take 4, owner := n.owner, work := .other n.work, grain := n.grain }

/-- Tasks and timers that firmware sets up. -/
def State.spawn (s : State) (new : List NewTask) (timers : List TimerOp) : State :=
  let s := new.foldl (fun (s : State) n => if 9 < n.target then s else (s.newTask (s.taskOfNew n)).2) s
  timers.foldl State.timerOp s

/-- TASK_COMPLETE: a dispatched task has completed: pulses to its successors, and what its firmware sets up next (R523).
Frames of decoders, encoders and compositors complete by their own commands. -/
def execTaskComplete (t idx : Nat) (new : List NewTask) (timers : List TimerOp) (s : State) :
    Host.Outcome State Fault Refusal :=
  let s := s.advance t
  match tget s.disp.tasks idx with
  | none => .next s
  | some k =>
    let own := k.target == 3 || k.target == 4 || k.target == 5
    let other := match k.work with | .other _ => true | .mix _ => true | .splice _ => true | _ => false
    if k.st == .dispatched && (other || !own) then .next ((s.taskDone idx).spawn new timers) else .next s

/-- COMPLETION_PULSE: a pulse of another source than a task reaches a task (R523 to R525). -/
def execCompletionPulse (t idx inst kind : Nat) (s : State) : Host.Outcome State Fault Refusal :=
  let s := s.advance t
  .next (s.pulse idx inst kind)

/-- PERIOD_BOUNDARY: the period boundary of a periodic task whose period is a frame of its owner (R525, R526). -/
def execPeriodBoundary (t idx : Nat) (s : State) : Host.Outcome State Fault Refusal :=
  let s := s.advance t
  match tget s.disp.tasks idx with
  | some k => if k.grain then .next s else .next (s.periodBoundary idx)
  | none => .next s

/-! Ticks and timers (R530, R531, R534, R541). -/

/-- Timers fired in the present tick. -/
def State.firedNow (s : State) : Nat := if s.disp.fired.1 = tickOf s.now then s.disp.fired.2 else 0

/-- Whether a timer is the first due one, and the tick has room for it (R530). -/
def State.timerDue (s : State) (timer : Nat) (x : Timer) : Bool :=
  let k := tickOf s.now
  let first := s.disp.timers.all fun p => p.1 == timer || decide (k < p.2.tick) ||
    rankBefore [x.deadline, timer] [p.2.deadline, p.1]
  decide (x.tick ≤ k) && first && decide (s.firedNow < 4096)

/-- A timer leaves the table and pulses its task; in a later tick than its own it is late, with event 228 (R530, R531). -/
def State.timerFire (s : State) (timer : Nat) (x : Timer) : State :=
  let k := tickOf s.now
  let n := s.firedNow
  let s := s.modDisp fun d => { d with timers := tdel d.timers timer, fired := (k, n + 1) }
  let s := if x.tick < k then
      (s.modDisp fun d => { d with timersLate := d.timersLate + 1 }).raiseWK 228 0 0 (le 4 (k - x.tick))
    else s
  s.pulse x.task ((tget s.disp.tasks x.task).elim 0 fun y => y.inst) 6

/-- TIMER_FIRE: a due timer fires, in order of deadline, at most 4,096 in a tick; one that fires in a later tick is late
(R530, R531). -/
def execTimerFire (t timer : Nat) (s : State) : Host.Outcome State Fault Refusal :=
  let s := s.advance t
  match tget s.disp.timers timer with
  | none => .next s
  | some x => if s.timerDue timer x then .next (s.timerFire timer x) else .next s

/-- The settings of DISP_SET and DISP_TENANT_SET taken at a tick start (R542). -/
def DispState.takeSets (d : DispState) (now : Nat) : DispState :=
  let d := match d.setPend with
    | some (a, b, c) =>
      { d with promoAgeMs := a, storm := b, staleMs := c, setPend := none,
               agesBefore := if a = d.promoAgeMs then d.agesBefore else ((now, d.promoAgeMs) :: d.agesBefore).take 16 }
    | none => d
  { d with weights := d.weightPend.foldl (fun w p => setAt w p.1 p.2) d.weights, weightPend := [] }

/-- A slot of 1 ms in which the limit of R534 held back system work, or none was. -/
def State.ctrlSlot (s : State) (sat : Bool) : State :=
  if !sat then s.modDisp fun d => { d with satRun := 0 } else
  let s := s.modDisp fun d => { d with satRun := d.satRun + 1, ctrlSat := d.ctrlSat + 1 }
  let c := s.countIn 241 0 1
  if s.disp.satRun = 100 then c.2.raise 241 0 (le 4 c.1) else c.2

/-- An error in a table of the Dispatcher (R541): table, index or corrections, uncorrectable. -/
def State.dispError (s : State) (e : Nat × Nat × Bool) : State :=
  if e.2.2 then (s.fatal 2 e.1).raise 247 0 (le 1 e.1 ++ le 4 e.2.1) else
  let c := s.countIn 246 e.1 1
  if c.1 = 64 then c.2.raise 246 0 (le 1 e.1 ++ le 4 c.1) else c.2

/-- READY tasks that have waited 10 ms without an eligible unit in their SCOPE (R529). -/
def State.ineligible (s : State) : State :=
  s.disp.tasks.foldl (fun (s : State) p =>
    if p.2.st == .ready && decide (p.2.readyDt + 10 * msU ≤ s.now) && !((s.unitsFor p.2).any fun u => s.epochOk u) then
      s.raiseWK 239 (p.2.target * 256 + p.2.regions) 0 (le 1 p.2.target ++ le 1 p.2.regions)
    else s) s

/-- The entries of the user class that wait to run: their tenant, and since when. -/
def State.userSince (s : State) : List (Nat × Nat) :=
  ((s.cp.cmds.filter fun p => !p.2.begun).map fun p => (p.2.whom.fn, p.2.accepted)) ++
    (s.disp.tasks.filter fun p => p.2.cls == 3 && p.2.st == .ready).map fun p => (p.2.tenant, p.2.made)

/-- User tasks that have waited 1 s without running (R538). -/
def State.starved (s : State) : State :=
  s.userSince.foldl (fun (s : State) p =>
    if p.2 + secU ≤ s.now then
      let longest := (s.userSince.filter fun q => q.1 == p.1).foldl (fun m q => max m (s.now - q.2)) 0
      s.raiseWK 244 p.1 0 (le 1 p.1 ++ le 4 (longest / msU))
    else s) s

/-- Every replica of DT realigned: it then differs by a free amount of at most 8 ns (R44). -/
def State.realign (s : State) : State :=
  let near (n : Nat) : Int := (n % 1048577 : Nat) - 524288
  { s with time := { s.time with replicas := (List.range 9).map fun i => near (Config.freeNat (s.fresh + i)) }
           fresh := s.fresh + 9 }

/-- The work of a tick start (R44, R529, R531, R534, R538, R541, R542). -/
def State.tick (s : State) (k : Nat) (overrun sat : Bool) (links : List (Nat × Nat)) (errs : List (Nat × Nat × Bool))
    (new : List NewTask) (timers : List TimerOp) : State :=
  let s := { s with time := { s.time with lastTick := k } }.realign
  let s := s.modDisp fun d => d.takeSets s.now
  let s := if overrun then s.raiseWK 240 0 0 (le 8 k) else s
  let s := if k % 100 = 0 then s.ctrlSlot sat else s
  let s := links.foldl (fun (s : State) l => s.raiseWK 242 l.1 0 (le 1 l.1 ++ le 4 l.2)) s
  let s := s.ineligible.starved.panicLong.haltLong.queueChecks
  let s := s.spawn new timers
  errs.foldl (fun (s : State) e => s.dispError e) s

/-- DISPATCHER_TICK: the start of a tick (R531). The row says whether the processing before ran past this start, whether
the slot that ends held back system work, what the agents' links retried, which table errors were found, and what
firmware sets up. -/
def execDispatcherTick (t : Nat) (overrun sat : Bool) (links : List (Nat × Nat)) (errs : List (Nat × Nat × Bool))
    (new : List NewTask) (timers : List TimerOp) (s : State) : Host.Outcome State Fault Refusal :=
  let s := s.advance t
  let k := tickOf s.now
  if k ≤ s.time.lastTick then .next s else .next (s.tick k overrun sat links errs new timers)

/-! Promotion (R536, R537). -/

/-- PROMO_AGE in force at an instant, in ms. -/
def DispState.ageAt (d : DispState) (at_ : Nat) : Nat :=
  match (d.agesBefore.filter fun p => decide (at_ < p.1)).getLast? with
  | some p => p.2
  | none => d.promoAgeMs

/-- A promotion or a mark of urgency counted for a tenant. -/
def State.notePromotion (s : State) (fn : Nat) (urgent : Bool) : State :=
  s.modDisp fun d =>
    let p := (tget d.tenantProm fn).getD (0, 0)
    { d with tenantProm := tset d.tenantProm fn (if urgent then (p.1, p.2 + 1) else (p.1 + 1, p.2)) }

/-- The tick start at which a command READY since `r` is promoted (R536). -/
def State.promoDue (s : State) (r : Nat) : Nat := tickAtOrAfter (r + s.disp.ageAt r * msU) * tickU

/-- A command's entry changed. -/
def State.modCmd (s : State) (id : Nat) (f : CmdEntry → CmdEntry) : State :=
  { s with cp := { s.cp with cmds := tmod s.cp.cmds id f } }

/-- A promotion of a tenant's entry counted, with events 233 and, past the storm limit, 235 (R536, R537). -/
def State.promoted (s : State) (fn : Nat) : State :=
  let s := (s.notePromotion fn false).modDisp fun d => { d with promotions := d.promotions + 1 }
  let c := s.countIn 233 fn 1
  let s := c.2.raiseWK 233 fn 0 (le 1 fn ++ le 4 c.1)
  let n := s.countIn 235 0 1
  if n.1 = n.2.disp.storm + 1 then n.2.raiseRec 235 0 (le 4 n.1) else n.2

/-- A tenant's entry marked urgent, with event 234 (R536). -/
def State.urged (s : State) (fn opc : Nat) : State :=
  (s.notePromotion fn true).raiseWK 234 fn 0 (le 1 fn ++ le 2 opc)

/-- A command moved one level up (R536). -/
def State.promote (s : State) (id fn at_ : Nat) : State :=
  (s.modCmd id fun e => { e with level := e.level - 1, ready := some at_, promos := e.promos + 1 }).promoted fn

/-- A command at its tenant's top level marked urgent (R536). -/
def State.makeUrgent (s : State) (id : Nat) (e : CmdEntry) (at_ : Nat) : State :=
  (s.modCmd id fun e => { e with urgent := some at_ }).urged e.whom.fn e.whom.opc

/-- Control-core work for a tenant moved one level up, or marked urgent at its tenant's top level (R536). -/
def State.promoteTask (s : State) (idx at_ : Nat) (i : UserItem) : State :=
  if (s.func i.fn).topLevel < i.level then
    (s.modTask idx fun t => { t with level := t.level - 1, readyDt := at_, promos := t.promos + 1 }).promoted i.fn
  else (s.modTask idx fun t => { t with urgent := some at_ }).urged i.fn 0

/-- Whether an entry of the user class is to be promoted now. -/
def State.promotes (s : State) (i : UserItem) : Bool := i.urgent.isNone && decide (s.promoDue i.ready ≤ s.now)

/-- PROMOTION: a READY user task has waited PROMO_AGE: one level up, or urgent at its tenant's top level, at the first
tick whose start is at or after its deadline (R536, R537). The row names a command, or, where no command of that number is to be
promoted, a task. -/
def execPromotion (t id : Nat) (s : State) : Host.Outcome State Fault Refusal :=
  let s := s.advance t
  match ((tget s.cp.cmds id).filter fun e => e.item.any s.promotes) with
  | some e =>
    let at_ := s.promoDue (e.ready.getD 0)
    .next (if (s.func e.whom.fn).topLevel < e.level then s.promote id e.whom.fn at_ else s.makeUrgent id e at_)
  | none => match ((tget s.disp.tasks id).bind Task.item).filter s.promotes with
    | some i => .next (s.promoteTask id (s.promoDue i.ready) i)
    | none => .next s

/-! Stalemate (R539, R540). -/

/-- The oldest task of a key that is READY or DISPATCHED. -/
def State.oldestOf (s : State) (k : Nat) : Option (Nat × Task) :=
  (s.keyTasks k fun st => st == .ready || st == .dispatched).foldl (fun b p =>
    match b with
    | none => some p
    | some q => if rankBefore [p.2.readyDt, p.1] [q.2.readyDt, q.1] then some p else some q) none

/-- Why a flow makes no progress: 0 a unit is busy, 1 no unit is eligible, 2 it has no binding. -/
def State.staleCause (s : State) (f : AtomicFlow) (t : Task) : Nat :=
  if t.st == .dispatched then 0
  else if !((s.unitsFor t).any fun u => s.epochOk u) then 1
  else if f.bound.isNone then 2 else 0

/-- A flow with work that has completed nothing for STALE_MS at the last 1 ms boundary is stale, with event 236 (R539). -/
def State.staleCheck (s : State) (key : Nat) (f : AtomicFlow) : State :=
  match s.oldestOf key with
  | none => s
  | some q =>
    if f.stale || decide (s.now / msU * msU ≤ f.lastDone.getD f.firstReady + s.disp.staleMs * msU) then s
    else (s.modKey key fun f => { f with stale := true }).raiseRec 236
      (match f.bound with | some c => mkHandle 12 c | none => 0)
      (le 4 key ++ le 1 (s.staleCause f q.2) ++ le 4 q.1)

/-- STALEMATE_CHECK: the check of the last 1 ms boundary (R539). -/
def execStalemateCheck (t : Nat) (s : State) : Host.Outcome State Fault Refusal :=
  let s := s.advance t
  .next (s.disp.keys.foldl (fun (s : State) p => s.staleCheck p.1 p.2) s)

/-- A task discarded, which its owner handles as a lost output of its kind (R540). -/
def State.taskLost (s : State) (i : Nat) (t : Task) : State :=
  match t.work with
  | .decode c => s.decSkip c i
  | .pass c => (match s.canvas c with
    | some x => (match x.passes.find? fun p => p.task == i with
      | some p => s.passSkip c p
      | none => s.taskDrop i)
    | none => s.taskDrop i)
  | .encode c => ((s.taskDrop i).modEnc c fun e => { e with wait := none }).encSkip c 1
  | .tile c => (match s.tile c with
    | some x => (match x.wait with
      | some f => (s.taskDrop i).tileSkip c f x.source
      | none => s.taskDrop i)
    | none => s.taskDrop i)
  | .variant c form => s.variantLost c fun v => v.task == i && v.form == form
  | _ => s.taskDrop i

/-! Commands. -/

/-- DISP_SET (R542). -/
def bodyDispSet : Body := fun _ c s =>
  if !(c.rng0 0 2 1 1000 && c.rng0 2 2 10 60000 && c.rng0 4 2 10 10000 && c.zero 6 10) then .fail s stBadParam
  else .ok (s.modDisp fun d => { d with setPend := some (c.dflt 0 2 20, c.dflt 2 2 1000, c.dflt 4 2 100) })

/-- DISP_TENANT_SET (R535, R542). -/
def bodyDispTenantSet : Body := fun _ c s =>
  if !(c.rng 0 1 0 63 && c.rng0 1 1 1 16 && c.zero 2 2) then .fail s stBadParam
  else .ok (s.modDisp fun d => { d with weightPend := d.weightPend ++ [(c.u 0 1, c.dflt 1 1 1)] })

/-- DISP_QUERY (Table 15-9). -/
def bodyDispQuery : Body := fun _ _ s =>
  let d := s.disp
  .ok s (le 4 s.tasksUsed ++ le 4 s.timersUsed ++ le 4 s.bindings ++ le 4 (countOf d.keys fun p => p.2.stale) ++
    le 4 d.orphans ++ le 4 d.stalePulses ++ le 4 d.overruns ++ le 4 d.timersLate ++ le 4 d.epochRefusals ++
    le 4 d.promotions ++ le 4 d.ctrlSat ++ le 2 d.promoAgeMs ++ le 2 d.staleMs ++ le 2 d.storm ++ zeros 14)

/-- DISP_TENANT_QUERY (Table 15-10). -/
def bodyDispTenantQuery : Body := fun _ c s =>
  let n := c.u 0 1
  if !(c.rng 0 1 0 63 && c.zero 1 3) then .fail s stBadParam else
  if c.fn ≠ 0 && c.fn ≠ n then .fail s stNotPermitted else
  let ready (l : Nat) : Nat := (s.userItems.filter fun i => i.fn == n && i.level == l).length
  let p := (tget s.disp.tenantProm n).getD (0, 0)
  let w := windowOf s.now
  let longest := match tget s.disp.waits n with
    | some (win, now, last) => if win = w then last else if win + 1 = w then now else 0
    | none => 0
  .ok s (le 1 (s.disp.weights.getD n 1) ++ le 1 (s.func n).topLevel ++ zeros 2 ++
    (List.range 8).flatMap (fun l => le 2 (ready l)) ++ le 4 p.1 ++ le 4 p.2 ++ le 4 longest)

/-- DISP_KEY_QUERY (Table 15-11). -/
def bodyDispKeyQuery : Body := fun _ c s =>
  let k := c.u 0 4
  if 1048576 ≤ k then .fail s stBadParam else
  let f := (tget s.disp.keys k).getD {}
  let run := s.keyTasks k fun st => st == .dispatched
  let ready := s.keyTasks k fun st => st == .ready
  let queued := s.keyTasks k fun st => st == .ready || st == .waiting
  let state := if f.stale then 3 else if !run.isEmpty then 2 else if !queued.isEmpty then 1 else 0
  .ok s (le 1 state ++ le 1 (f.bound.getD 0xFF) ++ le 2 ready.length ++
    le 4 (match run with | (i, _) :: _ => i | [] => 0xFFFFFFFF) ++ le 8 (f.lastDone.getD 0) ++
    le 4 (match s.oldestOf k with | some p => p.2.owner | none => 0) ++ le 4 f.completed ++ zeros 8)

/-- A flow's READY and WAITING tasks lost, its stalemate ended with event 237, and event 243 (R540). -/
def State.keyReset (s : State) (k : Nat) : State :=
  let f := (tget s.disp.keys k).getD {}
  let h := match f.bound with | some x => mkHandle 12 x | none => 0
  let gone := s.keyTasks k fun st => st == .ready || st == .waiting
  let s := gone.foldl (fun (s : State) p => s.taskLost p.1 p.2) s
  let s := s.modKey k fun f => { f with stale := false }
  let s := s.unbind k
  let s := if f.stale then s.raise 237 h (le 4 k ++ le 1 1) else s
  s.raise 243 h (le 4 k ++ le 4 gone.length)

/-- DISP_KEY_RESET: the flow's READY and WAITING tasks are discarded, and it leaves stalemate (R540). -/
def bodyDispKeyReset : Body := fun _ c s =>
  let k := c.u 0 4
  if 1048576 ≤ k then .fail s stBadParam else
  if (s.keyTasks k fun st => st != .done).isEmpty then .fail s stKeyIdle else
  .ok (s.keyReset k) (le 4 (s.keyTasks k fun st => st == .ready || st == .waiting).length)

def execDispSet (c : Cmd) (s : State) := runBelex 0x0D00 bodyDispSet c s
def execDispTenantSet (c : Cmd) (s : State) := runBelex 0x0D01 bodyDispTenantSet c s
def execDispQuery (c : Cmd) (s : State) := runBelex 0x0D02 bodyDispQuery c s
def execDispTenantQuery (c : Cmd) (s : State) := runBelex 0x0D03 bodyDispTenantQuery c s
def execDispKeyQuery (c : Cmd) (s : State) := runBelex 0x0D04 bodyDispKeyQuery c s
def execDispKeyReset (c : Cmd) (s : State) := runBelex 0x0D05 bodyDispKeyReset c s

end Sys2Proof.Machine
end

