-- ==== Sys2Proof/Machine/Egress.lean ====
section
/-! DEFINITION. Egress scheduling, shaping and time gates: the 0x04xx commands and the events of the egress side (file 06
of spec/). -/

namespace Sys2Proof.Machine

def stClassReserved : Nat := 0x8400
def stGclInvalid : Nat := 0x8401

/-! Events of the scheduler. -/

/-- EGRESS_ENQUEUE: the next complete frame handed over enters its queue (R239, R243, R248). -/
def execEgressEnqueue (t : Nat) (s : State) : Host.Outcome State Fault Refusal :=
  let s := s.advance t
  match s.net.ready with
  | [] => .next s
  | f :: rest =>
    let s := { s with net := { s.net with ready := rest } }
    .next (match f.leg with
      | some l => s.enqueueLeg l f
      | none => s.enqueuePort f)

/-- EGRESS_SELECT: the link of a logical port becomes free (R249). -/
def execEgressSelect (t port : Nat) (s : State) : Host.Outcome State Fault Refusal :=
  .next ((s.advance t).select port)

/-- SHAPER_BUCKET_ZERO: a leg's bucket has refilled to zero, and the scheduler of its port, if the link is idle, examines
the lanes again (R249, R256). -/
def execShaperBucketZero (t leg : Nat) (s : State) : Host.Outcome State Fault Refusal :=
  let s := s.advance t
  match s.leg leg with
  | none => .next s
  | some l =>
    let e := l.egr.refill s.now
    let s := s.modEgr leg fun _ => e
    if e.bucket < 0 then .next s else .next (s.select l.netPort)

/-- The samples of one leg queue (R260, R261). -/
def State.sampleLeg (s : State) (leg : Nat) : State :=
  match s.leg leg with
  | none => s
  | some l =>
    let all := l.egr.lanes.flatten
    let depth := sumOf all fun f => f.len
    let hol := all.foldl (fun (m : Nat) (f : TxFrame) => max m (s.now - f.dt)) 0
    let s := s.modEgr leg fun e =>
      let e := e.refill s.now
      { e with depthSample := depth, holSample := hol / usU, bucketSample := e.bucket }
    let s := s.metric leg fun m => { m with qdelay := max m.qdelay (hol / usU) }
    if s.net.qdelayAlarmMs * msU < hol then s.raiseW 136 (legH leg) (le 4 (hol / usU)) else s

/-- Classes of a port with a backlog from which no frame has been sent for 1 s: event 141. -/
def State.classStarved (s : State) (port : Nat) : State :=
  (List.range 8).foldl (fun (s : State) c =>
    let p := s.net.ports.getD port {}
    let backlog := (c = 7 && !p.queue.isEmpty) || s.legs.any fun l => l.2.netPort == port && !(l.2.egr.lanes.getD c []).isEmpty
    if backlog && decide (p.lastSent.getD c 0 + secU ≤ s.now) then
      (s.modPort port fun p => { p with lastSent := setAt p.lastSent c s.now }).raise 141 0 (le 1 port ++ le 1 c)
    else s) s

/-- The samples of a 1 ms boundary of DT, of every leg and port. -/
def State.sampleAll (s : State) : State :=
  let s := s.legs.foldl (fun (s : State) p => if p.2.typ = .port then s else s.sampleLeg p.1) s
  (List.range 8).foldl (fun (s : State) n => (s.pauseTell n).classStarved n) s

/-- QUEUE_SAMPLE: the samples of a 1 ms boundary of DT. -/
def execQueueSample (t : Nat) (s : State) : Host.Outcome State Fault Refusal :=
  let s := s.advance t
  .next (if s.now % msU ≠ 0 then s else s.sampleAll)

/-- The gates follow the list in force, once it has (re)started. -/
def LPort.gatesLive (now : Nat) (p : LPort) : LPort :=
  if (match p.running with | some g => decide (g.start ≤ now) | none => true) then { p with frozenGates := none } else p

/-- A gate list in force in place of the running one: an empty list opens every gate (R264). -/
def LPort.useList (g : GateList) (p : LPort) : LPort :=
  { p with running := if g.entries.isEmpty then none else some g, pending := none, frozenGates := none }

/-- GATE_ENTRY_CHANGE: the boundary of a gate control list entry. The gates follow DT; a list that restarts after a step
is in force from its restart on (R262, R265). -/
def execGateEntryChange (t port : Nat) (s : State) : Host.Outcome State Fault Refusal :=
  let s := s.advance t
  .next (s.modPort port (LPort.gatesLive s.now))

/-- GCL_START: a pending list takes effect at its start instant (R263, R264, R268). -/
def execGclStart (t port : Nat) (s : State) : Host.Outcome State Fault Refusal :=
  let s := s.advance t
  match (s.net.ports.getD port {}).pending with
  | none => .next s
  | some g =>
    .next (if s.now < g.start then s else
      ((s.modPort port (LPort.useList g)).raise 132 0 (le 1 port ++ le 8 ((g.start - g.base) / g.cycle))).gateOversize port)

/-- PFC_PAUSE_EXPIRY: the end of a received pause (R270). -/
def execPfcPauseExpiry (t port : Nat) (s : State) : Host.Outcome State Fault Refusal :=
  .next ((s.advance t).pauseEnd port)

/-- PFC_PAUSE_REPEAT: a pause sent again after half its time, while the level stays above XON (R603). -/
def execPfcPauseRepeat (t port : Nat) (s : State) : Host.Outcome State Fault Refusal :=
  let s := s.advance t
  .next (if s.pauseDue port then s.pauseRepeat port else s)

/-- FEC_BLOCK_FLUSH: FLUSH_MS after its first packet an open block closes (R272). -/
def execFecBlockFlush (t flow : Nat) (s : State) : Host.Outcome State Fault Refusal :=
  let s := s.advance t
  match (s.flow flow).map fun f => f.fgen with
  | none => .next s
  | some g => match g.blkFirst with
    | none => .next s
    | some x => if s.now < x + g.blkFlush * msU then .next s else .next (s.fecClose flow false)

/-- LINK_UP: the link of a logical port comes up (R142, R246), unless a loopback test holds it down (R762). -/
def execLinkUp (t port : Nat) (s : State) : Host.Outcome State Fault Refusal :=
  let s := s.advance t
  let test := (tget s.host.pcie.loopback (port / 4)).isSome
  if !s.sys.macs || !s.portProvided port || decide (8 ≤ port) || (s.net.ports.getD port {}).up || test then .next s else
  .next ((s.modPort port fun p => { p with up := true, freeAt := s.now }).raise 96 0 (le 1 port))

/-- LINK_DOWN: the link goes down, and the frames queued on the port are discarded (R246). -/
def execLinkDown (t port : Nat) (s : State) : Host.Outcome State Fault Refusal := .next ((s.advance t).linkLost port)

/-! Commands. -/

/-- EGRESS_LEG_SET (R244, R255, R259). -/
def bodyEgressLegSet : Body := fun _ c s =>
  if !(c.rng 0 2 0 4096 && c.zero 2 2 && c.rng0 4 4 1536 1048576 && c.rng0 8 4 16384 16777216 &&
       c.rng0 12 2 10 5000 && c.rng0 14 2 10 5000) then .fail s stBadParam else
  .ok (s.modEgr (hIdx c.obj) fun e =>
    let e := e.refill s.now
    let burst := c.dflt 4 4 16384
    { e with weight := c.dflt 0 2 64, shapeBurst := burst, qlimit := c.dflt 8 4 524288,
             ageAudioMs := c.dflt 12 2 100, ageVideoMs := c.dflt 14 2 400,
             bucket := min e.bucket ((burst * byteTok : Nat) : Int) })

/-- EGRESS_CLASS_SET (R241, R242). -/
def bodyEgressClassSet : Body := fun _ c s =>
  let i := hIdx c.obj
  match s.flow i with
  | none => .fail s stNoObject
  | some f =>
    if f.dir ≠ 2 || !c.rng 0 1 0 7 || !c.zero 1 3 then .fail s stBadParam else
    let n := c.u 0 1
    if n = 7 then .fail s stClassReserved else
    let lane := match s.leg f.leg with | some l => l.egr.lanes.getD f.cls [] | none => []
    let busy := lane.any fun x => match x.flow with | some y => s.classFlow y == i | none => false
    .ok (s.modFlow i fun f => if busy && n != f.cls then { f with clsNew := some n } else { f with cls := n, clsNew := none })

/-- PORT_EGRESS_SET (R266, R269, R270). -/
def bodyPortEgressSet : Body := fun _ c s =>
  let small (m : Nat) (l : List Byte) : Bool := l.all fun b => decide (b.toNat ≤ m)
  if !(c.rng 0 1 0 7 && c.rng0 1 1 20 64 && c.mask 2 2 1 && small 7 (c.bytes 4 8) && small 63 (c.bytes 12 8)) then
    .fail s stBadParam
  else .ok (s.modPort (c.u 0 1) fun p => { p with
    oh := c.dflt 1 1 20, pfcHonour := c.flag 2 2 0
    pcp := (c.bytes 4 8).map fun b => b.toNat, dscp := (c.bytes 12 8).map fun b => b.toNat })

/-- The gate control list of GCL_SET: it starts at the first BASE + k × CYCLE that lies 10 µs after now or later (R263). -/
def gateListOf (c : Cmd) (now : Nat) : GateList :=
  let base := c.u 8 8 * secU + c.u 16 4 * nsU
  let cycle := c.u 20 4 * nsU
  let k := if now + 10 * usU ≤ base then 0 else (now + 10 * usU - base + cycle - 1) / cycle
  ⟨base, base + k * cycle, cycle, (List.range (c.u 2 2)).map fun i => (c.u (24 + 8 * i) 1, c.u (28 + 8 * i) 4 * nsU)⟩

/-- GCL_SET (R263, R264). -/
def bodyGclSet : Body := fun _ c s =>
  let n := c.u 2 2
  if !(c.rng 0 1 0 7 && c.rng 1 1 0 1 && c.rng 2 2 0 256 && c.zero 4 4 && c.rng 16 4 0 999999999 &&
       c.rng 20 4 1000 1000000000 && (List.range n).all fun i => c.zero (25 + 8 * i) 3) then .fail s stBadParam else
  let ivl (i : Nat) : Nat := c.u (28 + 8 * i) 4
  if (c.u 1 1 == 1) != decide (0 < n) || (List.range n).any fun i => decide (ivl i < 32) || decide (c.u 20 4 < ivl i)
  then .fail s stGclInvalid else
  let g := gateListOf c s.now
  let had := (s.net.ports.getD (c.u 0 1) {}).pending.isSome
  let s' := s.modPort (c.u 0 1) fun p => { p with pending := some g }
  let s' := if had then s'.raise 142 0 (le 1 (c.u 0 1)) else s'
  ⟨s', if g.base < s.now then stWarn else stDone,
   le 8 (dtSec g.start) ++ le 4 (dtNs g.start) ++ zeros 4 ++ le 8 ((g.start - g.base) / g.cycle), false⟩

/-- GCL_QUERY (Table 06-8). -/
def bodyGclQuery : Body := fun _ c s =>
  if !(c.rng 0 1 0 7 && c.zero 1 3) then .fail s stBadParam else
  let p := s.net.ports.getD (c.u 0 1) {}
  let st := match p.running, p.pending with | none, none => 0 | some _, none => 1 | some _, some _ => 2 | none, some _ => 3
  let run : Nat × Nat × Nat × Nat := match p.running with
    | some g => (if s.now < g.start then 0 else (g.at_ s.now).1, g.entries.length, g.cycle / nsU, g.start)
    | none => (0, 0, 0, 0)
  let pend := match p.pending with | some g => g.start | none => 0
  .ok s (le 1 st ++ zeros 1 ++ le 2 run.1 ++ le 2 run.2.1 ++ zeros 2 ++ le 4 run.2.2.1 ++ le 4 p.portqDrops ++
    le 8 (dtSec run.2.2.2) ++ le 4 (dtNs run.2.2.2) ++ zeros 4 ++ le 8 (dtSec pend) ++ le 4 (dtNs pend) ++ le 4 p.oversize)

/-- FEC_GEN_SET (R273). -/
def bodyFecGenSet : Body := fun _ c s =>
  let i := hIdx c.obj
  match s.flow i with
  | none => .fail s stNoObject
  | some f =>
    if f.dir ≠ 2 || f.kind ≠ 3 || !(c.rng 0 1 0 1 && c.rng0 1 1 5 100 && c.zero 2 2) then .fail s stBadParam else
    .ok (s.modFlow i fun f => { f with fgen := { f.fgen with mode := c.u 0 1, flushMs := c.dflt 1 1 30 } })

/-- FC_SET (R275): the pin changes at once when its state is outside the new hysteresis band. -/
def bodyFcSet : Body := fun _ c s =>
  let src := c.u 1 1
  let top := match src with | 1 => 1 | 3 => 7 | _ => 0
  let unit := if src = 2 then 4096 else 1
  if !(c.rng 0 1 0 3 && c.rng 1 1 0 3 && c.rng 2 1 0 top && c.zero 3 1 && c.zero 12 4 &&
       decide (c.u 8 4 < c.u 4 4)) then .fail s stBadParam else
  let upd (p : FcPin) : FcPin := { p with source := src, index := c.u 2 1, high := c.u 4 4 * unit, low := c.u 8 4 * unit }
  .ok ({ s with net := { s.net with fc := modAt s.net.fc (c.u 0 1) upd } }.fcUpdate)

/-- EGRESS_STATS (Table 06-9). -/
def bodyEgressStats : Body := fun _ c s =>
  let i := hIdx c.obj
  match s.leg i with
  | none => .fail s stNoObject
  | some l =>
    let l := l.roll s.now
    let e := l.egr
    .ok (s.modLeg i fun _ => l) (le 4 e.txFrames ++ le 4 e.qlimitDrops ++ le 4 e.poolDrops ++ le 4 e.ageDrops ++
      le 4 e.linkDownDrops ++ le 4 e.oversizeDrops ++ le 4 e.depthSample ++ le 4 e.holSample ++ le 4 l.last.qdelay ++
      leI 4 (e.bucketSample / (byteTok : Int)) ++ le 4 e.shaperKbps ++ le 4 e.fecRepairs)

/-- EGRESS_PORT_STATS. -/
def bodyEgressPortStats : Body := fun _ c s =>
  if !(c.rng 0 1 0 7 && c.zero 1 3) then .fail s stBadParam else
  let p := s.net.ports.getD (c.u 0 1) {}
  .ok s ((p.sentFrames.flatMap (le 8)) ++ p.sentBytes.flatMap (le 8))

def execEgressLegSet (c : Cmd) (s : State) := runBelex 0x0400 bodyEgressLegSet c s
def execEgressClassSet (c : Cmd) (s : State) := runBelex 0x0401 bodyEgressClassSet c s
def execPortEgressSet (c : Cmd) (s : State) := runBelex 0x0410 bodyPortEgressSet c s
def execGclSet (c : Cmd) (s : State) := runBelex 0x0411 bodyGclSet c s
def execGclQuery (c : Cmd) (s : State) := runBelex 0x0412 bodyGclQuery c s
def execFecGenSet (c : Cmd) (s : State) := runBelex 0x0420 bodyFecGenSet c s
def execFcSet (c : Cmd) (s : State) := runBelex 0x0430 bodyFcSet c s
def execEgressStats (c : Cmd) (s : State) := runBelex 0x0440 bodyEgressStats c s
def execEgressPortStats (c : Cmd) (s : State) := runBelex 0x0441 bodyEgressPortStats c s

end Sys2Proof.Machine
end

