-- ==== Sys2Proof/Machine/Host.lean ====
section
/-! DEFINITION. The immediate window and MSI-X: doorbells and heads, the enabling and disabling of
queues, time capture, register writes and interrupt messages (files 03 and 24 of spec/). -/

namespace Sys2Proof.Machine

/-- Whether a write to a function's window reaches it: it exists, in D0, with Memory Space Enable set
(R744). -/
def State.windowOpen (s : State) (fn : Nat) : Bool :=
  s.fnExists fn && !(s.func fn).d3 && (s.func fn).memSpace

/-! MSI-X. -/

/-- A vector fires: a masked vector, or one of a function that may not master the bus, sets its pending
bit instead (R752). -/
def State.fireVector (s : State) (fn v : Nat) : State :=
  let m := (s.func fn).msix.getD v {}
  let clear (p : Bool) (x : Msix) : Msix := { x with pending := p, fireAt := none, covers := [] }
  if m.masked || !s.fnMasters fn then
    s.modFunc fn fun f => { f with msix := modAt f.msix v (clear true) }
  else
    (s.modFunc fn fun f => { f with msix := modAt f.msix v (clear false) }).emit (.msix fn v)

/-- The pending messages of vectors that are not masked, sent once the function masters the bus. -/
def State.sendPending (s : State) (fn : Nat) : State :=
  (List.range 16).foldl (fun (s : State) v =>
    let m := (s.func fn).msix.getD v {}
    if m.pending && !m.masked && s.fnMasters fn then s.fireVector fn v else s) s

/-- A queue has written an entry with IRQ_EN set: its vector is due, at once or under coalescing
(R751). `q` is 0 to 7 for a CQ and 8 for the EQ. -/
def State.vectorDue (s : State) (fn q slot v coalUs : Nat) : State :=
  let note (x : Msix) : Msix :=
    let at_ := s.now + coalUs * usU
    { x with covers := x.covers ++ [(q, slot)],
             fireAt := some (match x.fireAt with | some a => min a at_ | none => at_) }
  let s := s.modFunc fn fun f => { f with msix := modAt f.msix v note }
  if coalUs = 0 then s.fireVector fn v else s

/-- Entries freed by a head write are signalled no more (R752): a vector that covers nothing else is
no longer due. -/
def State.uncover (s : State) (fn q old new size : Nat) : State :=
  let freed (slot : Nat) : Bool := decide ((slot + size - old) % size < (new + size - old) % size)
  let upd (x : Msix) : Msix :=
    let rest := x.covers.filter fun p => !(p.1 == q && freed p.2)
    { x with covers := rest, fireAt := if rest.isEmpty then none else x.fireAt }
  s.modFunc fn fun f => { f with msix := f.msix.map upd }

/-! Doorbells and heads (R103 to R105). -/

/-- A doorbell or head write ignored under R104, counted, with event 28 first per window. -/
def State.doorbellError (s : State) (fn q : Nat) : State :=
  let s := s.modFunc fn fun f => { f with dbErrors := f.dbErrors + 1 }
  s.raiseWK 28 (fn * 32 + q) 0 (le 1 fn ++ le 1 q)

/-- An SQ whose doorbell is written with an index in range: one that is disabled keeps it until it is enabled (R103). -/
def Sq.ring (i : Nat) (q : Sq) : Sq :=
  if q.enable then { q with dbReg := i, tail := i } else { q with dbReg := i, dbUnread := true }

/-- IW_SQ_DBn written: INDEX announces the entries before it, or is out of range (R103, R104). -/
def State.writeSqDb (s : State) (fn n value : Nat) : State :=
  let q := (s.func fn).sqs.getD n {}
  let i := value % 4096
  if 2 ^ q.sizeLog2 ≤ i then
    let s := s.modFunc fn fun f => { f with sqs := modAt f.sqs n fun (q : Sq) => { q with dbErr := min 255 (q.dbErr + 1) } }
    s.doorbellError fn n
  else s.modFunc fn fun f => { f with sqs := modAt f.sqs n (Sq.ring i) }

/-- IW_CQ_HDn written (R103, R104). -/
def State.writeCqHd (s : State) (fn n value : Nat) : State :=
  let q := (s.func fn).cqs.getD n {}
  let i := value % 4096
  if 2 ^ q.sizeLog2 ≤ i then
    let s := s.modFunc fn fun f => { f with cqs := modAt f.cqs n fun (q : Cq) => { q with dbErr := min 255 (q.dbErr + 1) } }
    s.doorbellError fn (8 + n)
  else
    let s := s.modFunc fn fun f => { f with cqs := modAt f.cqs n fun (q : Cq) => { q with head := i } }
    s.uncover fn n q.head i (2 ^ q.sizeLog2)

/-- IW_EQ_HD written (R103, R104). -/
def State.writeEqHd (s : State) (fn value : Nat) : State :=
  let q := (s.func fn).eq
  let i := value % 4096
  if 2 ^ q.sizeLog2 ≤ i then
    let s := s.modFunc fn fun f => { f with eq := { f.eq with dbErr := min 255 (f.eq.dbErr + 1) } }
    s.doorbellError fn 16
  else
    let s := s.modFunc fn fun f => { f with eq := { f.eq with head := i, fullSince := none } }
    s.uncover fn 8 q.head i (2 ^ q.sizeLog2)

/-- IW_EVT_SUMMARY written: a 1 clears its bit (R723). -/
def State.clearSummary (s : State) (fn value : Nat) : State :=
  s.modFunc fn fun f => { f with summary := f.summary - (f.summary &&& value) }

/-- IW_TIME_CTL written: a 1 in CAPTURE latches DT (R747). -/
def State.captureTime (s : State) (fn value : Nat) : State :=
  if !bit value 0 then s else
  s.modFunc fn fun f => { f with capSec := dtSec s.now, capNs := dtNs s.now, capSeq := (f.capSeq + 1) % 65536 }

/-- SQ_DOORBELL_WRITE: IW_SQ_DBn announces the entries up to INDEX (R103, R104, R105). -/
def execSqDoorbellWrite (t fn n value : Nat) (s : State) : Host.Outcome State Fault Refusal :=
  let s := s.advance t
  .next (if !s.windowOpen fn || decide (8 ≤ n) then s else s.writeSqDb fn n value)

/-- CQ_HEAD_WRITE: IW_CQ_HDn frees the completion entries before INDEX (R103, R104, R132). -/
def execCqHeadWrite (t fn n value : Nat) (s : State) : Host.Outcome State Fault Refusal :=
  let s := s.advance t
  .next (if !s.windowOpen fn || decide (8 ≤ n) then s else s.writeCqHd fn n value)

/-- EQ_HEAD_WRITE: IW_EQ_HD frees the event entries before INDEX (R103, R104, R134). -/
def execEqHeadWrite (t fn value : Nat) (s : State) : Host.Outcome State Fault Refusal :=
  let s := s.advance t
  .next (if !s.windowOpen fn then s else s.writeEqHd fn value)

/-- EVT_SUMMARY_CLEAR: writing 1 clears a bit of IW_EVT_SUMMARY (R723). -/
def execEvtSummaryClear (t fn value : Nat) (s : State) : Host.Outcome State Fault Refusal :=
  let s := s.advance t
  .next (if !s.windowOpen fn then s else s.clearSummary fn value)

/-- TIME_CAPTURE: a write of 1 to CAPTURE latches DT into the function's registers (R747). -/
def execTimeCapture (t fn value : Nat) (s : State) : Host.Outcome State Fault Refusal :=
  let s := s.advance t
  .next (if !s.windowOpen fn then s else s.captureTime fn value)

/-! Q_CTL (Table 24-8, R96, R750). -/

/-- A write to Q_CTL of an SQ. -/
def Sq.writeCtl (q : Sq) (cqOn : Bool) (v : Nat) : Sq :=
  let size := bits v 7 4
  if bit v 0 then
    if q.enable then q
    else if size < 4 || 12 < size || !cqOn then q
    else { q with enable := true, fetchErr := false, sizeLog2 := size, pos := 0,
                  tail := if q.dbUnread then q.dbReg else 0, dbUnread := false,
                  lastId := none, lastSts := none }
  else
    if q.enable then { q with enable := false }
    else { q with sizeLog2 := size }

/-- A write to Q_CTL of a CQ; clearing ENABLE discards the completions waiting. -/
def Cq.writeCtl (q : Cq) (v : Nat) : Cq :=
  let size := bits v 7 4
  let q1 := { q with coalUs := bits v 23 16, irqEn := bit v 12, vector := bits v 11 8 }
  if bit v 0 then
    if q.enable then q1
    else if size < 4 || 12 < size then q
    else { q1 with enable := true, sizeLog2 := size, pos := 0, phase := true }
  else
    if q.enable then { q1 with enable := false, waiting := [] }
    else { q1 with sizeLog2 := size }

/-- A write to Q_CTL of the EQ; clearing ENABLE discards the ordinary events held. -/
def Eq.writeCtl (q : Eq) (v : Nat) : Eq :=
  let size := bits v 7 4
  let q1 := { q with coalUs := bits v 23 16, irqEn := bit v 12, vector := bits v 11 8 }
  if bit v 0 then
    if q.enable then q1
    else if size < 4 || 12 < size then q
    else { q1 with enable := true, sizeLog2 := size, pos := 0, phase := true, fullSince := none }
  else
    if q.enable then { q1 with enable := false, held := [], fullSince := none }
    else { q1 with sizeLog2 := size }

/-- A write to Q_CTL of queue `q` of a function: n for SQ n, 8 + n for CQ n, 16 for the EQ. -/
def State.writeQCtl (s : State) (fn q v : Nat) : State :=
  if q < 8 then
    let on := ((s.func fn).cqs.getD q {}).enable
    s.modFunc fn fun f => { f with sqs := modAt f.sqs q fun k => k.writeCtl on v }
  else if q < 16 then
    s.modFunc fn fun f => { f with cqs := modAt f.cqs (q - 8) fun k => k.writeCtl v }
  else if q = 16 then s.modFunc fn fun f => { f with eq := f.eq.writeCtl v }
  else s

/-- A Q_CTL value with ENABLE as a row names it. -/
def withEnable (v : Nat) (on : Bool) : Nat := v - v % 2 + b2n on

def execSqEnable (t fn n value : Nat) (s : State) : Host.Outcome State Fault Refusal :=
  let s := s.advance t
  .next (if s.windowOpen fn && decide (n < 8) then s.writeQCtl fn n (withEnable value true) else s)

def execSqDisable (t fn n value : Nat) (s : State) : Host.Outcome State Fault Refusal :=
  let s := s.advance t
  .next (if s.windowOpen fn && decide (n < 8) then s.writeQCtl fn n (withEnable value false) else s)

def execCqEnable (t fn n value : Nat) (s : State) : Host.Outcome State Fault Refusal :=
  let s := s.advance t
  .next (if s.windowOpen fn && decide (n < 8) then s.writeQCtl fn (8 + n) (withEnable value true) else s)

def execCqDisable (t fn n value : Nat) (s : State) : Host.Outcome State Fault Refusal :=
  let s := s.advance t
  .next (if s.windowOpen fn && decide (n < 8) then s.writeQCtl fn (8 + n) (withEnable value false) else s)

def execEqEnable (t fn value : Nat) (s : State) : Host.Outcome State Fault Refusal :=
  let s := s.advance t
  .next (if s.windowOpen fn then s.writeQCtl fn 16 (withEnable value true) else s)

def execEqDisable (t fn value : Nat) (s : State) : Host.Outcome State Fault Refusal :=
  let s := s.advance t
  .next (if s.windowOpen fn then s.writeQCtl fn 16 (withEnable value false) else s)

/-- DB_ERR of a queue cleared: n for SQ n, 8 + n for CQ n, 16 for the EQ. -/
def Func.clearDbErr (q : Nat) (f : Func) : Func :=
  if q < 8 then { f with sqs := modAt f.sqs q fun (k : Sq) => { k with dbErr := 0 } }
  else if q < 16 then { f with cqs := modAt f.cqs (q - 8) fun (k : Cq) => { k with dbErr := 0 } }
  else { f with eq := { f.eq with dbErr := 0 } }

/-- Q_STATUS_READ_CLEAR: the read returns Q_STATUS and clears its RC field DB_ERR (R745); one that the function does not take
returns no data (R744). -/
def execQStatusReadClear (t fn q : Nat) (s : State) : Host.Outcome State Fault Refusal :=
  let s := s.advance t
  if !s.windowOpen fn || decide (16 < q) then .next s else
  .next ((s.emit (.regRead (s.barRead fn 0 (0x040C + 32 * q) 4))).modFunc fn (Func.clearDbErr q))

/-- A write to IW_BOOT_CTL (R759): GO clears REJECTED and starts the fetch of the images named, while the
device waits in BOOT for a pushed image. -/
def State.bootGo (s : State) (fn value : Nat) : State :=
  if fn = 0 && bit value 0 && s.sys.mode == .boot && s.sys.bootSrc == 2 then
    { s with host := { s.host with bootGo := true, bootRejected := false } }
  else s

def execBootGo (t fn value : Nat) (s : State) : Host.Outcome State Fault Refusal :=
  let s := s.advance t
  .next (if s.windowOpen fn then s.bootGo fn value else s)

/-- An MSI-X vector unmasked: its pending message is sent (R752). -/
def State.unmaskVector (s : State) (fn v : Nat) : State :=
  let m := (s.func fn).msix.getD v {}
  let s := s.modFunc fn fun f => { f with msix := modAt f.msix v fun (x : Msix) => { x with masked := false } }
  if m.pending then s.fireVector fn v else s

/-- A write to the MSI-X table in BAR2: address, data or the mask bit of a vector (R743, R752). -/
def State.msixWrite (s : State) (fn offset value : Nat) : State :=
  let v := offset / 16
  let put (f : Msix → Msix) : State := s.modFunc fn fun x => { x with msix := modAt x.msix v f }
  if 16 ≤ v then s else
  match offset % 16 with
  | 0 => put fun x => { x with addr := x.addr / 4294967296 * 4294967296 + value }
  | 4 => put fun x => { x with addr := x.addr % 4294967296 + value * 4294967296 }
  | 8 => put fun x => { x with data := value }
  | 12 => if bit value 0 then put fun x => { x with masked := true } else s.unmaskVector fn v
  | _ => s

/-- A ring base address written while the queue is disabled; bits [11:0] are 0 (R95, R750). -/
def State.writeBase (s : State) (fn q : Nat) (f : Nat → Nat) : State :=
  let low (v : Nat) : Nat := f v / 4096 * 4096
  s.modFunc fn fun x =>
    if q < 8 then
      let upd (k : Sq) : Sq := if k.enable then k else { k with base := low k.base }
      { x with sqs := modAt x.sqs q upd }
    else if q < 16 then
      let upd (k : Cq) : Cq := if k.enable then k else { k with base := low k.base }
      { x with cqs := modAt x.cqs (q - 8) upd }
    else { x with eq := if x.eq.enable then x.eq else { x.eq with base := low x.eq.base } }

/-- The lower or upper half of a 64-bit register replaced by a write. -/
def halfWrite (high : Bool) (value old : Nat) : Nat :=
  if high then old % 4294967296 + value % 4294967296 * 4294967296
  else old / 4294967296 * 4294967296 + value % 4294967296

/-- A write to a queue's registers, `o` bytes into their block: its ring base, or Q_CTL (Tables 24-2, 24-8). -/
def State.queueRegWrite (s : State) (fn o value : Nat) : State :=
  match o % 32 with
  | 0 => s.writeBase fn (o / 32) (halfWrite false value)
  | 4 => s.writeBase fn (o / 32) (halfWrite true value)
  | 8 => s.writeQCtl fn (o / 32) value
  | _ => s

/-- A write to one of the operator's boot registers (Table 24-2, R759). -/
def State.bootRegWrite (s : State) (offset value : Nat) : State :=
  match offset with
  | 0x0900 => { s with host := { s.host with bootHub := halfWrite false value s.host.bootHub } }
  | 0x0904 => { s with host := { s.host with bootHub := halfWrite true value s.host.bootHub } }
  | 0x0908 => { s with host := { s.host with bootCluster := halfWrite false value s.host.bootCluster } }
  | 0x090C => { s with host := { s.host with bootCluster := halfWrite true value s.host.bootCluster } }
  | 0x0910 => s.bootGo 0 value
  | _ => s

/-- The 4 bytes of a window at an offset written: the register there acts as its row says; unassigned offsets and read-only
registers ignore it, and so do the operator's registers in a virtual function (R745, R746, Table 24-2). -/
def State.regWrite (s : State) (fn offset value : Nat) : State :=
  if 0x0400 ≤ offset && offset < 0x0400 + 32 * 17 then s.queueRegWrite fn (offset - 0x0400) value
  else if offset = 0x000C then s.clearSummary fn value
  else if offset = 0x0010 then s.captureTime fn value
  else if 0x0100 ≤ offset && offset < 0x0120 then s.writeSqDb fn ((offset - 0x0100) / 4) value
  else if 0x0120 ≤ offset && offset < 0x0140 then s.writeCqHd fn ((offset - 0x0120) / 4) value
  else if offset = 0x0140 then s.writeEqHd fn value
  else if fn ≠ 0 then s
  else s.bootRegWrite offset value

/-- The 4 bytes of a BAR at an offset written (R743). -/
def State.barWrite (s : State) (fn bar offset value : Nat) : State :=
  match bar with
  | 0 => s.regWrite fn offset value
  | 2 => s.msixWrite fn offset value
  | _ => s

/-- REGISTER_WRITE: writes of 4 or 8 bytes at natural alignment reach the registers they cover; others are ignored (R744,
R745). -/
def execRegisterWrite (t fn bar offset size value : Nat) (s : State) : Host.Outcome State Fault Refusal :=
  let s := s.advance t
  if !s.windowOpen fn || offset % size != 0 then .next s else
  match size with
  | 4 => .next (s.barWrite fn bar offset (value % 4294967296))
  | 8 => .next ((s.barWrite fn bar offset (value % 4294967296)).barWrite fn bar (offset + 4) (value / 4294967296 % 4294967296))
  | _ => .next s

def execMsixVectorUnmask (t fn v : Nat) (s : State) : Host.Outcome State Fault Refusal :=
  let s := s.advance t
  .next (if s.windowOpen fn && decide (v < 16) then s.unmaskVector fn v else s)

/-- MSIX_COALESCE_EXPIRY: COAL_US after the first entry not yet signalled, the vector fires (R751). -/
def execMsixCoalesceExpiry (t fn v : Nat) (s : State) : Host.Outcome State Fault Refusal :=
  let s := s.advance t
  let m := (s.func fn).msix.getD v {}
  match m.fireAt with
  | some a =>
    if a ≤ s.now && !m.covers.isEmpty && (m.masked || s.fnMasters fn) then .next (s.fireVector fn v) else .next s
  | none => .next s

/-! PCIe (R99, R738 to R742). -/

/-- What a function-level reset does to a function's queues, masks and vectors (R99, R722, R752).
Completion events are kept (R127). -/
def Func.flr (f : Func) : Func :=
  { f with
    sqs := f.sqs.map fun q => { q with enable := false, fetchErr := false, pos := 0, tail := 0, dbReg := 0,
                                       dbUnread := false, lastId := none, lastSts := none }
    cqs := f.cqs.map fun q => { q with enable := false, pos := 0, phase := false, head := 0, waiting := [] }
    eq := { f.eq with enable := false, pos := 0, phase := false, head := 0, held := [], fullSince := none }
    busMaster := false, memSpace := false, d3 := false, epoch := f.epoch + 1,
    mask := allEventMasks, summary := 0, msix := List.replicate 16 {} }

/-- PCIE_FLR (R99): event 26 reports it. -/
def execPcieFlr (t fn : Nat) (s : State) : Host.Outcome State Fault Refusal :=
  let s := s.advance t
  if !s.fnExists fn then .next s else
  let s := s.modFunc fn Func.flr
  let s := { s with host := { s.host with pcie := { s.host.pcie with flrs := s.host.pcie.flrs + 1 } } }
  .next (s.raise 26 0 (le 1 fn))

/-- The functions that stop existing act as under a function-level reset (R739). -/
def State.setVfs (s : State) (enable : Bool) (num : Nat) : State :=
  let before := s
  let s := { s with host := { s.host with pcie := { s.host.pcie with vfEnable := enable, numVfs := num } } }
  (List.range 64).foldl (fun s fn =>
    if before.fnExists fn && !s.fnExists fn then s.modFunc fn Func.flr else s) s

/-- VF_CONFIG_CHANGE (R739): event 27 at every change. -/
def execVfConfigChange (t : Nat) (enable : Bool) (num : Nat) (s : State) : Host.Outcome State Fault Refusal :=
  let s := s.advance t
  let p := s.host.pcie
  if p.vfEnable = enable && p.numVfs = min num 63 then .next s else
  let s := s.setVfs enable (min num 63)
  .next (s.raise 27 0 (le 1 (min num 63) ++ le 1 (b2n enable)))

/-- PCIE_LINK_RESET (R741): every function is reset, and VF Enable and NumVFs are cleared, with event 27 where that changes
them. -/
def execPcieLinkReset (t : Nat) (s : State) : Host.Outcome State Fault Refusal :=
  let s := s.advance t
  let changed := s.host.pcie.vfEnable || s.host.pcie.numVfs != 0
  let s := { s with host := { s.host with
    funcs := s.host.funcs.map Func.flr,
    pcie := { s.host.pcie with up := false, gen := 0, vfEnable := false, numVfs := 0,
                               linkDowns := s.host.pcie.linkDowns + 1 } } }
  .next (if changed then s.raise 27 0 (le 1 0 ++ le 1 0) else s)

/-- PCIE_LINK_UP (R741): event 24 on every training and on a change of speed or width. -/
def execPcieLinkUp (t gen width : Nat) (s : State) : Host.Outcome State Fault Refusal :=
  let s := s.advance t
  let s := { s with host := { s.host with pcie := { s.host.pcie with up := true, gen := gen, width := width } } }
  .next (s.raise 24 0 (le 1 gen ++ le 1 width))

/-- BUS_MASTER_CHANGE (R740): Bus Master Enable, Memory Space Enable and power state of a function. -/
def execBusMasterChange (t fn : Nat) (busMaster memSpace d3 : Bool) (s : State) :
    Host.Outcome State Fault Refusal :=
  let s := s.advance t
  if !s.fnExists fn then .next s else
  .next (((s.modFunc fn fun f => { f with busMaster := busMaster, memSpace := memSpace, d3 := d3 }).trimHeld fn).sendPending fn)

/-! Commands of file 24. -/

def bodyTenantHostSet : Body := fun _ c s =>
  if !(c.rng 0 1 0 63 && c.rng 1 1 0 7 && c.zero 2 2 && c.rng0 4 4 1 60000) then .fail s stBadParam else
  .ok (s.modFunc (c.u 0 1) fun f => { f with topLevel := c.u 1 1, waitLimitMs := c.dflt 4 4 1000 })

def bodyTenantHostQuery : Body := fun _ c s =>
  let t := c.u 0 1
  if !(c.rng 0 1 0 63 && c.zero 1 3) then .fail s stBadParam else
  if c.fn ≠ 0 && t ≠ c.fn then .fail s stNotPermitted else
  let f := s.func t
  .ok s (le 1 f.topLevel ++ le 1 (b2n (s.fnExists t)) ++ zeros 2 ++ le 4 f.waitLimitMs ++
    le 4 f.dbErrors ++ zeros 4)

/-- HOST_LINK_QUERY (Table 24-15). -/
def bodyHostLinkQuery : Body := fun _ _ s =>
  let p := s.host.pcie
  .ok s (le 1 p.gen ++ le 1 p.width ++ le 1 (if p.vfEnable then p.numVfs else 0) ++ zeros 1 ++
    le 4 p.correctable ++ le 4 p.nonfatal ++ le 4 p.fatal ++ le 4 p.linkDowns ++ le 4 p.flrs ++ zeros 8)

def stLoopbackBusy : Nat := 0x9500

/-- A loopback test begun on a physical port, whose link goes down (R762). -/
def State.loopbackBegin (s : State) (whom : ReplyTo) (c : Cmd) : State :=
  let r := s.startLong whom 29 0
  let job := (r.1, c.u 1 1, r.2.now + c.u 2 2 * msU)
  let s := r.2
  { s with host := { s.host with pcie := { s.host.pcie with loopback := tset s.host.pcie.loopback (c.u 0 1) job } } }.linksLost
    (c.u 0 1)

/-- DIAG_LOOPBACK: the port's link is taken down for the test (R762, Table 24-14). -/
def bodyDiagLoopback : Body := fun whom c s =>
  let p := c.u 0 1
  if !(c.rng 0 1 0 1 && c.rng 1 1 1 2 && c.rng 2 2 1 10000 && c.zero 4 4) then .fail s stBadParam else
  if (tget s.host.pcie.loopback p).isSome then .fail s stLoopbackBusy else
  .accepted (s.loopbackBegin whom c)

/-- LOOPBACK_DONE: event 29 with the frames sent and those in error (R762). -/
def execLoopbackDone (t phys frames errors : Nat) (s : State) : Host.Outcome State Fault Refusal :=
  let s := s.advance t
  match tget s.host.pcie.loopback phys with
  | none => .next s
  | some (id, _, end_) =>
    if s.now < end_ then .next s else
    let s := { s with host := { s.host with pcie :=
      { s.host.pcie with loopback := tdel s.host.pcie.loopback phys } } }
    .next (s.finishLong id stDone (le 4 frames ++ le 4 errors))

def bodyMgmtSet : Body := fun _ c s =>
  if !c.zero 1 3 then .fail s stBadParam else
  .ok ({ s with host := { s.host with mgmt := { s.host.mgmt with alertMask := c.u 0 1 } } })

def execTenantHostSet (c : Cmd) (s : State) := runBelex 0x1500 bodyTenantHostSet c s
def execTenantHostQuery (c : Cmd) (s : State) := runBelex 0x1501 bodyTenantHostQuery c s
def execHostLinkQuery (c : Cmd) (s : State) := runBelex 0x1510 bodyHostLinkQuery c s
def execDiagLoopback (c : Cmd) (s : State) := runBelex 0x1520 bodyDiagLoopback c s
def execMgmtSet (c : Cmd) (s : State) := runBelex 0x1530 bodyMgmtSet c s

end Sys2Proof.Machine
end

