-- ==== Sys2Proof/Machine/Record.lean ====
section
/-! DEFINITION. The Nguphor record: commit, seals, reading and export, and the event masks (file 23 of
spec/, R722 to R732). -/

namespace Sys2Proof.Machine

def stRecordBusy : Nat := 0x9400
def stTokenInvalid : Nat := 0x9401
def stRangeInvalid : Nat := 0x9402

/-- The DT field of a record entry (Table 23-2). -/
def recDt (t : Nat) : Nat := dtSec t % 2 ^ 34 * 2 ^ 30 + dtNs t

/-- The sequence number of the next entry (R724). -/
def RecordState.nextSeq (r : RecordState) : Nat :=
  match r.newest with | none => 0 | some n => (n + 1) % 4294967296

/-- The slot that an entry with a sequence number goes to (R724). -/
def RecordState.slotOf (r : RecordState) (seq : Nat) : Nat :=
  if r.firstFault < 256 then r.firstFault
  else 256 + (seq + 4294967296 - r.ringStart.getD seq) % 4294967296 % 65280

/-- How many entries lie between two sequence numbers, both included, modulo 2^32. -/
def seqSpan (a b : Nat) : Nat := (b + 4294967296 - a) % 4294967296 + 1

/-- The entries held with sequence numbers from `a` to `b`, in order (R731). -/
def RecordState.range (r : RecordState) (a b : Nat) : List RecSlot :=
  let age (x : RecSlot) : Nat := seqSpan a x.seq
  sortBy (fun x y => decide (age x < age y))
    ((r.slots.map fun p => p.2).filter fun x => decide (age x ≤ seqSpan a b))

/-- The oldest entry held in the slots from one on. -/
def RecordState.oldestFrom (r : RecordState) (slot : Nat) : Option Nat :=
  match r.newest with
  | none => none
  | some n => ((r.slots.filter fun p => decide (slot ≤ p.1)).foldl (fun (m : Nat × Nat) p =>
      let a := seqSpan p.2.seq n
      if m.1 < a then (a, p.2.seq) else m) (0, n)).2

/-- The oldest entry held. -/
def RecordState.oldest (r : RecordState) : Option Nat := r.oldestFrom 0

/-- The newest entry that can be read: the one that a scan of the slots finds (R730). -/
def RecordState.newestGood (r : RecordState) : Option Nat :=
  match r.newest with
  | none => none
  | some n =>
    let good := (r.slots.filter fun p => p.2.readable).map fun p => p.2.seq
    (sortBy (fun a b => decide (seqSpan a n < seqSpan b n)) good).head?

/-- The record as a head names it: what was written beyond that entry is ignored (R728). -/
def RecordState.headAt (r : RecordState) (head : Option Nat) : RecordState :=
  let keep (p : Nat × RecSlot) : Bool := match head, r.newest with
    | some h, some n => decide (seqSpan h n ≤ seqSpan p.2.seq n)
    | _, _ => false
  let slots := r.slots.filter keep
  let since (a : Nat) : Nat := seqSpan a (head.getD 0)
  let seals := (slots.filter fun p => p.2.kind == 1 || p.2.kind == 2).map fun p => p.2.seq
  { r with
    slots := slots, newest := if slots.isEmpty then none else head
    firstFault := countOf slots fun p => decide (p.1 < 256)
    ringStart := if slots.any fun p => decide (256 ≤ p.1) then r.ringStart else none
    prevSeal := (sortBy (fun a b => decide (since a < since b)) seals).head? }

/-- The DIGEST of a seal: the leading 24 bytes of SHA-384 over the MAC fields of the entries after the
previous seal and before this one (Table 23-3). -/
def RecordState.digest (r : RecordState) : List Byte :=
  match r.newest with
  | none => (be 48 (Config.sha384 []).toNat).take 24
  | some n =>
    let from_ := match r.prevSeal with | some p => (p + 1) % 4294967296 | none => 0
    let l := if r.prevSeal = some n then [] else r.range from_ n
    (be 48 (Config.sha384 (l.flatMap fun x => x.bytes.drop 56)).toNat).take 24

/-- The DETAIL of an entry as it is committed: of a seal and of a power-down entry, Table 23-3. -/
def recDetail (s : State) (e : RecEntry) : List Byte :=
  if e.kind = 1 || e.kind = 2 then
    le 4 (s.rcd.prevSeal.getD 0) ++ le 4 s.rcd.optDroppedSeal ++ le 4 s.trust.bootCount ++ zeros 4 ++ s.rcd.digest
  else padTo 40 e.detail

/-- The 64 bytes of an entry (Table 23-2). -/
def recBytes (s : State) (e : RecEntry) (seq : Nat) : List Byte :=
  let b := le 4 seq ++ le 8 (recDt e.dt) ++ le 1 s.sys.mode.code ++ le 1 e.kind ++ le 2 e.src ++ recDetail s e
  b ++ be 8 (Config.recordMac b).toNat

/-- A seal entry put into the queue (R726). Causes as in event 312. -/
def State.recordSeal (s : State) (cause : Nat) (reply : Option ReplyTo := none) : State :=
  s.recordPut ⟨1, 0, s.now, le 1 cause, true, false, reply⟩

/-- One entry committed: its slot, then the head record (R724, R726, R727). -/
def State.commitEntry (s : State) (e : RecEntry) : State :=
  let r := s.rcd
  let seq := r.nextSeq
  let slot := r.slotOf seq
  let ring := decide (256 ≤ slot)
  let start := if ring then some (r.ringStart.getD seq) else r.ringStart
  let wraps := ring && r.ringStart.isSome && slot == 256
  let isSeal := e.kind == 1 || e.kind == 2
  let bytes := recBytes s e seq
  let r' : RecordState := { r with
    slots := tset r.slots slot ⟨seq, e.kind, e.dt, bytes, true⟩
    newest := some seq, firstFault := if ring then r.firstFault else r.firstFault + 1
    ringStart := start, headCopy := !r.headCopy, torn := false
    prevSeal := if isSeal then some seq else r.prevSeal
    optDroppedSeal := if isSeal then 0 else r.optDroppedSeal
    sinceSeal := if isSeal then 0 else r.sinceSeal + 1
    lastSealDt := if isSeal then e.dt else r.lastSealDt }
  let s := { s with rcd := r' }
  let s := if slot = 255 then s.raise 306 0 (le 4 seq) else s
  let s := if wraps then s.raise 305 0 (le 4 ((r'.oldestFrom 256).getD 0)) else s
  let s := if e.kind = 1 then s.raise 312 0 (le 4 seq ++ e.detail.take 1) else s
  let s := match e.reply with | some whom => s.complete whom stDone (le 4 seq) | none => s
  if r'.sinceSeal = 4096 then s.recordSeal 1 else s

/-- The oldest queued entry committed; nothing happens on an empty queue. -/
def State.commitNext (s : State) : State :=
  match s.rcd.queue with
  | [] => s
  | e :: rest => { s with rcd := { s.rcd with queue := rest } }.commitEntry e

/-- The queue flushed, entry by entry: every entry queued now (R693, R729). -/
def State.flushRecord (s : State) : State :=
  (List.range s.rcd.queue.length).foldl (fun s _ => s.commitNext) s

/-- RECORD_COMMIT: the two phases of one entry, whole (R727). -/
def execRecordCommit (t : Nat) (s : State) : Host.Outcome State Fault Refusal :=
  .next (s.advance t).commitNext

/-! Corrections in MRAM (R730). -/

/-- Words corrected in the record: event 310 when the corrections of a window reach 64. -/
def State.recordCorrected (s : State) (n : Nat) : State :=
  (List.range n).foldl (fun s _ => s.raiseAt 310 0 64) s

/-- Slots found uncorrectable: their entries become unreadable, with event 311. -/
def State.recordUncorrectable (s : State) (slots : List Nat) : State :=
  slots.foldl (fun s k =>
    match tget s.rcd.slots k with
    | none => s
    | some x =>
      if !x.readable then s else
      let s := { s with rcd := { s.rcd with
        slots := tset s.rcd.slots k { x with readable := false }, badFound := s.rcd.badFound + 1 } }
      s.raiseRec 311 0 (le 2 k ++ le 4 x.seq)) s

/-! Export (R731, R732). -/

/-- An entry as exported: KIND[7] set when it is unreadable or its MAC fails. -/
def exportBytes (x : RecSlot) (bad : Bool) : List Byte :=
  if bad then setAt x.bytes 13 (BitVec.ofNat 8 (x.kind + 128)) else x.bytes

/-- The trailer of Table 23-4. -/
def exportTrailer (s : State) (j : ExportJob) (l : List RecSlot) (bad : Nat) (lost : Bool)
    (data : List Byte) (nonce : Nat) : List Byte :=
  let first := match l with | x :: _ => x.seq | [] => j.first
  let b := le 4 0x4C525A45 ++ le 2 1 ++ le 2 (b2n lost) ++ le 4 first ++ le 4 l.length ++ le 4 bad ++
    le 4 iwId ++ le 4 s.trust.bootCount ++ le 8 (recDt s.now) ++ padTo 32 j.nonce ++
    be 48 (Config.sha384 data).toNat ++ zeros 12
  b ++ be 96 (Config.idSignature nonce b).toNat

/-- The end of an export: what its reading found, the entries and their trailer in host memory, and the completion
(R730 to R732). -/
def State.exportEnd (s : State) (j : ExportJob) (corrected : Nat) (unreadable failing : List Nat) : State :=
  let s := (s.recordCorrected corrected).recordUncorrectable unreadable
  let s := { s with rcd := { s.rcd with exporting := none } }
  let l := s.rcd.range j.first j.last
  let isBad (x : RecSlot) : Bool := !x.readable ||
    failing.any fun k => match tget s.rcd.slots k with | some y => y.seq == x.seq | none => false
  let s := l.foldl (fun s x => if x.readable && isBad x then
      { s with rcd := { s.rcd with badFound := s.rcd.badFound + 1 } }.raiseW 308 0 (le 4 x.seq) else s) s
  let bad := countOf l isBad
  let lost := decide (l.length < seqSpan j.first j.last)
  if j.len < 64 * l.length + 224 then s.finishLong j.id stBadParam [] else
  let data := l.flatMap fun x => exportBytes x (isBad x)
  let (n, s) := s.free
  let s := s.emit (.hostWrite j.addr (data ++ exportTrailer s j l bad lost data n))
  s.finishLong j.id (if lost then stWarn else stDone) (le 4 l.length ++ le 4 bad)

/-- RECORD_EXPORTED: the export ends with completion event 304. `corrected` is the number of words
corrected in reading, `unreadable` and `failing` the slots found uncorrectable and those whose MAC fails. -/
def execRecordExported (t corrected : Nat) (unreadable failing : List Nat) (s : State) :
    Host.Outcome State Fault Refusal :=
  let s := s.advance t
  match s.rcd.exporting with
  | none => .next s
  | some j =>
    .next (s.exportEnd j corrected unreadable failing)

/-! Commands. -/

/-- EVT_MASK_SET (R722): a bit set for a reserved index gives BAD_PARAM. -/
def bodyEvtMaskSet : Body := fun _ c s =>
  let g := c.u 0 1
  if !(c.rng 0 1 0 9 && c.zero 1 3 && c.mask 4 4 (allEventMasks.getD g 0)) then .fail s stBadParam else
  .ok (s.modFunc c.fn fun f => { f with mask := setAt f.mask g (c.u 4 4) })

def bodyEvtMaskQuery : Body := fun _ c s => .ok s ((s.func c.fn).mask.flatMap (le 4))

/-- RECORD_SET (R725). -/
def bodyRecordSet : Body := fun _ c s =>
  let ok := (List.range 10).all fun g => c.mask (4 * g) 4 (allEventMasks.getD g 0)
  if !(ok && (c.rng 40 2 0 1000 || c.u 40 2 == 0xFFFF) && c.zero 42 6) then .fail s stBadParam else
  .ok { s with rcd := { s.rcd with
    mask := (List.range 10).map fun g => c.u (4 * g) 4, rate := if c.u 40 2 = 0xFFFF then 100 else c.u 40 2 } }

/-- The state of a field return (RECORD_QUERY). -/
def State.returnState (s : State) : Nat :=
  if s.sys.mode = .fieldReturn then (if s.rcd.session then 3 else 2) else if s.rcd.armed then 1 else 0

def bodyRecordQuery : Body := fun _ _ s =>
  let r := s.rcd
  let slot0 := match tget r.slots 0 with | some x => x.seq | none => 0
  .ok s (le 4 (r.newest.getD 0) ++ le 4 slot0 ++ le 2 r.firstFault ++ le 1 s.returnState ++ zeros 1 ++
    le 4 r.optDropped ++ le 4 r.badFound ++ le 2 r.rate ++ zeros 2 ++ le 8 (recDt r.lastSealDt))

/-- Whether a sequence number names an entry held. -/
def RecordState.holds (r : RecordState) (seq : Nat) : Bool := r.slots.any fun p => p.2.seq == seq

/-- RECORD_READ (R731): entries as stored; fewer when fewer follow FIRST_SEQ. -/
def bodyRecordRead : Body := fun _ c s =>
  let a := c.u 0 4
  if !(c.rng 4 2 1 63 && c.zero 6 2) then .fail s stBadParam else
  if !s.rcd.holds a then .fail s stRangeInvalid else
  let l := (s.rcd.range a (s.rcd.newest.getD a)).take (c.u 4 2)
  .ok s (l.flatMap fun x => x.bytes)

/-- The first entry of an export: the oldest, or the one named if it is held. -/
def State.exportFirst (s : State) (c : Cmd) : Option Nat :=
  if c.flag 8 4 31 then s.rcd.oldest else if s.rcd.holds (c.u 12 4) then some (c.u 12 4) else none

/-- An export of the entries from `a` to `b` begun. -/
def State.exportBegin (s : State) (whom : ReplyTo) (c : Cmd) (a b : Nat) : State :=
  let r := s.startLong whom 304 0
  let job : ExportJob := ⟨r.1, a, b, c.u 0 8, c.u 8 4 % 8388608, c.bytes 16 32⟩
  { r.2 with rcd := { r.2.rcd with exporting := some job } }

/-- RECORD_EXPORT: long-running; its range is fixed now (R731). -/
def bodyRecordExport : Body := fun whom c s =>
  let r := s.rcd
  if !(c.u 0 8 % 64 == 0 && c.mask 8 4 0x807FFFFF) then .fail s stBadParam else
  if r.exporting.isSome then .fail s stRecordBusy else
  match s.exportFirst c, r.newest with
  | some a, some b =>
    .accepted (s.exportBegin whom c a b)
  | _, _ => .fail s stRangeInvalid

/-- RECORD_SEAL (R726): it replies with the SEQ of its seal once that is committed. -/
def bodyRecordSeal : Body := fun whom _ s => .wait (s.recordSeal 2 (some whom))

def execEvtMaskSet (c : Cmd) (s : State) := runBelex 0x1400 bodyEvtMaskSet c s
def execEvtMaskQuery (c : Cmd) (s : State) := runBelex 0x1401 bodyEvtMaskQuery c s
def execRecordSet (c : Cmd) (s : State) := runBelex 0x1410 bodyRecordSet c s
def execRecordQuery (c : Cmd) (s : State) := runBelex 0x1411 bodyRecordQuery c s
def execRecordRead (c : Cmd) (s : State) := runBelex 0x1412 bodyRecordRead c s
def execRecordExport (c : Cmd) (s : State) := runBelex 0x1413 bodyRecordExport c s
def execRecordSeal (c : Cmd) (s : State) := runBelex 0x1414 bodyRecordSeal c s

end Sys2Proof.Machine
end

