-- ==== Sys2Proof/Machine/Tamper.lean ====
section
/-! DEFINITION. Tamper detections and their responses (file 18 of spec/, R631 to R636), and the JTAG port (R760). -/

namespace Sys2Proof.Machine

/-- A key handle that names no entry of the key store: what a leg names once its key is erased. -/
def noKey : Nat := mkHandle 13 0xFFFFFFF

/-- Whether a frame has been protected under a key. -/
def srtpFrame : EthBody → Bool
  | .ip _ _ _ _ _ _ (.udp _ _ _ _ (.rtp _)) => true
  | .ip _ _ _ _ _ _ (.udp _ _ _ _ (.rtcp _)) => true
  | _ => false

/-- Packets encrypted under erased keys, and packets whose keys are gone, leave the cipher cluster and the egress
queues; ingress packets without a verdict leave their rings (R631). -/
def State.dropCipherWork (s : State) : State :=
  let keep (f : TxFrame) : Bool := !srtpFrame f.body
  let gone := s.legs.map fun p => (p.1, p.2.egr.lanes.flatten.filter fun f => srtpFrame f.body)
  let lane (l : Leg) : Leg := { l with egr := { l.egr with lanes := l.egr.lanes.map fun q => q.filter keep } }
  let ring (r : Ring) : Ring := { r with entries := r.entries.filter fun e => e.committed }
  gone.foldl (fun (s : State) q => s.dropFrames q.1 q.2) { s with
    legs := tmap s.legs fun _ l => lane l
    net := { s.net with
      ready := s.net.ready.filter fun f => !srtpFrame f.body
      pipes := s.net.pipes.map fun (p : Pipeline) => { p with rings := p.rings.map ring } }
    cip := { s.cip with slots := [], inQ := [], outQ := [], olds := [], backSince := none } }

/-- What T1 and T2 erase (Table 18-7): the context wrap key, which is drawn again in a new generation (R642), clear
contexts, DTLS session state, SRTP master keys and the key store. Live legs that use keys enter CONNECTING with their hold
mask kept; their number is returned. -/
def State.eraseSession (s : State) (cls : Nat) : Nat × State :=
  let hit (l : Leg) : Bool := (l.state == .active || l.state == .held) && l.typ != .port
  let n := countOf s.legs fun p => hit p.2
  let leg (l : Leg) : Leg := { l with
    state := if hit l then .connecting else l.state
    connectFrom := if hit l then s.now else l.connectFrom
    typeObj := if l.hostKeyed then noKey else l.typeObj
    dtls := { l.dtls with running := false, session := none } }
  let s := { s with legs := tmap s.legs fun _ l => leg l }.dropCipherWork
  let s := s.modTrust fun r => { r with keys := [] }
  let gen := (s.cip.gen + 1) % 65536
  let s := { s with cip := { s.cip with gen := gen } }
  (n, s.raise 62 0 (le 2 gen ++ le 1 cls))

/-- An update abandoned by a tamper response (R634). -/
def State.dropUpdate (s : State) (sts : Nat) : State :=
  let job (s : State) (j : Option ImageJob) : State :=
    match j with | some x => s.finishLong x.id sts [] | none => s
  let w := s.units.writing
  let a := s.units.activating
  let s := { s with units := { s.units.endActivation with writing := none } }
  job (job s w) a

/-- The record entry of a detection (R632). -/
def State.recordDetection (s : State) (sensor cls sec : Nat) : State :=
  s.recordPut ⟨0, 32 + cls, s.now, eventDetail s 0 0 (le 1 sensor ++ le 4 sec) false, true, true, none⟩

/-- Whether a response of class T2 takes the device into LOCKDOWN. -/
def State.locksDown (s : State) : Bool :=
  match s.sys.mode with | .off | .keepalive | .init | .lockdown | .fieldReturn => false | _ => true

/-- The response of a class to a detection (Table 18-7), with its event, which its record entry carries. An update ends with
WRONG_MODE where the response changes the mode (R114), else with UPDATE_FAILED. -/
def State.respond (s : State) (sensor cls : Nat) : State :=
  let sec := dtSec s.now
  let s := (s.modTrust fun r => { r with response := some (cls, s.now) }).dropUpdate (if cls = 2 && s.locksDown then stWrongMode else 0x9307)
  let s := s.latchAlert 2
  match cls with
  | 0 =>
    let s := s.modTrust fun r => { r with t0 := r.t0 + 1, t0Boot := true }
    s.raiseRec 32 0 (le 1 sensor ++ le 4 sec) false true
  | 1 =>
    let (n, s) := s.eraseSession 1
    let s := s.modTrust fun r => { r with t1 := r.t1 + 1, t1Boot := true }
    let s := s.raiseRec 33 0 (le 1 sensor ++ le 4 n) false true
    s.legs.foldl (fun (s : State) p => if p.2.state = .connecting then s.clientStart p.1 else s) s
  | _ =>
    let (_, s) := s.eraseSession 2
    let s := s.modTrust fun r => { r.unenrol with t2 := r.t2 + 1, lockSensor := sensor,
                                                  meshLatch := r.meshLatch || sensor == 0 }
    let s := { s with mem := { s.mem with keys := [] } }
    let s := s.raiseRec 34 0 (le 1 sensor ++ le 4 sec) false true
    if s.locksDown then s.haltInto .lockdown 3
    else if s.sys.mode = .init then s.modTrust fun r => { r with lockdownHeld := true }
    else s

/-- The class of the response in progress, if one is (R632): a T0 response lasts until its record entry is committed,
at most 1 ms; the others 20 µs. -/
def State.responding (s : State) : Option Nat :=
  match s.trust.response with
  | none => none
  | some (cls, t) =>
    if cls = 0 then
      if decide (s.now < t + msU) && (s.rcd.queue.any fun e => e.tamper && e.src == 32 && e.dt == t) then some 0 else none
    else if s.now < t + 20 * usU then some cls else none

/-- A group of detections (R632): sensors, the first one first. The highest class of the group responds, by its first
detection, unless a response of that class or a higher one is in progress. Each other detection adds its record entry. -/
def State.detect (s : State) (sensors : List Nat) : State :=
  let dets := sensors.map fun k => (k, s.trust.classes.getD k 0)
  let top := dets.foldl (fun m d => max m d.2) 0
  let runs := match s.responding with | some c => decide (c < top) | none => true
  let chief := if runs then dets.findIdx? fun d => d.2 == top else none
  (dets.zipIdx).foldl (fun (s : State) (d : (Nat × Nat) × Nat) =>
    if some d.2 == chief then s.respond d.1.1 d.1.2 else s.recordDetection d.1.1 d.1.2 (dtSec s.now)) s

/-- TAMPER_DETECT: the detections of one group: the first sensor, and further ones with their distance from the first,
less than 1 µs; `active` has the bit of each sensor asserted now. Nothing is watched by this row while main power is off. -/
def execTamperDetect (t sensor : Nat) (more : List (Nat × Nat)) (active : Nat) (s : State) :
    Host.Outcome State Fault Refusal :=
  let s := s.advance t
  if s.sys.mode.code < 2 || 8 ≤ sensor then .next s else
  let rest := (more.filter fun d => decide (d.1 < 8) && decide (d.2 < usU)).map fun d => d.1
  let s := s.modTrust fun r => { r with active := active % 256 }
  .next (s.detect (sensor :: rest))

/-- TAMPER_WHILE_OFF: a detection of a sensor watched on VBAT is latched with its DT and its class (R633). -/
def execTamperWhileOff (t sensor : Nat) (s : State) : Host.Outcome State Fault Refusal :=
  let s := s.advance t
  if s.sys.mode ≠ .keepalive || !s.sys.vbat || !(sensor == 0 || sensor == 1 || sensor == 4) then .next s else
  let x : Latched := ⟨sensor, s.trust.classes.getD sensor 0, dtSec s.now⟩
  .next (s.modTrust fun r => { r with latched := r.latched ++ [x] })

/-- The latch read at power-up, before any key is unwrapped (R633): every latched detection is recorded and raises event
36; a T2 erases what Table 18-7 says. -/
def State.readLatch (s : State) : State :=
  let l := s.trust.latched
  let s := s.modTrust fun r => { r with latched := [] }
  l.foldl (fun (s : State) x =>
    let s := s.raiseRec 36 0 (le 1 x.sensor ++ le 1 x.cls ++ le 4 x.sec) false true
    if x.cls < 2 then s else
    let s := s.modTrust fun r => { r.unenrol with t2 := r.t2 + 1, lockSensor := x.sensor,
                                                  meshLatch := r.meshLatch || x.sensor == 0 }
    { s with sys := { s.sys with latchT2 := some (s.sys.latchT2.getD (x.sensor, x.sec)) } }) s

/-- JTAG_INSTRUCTION_SELECT (R760): 0 BYPASS, 1 IDCODE, 2 SAMPLE/PRELOAD, 3 EXTEST; any other is a detection of sensor 7
and acts as BYPASS. EXTEST takes the pins only while RESET_N is low (R761). -/
def execJtagInstructionSelect (t ins : Nat) (s : State) : Host.Outcome State Fault Refusal :=
  let s := s.advance t
  let acts := if ins = 3 && s.sys.resetN then 0 else if ins < 4 then ins else 0
  let s := { s with host := { s.host with mgmt := { s.host.mgmt with jtag := acts } } }
  if ins < 4 || s.sys.mode.code < 2 then .next s else .next (s.detect [7])

/-- The data register that the JTAG instruction in force selects, where the spec gives it: IDCODE in 32 bits, BYPASS in one.
The boundary register's cells are the balls', which the spec does not order (R760). -/
def State.jtagData (s : State) : Option (Nat × Nat) :=
  match s.host.mgmt.jtag with | 0 => some (1, 0) | 1 => some (32, 0x29740A6F) | _ => none

end Sys2Proof.Machine
end

