-- ==== Sys2Proof/Machine/Power.lean ====
section
/-! DEFINITION. Operating modes, power and start-up (file 21 of spec/, R681 to R700), the supplies (R765, R771) and the die
links (R36 to R38). -/

namespace Sys2Proof.Machine

def stModeBusy : Nat := 0x8000
def stTransitionInvalid : Nat := 0x8001
def stFaultLatched : Nat := 0x8002

def State.modSys (s : State) (f : SysState → SysState) : State := { s with sys := f s.sys }

/-! Shedding. -/

/-- Load shed, and resumed, by the change from what was shed before. -/
def State.applyShed (before : Bool × Bool × Bool) (s : State) : State :=
  let now := s.shedNow
  let on (p : Nat) : Bool := shedPrio now p && !shedPrio before p
  let off (p : Nat) : Bool := !shedPrio now p && shedPrio before p
  let s := if now.1 && !before.1 || now.2.1 && !before.2.1 then (s.encShed on).decShed on else s
  let s := if now.2.1 && !before.2.1 then s.canvasShed.tileShed.spliceShed else s
  let s := if now.2.2 && !before.2.2 then s.fwdShed else s
  let s := if before.1 && !now.1 || before.2.1 && !now.2.1 then (s.decResume off).encResume off else s
  let s := if before.2.1 && !now.2.1 then s.canvasResume.tileResume.spliceResume else s
  if before.2.2 && !now.2.2 then s.fwdResume else s

/-! Power-down and reset (R691, R692). -/

/-- What outlasts main power: the record, the vault MRAM and the always-on domain, the boot flash, the board's pins, and the
commands, trace and counter of the model. Every other part of the device is as after reset. -/
def State.cold (s : State) : State :=
  let r := s.rcd
  let v := s.trust
  { State.reset with
    pending := s.pending, out := s.out, fresh := s.fresh
    time := { dt := s.time.dt, vbatSeconds := dtSec s.time.dt }
    sys := {
      mode := s.sys.mode, prev := s.sys.prev, cause := s.sys.cause, modeDt := s.sys.modeDt, mbAddr := s.sys.mbAddr,
      pinMbAddr := s.sys.pinMbAddr, pinBootSrc := s.sys.pinBootSrc, pinRefclk := s.sys.pinRefclk,
      slotNext := s.sys.slotNext, prevFault := s.sys.faultWord, pwrgd := s.sys.pwrgd, pwrgdDt := s.sys.pwrgdDt, resetN := s.sys.resetN,
      pfwN := s.sys.pfwN, vbat := s.sys.vbat, devReset := s.sys.devReset, exitScope := s.sys.exitScope }
    rcd := {
      slots := r.slots, newest := r.newest, firstFault := r.firstFault, ringStart := r.ringStart,
      headCopy := r.headCopy, torn := r.torn, prevSeal := r.prevSeal, sinceSeal := r.sinceSeal,
      lastSealDt := r.lastSealDt, optDroppedSeal := r.optDroppedSeal, armed := r.armed }
    trust := {
      groupId := if v.provisioned then v.groupId else zeros 16, kernelKey := if v.provisioned then v.kernelKey else none,
      provisioned := v.provisioned, provisionCount := v.provisionCount, bootCount := v.bootCount,
      approved := v.approved, dtls := v.dtls, classes := v.classes, t0 := v.t0, t1 := v.t1, t2 := v.t2,
      latched := v.latched, lockdownHeld := v.lockdownHeld, meshLatch := v.meshLatch, ctrHub := v.ctrHub,
      ctrCluster := v.ctrCluster, vbatMv := v.vbatMv, vbatLoss := v.vbatLoss }
    units := { State.reset.units with held := s.units.held.filter fun p => decide (p.1 < 4) } }

/-- The record at a power-down (R729): the queue is discarded and counted, but for an entry in progress, which is whole
when the hold-up lasts 2 ms (R33), and with a shorter one when `whole`; the power-down entry is committed in the same way, or
when `down`. A slot half written is left behind otherwise (R728). -/
def State.recordDown (s : State) (inProgress whole down : Bool) : State :=
  let q := s.rcd.queue
  let lost := if inProgress then q.length - 1 else q.length
  let first := if inProgress then q.head? else none
  let s := { s with rcd := { s.rcd with queue := [], optDroppedSeal := s.rcd.optDroppedSeal + lost } }
  let enough := decide (2000 ≤ s.sys.holdupUs)
  let s := match first with
    | some e => if whole || enough then s.commitEntry e else { s with rcd := { s.rcd with torn := true } }
    | none => s
  if down || enough then s.commitEntry ⟨2, 0, s.now, [], true, false, none⟩ else s

/-- The steps of Table 21-5: the record, then everything that does not outlast main power is gone. -/
def State.powerDown (s : State) (inProgress whole down : Bool) : State := (s.recordDown inProgress whole down).cold

/-- The always-on domain lost with VBAT: what it counts starts again, and its latch is void (R633, R771). -/
def State.vbatGone (s : State) : State :=
  { s with trust := { s.trust with vbatLoss := true, latched := [] }, time := { s.time with vbatSeconds := 0 } }

/-- Main power gone (R691): the power-down, and KEEPALIVE or OFF; a device in reset has done its power-down already. -/
def State.mainsGone (s : State) (inProgress whole down : Bool) : State :=
  let old := s.sys.mode
  let s := if s.sys.inReset then s.cold else s.powerDown inProgress whole down
  let s := s.modSys fun y => { y with
    mode := if y.vbat then .keepalive else .off, prev := old, cause := 1, modeDt := s.now, devReset := none }
  if s.sys.vbat then s else s.vbatGone

/-- PWRGD_FALL: from recognition to KEEPALIVE, or OFF without VBAT (R691, R771). -/
def execPwrgdFall (t : Nat) (inProgress whole down : Bool) (s : State) : Host.Outcome State Fault Refusal :=
  let s := s.advance t
  if !s.sys.pwrgd then .next s else
  let s := s.modSys fun y => { y with pwrgd := false }
  .next (if s.sys.mode.code < 2 then s else s.mainsGone inProgress whole down)

/-- A reset with the rails kept: the steps of Table 21-5, and the device waits for INIT (R692). -/
def State.beginReset (s : State) : State :=
  if s.sys.inReset then s else
  (s.powerDown false false true).modSys fun y => { y with inReset := true }

/-- RESET_N_ASSERT: RESET_N has been low for 1 µs (R692). -/
def execResetNAssert (t : Nat) (s : State) : Host.Outcome State Fault Refusal :=
  let s := s.advance t
  if !s.sys.resetN then .next s else
  let s := s.modSys fun y => { y with resetN := false }
  .next (if s.sys.mode.code < 2 then s else s.beginReset.modSys fun y => { y with devReset := none, resetCause := 1 })

/-! Power-up (R687, R688). -/

/-- The straps latched (R687). -/
def latchStraps (x : Straps) (y : SysState) : SysState :=
  { y with mbAddr := x.mbAddr % 4, bootSrc := x.bootSrc % 4, refclk := x.refclk % 2,
           pinMbAddr := x.mbAddr % 4, pinBootSrc := x.bootSrc % 4, pinRefclk := x.refclk % 2 }

/-- The previous power-down as the record tells of it (event 8). -/
def RecordState.lastDown (r : RecordState) : Option (Nat × Nat) :=
  match r.newest with
  | none => none
  | some n =>
    match (r.slots.find? fun p => p.2.seq == n) with
    | some p => some (if p.2.kind = 2 then 0 else 1, dtSec p.2.dt)
    | none => none

/-- The DRAM controllers draw their keys (R562, R575). -/
def State.drawKeys (s : State) : State :=
  let draw (r : List Nat × State) (_ : Nat) : List Nat × State := (r.1 ++ [r.2.free.1], r.2.free.2)
  let r := (List.range 4).foldl draw ([], s)
  { r.2 with mem := { r.2.mem with keys := r.1 } }

/-- INIT entered (Table 21-2): DRAM keys drawn (R562), straps latched, DT from the always-on counter (R665), the boot entry with its seal (R726),
the mode change, the tamper latch read (R633), a lost always-on domain and a wrong reference clock detected (R776). -/
def State.enterInit (s : State) (cause : Nat) (x : Straps) : State :=
  let s := s.cold.drawKeys
  let sec := if s.trust.vbatLoss then 0 else max s.time.vbatSeconds x.sec
  let dt := sec * secU
  let s := { s with time := { s.time with dt := dt, vbatSeconds := sec, lastGrain := grainOf dt, lastTick := tickOf dt } }
  let last := s.rcd.lastDown
  let s := s.modSys fun y => { latchStraps x y with
    resetCause := cause, startDt := dt, pwrgdDt := min y.pwrgdDt dt, devReset := none, lastDown := if cause = 0 then last else none }
  let s := s.modTrust fun r => { r with bootCount := r.bootCount + 1 }
  let slot := if s.sys.bootSrc = 2 then 2 else s.sys.slotNext
  let s := s.recordKind 3 (le 4 s.trust.bootCount ++ le 1 cause ++ le 1 slot ++ zeros 2 ++ le 4 s.sys.prevFault)
  let s := (s.recordSeal 0).setMode .init 1 0
  let lost := s.trust.vbatLoss
  let s := s.readLatch
  let s := s.modTrust fun r => { r with vbatLoss := false }
  let s := if lost then s.detect [6] else s
  if x.clockOk then s else (s.detect [3]).modSys fun y => { y with stuck := true }

/-- PWRGD_RISE: with RESET_N high the device enters INIT; otherwise it waits for RESET_N (Table 21-2). -/
def execPwrgdRise (t : Nat) (x : Straps) (s : State) : Host.Outcome State Fault Refusal :=
  let s := s.advance t
  if s.sys.pwrgd || 2 ≤ s.sys.mode.code then .next s else
  let s := s.modSys fun y => latchStraps x { y with pwrgd := true, pwrgdDt := s.now }
  .next (if s.sys.resetN then s.enterInit 0 x else s)

/-- RESET_N_RELEASE: straps latched again, and INIT (R687, R692). -/
def execResetNRelease (t : Nat) (x : Straps) (s : State) : Host.Outcome State Fault Refusal :=
  let s := s.advance t
  if s.sys.resetN then .next s else
  let s := s.modSys fun y => { y with resetN := true }
  .next (if !s.sys.pwrgd then s else if s.sys.inReset then s.enterInit 1 x
    else if s.sys.mode.code < 2 then s.enterInit 0 x else s)

/-- DEV_RESET_INIT_ENTRY: 10 ms after the reply to DEV_RESET or RETURN_EXIT (R692). A reply that is not written, because
QUIET_OK drops it, counts from the command. -/
def execDevResetInitEntry (t : Nat) (x : Straps) (s : State) : Host.Outcome State Fault Refusal :=
  let s := s.advance t
  match s.sys.devReset with
  | none => .next s
  | some a =>
    if s.now < a + 10 * msU || !s.sys.resetN || !s.sys.pwrgd then .next s
    else .next (s.beginReset.enterInit 2 { x with
      mbAddr := s.sys.pinMbAddr, bootSrc := s.sys.pinBootSrc, refclk := s.sys.pinRefclk })

/-- VBAT present: KEEPALIVE from OFF (Table 21-2). -/
def vbatOn (now : Nat) (y : SysState) : SysState :=
  if y.mode = .off then { y with vbat := true, mode := .keepalive, prev := .off, cause := 1, modeDt := now }
  else { y with vbat := true }

def execVbatApplied (t : Nat) (s : State) : Host.Outcome State Fault Refusal :=
  let s := s.advance t
  .next (s.modSys (vbatOn s.now))

/-- VBAT_REMOVED: without main power the always-on domain is lost (R771). -/
def execVbatRemoved (t : Nat) (s : State) : Host.Outcome State Fault Refusal :=
  let s := s.advance t
  if s.sys.mode = .keepalive then
    .next (s.modSys fun y =>
      { y with vbat := false, mode := .off, prev := .keepalive, cause := 1, modeDt := s.now }).vbatGone
  else .next (s.modSys fun y => { y with vbat := false })

/-! INIT and BOOT (R575, R576, R688, R689). -/

/-- The head record as INIT finds it (R728, R730): 0 both copies good, 1 the older copy failed, 2 the newer one failed, so
that the older one stands and the newest entry is ignored, 3 both failed and the head is rebuilt from the slots. -/
def State.headFound (s : State) (head : Nat) : State :=
  let seqOf (r : RecordState) : Nat := r.newest.getD 0
  let s := if s.rcd.torn then
      { s with rcd := { s.rcd with torn := false } }.raise 307 0 (le 1 0 ++ le 4 (seqOf s.rcd)) else s
  match head, s.rcd.newest with
  | 0, _ => s
  | 2, some n =>
    let r := { s.rcd.headAt (some ((n + 4294967295) % 4294967296)) with headCopy := !s.rcd.headCopy }
    { s with rcd := r }.raise 307 0 (le 1 1 ++ le 4 (seqOf r))
  | 3, _ =>
    let r := s.rcd.headAt s.rcd.newestGood
    { s with rcd := r }.raise 307 0 (le 1 2 ++ le 4 (seqOf r))
  | _, _ => s.raise 307 0 (le 1 1 ++ le 4 (seqOf s.rcd))

/-- BOOT entered from INIT: the memories are filled, and events 80, 2 and, at a power-up with a record, 8 are
raised (R576, R683). -/
def State.enterBoot (s : State) (us : Nat) : State :=
  let s := s.modTrust fun r => { r with keysReady := true }
  let s := { s with mem := { s.mem with lastReq := s.now } }
  let s := (s.raise 80 0 (le 4 us)).setMode .boot 1 0
  let s := s.raise 2 0 (le 1 s.sys.resetCause)
  match s.sys.lastDown with
  | some (k, sec) => s.raise 8 0 (le 1 k ++ le 8 sec)
  | none => s

/-- INIT_DONE: the end of INIT: a vault fault or a failed stack keeps the device there (R576, R683); otherwise the memories
are filled, and BOOT begins. -/
def execInitDone (t us : Nat) (fail : Option (Nat × Nat)) (vault : Option Nat) (head : Nat) (s : State) :
    Host.Outcome State Fault Refusal :=
  let s := s.advance t
  if s.sys.mode ≠ .init || s.sys.stuck || s.sys.inReset then .next s else
  let s := s.headFound head
  .next (match vault, fail with
    | some c, _ => (s.raise 50 0 (le 1 c)).fatal 6 c
    | none, some (k, c) => (s.raise 81 0 (le 1 k ++ le 1 c)).fatal 3 k
    | none, none => s.enterBoot us)

/-- Why an image is rejected (R628): 0 signature, 1 hash, 2 SVN. -/
def State.imageFault (s : State) (i : Image) : Option Nat :=
  if !i.signatureOk then some 0 else if !i.hashOk then some 1
  else if i.svn < (if i.typ = 1 then s.trust.ctrHub else s.trust.ctrCluster) then some 2 else none

/-- RETURN entered (R733): everything of the T2 list and the host keys are erased; the record takes a return entry and a
seal. Way: 0 command, 1 armed boot. -/
def State.enterReturn (s : State) (way : Nat) : State :=
  let (_, s) := s.eraseSession 2
  let s := s.modTrust fun r => { r.unenrol with handshakes := r.handshakes }
  let s := { s with mem := { s.mem with keys := [] } }
  let s := s.recordKind 5 (le 1 0 ++ zeros 4)
  let s := (s.recordSeal 3).setMode .fieldReturn (if way = 0 then 0 else 1) 0
  let s := if way = 1 && s.trust.lockdownHeld then s.raise 35 0 (le 1 1) else s
  s.raise 314 0 (le 1 way)

/-- The end of BOOT: the first row of Table 21-2 that applies. -/
def State.leaveBoot (s : State) : State :=
  match s.sys.latchT2 with
  | some (k, sec) => (s.haltInto .lockdown 3).raiseRec 34 0 (le 1 k ++ le 4 sec) false true
  | none =>
    if s.rcd.armed then s.enterReturn 1
    else if s.trust.lockdownHeld then s.haltInto .lockdown 1
    else if !s.trust.provisioned then s.setMode .provision 1 0
    else s.setMode .standby 1 0

/-- A unit that failed its self-test in BOOT is retired, with event 21 (R689). -/
def State.bootTestFail (s : State) (u test : Nat) : State :=
  if 896 ≤ u || !isUnit (u / 16) (u % 16) then s else
  (s.retireUnit (u / 16) (u % 16) 3).raise 21 (mkHandle 12 (u / 16)) (le 2 u ++ le 1 test)

/-- Boot with images that verify: clusters loaded, units tested and current (R711), links enabled, and the mode chosen. -/
def State.bootWith (s : State) (slot : Nat) (hub cluster : Image) (failed : List (Nat × Nat)) (holdupUs : Nat) : State :=
  let s := s.modTrust fun r => { r with hubImage := some hub, clusterImages := [cluster] }
  let cur (c : Cluster) : Cluster := { c with image := 0, epochs := if c.gated then c.epochs else List.replicate 16 1 }
  let held := if slot < 2 then tset (tset s.units.held (2 * slot) hub) (2 * slot + 1) cluster else s.units.held
  let s := { s with units := { s.units with clusters := s.units.clusters.map cur, held := held } }
  let s := failed.foldl (fun (s : State) f => s.bootTestFail f.1 f.2) s
  let s := s.modSys fun y => { y with holdupUs := holdupUs }
  let s := if holdupUs < 2000 then s.raise 319 0 (le 4 holdupUs) else s
  let ms := (s.now - s.sys.startDt) / msU
  let s := s.modSys fun y => { y with slotBooted := slot, startMs := ms, macs := true }
  let s := match s.sys.exitScope with
    | some x => (s.modSys fun y => { y with exitScope := none }).raise 316 0 (le 4 x)
    | none => s
  let s := s.leaveBoot
  s.raise 1 0 (le 4 ms ++ le 1 s.sys.bootSrc ++ le 1 slot)

/-- The hub image of the slots tried, the selected one first (R629): the first that verifies, with its slot; event 45 for
each rejected. -/
def State.pickHub (s : State) : List (Nat × Image) → Option (Nat × Image) × State × Nat
  | [] => (none, s, 0)
  | (k, i) :: rest =>
    match s.imageFault i with
    | none => (some (k, i), s, 0)
    | some c =>
      let s := s.raise 45 0 (le 1 1 ++ le 1 k ++ le 1 c)
      match rest with
      | [] => (none, s, k * 256 + c)
      | _ => s.pickHub rest

/-- A pushed image rejected (R759). -/
def State.rejectPush (s : State) : State := { s with host := { s.host with bootGo := false, bootRejected := true } }

/-- The hub images in the order in which they are tried, with their slots (R629): the pushed one, or the selected slot and
then the other. -/
def State.bootTries (s : State) (hub : List Image) : List (Nat × Image) :=
  if s.sys.bootSrc = 2 then (hub.take 1).map fun i => (2, i)
  else (hub.take 2).zipIdx.map fun x => (if x.2 = 0 then s.sys.slotNext else 1 - s.sys.slotNext, x.1)

/-- BOOT with the hub image found in slot `k`: event 46 when it is not the selected one, and the slot's cluster image. -/
def State.bootCluster (s : State) (k : Nat) (i : Image) (cluster : List Image) (failed : List (Nat × Nat)) (holdupUs : Nat) :
    State :=
  let pushed := s.sys.bootSrc == 2
  let same := k = (if pushed then 2 else s.sys.slotNext)
  let s := if same then s else s.raise 46 0 (le 1 k)
  match cluster[if same then 0 else 1]? with
  | none => s
  | some x =>
    match s.imageFault x with
    | some c =>
      let s := s.raise 45 0 (le 1 2 ++ le 1 k ++ le 1 c)
      if pushed then s.rejectPush else s
    | none => s.bootWith k i x failed holdupUs

/-- BOOT_DONE: `hub` holds the hub images read, the selected slot first, then the other; `cluster` the cluster image that
goes with each slot; `failed` the units that fail their self-test, with the test; and the hold-up measured (R33). A pushed
image that is rejected sets REJECTED, and the device stays in BOOT (R759). -/
def execBootDone (t : Nat) (hub cluster : List Image) (failed : List (Nat × Nat)) (holdupUs : Nat) (s : State) :
    Host.Outcome State Fault Refusal :=
  let s := s.advance t
  if s.sys.mode ≠ .boot || s.sys.stuck || s.sys.inReset then .next s else
  if s.sys.bootSrc = 3 then .next (s.fatal 9 3) else
  let pushed := s.sys.bootSrc == 2
  if pushed && !s.host.bootGo then .next s else
  if (s.bootTries hub).isEmpty then .next s else
  .next (match s.pickHub (s.bootTries hub) with
    | (none, s, d) => if pushed then s.rejectPush else s.fatal 8 d
    | (some (k, i), s, _) => s.bootCluster k i cluster failed holdupUs)

/-! Ride-through (R693 to R696). -/

/-- RIDETHROUGH entered (R693): castlings are abandoned, the record is flushed, and stage 1 sheds. -/
def State.rideBegin (s : State) : State :=
  let old := s.sys.mode
  let before := s.shedNow
  let s := s.abandonCastlings 2 stWrongMode
  let s := s.modSys fun y => { y with ride := some ⟨s.now, y.rideMaxMs, y.stageMs, 1, false⟩, rides := y.rides + 1 }
  let s := s.setMode .ridethrough 2 0
  let s := (s.raise 4 0 (le 1 old.code)).raise 5 0 (le 1 1)
  State.applyShed before s.flushRecord

/-- The next stage of a ride-through sheds more (R693). -/
def State.rideStage (s : State) (r : Ride) : State :=
  let before := s.shedNow
  let s := s.modSys fun y => { y with ride := some { r with stage := r.stage + 1 } }
  State.applyShed before (s.raise 5 0 (le 1 (r.stage + 1)))

/-- The return from a ride-through (R694); the time in event 6 is to the nearest ms. -/
def State.rideReturn (s : State) (r : Ride) : State :=
  let before := s.shedNow
  let s := s.setMode s.serviceMode 2 0
  let s := s.raise 6 0 (le 4 ((s.now - r.entry + msU / 2) / msU) ++ le 1 r.stage)
  State.applyShed before s

/-- PFW_N_ASSERT: RIDETHROUGH from SERVICE or DEGRADED; in every other mode the record is flushed and event 3 raised. -/
def execPfwNAssert (t : Nat) (s : State) : Host.Outcome State Fault Refusal :=
  let s := s.advance t
  if !s.sys.pfwN then .next s else
  let s := s.modSys fun y => { y with pfwN := false }
  if s.sys.mode.code < 2 || s.sys.inReset then .next s
  else if s.sys.mode ≠ .service ∧ s.sys.mode ≠ .degraded then
    .next (s.flushRecord.raise 3 0 (le 1 s.sys.mode.code))
  else .next s.rideBegin

/-- RIDE_STAGE: STAGE_MS and twice STAGE_MS after the entry (R693). -/
def execRideStage (t : Nat) (s : State) : Host.Outcome State Fault Refusal :=
  let s := s.advance t
  match s.sys.ride with
  | none => .next s
  | some r =>
    .next (if 3 ≤ r.stage || decide (s.now < r.entry + r.stage * r.stageMs * msU) then s else s.rideStage r)

/-- PFW_N_RELEASE: a return when it comes before RIDE_MAX (R694). -/
def execPfwNRelease (t : Nat) (s : State) : Host.Outcome State Fault Refusal :=
  let s := s.advance t
  if s.sys.pfwN then .next s else
  let s := s.modSys fun y => { y with pfwN := true }
  match s.sys.ride with
  | none => .next s
  | some r =>
    .next (if r.entry + r.rideMaxMs * msU ≤ s.now then s else s.rideReturn r)

/-- RIDE_MAX over: the ride counts as expired, and nothing ends it but the power (R695). -/
def State.rideOver (s : State) (r : Ride) : State :=
  let s := s.modSys fun y => { y with ride := some { r with expired := true }, rideExpired := y.rideExpired + 1 }
  (s.raise 7 0 (le 2 r.rideMaxMs)).flushRecord

/-- RIDE_MAX_EXPIRED (R695). -/
def execRideMaxExpired (t : Nat) (s : State) : Host.Outcome State Fault Refusal :=
  let s := s.advance t
  match s.sys.ride with
  | none => .next s
  | some r =>
    .next (if r.expired || decide (s.now < r.entry + r.rideMaxMs * msU) then s else s.rideOver r)

/-! Temperature and power (R697 to R699). Temperatures are in 0.5 °C steps. -/

/-- T_MAX in °C. -/
def tMax : Nat := if Config.gradeExtended then 110 else 100

/-- Whether a stage of a threshold is in force at a sample: begun at or above it, ended at or below it less 3 °C. -/
def stageHolds (on : Bool) (thr temp : Int) : Bool := decide (thr ≤ temp) || (on && decide (thr - 6 < temp))

/-- Time at stage 1 or above and at stage 3 accounted up to now. -/
def State.throttleAccount (s : State) : State :=
  s.modSys fun y =>
    let d := s.now - y.throttleDt
    let any (k : Nat) : Bool := y.thermal.any fun t => decide (k ≤ t.stage)
    { y with throttleT := if any 1 then y.throttleT + d else y.throttleT
             stage3T := if any 3 then y.stage3T + d else y.stage3T, throttleDt := s.now }

/-- The stage in force of a die brought up to date, with events 11 and 12. Causes: 0 die, 1 DRAM stack, 2 power cap. -/
def State.stageUpdate (s : State) (die cause : Nat) (temp : Int) : State :=
  let x := s.sys.thermal.getD die {}
  let own := max x.dieStage x.dramStage
  let new := if s.sys.capRaised then min 3 (own + 1) else own
  if new = x.stage then s else
  let before := s.shedNow
  let s := s.throttleAccount
  let since := if x.stage = 0 then s.now else x.since
  let s := s.modSys fun y => { y with thermal := setAt y.thermal die { x with stage := new, since := since } }
  let s := s.raise 11 0 (le 1 die ++ le 1 new ++ le 1 cause ++ leI 2 temp)
  let s := if new = 0 then s.raise 12 0 (le 1 die ++ le 4 ((s.now - since) / msU)) else s
  let s := if 2 ≤ new && x.stage < 2 then s.latchAlert 1 else s
  State.applyShed before s

/-- A die's thermal registers after a reading `temp` of its own sensors (Table 21-12). -/
def Thermal.sample (x : Thermal) (temp : Int) (bad : List Nat) : Thermal :=
  let top : Int := 2 * (tMax : Int)
  let own := if stageHolds (decide (3 ≤ x.dieStage)) (top + 6) temp then 3
    else if stageHolds (decide (2 ≤ x.dieStage)) top temp then 2
    else if stageHolds (decide (1 ≤ x.dieStage)) (top - 10) temp then 1 else 0
  { x with temp := temp, warn := stageHolds x.warn (top - 20) temp, dieStage := own,
           critical := stageHolds x.critical (top + 20) temp, badSensors := bad }

/-- A reading of a die's sensors taken in: events 14 and 10, the stage, and the fatal fault of a critical one (R697). -/
def State.thermalTake (s : State) (die : Nat) (temp : Int) (bad : List Nat) : State :=
  let x := s.sys.thermal.getD die {}
  let x' := x.sample temp bad
  let s := s.modSys fun y => { y with thermal := setAt y.thermal die x' }
  let s := (bad.filter fun k => !x.badSensors.contains k).foldl
    (fun (s : State) k => s.raise 14 0 (le 1 die ++ le 1 k)) s
  let s := if x'.warn && !x.warn then s.raise 10 0 (le 1 die ++ leI 2 temp) else s
  let s := s.stageUpdate die 0 temp
  if x'.critical && !x.critical then (s.raise 13 0 (le 1 die ++ leI 2 temp)).fatal 7 die else s

/-- THERMAL_SAMPLE: the highest reading of a die's own sensors, and the sensors found faulty (R697, event 14). -/
def execThermalSample (t die : Nat) (temp : Int) (bad : List Nat) (s : State) : Host.Outcome State Fault Refusal :=
  let s := s.advance t
  .next (if 3 ≤ die || s.sys.mode.code < 2 || s.sys.inReset then s else s.thermalTake die temp bad)

/-- The throttling stage of a DRAM stack after a reading (R697). -/
def dramStage (old : Nat) (temp : Int) : Nat :=
  if stageHolds (decide (3 ≤ old)) 210 temp then 3 else if stageHolds (decide (2 ≤ old)) 190 temp then 2 else 0

/-- A reading of a stack taken in: refresh, its stage, and the higher stage of its media die's two stacks (R553, R697). -/
def State.dramTempTake (s : State) (k : Nat) (temp : Int) : State :=
  let s := s.stackTemp k temp
  let s := s.modStack k fun x => { x with stage := dramStage x.stage temp }
  let die := k / 2
  let both := max (s.stack (2 * die)).stage (s.stack (2 * die + 1)).stage
  let s := s.modSys fun y => { y with thermal := modAt y.thermal die fun (x : Thermal) => { x with dramStage := both } }
  s.stageUpdate die 1 temp

/-- DRAM_TEMP_SAMPLE: refresh (R553) and the stack's throttling stage on its media die (R697). -/
def execDramTempSample (t k : Nat) (temp : Int) (s : State) : Host.Outcome State Fault Refusal :=
  let s := s.advance t
  .next (if 4 ≤ k || s.sys.mode.code < 3 || s.sys.inReset then s else s.dramTempTake k temp)

/-- The estimate of every 1 ms: how long it has been above the cap, or below 95 % of it (R699). -/
def powerMeter (now w : Nat) (y : SysState) : SysState :=
  { y with powerW := w
           capAbove := if y.capW != 0 && decide (y.capW < w) then some (y.capAbove.getD now) else none
           capBelow := if 100 * w < 95 * y.capW then some (y.capBelow.getD now) else none }

/-- The cap holds when the estimate has exceeded it for 10 ms, and is let go after 1 s below 95 % of it or when it is
taken away (R699). -/
def SysState.capHit (y : SysState) (now : Nat) : Bool :=
  y.capW != 0 && !y.capRaised && match y.capAbove with | some x => decide (x + 10 * msU ≤ now) | none => false
def SysState.capDrop (y : SysState) (now : Nat) : Bool :=
  y.capRaised && (y.capW == 0 || match y.capBelow with | some x => decide (x + secU ≤ now) | none => false)

/-- An estimate of `w` watts taken in. -/
def State.powerTake (s : State) (w : Nat) : State :=
  let s := s.modSys (powerMeter s.now w)
  let s := if 225 < w then s.raiseWK 18 0 0 (le 2 w) else s
  let hit := s.sys.capHit s.now
  if !hit && !s.sys.capDrop s.now then s else
  let s := s.modSys fun y => { y with
    capRaised := hit, capHits := if hit then min 65535 (y.capHits + 1) else y.capHits }
  let s := if hit then s.raise 23 0 (le 2 w ++ le 2 s.sys.capW) else s
  [0, 1, 2].foldl (fun (s : State) d => s.stageUpdate d 2 (s.sys.thermal.getD d {}).temp) s

/-- POWER_ESTIMATE: the estimate of every 1 ms against POWER_CAP (R699). -/
def execPowerEstimate (t w : Nat) (s : State) : Host.Outcome State Fault Refusal :=
  let s := s.advance t
  .next (if s.sys.mode.code < 2 || s.sys.inReset then s else s.powerTake w)

/-! Rails (R765). -/

def execRailAlarm (t rail mv : Nat) (s : State) : Host.Outcome State Fault Refusal :=
  let s := s.advance t
  if 11 ≤ rail || !s.sys.pwrgd || s.sys.mode.code < 2 || s.sys.railAlarm.getD rail true then .next s else
  let s := s.modSys fun y => { y with railMv := setAt y.railMv rail mv, railAlarm := setAt y.railAlarm rail true }
  .next ((s.latchAlert 3).raise 16 0 (le 1 rail ++ le 2 mv))

def execRailCleared (t rail mv : Nat) (s : State) : Host.Outcome State Fault Refusal :=
  let s := s.advance t
  if 11 ≤ rail || !s.sys.railAlarm.getD rail false then .next s else
  let s := s.modSys fun y => { y with railMv := setAt y.railMv rail mv, railAlarm := setAt y.railAlarm rail false }
  .next (s.raise 17 0 (le 1 rail ++ le 2 mv))

/-! Die links (R36 to R38, R717). -/

/-- LINK_REPLAY: a flit replayed; `again` when it is the flit replayed just before. -/
def execLinkReplay (t k : Nat) (again : Bool) (s : State) : Host.Outcome State Fault Refusal :=
  .next ((s.advance t).modLink k fun l =>
    { l with replays := l.replays + 1, flitFails := if again then l.flitFails + 1 else 1 })

/-- LINK_RETRAIN: after 8 failed replays of one flit (R37), or after a retrain that failed. -/
def execLinkRetrain (t k : Nat) (s : State) : Host.Outcome State Fault Refusal :=
  let s := s.advance t
  match s.units.links[k]? with
  | none => .next s
  | some l =>
    if l.training || l.flitFails < 8 then .next s else
    let s := s.modLink k fun l => { l with training := true, retrains := l.retrains + 1 }
    .next (s.raise 302 0 (le 1 k ++ le 4 l.replays ++ le 4 (l.retrains + 1)))

/-- LINK_RETRAIN_DONE: traffic resumes, or the third failed retrain in succession is a fatal fault (R38). -/
def execLinkRetrainDone (t k : Nat) (ok : Bool) (s : State) : Host.Outcome State Fault Refusal :=
  let s := s.advance t
  match s.units.links[k]? with
  | none => .next s
  | some l =>
    if !l.training then .next s
    else if ok then .next (s.modLink k fun l => { l with training := false, flitFails := 0, trainFails := 0 })
    else
      let s := s.modLink k fun l => { l with training := false, trainFails := l.trainFails + 1 }
      .next (if l.trainFails + 1 = 3 then s.fatal 1 k else s)

/-! Commands. -/

/-- The mode that MODE_SET enters, or the status of its refusal (Table 21-2, R685, R686). -/
def State.modeTarget (s : State) (c : Cmd) : Except Nat Mode :=
  if !(c.zero 1 3 && (c.u 0 1 == 5 || c.u 0 1 == 6 || c.u 0 1 == 9)) then .error stBadParam else
  match s.sys.mode, c.u 0 1 with
  | .standby, 6 => .ok s.serviceMode
  | .standby, 9 => .ok .diagnostic
  | .service, 5 => if s.confs.isEmpty then .ok .standby else .error stModeBusy
  | .degraded, 5 => if s.confs.isEmpty then .ok .standby else .error stModeBusy
  | .diagnostic, 5 => if s.sys.faultCause = 0 then .ok .standby else .error stFaultLatched
  | _, _ => .error stTransitionInvalid

/-- MODE_SET: one that fails raises event 9 (R700). -/
def bodyModeSet : Body := fun _ c s =>
  match s.modeTarget c with
  | .ok m => .ok (s.setMode m 0 0)
  | .error e => .fail (s.raise 9 0 (le 1 (c.u 0 1) ++ le 2 e)) e

def bodyModeQuery : Body := fun _ _ s =>
  let y := s.sys
  .ok s (le 1 y.mode.code ++ le 1 y.prev.code ++ le 1 y.cause ++ le 1 (y.mbAddr + 4 * y.bootSrc + 16 * y.refclk) ++
    le 1 y.slotBooted ++ le 1 y.resetCause ++ le 2 y.startMs ++ le 2 y.rideMaxMs ++ le 2 y.stageMs ++ le 2 y.capW ++
    le 2 y.powerW ++ le 4 y.rides ++ le 4 y.rideExpired ++ le 8 (dtSec y.modeDt))

def bodyPowerSet : Body := fun _ c s =>
  if !(c.rng0 0 2 20 2000 && c.rng0 2 2 1 100 && c.rng0 4 2 100 235 && c.zero 6 2) then .fail s stBadParam else
  .ok (s.modSys fun y => { y with rideMaxMs := c.dflt 0 2 200, stageMs := c.dflt 2 2 20, capW := c.u 4 2 })

/-- STAGE of a die in THERMAL_QUERY (Table 21-12). -/
def Thermal.code (x : Thermal) : Nat := if x.stage = 0 && x.warn then 4 else x.stage

def bodyThermalQuery : Body := fun _ _ s =>
  let s := s.throttleAccount
  let y := s.sys
  .ok s (y.thermal.flatMap (fun t => leI 2 t.temp) ++ s.mem.dramStacks.flatMap (fun x => leI 2 x.temp) ++
    y.thermal.flatMap (fun t => le 1 t.code) ++ le 1 tMax ++ le 4 (y.throttleT / msU) ++ le 4 (y.stage3T / msU) ++
    le 2 y.capHits ++ zeros 4)

/-- DEV_RESET: the reset begins once its reply is written (R692). -/
def bodyDevReset : Body := fun _ c s =>
  if c.u 0 4 ≠ 0x52534554 then .fail s stBadParam else
  .ok (s.modSys fun y => { y with devReset := some s.now })

def execModeSet (c : Cmd) (s : State) := runBelex 0x0000 bodyModeSet c s
def execModeQuery (c : Cmd) (s : State) := runBelex 0x0001 bodyModeQuery c s
def execPowerSet (c : Cmd) (s : State) := runBelex 0x0010 bodyPowerSet c s
def execThermalQuery (c : Cmd) (s : State) := runBelex 0x0011 bodyThermalQuery c s
def execDevReset (c : Cmd) (s : State) := runBelex 0x0020 bodyDevReset c s

end Sys2Proof.Machine
end

