-- ==== Sys2Proof/Machine/Repair.lean ====
section
/-! DEFINITION. Castling, bench tests, epochs, firmware images and the move of a home (file 22 of spec/), and the 0x13xx
commands. -/

namespace Sys2Proof.Machine

def stNoSpare : Nat := 0x9300
def stRegionBusy : Nat := 0x9301
def stClusterState : Nat := 0x9302
def stCastleDeferred : Nat := 0x9303
def stCastleTargetFailed : Nat := 0x9304
def stImageRejected : Nat := 0x9305
def stSlotRunning : Nat := 0x9306
def stUpdateFailed : Nat := 0x9307
def stHomeTooSoon : Nat := 0x9308

/-! Castlings (R26 to R31, R701 to R708). -/

def State.modUnits (s : State) (f : UnitsState → UnitsState) : State := { s with units := f s.units }

/-- The castling in progress in a region. -/
def State.castlingIn (s : State) (r : Nat) : Option Castling := s.units.castling.getD r none

def State.setCastling (s : State) (r : Nat) (k : Option Castling) : State :=
  s.modUnits fun u => { u with castling := setAt u.castling r k }

/-- The first SPARE of a region. -/
def State.spareOf (s : State) (r : Nat) : Option Nat :=
  (regionClusters r).find? fun c => (s.cluster c).state == .spare

/-- A hub image waits for its pause: no castling starts (R714). -/
def State.hubWaits (s : State) : Bool := match s.units.activating with | some j => j.typ == 1 | none => false

/-- A region that a cluster image activation has not finished. -/
def State.regionUpdating (s : State) (r : Nat) : Bool :=
  match s.units.activating with | some j => j.typ == 2 && j.todo.contains r | none => false

/-- The units of a cluster that is reset or woken are stale (R711). -/
def State.clusterStale (s : State) (c : Nat) : State := (List.range 16).foldl (fun (s : State) u => s.unitStale c u) s

/-- Phase 1 of a castling: the SPARE wakes (Table 22-3); its region's power domain is on (R30). -/
def State.castleStart (s : State) (source target id : Nat) (update : Bool) : State :=
  let r := regionOf source
  let s := (s.modCluster target fun c => { c with gated := false }).clusterStale target
  let s := s.modUnits fun u => { u with regionOn := setAt u.regionOn r true }
  s.setCastling r (some { source := source, target := target, id := id, phase := 1, deferrals := 0, update := update })

/-- Index of a cluster image among those the vault holds as loaded; a new one is added. -/
def TrustState.imageIndex (r : TrustState) (i : Image) : Nat × TrustState :=
  let k := r.clusterImages.findIdx fun x => x == i
  if k < r.clusterImages.length then (k, r) else (k, { r with clusterImages := r.clusterImages ++ [i] })

/-- The image that an activation brings: its index among the loaded ones. -/
def State.newImage (s : State) : Option Nat :=
  match s.units.activating with
  | some j => (tget s.units.held (2 * j.dest + 1)).map fun i => (s.trust.imageIndex i).1
  | none => none

/-- The next castling of an image activation in a region: the next ACTIVE cluster with another image, or the region is
finished and its epoch advances (R713, R710). -/
def State.updateStep (s : State) (r : Nat) : State :=
  if !s.regionUpdating r || (s.castlingIn r).isSome then s else
  match s.newImage with
  | none => s
  | some i =>
    match (regionClusters r).find? fun c => (s.cluster c).state == .active && (s.cluster c).image != i with
    | none =>
      let drop (j : ImageJob) : ImageJob := { j with todo := j.todo.filter fun x => x != r }
      (s.modUnits fun u => { u with activating := u.activating.map drop }).advanceEpoch r 1
    | some c =>
      match s.spareOf r with
      | none => s.regionSkipped r
      | some t => s.castleStart c t 0 true

/-- CASTLE (R704). -/
def bodyCastle : Body := fun whom c s =>
  let k := hIdx c.obj
  let r := regionOf k
  if (s.cluster k).state ≠ .active then .fail s stClusterState else
  if (s.castlingIn r).isSome || s.regionUpdating r || s.hubWaits then .fail s stRegionBusy else
  match s.spareOf r with
  | none => .fail s stNoSpare
  | some t =>
    let r := s.startLong whom 288 c.obj
    .accepted (r.2.castleStart k t r.1 false)

/-- AUTO_CASTLE_START: a cluster with a failed unit is castled once its region has a SPARE and the mode allows it (R703). -/
def execAutoCastleStart (t c : Nat) (s : State) : Host.Outcome State Fault Refusal :=
  let s := s.advance t
  let r := regionOf c
  let waits := s.units.waiting.any fun w => w.1 == c
  if !waits || (s.cluster c).state ≠ .active || !s.units.autoCastle || (s.castlingIn r).isSome || s.regionUpdating r ||
     s.hubWaits || s.sys.inReset || !rangeAccepts 0x13 .other s.sys.mode then .next s else
  match s.spareOf r with
  | none => .next s
  | some x => .next (s.castleStart c x 0 false)

/-- A target unit that fails before the handover: it is retired, and the castling is abandoned (R708). -/
def State.targetFails (s : State) (r u : Nat) (k : Castling) : State :=
  if !isUnit k.target u then s else
  ((s.retireUnit k.target u 3).abandonCastling r 0 stCastleTargetFailed true).updateStep r

/-- The SPARE is ready: it runs its image, its working units are current, and the castling waits for the safe point
(R704, R705). -/
def State.castleReady (s : State) (r : Nat) (k : Castling) : State :=
  let image := if k.update then s.newImage.getD (s.cluster k.source).image else (s.cluster k.source).image
  let s := match s.units.activating.bind fun j => tget s.units.held (2 * j.dest + 1) with
    | some i => if k.update then { s with trust := (s.trust.imageIndex i).2 } else s
    | none => s
  let e := s.units.epochs.getD r 0
  let cur (c : Cluster) : Cluster := { c with
    image := image, epochs := (List.range 16).map fun u => if bit c.failed u then c.epochs.getD u 0 else e }
  (s.modCluster k.target cur).setCastling r (some { k with phase := 2 })

/-- CASTLE_WAKE_DONE: the SPARE has loaded its image and tested its units; `failed` names a unit that did not pass (R704,
R708). The units that pass are current when the load has been copied. -/
def execCastleWakeDone (t r : Nat) (failed : Option Nat) (s : State) : Host.Outcome State Fault Refusal :=
  let s := s.advance t
  match s.castlingIn r with
  | none => .next s
  | some k =>
    if k.phase ≠ 1 then .next s else
    match failed with
    | some u => .next (s.targetFails r (u % 16) k)
    | none =>
      .next (s.castleReady r k)

/-- A core of one audio cluster as the same core of another. -/
def moveCore (source target core : Nat) : Nat :=
  if coreCluster core = source then coreNumber target (core % 8) else core

/-- The places of a set's kernel instances moved with their cluster. -/
def MixSet.moveCores (x : MixSet) (source target : Nat) : MixSet :=
  { x with insts := x.insts.map fun p => { p with core := moveCore source target p.core } }

/-- The exact state of an audio cluster's load on the target: conferences, cores with their memories, kernel images and kernel
instances (R705). -/
def AudioState.moveLoad (a : AudioState) (source target : Nat) : AudioState :=
  let mix (m : ConfMix) : ConfMix := { m with
    cluster := if m.cluster = some source then some target else m.cluster
    run := m.run.moveCores source target
    pends := m.pends.map fun p => (p.1, p.2.moveCores source target)
    old := m.old.map fun x => x.moveCores source target }
  let mine := a.dsp.cores.filter fun p => coreCluster p.1 == source
  let cores := a.dsp.cores.filter fun p => coreCluster p.1 != source && coreCluster p.1 != target
  let cores := mine.foldl (fun (l : Tbl DspCore) p => tset l (moveCore source target p.1) p.2) cores
  { a with
    mixes := tmap a.mixes fun _ m => mix m
    dsp := { a.dsp with
      cores := cores
      kernels := tmap a.dsp.kernels fun _ k => { k with copies := target :: k.copies.filter fun c => c != source && c != target }
      insts := tmap a.dsp.insts fun _ i => { i with core := moveCore source target i.core } } }

/-- Keys bound to the source move to the target, but those of a running task, which move when it completes; event 231
(R532, R707). Tasks whose SCOPE is the source go to the target. -/
def State.moveBindings (s : State) (source target : Nat) : State :=
  let move (p : Nat × AtomicFlow) : Bool :=
    p.2.bound == some source && (s.keyTasks p.1 fun st => st == .dispatched).isEmpty
  let n := countOf s.disp.keys move
  let s := s.modDisp fun d => { d with
    keys := d.keys.map fun p => if move p then (p.1, { p.2 with bound := some target }) else p
    tasks := tmap d.tasks fun _ t => { t with cluster := if t.cluster = some source then some target else t.cluster } }
  if n = 0 then s else s.raise 231 (mkHandle 12 source) (le 1 source ++ le 1 target ++ le 4 n)

/-- The handover of a castling: memory and load on the target, roles exchanged, bindings moved, and a new region epoch
(Table 22-2, R705, R707, R710). -/
def State.handOver (s : State) (r h : Nat) (k : Castling) : State :=
  let before := s
  let s := (s.setSram k.target (s.localSram k.source)).setSram k.source []
  let s := if isAudioCluster k.source then { s with aud := s.aud.moveLoad k.source k.target } else s
  let s := s.modCluster k.target fun c => { c with state := .active, gated := false, idleSince := none }
  let s := s.modCluster k.source fun c => { c with state := .bench, gated := false, benching := none }
  let s := s.modUnits fun u => { u with waiting := u.waiting.filter fun w => w.1 != k.source }
  let s := s.setCastling r (some { k with phase := 4, handover := h })
  let s := (s.moveBindings k.source k.target).advanceEpoch r 0
  before.recount s

/-- Whether an audio cluster still works on the present grain: an invocation, a task, or a mix that is not formed; a unit
that failed does not count (R334, R708). -/
def State.sourceRuns (s : State) (c : Nat) : Bool :=
  let f := (s.cluster c).failed
  (s.disp.tasks.any fun p => p.2.st == .dispatched && p.2.unit / 16 == c && !bit f (p.2.unit % 16)) ||
  ((List.range 8).any fun u => !bit f u &&
    (match tget s.aud.dsp.cores (coreNumber c u) with | some k => k.inv.isSome || !k.waiting.isEmpty | none => false)) ||
  (!bit f 8 && s.aud.mixes.any fun p => p.2.cluster == some c && (s.conf p.1).isSome && !p.2.parked &&
    decide (1 + s.mixLag p.1 ≤ grainOf s.now) && (match p.2.done with
      | some d => decide (d < grainOf s.now - (1 + s.mixLag p.1))
      | none => true))

/-- A handover deferred for its grain, with event 289; the eighth abandons the castling (R706). -/
def State.castleDefer (s : State) (r g : Nat) (k : Castling) : State :=
  let n := k.deferrals + 1
  let s := s.setCastling r (some { k with deferrals := n, deferredAt := some g })
  let s := s.raiseW 289 (mkHandle 12 k.source) (le 1 n)
  if n = 8 then (s.abandonCastling r 1 stCastleDeferred false).updateStep r else s

/-- CASTLE_HANDOVER: at the safe point of the source. An audio cluster is handed over from 2,400 µs of a grain on, or its
handover is deferred, at most 8 times (R705, R706); a target unit that fails first ends the castling (R708). -/
def execCastleHandover (t r : Nat) (failed : Option Nat) (s : State) : Host.Outcome State Fault Refusal :=
  let s := s.advance t
  match s.castlingIn r with
  | none => .next s
  | some k =>
    if k.phase ≠ 2 || s.sys.inReset then .next s else
    match failed with
    | some u => .next (s.targetFails r (u % 16) k)
    | none =>
      let g := grainOf s.now
      if !isAudioCluster k.source then
        let (n, s) := s.free
        .next (s.handOver r n k)
      else if s.now < grainStart g + 2400 * usU || k.deferredAt == some g then .next s
      else if s.sourceRuns k.source then
        .next (s.castleDefer r g k)
      else .next (s.handOver r (g + 1) k)

/-- A castling ends: the source is in BENCH, tested at once where that is asked for, or with a new image is the SPARE
(R704, R709, R713). An image activation that waited in the region goes on once no test of the source is to come. -/
def State.castleEnd (s : State) (r : Nat) (k : Castling) : State :=
  let image := s.newImage.getD (s.cluster k.source).image
  let auto := s.units.autoBench && !k.update
  let leave (c : Cluster) : Cluster :=
    { c with castlings := c.castlings + 1, benching := if auto then some 0 else none
             state := if k.update then .spare else c.state, gated := k.update
             image := if k.update then image else c.image }
  let s := (s.modCluster k.source leave).setCastling r none
  let s := s.finishLong k.id stDone (le 1 k.target ++ le 7 k.handover)
  let s := if k.update then s.advanceEpoch r 2 else s
  if auto then s else s.updateStep r

/-- CASTLE_DONE: the source, free of tasks, is in BENCH, and the command ends with event 288; a source of an image
activation takes the new image and becomes the SPARE (Table 22-3, R713). -/
def execCastleDone (t r : Nat) (s : State) : Host.Outcome State Fault Refusal :=
  let s := s.advance t
  match s.castlingIn r with
  | none => .next s
  | some k =>
    if k.phase ≠ 4 || (s.disp.tasks.any fun p => p.2.st == .dispatched && p.2.unit / 16 == k.source) then .next s else
    .next (s.castleEnd r k)

/-! Bench tests (R709). -/

/-- The units that a bench test finds faulty retired with event 292, and the transition that follows (Table 22-2). -/
def State.benchResult (s : State) (c : Nat) (failed : List Nat) : State :=
  let s := failed.foldl (fun (s : State) u => s.retireUnit c u 2) s
  let r := regionOf c
  let vital := failed.any fun u => u == 14 || u == 15 || (u == 8 && isAudioCluster c)
  if vital then
    let s := s.modCluster c fun k => { k with state := .retired, benching := none, gated := true }
    (s.raise 293 (mkHandle 12 c) (le 1 0)).advanceEpoch r 2
  else if (s.spareOf r).isNone then
    (s.modCluster c fun k => { k with state := .spare, benching := none, gated := true }).advanceEpoch r 2
  else s.modCluster c fun k => { k with benching := none }

/-- The end of a bench test, with the state and the failed units of the cluster as its result (R709). -/
def State.benchEnd (s : State) (c id : Nat) (failed : List Nat) : State :=
  let s := s.benchResult c (failed.filter fun u => isUnit c u)
  let k := s.cluster c
  (s.finishLong id stDone (le 1 k.state.code ++ le 2 k.failed)).updateStep (regionOf c)

/-- BENCH_DONE: a cluster's bench tests end; `failed` names the units that failed one (R702, R709). -/
def execBenchDone (t c : Nat) (failed : List Nat) (s : State) : Host.Outcome State Fault Refusal :=
  let s := s.advance t
  let k := s.cluster c
  match k.benching with
  | none => .next s
  | some id =>
    if k.state ≠ .bench then .next s else
    .next (s.benchEnd c id failed)

def bodyClusterBench : Body := fun whom c s =>
  let k := hIdx c.obj
  if (s.cluster k).state ≠ .bench then .fail s stClusterState else
  if (s.cluster k).benching.isSome then .fail s stBusy else
  let r := s.startLong whom 291 c.obj
  .accepted (r.2.modCluster k fun x => { x with benching := some r.1 })

/-- Whether a castling in progress names a cluster. -/
def State.inCastling (s : State) (c : Nat) : Bool :=
  match s.castlingIn (regionOf c) with | some k => k.source == c || k.target == c | none => false

/-- A cluster RETIRED by command, with event 293; from BENCH its region's epoch advances, and a bench test still running
ends (Table 22-2, R710). -/
def State.retireCluster (s : State) (k h : Nat) (was : ClusterState) : State :=
  let test := (s.cluster k).benching.getD 0
  let s := s.modCluster k fun y => { y with state := .retired, benching := none, gated := true }
  let s := s.raise 293 h (le 1 1)
  let s := s.finishLong test stClusterState (le 1 3 ++ le 2 (s.cluster k).failed)
  if was = .bench then s.advanceEpoch (regionOf k) 2 else s

/-- CLUSTER_SET_STATE (Table 22-2). -/
def bodyClusterSetState : Body := fun _ c s =>
  let k := hIdx c.obj
  let x := s.cluster k
  let r := regionOf k
  if !((c.u 0 1 == 1 || c.u 0 1 == 3) && c.zero 1 3) then .fail s stBadParam else
  if s.inCastling k then .fail s stClusterState else
  if c.u 0 1 = 3 then
    if x.state ≠ .bench && x.state ≠ .spare then .fail s stClusterState else .ok (s.retireCluster k c.obj x.state)
  else
    if x.state ≠ .bench || x.benching.isSome || (s.spareOf r).isSome then .fail s stClusterState else
    .ok ((s.modCluster k fun y => { y with state := .spare, gated := true }).advanceEpoch r 2)

/-- The epoch of a cluster: that of its first working unit. -/
def Cluster.epoch (c : Cluster) : Nat :=
  match (List.range 16).find? fun u => !bit c.failed u with | some u => c.epochs.getD u 0 | none => 0

def bodyClusterQuery : Body := fun _ c s =>
  let x := s.cluster (hIdx c.obj)
  .ok s (le 1 x.state.code ++ le 2 x.failed ++ le 2 x.epoch ++ le 2 (s.units.epochs.getD (regionOf (hIdx c.obj)) 0) ++
    le 4 x.castlings ++ zeros 5)

def bodyRepairSet : Body := fun _ c s =>
  if !(c.mask 0 1 3 && c.zero 1 3) then .fail s stBadParam else
  .ok (s.modUnits fun u => { u with autoCastle := c.flag 0 1 0, autoBench := c.flag 0 1 1 })

/-- UNIT_RELOAD: a unit of an ACTIVE cluster is loaded from the checkpoint, and its epoch is the region's again (R711). -/
def execUnitReload (t c u : Nat) (s : State) : Host.Outcome State Fault Refusal :=
  let s := s.advance t
  let k := s.cluster c
  let e := s.units.epochs.getD (regionOf c) 0
  if 56 ≤ c || 16 ≤ u || k.state ≠ .active || k.gated || bit k.failed u || k.epochs.getD u 0 == e then .next s else
  let s := s.modCluster c fun x => { x with epochs := setAt x.epochs u e }
  .next (s.raise 296 (mkHandle 12 c) (le 2 (c * 16 + u) ++ le 2 e))

/-! Firmware images (R712 to R714). -/

/-- IMAGE_WRITE: the slot that booted is refused (R712, R719). -/
def bodyImageWrite : Body := fun whom c s =>
  let dest := c.u 12 1
  if !(c.u 0 8 % 8 == 0 && decide (224 ≤ c.u 8 4) && decide (dest ≤ 2) && c.zero 13 3) then .fail s stBadParam else
  if s.units.writing.isSome || s.units.activating.isSome then .fail s stBusy else
  if dest ≠ 2 && dest = s.sys.slotBooted then .fail s stSlotRunning else
  let r := s.startLong whom 297 0
  .accepted (r.2.modUnits fun u => { u with
    writing := some { id := r.1, dest := dest, typ := 0, todo := [], skipped := [], paused := false, len := c.u 8 4 } })

/-- Status of an image's rejection: signature and hash give INTEGRITY, the SVN IMAGE_REJECTED (R712). -/
def rejectSts (cause : Nat) : Nat := if cause = 2 then stImageRejected else stIntegrity

/-- Where an image of a type begins in the boot flash (R757): slot B at half of it, the hub image at its slot's beginning, the
cluster image at the first 1 MiB boundary after the hub image's end. -/
def State.flashAddr (s : State) (slot typ : Nat) : Nat :=
  let hub := match tget s.units.held (2 * slot) with | some i => i.bytes + 224 | none => 0
  slot * (Config.flashBytes / 2) + if typ = 1 then 0 else (hub + 2 ^ 20 - 1) / 2 ^ 20 * 2 ^ 20

/-- The end of an IMAGE_WRITE: a sound image is in its slot or staged, another rejected with event 45 (R628, R712). -/
def State.imageEnd (s : State) (j : ImageJob) (img : Image) (fetchErr : Bool) : State :=
  let s := s.modUnits fun u => { u with writing := none }
  if fetchErr || img.bytes + 224 ≠ j.len || (img.typ ≠ 1 && img.typ ≠ 2) then s.finishLong j.id stIntegrity []
  else match s.imageFault img with
    | some c => (s.raise 45 0 (le 1 img.typ ++ le 1 j.dest ++ le 1 c)).finishLong j.id (rejectSts c) []
    | none =>
      let s := s.modUnits fun u => { u with held := tset u.held (2 * j.dest + img.typ - 1) img }
      let s := if j.dest < 2 then s.emit (.flash j.dest img.typ (s.flashAddr j.dest img.typ)) else s
      s.finishLong j.id stDone (le 1 img.typ ++ le 1 j.dest ++ le 2 img.svn)

/-- IMAGE_WRITTEN: the image read is checked, and written to its slot or staged (R712, R628). -/
def execImageWritten (t : Nat) (img : Image) (fetchErr : Bool) (s : State) : Host.Outcome State Fault Refusal :=
  let s := s.advance t
  match s.units.writing with
  | none => .next s
  | some j =>
    .next (s.imageEnd j img fetchErr)

/-- Whether every region with an ACTIVE cluster has a SPARE (R713). -/
def State.sparesEverywhere (s : State) : Bool :=
  (List.range 8).all fun r => (s.spareOf r).isSome || (regionClusters r).all fun c => (s.cluster c).state != .active

/-- An activation begun: for a cluster image, the regions with ACTIVE clusters, each with its first castling (R713). -/
def State.activateImage (s : State) (whom : ReplyTo) (dest typ : Nat) : State :=
  let todo := if typ = 1 then [] else
    (List.range 8).filter fun r => (regionClusters r).any fun c => (s.cluster c).state == .active
  let r := s.startLong whom 298 0
  let s := r.2.modUnits fun u => { u with
    activating := some { id := r.1, dest := dest, typ := typ, todo := todo, skipped := [], paused := false } }
  todo.foldl (fun (s : State) r => s.updateStep r) s

/-- IMAGE_ACTIVATE: a cluster image begins its rolling castlings, a hub image waits for its pause (R713, R714). -/
def bodyImageActivate : Body := fun whom c s =>
  let dest := c.u 0 1
  let typ := c.u 1 1
  if !(decide (dest ≤ 2) && (typ == 1 || typ == 2) && c.zero 2 2) then .fail s stBadParam else
  if s.units.writing.isSome || s.units.activating.isSome then .fail s stBusy else
  match tget s.units.held (2 * dest + typ - 1) with
  | none => .fail s stImageRejected
  | some i =>
    match s.imageFault i with
    | some k => .fail (s.raise 45 0 (le 1 typ ++ le 1 dest ++ le 1 k)) (rejectSts k)
    | none =>
      if typ = 2 && !s.sparesEverywhere then .fail s stNoSpare else
      .accepted (s.activateImage whom dest typ)

/-- HUB_PAUSE: with no castling in progress, the control cores and the command processor pause for `us`, at most 50 ms; `ok`
says whether the new image passes its start checks (R714, R131). -/
def execHubPause (t us : Nat) (ok : Bool) (s : State) : Host.Outcome State Fault Refusal :=
  let s := s.advance t
  match s.units.activating with
  | none => .next s
  | some j =>
    if j.typ ≠ 1 || j.paused || 50000 < us || s.units.castling.any fun k => k.isSome then .next s else
    let s := s.modUnits fun u => { u with activating := some { j with paused := true, us := us, ok := ok } }
    .next { s with cp := { s.cp with pausedTill := some (s.now + us * usU) } }

/-- A bit for each region in a list. -/
def regionMask (l : List Nat) : Nat := sumOf (List.range 8) fun r => if l.contains r then 2 ^ r else 0

/-- Whether the hub firmware pause has ended. -/
def State.pauseOver (s : State) : Bool :=
  match s.cp.pausedTill with | some e => decide (e ≤ s.now) | none => false

/-- The new hub image starts, with event 299, or the old one resumes (R714). -/
def State.hubStarts (s : State) (j : ImageJob) : State :=
  let s := s.modUnits fun u => u.endActivation
  if !j.ok then s.finishLong j.id stUpdateFailed (le 1 1) else
  let s := { s with trust := { s.trust with hubImage := tget s.units.held (2 * j.dest) } }
  let s := if j.dest < 2 then { s with sys := { s.sys with slotBooted := j.dest, slotNext := j.dest } } else s
  let s := s.raise 299 0 (le 4 j.us ++ le 1 s.sys.slotNext)
  s.finishLong j.id stDone (le 1 1)

/-- UPDATE_DONE: the new hub image starts after its pause, with its slot as the boot slot, or the old one resumes; a
cluster image activation ends when no region is left (R713, R714). -/
def execUpdateDone (t : Nat) (s : State) : Host.Outcome State Fault Refusal :=
  let s := s.advance t
  match s.units.activating with
  | none => .next s
  | some j =>
    if j.typ = 2 then
      if !j.todo.isEmpty then .next s else
      let s := s.modUnits fun u => u.endActivation
      .next (s.finishLong j.id (if j.skipped.isEmpty then stDone else stWarn) (le 1 2 ++ le 1 (regionMask j.skipped)))
    else if !j.paused || !s.pauseOver then .next s else .next (s.hubStarts j)

/-! The home of a conference (R718). -/

/-- CASCADE_GRAINS of a conference; the default 4 without a cascade leg. -/
def State.confD (s : State) (conf : Nat) : Nat :=
  if (s.cascLegs conf 0).isEmpty && (s.cascLegs conf 1).isEmpty then 4 else max (s.cascD conf 0) (s.cascD conf 1)

/-- CONF_HOME_SET (R718); of two moves at one grain the later command's stands. -/
def bodyConfHomeSet : Body := fun _ c s =>
  let i := hIdx c.obj
  let g := c.u 8 8
  if !(c.rng 0 1 0 15 && c.zero 1 7) then .fail s stBadParam else
  if g < grainOf s.now + 2 * s.confD i + 2 then .fail s stHomeTooSoon else
  .ok (s.modConf i fun x => { x with homePend := (x.homePend.filter fun p => p.2 != g) ++ [(c.u 0 1, g)] })

def execCastle (c : Cmd) (s : State) := runBelex 0x1300 bodyCastle c s
def execClusterBench (c : Cmd) (s : State) := runBelex 0x1301 bodyClusterBench c s
def execClusterSetState (c : Cmd) (s : State) := runBelex 0x1302 bodyClusterSetState c s
def execClusterQuery (c : Cmd) (s : State) := runBelex 0x1303 bodyClusterQuery c s
def execRepairSet (c : Cmd) (s : State) := runBelex 0x1310 bodyRepairSet c s
def execImageWrite (c : Cmd) (s : State) := runBelex 0x1320 bodyImageWrite c s
def execImageActivate (c : Cmd) (s : State) := runBelex 0x1321 bodyImageActivate c s
def execConfHomeSet (c : Cmd) (s : State) := runBelex 0x1330 bodyConfHomeSet c s

end Sys2Proof.Machine
end

