-- ==== Sys2Proof/Machine/Return.lean ====
section
/-! DEFINITION. The field return by Twihan, 0x1420 to 0x1423 (file 23 of spec/, R733 to R737). -/

namespace Sys2Proof.Machine

/-- ID_HASH: SHA-384 of the identity certificate. -/
def idHash : List Byte := be 48 (Config.sha384 Config.idCertificate).toNat

/-- RETURN_CHALLENGE: a fresh challenge in place of the last one (R734). -/
def bodyReturnChallenge : Body := fun _ _ s =>
  if s.trust.rngFailed then .fail s stBusy else
  let (n, s) := s.free
  let ch := Config.challenge n
  .ok { s with rcd := { s.rcd with challenge := some ch } } (be 32 ch.toNat ++ le 4 iwId ++ zeros 12 ++ idHash)

/-- Whether the token of a command verifies for its SCOPE under the challenge in force (R734). -/
def State.tokenOk (s : State) (c : Cmd) : Bool :=
  match s.rcd.challenge with
  | none => false
  | some ch => Config.verifies Config.returnKey (be 32 ch.toNat ++ idHash ++ c.bytes 0 4) (c.bytes 8 96)

/-- A challenge is used once: the token that is accepted uses it, one that fails has no effect on it (R136). -/
def State.spendChallenge (s : State) : State := { s with rcd := { s.rcd with challenge := none } }

/-- A token that fails: event 315 (R734). -/
def State.tokenFails (s : State) (opc : Nat) : Res := .fail (s.raise 315 0 (le 2 opc)) stTokenInvalid

/-- SCOPE and the reserved bytes (Table 23-9). -/
def scopeOk (c : Cmd) : Bool := c.mask 0 4 0x3D && c.zero 4 4

/-- What an accepted token arms: the return, and in RETURN a test session; each is recorded, and event 313 raised. -/
def State.armReturn (s : State) (c : Cmd) : State :=
  let session := c.flag 0 4 2 && s.sys.mode == .fieldReturn
  let s := if c.flag 0 4 0 then
      { s with rcd := { s.rcd with armed := true } }.recordKind 5 (le 1 1 ++ le 4 (c.u 0 4)) else s
  let s := if session then
      { s with rcd := { s.rcd with session := true } }.recordKind 5 (le 1 2 ++ le 4 (c.u 0 4)) else s
  s.raise 313 0 (le 4 (c.u 0 4))

/-- RETURN_ARM: a token of scope bit 0 arms the return; one of scope bit 2 opens a test session in RETURN (R733, R735). -/
def bodyReturnArm : Body := fun _ c s =>
  if !scopeOk c then .fail s stBadParam else
  if s.tokenOk c && (c.flag 0 4 0 || c.flag 0 4 2) then .ok (s.spendChallenge.armReturn c)
  else s.tokenFails 0x1421

/-- RETURN_ENTER (R733, R737). -/
def bodyReturnEnter : Body := fun _ c s =>
  if c.u 0 4 ≠ 0x4E525452 then .fail s stBadParam else
  if !s.confs.isEmpty then .fail s stModeBusy else
  .ok (s.enterReturn 0)

/-- The first-fault region cleared: a kind 4 entry names the first and the last entry cleared (R724, R736). -/
def State.clearFirstFault (s : State) : State :=
  let mine := (s.rcd.slots.filter fun p => decide (p.1 < 256)).map fun p => p.2.seq
  let s := { s with rcd := { s.rcd with
    slots := s.rcd.slots.filter fun p => decide (256 ≤ p.1), firstFault := 0, ringStart := none } }
  s.recordKind 4 (le 4 (mine.headD 0) ++ le 4 (mine.getLastD 0))

/-- The end of a field return: what the token's SCOPE clears, the record flushed, and the reset to come (R736). -/
def State.leaveReturn (s : State) (c : Cmd) : State :=
  let s := if c.flag 0 4 4 then s.clearFirstFault else s
  let mesh := s.trust.meshLatch && !c.flag 0 4 5
  let s := { s with trust := { s.trust with meshLatch := mesh, lockdownHeld := s.trust.lockdownHeld && mesh }
                    rcd := { s.rcd with armed := false, session := false } }
  let s := (s.recordKind 5 (le 1 3 ++ le 4 (c.u 0 4))).flushRecord
  s.modSys fun y => { y with exitScope := some (c.u 0 4), devReset := some s.now }

/-- RETURN_EXIT: a token of scope bit 3 leaves RETURN; the device resets once the reply is written (R736, R636, R692). -/
def bodyReturnExit : Body := fun _ c s =>
  if !scopeOk c then .fail s stBadParam else
  if s.tokenOk c && c.flag 0 4 3 then .ok (s.spendChallenge.leaveReturn c) else s.tokenFails 0x1423

def execReturnChallenge (c : Cmd) (s : State) := runBelex 0x1420 bodyReturnChallenge c s
def execReturnArm (c : Cmd) (s : State) := runBelex 0x1421 bodyReturnArm c s
def execReturnEnter (c : Cmd) (s : State) := runBelex 0x1422 bodyReturnEnter c s
def execReturnExit (c : Cmd) (s : State) := runBelex 0x1423 bodyReturnExit c s

end Sys2Proof.Machine
end

