-- ==== Sys2Proof/Machine/Bodies.lean ====
section
/-! DEFINITION. The body of every opcode of the Belex opcode table, by opcode, for commands that the
command processor brings to execution. -/

namespace Sys2Proof.Machine

/-- Bodies by opcode, part 0. -/
def bodies0 : List (Nat × Body) := [
  (0x0000, bodyModeSet),
  (0x0001, bodyModeQuery),
  (0x0010, bodyPowerSet),
  (0x0011, bodyThermalQuery),
  (0x0020, bodyDevReset),
  (0x0100, bodyConfCreate),
  (0x0101, bodyConfDelete),
  (0x0102, bodyConfQuery),
  (0x0110, bodyLegCreate),
  (0x0111, bodyLegDelete),
  (0x0112, bodyLegMove),
  (0x0113, bodyLegSetState),
  (0x0114, bodyLegStats),
  (0x0120, bodyFlowCreate),
  (0x0121, bodyFlowDelete),
  (0x0122, bodyFlowQuery),
  (0x0130, bodyTenantSetQuota),
  (0x0131, bodyTenantQuery),
  (0x0200, bodyPortSetMode),
  (0x0201, bodyAddrSet),
  (0x0210, bodyIceSetCredentials),
  (0x0211, bodyPolicerSet),
  (0x0220, bodyJbSet),
  (0x0221, bodyReorderSet),
  (0x0222, bodyFecSet)]

/-- Bodies by opcode, part 1. -/
def bodies1 : List (Nat × Body) := [
  (0x0230, bodyIngressStats),
  (0x0231, bodyPortStats),
  (0x0232, bodyRemoteQuery),
  (0x0300, bodyFwdBind),
  (0x0301, bodyFwdUnbind),
  (0x0302, bodyFwdQuery),
  (0x0310, bodyFlowProfileSet),
  (0x0311, bodyRtcpSet),
  (0x0312, bodyKeyframeRequest),
  (0x0320, bodyAdaptSet),
  (0x0321, bodyAdaptOverride),
  (0x0322, bodyAdaptQuery),
  (0x0330, bodyCascadeSet),
  (0x0400, bodyEgressLegSet),
  (0x0401, bodyEgressClassSet),
  (0x0410, bodyPortEgressSet),
  (0x0411, bodyGclSet),
  (0x0412, bodyGclQuery),
  (0x0420, bodyFecGenSet),
  (0x0430, bodyFcSet),
  (0x0440, bodyEgressStats),
  (0x0441, bodyEgressPortStats),
  (0x0500, bodyMixGroupCreate),
  (0x0501, bodyMixGroupDelete),
  (0x0502, bodyMixContribute)]

/-- Bodies by opcode, part 2. -/
def bodies2 : List (Nat × Body) := [
  (0x0503, bodyMixListen),
  (0x0504, bodyMixUnlisten),
  (0x0510, bodyMixGraphLoad),
  (0x0511, bodyMixSet),
  (0x0512, bodyMixPanSet),
  (0x0520, bodyMixQuery),
  (0x0521, bodyMixStats),
  (0x0600, bodyKernelLoad),
  (0x0601, bodyKernelUnload),
  (0x0602, bodyKernelQuery),
  (0x0603, bodyKernelReset),
  (0x0610, bodyDspSet),
  (0x0611, bodyDspStats),
  (0x0700, bodySapConfig),
  (0x0701, bodySapMclkSet),
  (0x0702, bodySapQuery),
  (0x0703, bodySapFilterQuery),
  (0x0710, bodyRouteSet),
  (0x0711, bodyRouteQuery),
  (0x0720, bodyPortLegMaskSet),
  (0x0730, bodySapStats),
  (0x0800, bodyBeaconModAttach),
  (0x0801, bodyBeaconModSet),
  (0x0802, bodyBeaconModDetach),
  (0x0803, bodyBeaconModQuery)]

/-- Bodies by opcode, part 3. -/
def bodies3 : List (Nat × Body) := [
  (0x0810, bodyBeaconRxSet),
  (0x0811, bodyBeaconWatch),
  (0x0812, bodyBeaconModemSet),
  (0x0820, bodyBeaconLegQuery),
  (0x0821, bodyBeaconStats),
  (0x0900, bodyDecCreate),
  (0x0901, bodyDecDelete),
  (0x0902, bodyDecBind),
  (0x0903, bodyDecSet),
  (0x0904, bodyDecQuery),
  (0x0910, bodyDecStats),
  (0x0A00, bodyCanvasCreate),
  (0x0A01, bodyCanvasDelete),
  (0x0A02, bodyCanvasLayoutSet),
  (0x0A03, bodyOverlayLoad),
  (0x0A04, bodyGuardSet),
  (0x0A05, bodyCanvasQuery),
  (0x0A10, bodyCompStats),
  (0x0B00, bodyEncCreate),
  (0x0B01, bodyEncDelete),
  (0x0B02, bodyEncSet),
  (0x0B03, bodyEncAttach),
  (0x0B04, bodyEncDetach),
  (0x0B05, bodyEncRefresh),
  (0x0B06, bodyEncQuery)]

/-- Bodies by opcode, part 4. -/
def bodies4 : List (Nat × Body) := [
  (0x0B10, bodyEncStats),
  (0x0C00, bodyTileCreate),
  (0x0C01, bodyTileDelete),
  (0x0C02, bodyTileSet),
  (0x0C03, bodyTileQuery),
  (0x0C10, bodySpliceCreate),
  (0x0C11, bodySpliceDelete),
  (0x0C12, bodySpliceLayoutSet),
  (0x0C13, bodySpliceSet),
  (0x0C14, bodySpliceQuery),
  (0x0C20, bodySpliceStats),
  (0x0D00, bodyDispSet),
  (0x0D01, bodyDispTenantSet),
  (0x0D02, bodyDispQuery),
  (0x0D03, bodyDispTenantQuery),
  (0x0D04, bodyDispKeyQuery),
  (0x0D05, bodyDispKeyReset),
  (0x0E00, bodyMemQuery),
  (0x0E01, bodyMemLogRead),
  (0x0E10, bodyMemSet),
  (0x0E11, bodyMemTenantSet),
  (0x0E12, bodyMemTenantQuery),
  (0x0F00, bodyDmaQuery),
  (0x0F01, bodyDmaStats),
  (0x0F10, bodyPfcGenSet)]

/-- Bodies by opcode, part 5. -/
def bodies5 : List (Nat × Body) := [
  (0x1000, bodyAttestReport),
  (0x1001, bodyIdCertRead),
  (0x1010, bodyProvisionSet),
  (0x1011, bodyProvisionDone),
  (0x1012, bodyTrustReprovision),
  (0x1013, bodyPeerMeasSet),
  (0x1020, bodyDtlsKeyCreate),
  (0x1021, bodyDtlsCertRead),
  (0x1022, bodyDtlsLegSet),
  (0x1030, bodyKeyImport),
  (0x1031, bodyKeyDelete),
  (0x1032, bodyTrunkKeySet),
  (0x1040, bodyTamperSet),
  (0x1041, bodyTamperQuery),
  (0x1050, bodyImageCommit),
  (0x1100, bodyCipherFlowQuery),
  (0x1101, bodyCipherPin),
  (0x1110, bodyCipherStats),
  (0x1200, bodyTimeRefSet),
  (0x1201, bodyTimeAllowStep),
  (0x1202, bodyTimePpsSeconds),
  (0x1203, bodyPpsOutSet),
  (0x1204, bodyTimeUtcSet),
  (0x1205, bodyTimeQuery),
  (0x1300, bodyCastle)]

/-- Bodies by opcode, part 6. -/
def bodies6 : List (Nat × Body) := [
  (0x1301, bodyClusterBench),
  (0x1302, bodyClusterSetState),
  (0x1303, bodyClusterQuery),
  (0x1310, bodyRepairSet),
  (0x1320, bodyImageWrite),
  (0x1321, bodyImageActivate),
  (0x1330, bodyConfHomeSet),
  (0x1400, bodyEvtMaskSet),
  (0x1401, bodyEvtMaskQuery),
  (0x1410, bodyRecordSet),
  (0x1411, bodyRecordQuery),
  (0x1412, bodyRecordRead),
  (0x1413, bodyRecordExport),
  (0x1414, bodyRecordSeal),
  (0x1420, bodyReturnChallenge),
  (0x1421, bodyReturnArm),
  (0x1422, bodyReturnEnter),
  (0x1423, bodyReturnExit),
  (0x1500, bodyTenantHostSet),
  (0x1501, bodyTenantHostQuery),
  (0x1510, bodyHostLinkQuery),
  (0x1520, bodyDiagLoopback),
  (0x1530, bodyMgmtSet)]

/-- The body of an opcode. -/
def bodyOf (opc : Nat) : Option Body :=
  tget (bodies0 ++ bodies1 ++ bodies2 ++ bodies3 ++ bodies4 ++ bodies5 ++ bodies6) opc

end Sys2Proof.Machine
end

