-- ==== Sys2Proof/Machine/CmdProc.lean ====
section
/-! DEFINITION. The command processor: fetching with the checks of acceptance, beginning or timing out
a command, writing completion and event entries (file 03 of spec/). -/

namespace Sys2Proof.Machine

/-- Whether a hub firmware pause stops the command processor now (R131). -/
def State.hubPaused (s : State) : Bool :=
  match s.cp.pausedTill with | some e => decide (s.now < e) | none => false

/-- Whether an SQ has an announced entry that the device may fetch now (R98, R103, R112, R131, R132,
R740). -/
def State.canFetch (s : State) (fn n : Nat) : Bool :=
  let q := (s.func fn).sqs.getD n {}
  s.fnMasters fn && s.serving && !s.hubPaused && q.enable && !q.fetchErr &&
    q.pos != q.tail && ((s.func fn).cqs.getD n {}).waiting.isEmpty

/-- A PCIe error seen by a fetch: counted in the AER counters, with event 25 first per window for its
kind (0 correctable, 1 non-fatal, 2 fatal). -/
def State.aer (s : State) (kind : Nat) : State :=
  let p := s.host.pcie
  let p := match kind with
    | 0 => { p with correctable := p.correctable + 1 }
    | 1 => { p with nonfatal := p.nonfatal + 1 }
    | _ => { p with fatal := p.fatal + 1 }
  { s with host := { s.host with pcie := p } }.raiseCount 25 kind 0 (le 1 kind)

/-- The fields of an opcode's parameters that hold handles: those of its table, the references of a graph's nodes, the sources
of a layout's layers, the tiles of a grid's cells. -/
def paramHandles (opc : Nat) (c : Cmd) : List Nat :=
  let many (n off step : Nat) : List Nat := (List.range n).map fun i => c.u (off + step * i) 4
  match opc with
  | 0x0110 => [c.u 28 4]
  | 0x0112 | 0x0300 | 0x0502 | 0x0503 | 0x0603 | 0x0900 | 0x0902 | 0x0B00 | 0x0B03 | 0x0B04 | 0x0C00 | 0x1032 => [c.u 0 4]
  | 0x0120 => [c.u 12 4, c.u 32 4]
  | 0x0510 => many (min (c.u 6 2) 200) 36 16
  | 0x0512 => [c.u 4 4]
  | 0x0A02 => many (c.u 0 1) 12 32
  | 0x0C12 => many (c.u 0 1 * c.u 1 1) 48 4
  | _ => []

/-- The objects that a command names, in OBJ or in its parameters (R68, R69). -/
def objectsNamed (opc : Nat) (c : Cmd) : List Nat := (c.obj :: paramHandles opc c).filter fun h => hType h != 0

/-- The entry of an accepted command (R110, R116, R122, R128). -/
def acceptedEntry (s : State) (q : Sq) (whom : ReplyTo) (c : Cmd) : CmdEntry :=
  let f := s.func c.fn
  let chained := bit c.flg 2 && q.lastId.isSome
  { whom := whom, cmd := c, level := max c.pri f.topLevel, accepted := s.now,
    limit := s.now + f.waitLimitMs * msU, fence := bit c.flg 0, chained := chained,
    pred := if chained then q.lastId else none,
    predSts := if chained then q.lastSts else none, begun := false
    names := objectsNamed whom.opc c }

/-- An SQ of a function changed. -/
def State.modSq (s : State) (fn sq : Nat) (f : Sq → Sq) : State :=
  s.modFunc fn fun x => { x with sqs := modAt x.sqs sq f }

/-- An entry that cannot be fetched stops its SQ, with event 30 (R112). -/
def State.fetchFails (s : State) (fn sq : Nat) : State :=
  (((s.modSq fn sq fun q => { q with fetchErr := true }).raise 30 0 (le 1 fn ++ le 1 sq))).aer 1

/-- The first check of acceptance that a command of an opcode fails (R110). -/
def acceptance (opc : Nat) (c : Cmd) (s : State) : Option Nat :=
  match opInfo opc with | none => some stBadOpcode | some o => acceptCheck o c s

/-- An entry fetched from its SQ: refused with the status of R110, or accepted to wait for its execution. -/
def State.fetched (s : State) (fn sq opc : Nat) (c : Cmd) : State :=
  let id := s.cp.nextId
  let whom := replyTo s opc c id
  let entry := acceptedEntry s ((s.func fn).sqs.getD sq {}) whom c
  let s := { s with cp := { s.cp with nextId := id + 1 } }
  let s := s.modSq fn sq fun q => { q with pos := (q.pos + 1) % 2 ^ q.sizeLog2, lastId := some id, lastSts := none }
  let s := if c.fetchErr then s.aer 1 else s
  match acceptance opc c s with
  | some sts => s.complete whom sts []
  | none => { s with cp := ({ s.cp with cmds := tset s.cp.cmds id entry } : CmdProc).wake s.now }

/-- A field of a submission entry (Table 03-2), least significant byte first (R7). -/
def sqField (e : SqEntry) (off n : Nat) : Nat := ofLe ((e.bytes.drop off).take n)

/-- The command in an entry: its header, and its parameters inline or as fetched from PARAM_ADDR (R100). -/
def sqCmd (e : SqEntry) (fn sq t : Nat) : Cmd :=
  let len := sqField e 4 2
  { at_ := t, fn := fn, sq := sq, tag := sqField e 2 2, pri := sqField e 6 1, flg := sqField e 7 1, obj := sqField e 8 4
    aux := sqField e 12 4, resultAddr := sqField e 16 8, paramAddr := sqField e 24 8, len := len, fetchErr := e.paramErr
    params := if len ≤ 32 then (e.bytes.drop 32).take len else e.params.take len }

/-- COMMAND_FETCH: the device takes the next announced entry of an SQ with its parameters and checks
it in the order of R110. A fetch error stops the SQ, with no reply (R112). -/
def execCommandFetch (t fn sq : Nat) (e : SqEntry) (s : State) : Host.Outcome State Fault Refusal :=
  let s := s.advance t
  if decide (8 ≤ sq) || !s.canFetch fn sq then .next s else
  if 4096 ≤ s.userWaiting fn then .next (s.raiseWK 232 fn 0 (le 1 fn)) else
  .next (if e.fetchErr then s.fetchFails fn sq else s.fetched fn sq (sqField e 0 2) (sqCmd e fn sq t))

/-- A waiting command brought to its execution: past its limit it times out (R129), behind a failed
predecessor it is fenced out (R116), else its body runs (R111). No rule says at which instant FENCED_OUT is given: here when the
command would begin, as the next that its tenant and level may begin (DESIGN CHOICE). -/
def State.begin (s : State) (id : Nat) (e : CmdEntry) : State :=
  if e.limit ≤ s.now then s.complete e.whom stTimeout []
  else if s.cp.heldBack id e || !(e.item.any s.userNext) then s
  else if e.chained && e.predSts != some stDone && e.predSts != some stWarn then
    s.complete e.whom stFencedOut []
  else
    let s := e.item.elim s s.userBegin
    let s := { s with cp := ({ s.cp with cmds := tset s.cp.cmds id { e with begun := true } } : CmdProc).wake s.now }
    match opInfo e.whom.opc, bodyOf e.whom.opc with
    | some o, some b => executeCmd o b e.whom { e.cmd with at_ := s.now } s
    | _, _ => s.complete e.whom stBadOpcode []

/-- COMMAND_EXECUTE_START: execution of an accepted command begins, unless its waits hold it or a command that R535 puts first (R68,
R111, R115 to R118). -/
def execCommandExecuteStart (t id : Nat) (s : State) : Host.Outcome State Fault Refusal :=
  let s := s.advance t
  match tget s.cp.cmds id with
  | none => .next s
  | some e => if e.begun then .next s else .next (s.begin id e)

/-- COMMAND_TIMEOUT: WAIT_LIMIT expires before a command has begun (R128, R129). -/
def execCommandTimeout (t id : Nat) (s : State) : Host.Outcome State Fault Refusal :=
  let s := s.advance t
  match tget s.cp.cmds id with
  | none => .next s
  | some e =>
    if !e.begun && decide (e.limit ≤ s.now) then .next (s.complete e.whom stTimeout []) else .next s

/-- The seconds and nanoseconds of an instant as entries carry them (Tables 03-4, 03-5; R109). -/
def dtBytes (t : Nat) : List Byte := le 4 (dtSec t) ++ le 4 (dtNs t)

/-- The 64 bytes of a completion entry (Table 03-4). -/
def cqeBytes (c : Completion) (qw : Nat) : List Byte :=
  le 2 c.whom.tag ++ le 2 c.sts ++ le 2 c.payload.length ++ le 2 qw ++ dtBytes c.dt ++
    (if 48 < c.payload.length then zeros 48 else padTo 48 c.payload)

/-- The 32 bytes of an event entry (Table 03-5). -/
def eqeBytes (e : Event) (eflg : Nat) : List Byte :=
  le 2 e.src ++ le 2 eflg ++ le 4 e.handle ++ dtBytes e.dt ++ padTo 16 e.detail

/-- A completion entry written to its queue, its payload first when it exceeds 48 bytes (R97, R102, R106). -/
def State.writeCqe (s : State) (fn cq : Nat) (q : Cq) (c : Completion) (rest : List Completion) : State :=
  let sq := (s.func fn).sqs.getD cq {}
  let s := if 48 < c.payload.length then s.emit (.hostWrite c.whom.resultAddr c.payload) else s
  let s := s.emit (.cqe fn cq q.pos (cqeBytes c (b2n q.phase * 32768 + cq * 4096 + sq.pos)))
  let pos := (q.pos + 1) % 2 ^ q.sizeLog2
  let q' : Cq := { q with waiting := rest, pos := pos, phase := if pos = 0 then !q.phase else q.phase }
  let s := s.modFunc fn fun f => { f with cqs := setAt f.cqs cq q' }
  if q.irqEn then s.vectorDue fn cq q.pos q.vector q.coalUs else s

/-- The reset that DEV_RESET and RETURN_EXIT ask for begins once their reply is written (R692). -/
def State.resetAfter (s : State) (c : Completion) : State :=
  if s.sys.devReset.isSome && (c.whom.opc == 0x0020 || c.whom.opc == 0x1423) && c.sts == stDone then
    (s.modSys fun y => { y with devReset := some s.now }).beginReset
  else s

/-- COMPLETION_WRITE: the oldest completion waiting for a CQ is written, its payload first when it
exceeds 48 bytes (R97, R102, R106, R133). The reset of DEV_RESET and RETURN_EXIT begins after their reply (R692). -/
def execCompletionWrite (t fn cq : Nat) (s : State) : Host.Outcome State Fault Refusal :=
  let s := s.advance t
  if decide (8 ≤ cq) || s.hubPaused || !s.cqTakes fn cq then .next s else
  let q := (s.func fn).cqs.getD cq {}
  match q.waiting with
  | [] => .next s
  | c :: rest =>
    .next ((s.writeCqe fn cq q c rest).resetAfter c)

/-- The event queue cannot take an entry: a queue full for 1 s or longer raises event 317 to tenant 0. -/
def State.eqStalled (s : State) (fn : Nat) : State :=
  let q := (s.func fn).eq
  match q.fullSince with
  | some a => if q.enable && decide (a + secU ≤ s.now) then s.raiseWK 317 fn 0 (le 1 fn) else s
  | none => s

/-- An event entry written to its queue; its group's summary bit sets (R97, R106, R134, R723). -/
def State.writeEqe (s : State) (fn : Nat) (completion : Bool) (q : Eq) (e : Event) (rest : List Event) : State :=
  let s := s.emit (.eqe fn q.pos (eqeBytes e (b2n q.phase * 32768 + b2n q.lost * 16384)))
  let pos := (q.pos + 1) % 2 ^ q.sizeLog2
  let full := (pos + 1) % 2 ^ q.sizeLog2 == q.head
  let q' : Eq := { q with
    comps := if completion then rest else q.comps
    held := if completion then q.held else rest
    pos := pos, phase := if pos = 0 then !q.phase else q.phase
    lost := false, fullSince := if full then some s.now else none }
  let s := (s.modFunc fn fun f => { f with eq := q', summary := f.summary ||| 2 ^ (e.src / 32) }).trimHeld fn
  if q.irqEn then s.vectorDue fn 8 q.pos q.vector q.coalUs else s

/-- EVENT_WRITE: the oldest completion event, or the oldest ordinary event, held for a function is
written to its event queue; its group's summary bit sets (R97, R106, R127, R134, R721, R723). -/
def execEventWrite (t fn : Nat) (completion : Bool) (s : State) : Host.Outcome State Fault Refusal :=
  let s := s.advance t
  if !s.eqTakes fn then .next (s.eqStalled fn) else
  let q := (s.func fn).eq
  match (if completion then q.comps else q.held) with
  | [] => .next s
  | e :: rest =>
    .next (s.writeEqe fn completion q e rest)

end Sys2Proof.Machine
end

