-- ==== Sys2Proof/Machine/Dsp.lean ====
section
/-! DEFINITION. Invocations of kernels on the DSP cores, kernel faults and the watchdog, and the meaning of every DSP
instruction (file 08 of spec/). -/

namespace Sys2Proof.Machine

/-! Invocations (R336 to R342). -/

/-- The input of a KERNEL instance (Table 07-5): the samples of the one node before it, of the mix's own decoded flows, port
slots, sums and kernels of the grain; zeros where the grain is not in the making. -/
def State.kernelInput (s : State) (conf node grain : Nat) : List Int :=
  let c := confOfInst conf
  match (s.mix c).now with
  | none => silence
  | some g =>
    if g.n ≠ grain then silence else
    let e := s.mixEnv c g (decide (oldConf ≤ conf))
    match e.x.edges.find? fun x => x.dst == node with
    | none => silence
    | some x => e.samples e.sum x.src

/-- A list of 32-bit words written from an address on. -/
def writeWords : Mem → Nat → List (BitVec 32) → Mem
  | m, _, [] => m
  | m, a, w :: r => writeWords (m.write32 a w) (a + 4) r

/-- The next instance that waits on a core enters: registers as in Table 08-8, all others 0; input written,
output buffer cleared (R336). A core with an invocation, or with none waiting, is unchanged. -/
def State.enterInvocation (s : State) (core : Nat) : State :=
  let k := s.core core
  match k.inv, k.waiting with
  | none, (conf, node) :: rest =>
    match tget s.aud.dsp.insts (conf * 256 + node) with
    | none => s.setCore core { k with waiting := rest }
    | some i =>
      match tget s.aud.dsp.kernels i.kernel with
      | none => s.setCore core { k with waiting := rest }
      | some q =>
        let grain := grainOf s.now - 1 - s.mixLag (confOfInst conf)
        let xin := i.x + q.stateX
        let yout := i.y + q.stateY
        let words := (s.kernelInput conf node grain).map fun x => BitVec.ofInt 32 (x * 256)
        let w (n : Nat) : BitVec 32 := BitVec.ofNat 32 n
        let k' : DspCore :=
          { d := [w grain, w i.param, w 120, w i.num] ++ List.replicate 28 0
            p := [w xin, w yout, w i.x, w i.y] ++ List.replicate 12 0
            pc := q.entry
            xmem := writeWords (k.xmem.clear xin 480) xin words
            ymem := k.ymem.clear yout 480
            inv := some { conf := conf, node := node, grain := grain, kernel := i.kernel, code := q.code.length,
                          xs := [(i.x, q.stateX), (xin, 480)], ys := [(i.y, q.stateY), (yout, 480)],
                          cycMax := q.cycMax, output := yout, cycles := 0, watch := false }
            waiting := rest, used := k.used, pmem := k.pmem }
        (s.setCore core k').modKernel i.kernel fun q => { q with invocations := q.invocations + 1 }
  | _, _ => s

/-- The output samples of an invocation that succeeded (R338). -/
def outputSamples (m : Mem) (a : Nat) : List Int :=
  (List.range 120).map fun i => (m.read32 (a + 4 * i)).toInt / 256

/-- An invocation ends: its instance keeps the output, the kernel its largest cycle count (event 179). -/
def State.endInvocation (s : State) (core : Nat) (v : Invocation) (out : List Int) : State :=
  let s := s.setCore core { s.core core with inv := none }
  let key := v.conf * 256 + v.node
  match tget s.aud.dsp.insts key with
  | none => s
  | some i =>
    let s := s.modInst key fun i => { i with out := some (v.grain, out) }
    let s := s.modKernel i.kernel fun q => { q with cycPeak := max q.cycPeak v.cycles }
    let peak := match tget s.aud.dsp.kernels i.kernel with | some q => q.cycPeak | none => v.cycles
    if 9 * v.cycMax < 10 * v.cycles then s.raiseW 179 (mkHandle 9 i.kernel) (le 4 peak) else s

/-- A kernel fault or watchdog abort of an invocation: 120 zero samples; the third in successive grains
disables the instance, with event 175 (R335, R341). -/
def State.kernelFailed (s : State) (core : Nat) (v : Invocation) : State :=
  let s := s.endInvocation core v (List.replicate 120 0)
  let key := v.conf * 256 + v.node
  match tget s.aud.dsp.insts key with
  | none => s
  | some i =>
    let n := match i.lastFault with
      | some g => if g + 1 = v.grain then i.faults + 1 else 1
      | none => 1
    let s := s.modInst key fun i => { i with faults := n, lastFault := some v.grain, disabled := i.disabled || decide (3 ≤ n) }
    if 3 ≤ n && !i.disabled then s.raise 175 (mkHandle 9 i.kernel) (le 2 (confOfInst v.conf) ++ le 1 v.node) else s

/-- A kernel fault (R335): event 174 first per window. Outside an invocation nothing is left to end. -/
def State.kernelFault (s : State) (core cause : Nat) : State :=
  let k := s.core core
  match k.inv with
  | none => s
  | some v =>
    let s := s.modDspStats (coreCluster core) fun x => { x with faults := x.faults + 1 }
    match tget s.aud.dsp.insts (v.conf * 256 + v.node) with
    | none => s.kernelFailed core v
    | some i =>
      let s := s.modKernel i.kernel fun q => { q with faults := q.faults + 1 }
      let s := s.raiseW 174 (mkHandle 9 i.kernel) (le 1 cause ++ le 2 (coreUnit core) ++ le 4 k.pc)
      s.kernelFailed core v

/-- Cycles accounted to a core in the grain: event 178 above 3,800,000, and the cluster's peak. -/
def State.dspCycles (s : State) (core n : Nat) : State :=
  let g := grainOf s.now
  let k := s.core core
  let u := (if k.used.1 = g then k.used.2 else 0) + n
  let s := s.setCore core { k with used := (g, u), inv := k.inv.map fun v => { v with cycles := v.cycles + n } }
  let w := windowOf s.now
  let s := s.modDspStats (coreCluster core) fun x =>
    if x.peakWin = w then { x with peakNow := max x.peakNow u }
    else { x with peakWin := w, peakNow := u, peakLast := if x.peakWin + 1 = w then x.peakNow else 0 }
  if 3800000 < u then s.raiseWK 178 (coreUnit core) (mkHandle 12 (coreCluster core)) (le 2 (coreUnit core) ++ le 4 u)
  else s

/-- The watchdog's abort (R340), 8 cycles after the boundary at which it is recognised (R329): event 173 first per
window. -/
def State.watchdogAbort (s : State) (core : Nat) (v : Invocation) : State :=
  let s := s.dspCycles core 8
  let v := { v with cycles := v.cycles + 8 }
  let s := s.modDspStats (coreCluster core) fun x => { x with faults := x.faults + 1 }
  match tget s.aud.dsp.insts (v.conf * 256 + v.node) with
  | none => s.kernelFailed core v
  | some i =>
    let s := s.modKernel i.kernel fun q => { q with watchdogs := q.watchdogs + 1 }
    let s := s.raiseW 173 (mkHandle 9 i.kernel) (le 2 (coreUnit core) ++ le 2 (confOfInst v.conf) ++ le 8 v.grain)
    s.kernelFailed core v

/-- Whether the boundary after the last instruction is eligible for an interrupt (R328). -/
def DspCore.eligible (k : DspCore) : Bool := k.delay.isNone && k.rep.isNone && !k.hold

/-- The address of a byte of a core's local memory in the SRAM log of its die: unit address, memory (0 PMEM, 1 XMEM, 2 YMEM) and
byte (DESIGN CHOICE). -/
def localAddr (core mem a : Nat) : Nat := coreUnit core * 262144 + mem * 65536 + a % 65536

/-- A correction in a core's local memory (R333): event 177 when the window's count reaches 64, and the counts and log of the
die's SRAM (R568, R573). -/
def State.dspCorrected (s : State) (core mem a bitNo : Nat) : State :=
  let k := coreCluster core
  let s := s.modDspStats k fun x => { x with corrected := x.corrected + 1 }
  (s.raiseAt 177 (mkHandle 12 k) 64).sramCorrected (4 + k / 28) (localAddr core mem (a / 8 * 8)) (bitNo % 72) (some k)

/-- An uncorrectable local memory error (R334): the trap ends the invocation with zero samples, and the
core is marked failed. `mem` 0 PMEM, 1 XMEM, 2 YMEM. -/
def State.dspTrap (s : State) (core mem addr : Nat) : State :=
  let s := match (s.core core).inv with
    | some v => s.endInvocation core v (List.replicate 120 0)
    | none => s
  let cl := coreCluster core
  let s := s.modDspStats cl fun x => { x with uncorrectable := x.uncorrectable + 1 }
  let s := s.raise 176 (mkHandle 12 cl) (le 2 (coreUnit core) ++ le 1 mem ++ le 4 addr)
  s.unitFailed cl (core % 8) 0

/-- The moves of an instruction: whether each is of YMEM, and the move. -/
def DspIns.moves : DspIns → List (Bool × DspMove)
  | .dual _ _ x y => [(false, x), (true, y)]
  | .alu _ _ _ _ _ _ x => [(false, x)]
  | _ => []

/-- Whether a core comes to the access of a move: the move moves, and its address is allowed. -/
def DspCore.accesses (k : DspCore) (inY : Bool) (m : DspMove) : Bool :=
  m.mod != 7 && moveOk (k.inv.map fun v => if inY then v.ys else v.xs) (k.addrP m.p).toNat

/-- What the check bits of the words that an instruction's moves name find: the state, and whether the core traps (R333,
R334). A store reads nothing to correct. -/
def State.dspMoveChecks (s : State) (core : Nat) (i : DspIns) (f : DspMem) : State × Bool :=
  let k := s.core core
  i.moves.foldl (fun (r : State × Bool) q =>
    let a := (k.addrP q.2.p).toNat
    let mem := if q.1 then 2 else 1
    if r.2 || !k.accesses q.1 q.2 then r else
    match if q.1 then f.y else f.x with
    | .good => r
    | .corrected _ b => if q.2.store then r else (r.1.dspCorrected core mem a b, false)
    | .uncorrectable _ => (r.1.dspTrap core mem a, true)) (s, false)

/-- Whether an instruction is the one that a core fetches: in an invocation, the word at PC of its kernel in PMEM (R345), which
a reserved bit makes no instruction (R319). Outside an invocation any instruction can be issued. -/
def DspCore.fetches (k : DspCore) (i : DspIns) (rsv : Nat) : Bool :=
  match k.inv with
  | none => true
  | some v => match (((tget k.pmem v.kernel).getD [])[k.pc]?).bind dspDecode with
    | some x => rsv == 0 && x == i
    | none => rsv != 0

/-- The instruction that a core has fetched runs: its effects, the end of the invocation, and the watchdog at the next eligible
boundary. -/
def State.dspRun (s : State) (core : Nat) (i : DspIns) : State :=
  let k := s.core core
  let (f, s) := s.free
  let r := k.execIns i f
  match r.2.1 with
  | .fault cause => (s.dspCycles core r.2.2).kernelFault core cause
  | .halt =>
    let s := (s.setCore core r.1).dspCycles core r.2.2
    (match k.inv, (s.core core).inv with
     | some _, some v =>
       if k.readD 0 = 0 then s.endInvocation core v (outputSamples k.ymem v.output) else s.kernelFault core 4
     | _, _ => s)
  | .on =>
    let s := (s.setCore core r.1).dspCycles core r.2.2
    let k := s.core core
    (match k.inv with
     | some v => if v.watch && k.eligible then s.watchdogAbort core v else s
     | none => s)

/-- One instruction issued on a core: entry of a waiting invocation, the fetch with its check, the legality of the instruction,
the checks of its moves, and its run. In an invocation the core issues what PMEM holds at PC, and no other. -/
def State.dspIssue (s : State) (core : Nat) (i : DspIns) (f : DspMem) : Host.Outcome State Fault Refusal :=
  if 288 ≤ core then .fault .noSuchCore else
  let u := s.enterInvocation core
  let k := u.core core
  let outside := match k.inv with | some v => decide (v.code ≤ k.pc) | none => false
  if outside then .next (u.kernelFault core 2) else
  if !k.fetches i f.rsv then .next s else
  match f.fetch with
  | .uncorrectable _ => .next (u.dspTrap core 0 (8 * k.pc))
  | e =>
    let u := match e with
      | .corrected _ b => u.dspCorrected core 0 (8 * k.pc) b
      | _ => u
    if f.rsv ≠ 0 || !i.legal || k.misplaced i then .next (u.kernelFault core 1) else
    let r := u.dspMoveChecks core i f
    .next (if r.2 then r.1 else r.1.dspRun core i)

/-! Meanings of the operations. An operation stands in its instruction beside the fields given: the other
slot and the moves. -/

/-- A DUAL instruction whose slot A, or B when `inB`, is the operation given. -/
def dualWith (op : Nat) (inB : Bool) (acc a b : Nat) (other : DspSlot) (x y : DspMove) : DspIns :=
  if inB then .dual other ⟨op, acc, a, b⟩ x y else .dual ⟨op, acc, a, b⟩ other x y

/-- What the memories bring, with what the check bits say of the word that a row's own move names, in YMEM when `inY`. -/
def dspFound (f : DspMem) (inY : Bool) (ecc : Ecc) : DspMem := if inY then { f with y := ecc } else { f with x := ecc }

/-- A DUAL instruction with a move as its move X, or move Y when `inY`, beside the other move. -/
def dualMove (inY : Bool) (m : DspMove) (a b : DspSlot) (other : DspMove) : DspIns :=
  if inY then .dual a b other m else .dual a b m other

def execDspAdd (core dst srcA srcB sh acc : Nat) (x : DspMove) (f : DspMem) (s : State) :=
  s.dspIssue core (.alu 0x00 dst srcA srcB sh acc x) f
def execDspSub (core dst srcA srcB sh acc : Nat) (x : DspMove) (f : DspMem) (s : State) :=
  s.dspIssue core (.alu 0x01 dst srcA srcB sh acc x) f
def execDspAnd (core dst srcA srcB sh acc : Nat) (x : DspMove) (f : DspMem) (s : State) :=
  s.dspIssue core (.alu 0x02 dst srcA srcB sh acc x) f
def execDspOr (core dst srcA srcB sh acc : Nat) (x : DspMove) (f : DspMem) (s : State) :=
  s.dspIssue core (.alu 0x03 dst srcA srcB sh acc x) f
def execDspXor (core dst srcA srcB sh acc : Nat) (x : DspMove) (f : DspMem) (s : State) :=
  s.dspIssue core (.alu 0x04 dst srcA srcB sh acc x) f
def execDspAsr (core dst srcA srcB sh acc : Nat) (x : DspMove) (f : DspMem) (s : State) :=
  s.dspIssue core (.alu 0x05 dst srcA srcB sh acc x) f
def execDspLsr (core dst srcA srcB sh acc : Nat) (x : DspMove) (f : DspMem) (s : State) :=
  s.dspIssue core (.alu 0x06 dst srcA srcB sh acc x) f
def execDspLsl (core dst srcA srcB sh acc : Nat) (x : DspMove) (f : DspMem) (s : State) :=
  s.dspIssue core (.alu 0x07 dst srcA srcB sh acc x) f
def execDspAbs (core dst srcA srcB sh acc : Nat) (x : DspMove) (f : DspMem) (s : State) :=
  s.dspIssue core (.alu 0x08 dst srcA srcB sh acc x) f
def execDspMin (core dst srcA srcB sh acc : Nat) (x : DspMove) (f : DspMem) (s : State) :=
  s.dspIssue core (.alu 0x09 dst srcA srcB sh acc x) f
def execDspMax (core dst srcA srcB sh acc : Nat) (x : DspMove) (f : DspMem) (s : State) :=
  s.dspIssue core (.alu 0x0A dst srcA srcB sh acc x) f
def execDspCmp (core dst srcA srcB sh acc : Nat) (x : DspMove) (f : DspMem) (s : State) :=
  s.dspIssue core (.alu 0x0B dst srcA srcB sh acc x) f
def execDspNeg (core dst srcA srcB sh acc : Nat) (x : DspMove) (f : DspMem) (s : State) :=
  s.dspIssue core (.alu 0x0C dst srcA srcB sh acc x) f
def execDspSat24 (core dst srcA srcB sh acc : Nat) (x : DspMove) (f : DspMem) (s : State) :=
  s.dspIssue core (.alu 0x0D dst srcA srcB sh acc x) f
def execDspAdda (core dst srcA srcB sh acc : Nat) (x : DspMove) (f : DspMem) (s : State) :=
  s.dspIssue core (.alu 0x10 dst srcA srcB sh acc x) f
def execDspShla (core dst srcA srcB sh acc : Nat) (x : DspMove) (f : DspMem) (s : State) :=
  s.dspIssue core (.alu 0x11 dst srcA srcB sh acc x) f
def execDspShra (core dst srcA srcB sh acc : Nat) (x : DspMove) (f : DspMem) (s : State) :=
  s.dspIssue core (.alu 0x12 dst srcA srcB sh acc x) f
def execDspMova (core dst srcA srcB sh acc : Nat) (x : DspMove) (f : DspMem) (s : State) :=
  s.dspIssue core (.alu 0x13 dst srcA srcB sh acc x) f
def execDspMovas (core dst srcA srcB sh acc : Nat) (x : DspMove) (f : DspMem) (s : State) :=
  s.dspIssue core (.alu 0x14 dst srcA srcB sh acc x) f
def execDspMovda (core dst srcA srcB sh acc : Nat) (x : DspMove) (f : DspMem) (s : State) :=
  s.dspIssue core (.alu 0x15 dst srcA srcB sh acc x) f
def execDspClraov (core dst srcA srcB sh acc : Nat) (x : DspMove) (f : DspMem) (s : State) :=
  s.dspIssue core (.alu 0x16 dst srcA srcB sh acc x) f

def execDspMac (core : Nat) (inB : Bool) (acc a b : Nat) (other : DspSlot) (x y : DspMove) (f : DspMem) (s : State) :=
  s.dspIssue core (dualWith 1 inB acc a b other x y) f
def execDspMsu (core : Nat) (inB : Bool) (acc a b : Nat) (other : DspSlot) (x y : DspMove) (f : DspMem) (s : State) :=
  s.dspIssue core (dualWith 2 inB acc a b other x y) f
def execDspMpy (core : Nat) (inB : Bool) (acc a b : Nat) (other : DspSlot) (x y : DspMove) (f : DspMem) (s : State) :=
  s.dspIssue core (dualWith 3 inB acc a b other x y) f
def execDspMpyn (core : Nat) (inB : Bool) (acc a b : Nat) (other : DspSlot) (x y : DspMove) (f : DspMem) (s : State) :=
  s.dspIssue core (dualWith 4 inB acc a b other x y) f
def execDspClra (core : Nat) (inB : Bool) (acc a b : Nat) (other : DspSlot) (x y : DspMove) (f : DspMem) (s : State) :=
  s.dspIssue core (dualWith 5 inB acc a b other x y) f

def execDspMoveLoad (core : Nat) (inY : Bool) (d p mod : Nat) (a b : DspSlot) (other : DspMove) (f : DspMem) (ecc : Ecc) (s : State) :=
  s.dspIssue core (dualMove inY ⟨false, d, p, mod⟩ a b other) (dspFound f inY ecc)
def execDspMoveStore (core : Nat) (inY : Bool) (d p mod : Nat) (a b : DspSlot) (other : DspMove) (f : DspMem) (ecc : Ecc) (s : State) :=
  s.dspIssue core (dualMove inY ⟨true, d, p, mod⟩ a b other) (dspFound f inY ecc)

def execDspLdiD (core dst src imm : Nat) (f : DspMem) (s : State) := s.dspIssue core (.imm 0 dst src imm) f
def execDspLdiP (core dst src imm : Nat) (f : DspMem) (s : State) := s.dspIssue core (.imm 1 dst src imm) f
def execDspLdiM (core dst src imm : Nat) (f : DspMem) (s : State) := s.dspIssue core (.imm 2 dst src imm) f
def execDspLdiLc (core dst src imm : Nat) (f : DspMem) (s : State) := s.dspIssue core (.imm 3 dst src imm) f
def execDspAddiD (core dst src imm : Nat) (f : DspMem) (s : State) := s.dspIssue core (.imm 4 dst src imm) f
def execDspAddiP (core dst src imm : Nat) (f : DspMem) (s : State) := s.dspIssue core (.imm 5 dst src imm) f
def execDspMovsTo (core dst src imm : Nat) (f : DspMem) (s : State) := s.dspIssue core (.imm 6 dst src imm) f
def execDspMovsFrom (core dst src imm : Nat) (f : DspMem) (s : State) := s.dspIssue core (.imm 7 dst src imm) f
def execDspRot (core dst src imm : Nat) (f : DspMem) (s : State) := s.dspIssue core (.imm 8 dst src imm) f

def execDspNop (core cond cnt addr : Nat) (f : DspMem) (s : State) := s.dspIssue core (.ctrl 0 cond cnt addr) f
def execDspBr (core cond cnt addr : Nat) (f : DspMem) (s : State) := s.dspIssue core (.ctrl 1 cond cnt addr) f
def execDspBrc (core cond cnt addr : Nat) (f : DspMem) (s : State) := s.dspIssue core (.ctrl 2 cond cnt addr) f
def execDspCall (core cond cnt addr : Nat) (f : DspMem) (s : State) := s.dspIssue core (.ctrl 3 cond cnt addr) f
def execDspRet (core cond cnt addr : Nat) (f : DspMem) (s : State) := s.dspIssue core (.ctrl 4 cond cnt addr) f
def execDspLoop (core cond cnt addr : Nat) (f : DspMem) (s : State) := s.dspIssue core (.ctrl 5 cond cnt addr) f
def execDspLoopr (core cond cnt addr : Nat) (f : DspMem) (s : State) := s.dspIssue core (.ctrl 6 cond cnt addr) f
def execDspRep (core cond cnt addr : Nat) (f : DspMem) (s : State) := s.dspIssue core (.ctrl 7 cond cnt addr) f
def execDspBreak (core cond cnt addr : Nat) (f : DspMem) (s : State) := s.dspIssue core (.ctrl 8 cond cnt addr) f
def execDspHalt (core cond cnt addr : Nat) (f : DspMem) (s : State) := s.dspIssue core (.ctrl 9 cond cnt addr) f

/-- KERNEL_WATCHDOG: at cycle CYC_MAX the watchdog requests its interrupt; the abort waits for an eligible
boundary (R328, R340). -/
def execKernelWatchdog (t core : Nat) (s : State) : Host.Outcome State Fault Refusal :=
  if 288 ≤ core then .fault .noSuchCore else
  let s := s.advance t
  let k := s.core core
  match k.inv with
  | none => .next s
  | some v =>
    if v.cycles < v.cycMax then .next s
    else if k.eligible then .next (s.watchdogAbort core v)
    else .next (s.setCore core { k with inv := some { v with watch := true } })

end Sys2Proof.Machine
end

