-- ==== Sys2Proof/Machine/Grain.lean ====
section
/-! DEFINITION. GRAIN_OPEN: everything that happens at a grain boundary (R45, R531 and the rules of every chapter that name
the boundary). -/

namespace Sys2Proof.Machine

/-! Late outputs (R279). -/

/-- The groups of a conference that have an output. -/
def MixSet.outGroups (x : MixSet) : List Nat :=
  ((x.listens.map fun l => l.2.group) ++ x.outPorts.map fun o => o.2.2).eraseDups

/-- One late grain: each listener's encoder gets zeros. -/
def State.lateOutputs (s : State) (conf n : Nat) (coded : List (Nat × List Byte)) : State :=
  let m := s.mix conf
  let s := m.outs.foldl (fun (s : State) o => s.audioPacket n o.flow o.set false (s.payloadOf m coded o)) s
  m.run.outGroups.foldl (fun (s : State) g => s.modGroup g fun x => { x with lateGrains := x.lateGrains + 1 }) s

/-- The outputs of a conference that were not handed over before this boundary, which opens grain `m`: each missing grain
is replaced, and event 171 raised. `next` says that the grain before `m` was opened as well. -/
def State.lateCheck (s : State) (m conf : Nat) (next : Bool) (coded : List (Nat × List Byte)) : State :=
  let x := s.mix conf
  let lag := s.mixLag conf
  if m < 2 + lag then s else
  let due := m - 2 - lag
  match x.cluster, x.done with
  | none, _ => s
  | some _, none => s.mixClose conf due
  | some c, some d =>
    if due ≤ d then s
    else if !next || x.parked || !s.mediaOn then s.mixClose conf due
    else
      let s := (List.range (due - d)).foldl (fun (s : State) k => s.lateOutputs conf (d + 1 + k) coded) s
      let s := if x.run.outGroups.isEmpty then s else s.raiseW 171 (mkHandle 12 c) (le 8 due)
      let legs := (x.run.outPorts.map fun o => o.1).eraseDups
      let s := if legs.isEmpty then s else s.modMix conf fun x => { x with overdue := some (m, legs) }
      s.mixClose conf due

/-! New sets (R305 to R307, R337). -/

/-- The state blocks and buffers of an instance set to 0. -/
def State.clearInst (s : State) (core kernel x y : Nat) : State :=
  match tget s.aud.dsp.kernels kernel with
  | none => s
  | some k =>
    let c := s.core core
    s.setCore core { c with xmem := c.xmem.clear x (k.stateX + 480), ymem := c.ymem.clear y (k.stateY + 480) }

/-- The code of kernels in the PMEM of the cores that hold their instances, from the cluster's copy of the image (R345); code
without an instance leaves, but for that of an invocation in progress. -/
def State.placeCode (s : State) : State :=
  let insts := s.aud.dsp.insts
  let code (core kernel : Nat) : List Nat := match tget s.aud.dsp.kernels kernel with
    | some k => if k.copies.contains (coreCluster core) then k.code else []
    | none => []
  let runs (k : DspCore) : Tbl (List Nat) := k.pmem.filter fun q => (k.inv.map fun v => v.kernel) == some q.1
  let pmem (core : Nat) (k : DspCore) : Tbl (List Nat) := insts.foldl (fun (l : Tbl (List Nat)) p =>
    if p.2.core = core && (tget l p.2.kernel).isNone then tset l p.2.kernel (code core p.2.kernel) else l) (runs k)
  let cores := ((insts.map fun p => p.2.core) ++ s.aud.dsp.cores.map fun p => p.1).eraseDups
  cores.foldl (fun (s : State) core => s.setCore core { s.core core with pmem := pmem core (s.core core) }) s

/-- The instances of a set that takes effect: the same kernel at the same node keeps its state, and every other starts
from 0 (R337); a new graph enables disabled instances (R341). Under a crossfade those of the set before that are not kept run
on over the grain (R307). -/
def State.takeInsts (s : State) (conf : Nat) (x : MixSet) : State :=
  let insts := s.aud.dsp.insts
  let kept (p : KPlace) : Option KInst :=
    match tget insts (conf * 256 + p.node) with
    | some i => if i.kernel = p.kernel then some i else none
    | none => none
  let inst (p : KPlace) : KInst :=
    match kept p with
    | some i => { i with param := p.param, num := p.num, disabled := i.disabled && !x.loaded
                         faults := if x.loaded then 0 else i.faults }
    | none => { kernel := p.kernel, core := p.core, param := p.param, num := p.num, x := p.x, y := p.y }
  let mine (p : Nat × KInst) : Bool := p.1 / 256 == conf || p.1 / 256 == oldConf + conf
  let stays (p : Nat × KInst) : Bool := x.insts.any fun k => k.node == p.1 % 256 && k.kernel == p.2.kernel
  let before := if x.crossfade then insts.filter fun p => p.1 / 256 == conf && !stays p else []
  let rest := insts.filter fun p => !mine p
  let all := before.foldl (fun (l : Tbl KInst) p => tset l (oldConf * 256 + p.1) p.2) rest
  let all := x.insts.foldl (fun (l : Tbl KInst) p => tset l (conf * 256 + p.node) (inst p)) all
  let s := { s with aud := { s.aud with dsp := { s.aud.dsp with insts := all } } }
  ((x.insts.filter fun p => (kept p).isNone).foldl (fun (s : State) p => s.clearInst p.core p.kernel p.x p.y) s).placeCode

/-- A conference's shadow sets taken, oldest first, when the grain about to be processed reaches their effective grain, with
event 161 for a program. A set whose grain another reaches as well does not run on its own. -/
def State.takeMix (s : State) (m conf : Nat) : State :=
  let due := (s.mix conf).pends.filter fun p => decide (p.1 + 1 + s.mixLag conf ≤ m)
  due.foldl (fun (s : State) p =>
    let x := s.mix conf
    let old := if p.2.crossfade then some (x.old.getD x.run) else x.old
    let s := (s.setMix conf { x with run := p.2, runGrain := p.1, pends := x.pends.drop 1, old := old }).takeInsts conf p.2
    if p.2.loaded then s.raise 161 (confH conf) (le 8 p.1) else s) s

/-- A parked conference resumed at this boundary, with event 164 (R313). -/
def State.wakeMix (s : State) (m conf : Nat) : State :=
  let x := s.mix conf
  if !x.parked || !x.wake then s else
  let s := s.setMix conf { x with parked := false, wake := false, quiet := 0 }
  let s := s.modConf conf fun c => if c.state = .parked then { c with state := .active } else c
  s.raise 164 (confH conf) (le 8 m)

/-! Failed cores and engines (R716). -/

/-- Whether a cluster is being castled, or waits for a castling that can start (R703). -/
def State.castleDue (s : State) (c : Nat) : Bool :=
  (match s.castlingIn (regionOf c) with | some k => k.source == c && decide (k.phase < 4) | none => false) ||
  ((s.units.waiting.any fun w => w.1 == c) && s.units.autoCastle && (s.spareOf (regionOf c)).isSome &&
    rangeAccepts 0x13 .other s.sys.mode)

/-- An instance placed again on another core of a cluster, where its state starts from 0; one that no longer fits is
disabled (R716, R341). -/
def State.reseat (s : State) (key cluster : Nat) (i : KInst) : State :=
  let off (s : State) : State :=
    (s.modInst key fun i => { i with disabled := true }).raise 175 (mkHandle 9 i.kernel) (le 2 (key / 256) ++ le 1 (key % 256))
  match tget s.aud.dsp.kernels i.kernel with
  | none => s
  | some k =>
    match s.pickCore cluster i.kernel k [] with
    | none => off s
    | some core =>
      let on := s.instsOn core
      let len (p : Nat) (f : Kernel → Nat) : Nat :=
        (match tget s.aud.dsp.kernels p with | some q => f q | none => 0) + 480
      let x := firstFit (on.map fun p => (p.2.x, len p.2.kernel fun q => q.stateX)) (k.stateX + 480)
      let y := firstFit (on.map fun p => (p.2.y, len p.2.kernel fun q => q.stateY)) (k.stateY + 480)
      if 0x10000 < x + k.stateX + 480 || 0x10000 < y + k.stateY + 480 then off s else
      (s.modInst key fun i => { i with core := core, x := x, y := y, out := none }).clearInst core i.kernel x y

/-- A conference whose engine or cores have failed and whose cluster is not castled: placed on another engine, its limiters
at 32,768, and its instances on working cores of its cluster (R716). -/
def State.reseatConf (s : State) (conf : Nat) : State :=
  let x := s.mix conf
  match x.cluster with
  | none => s
  | some c =>
    if s.castleDue c then s else
    let d := if bit (s.cluster c).failed 8 then s.placeMix.getD c else c
    let s := if d = c then s else s.setMix conf { x with cluster := some d, encs := [], slots := [] }
    let bad := s.aud.dsp.insts.filter fun p => p.1 / 256 == conf && !p.2.disabled &&
      (coreCluster p.2.core != d || bit (s.cluster d).failed (p.2.core % 8))
    bad.foldl (fun (s : State) p => s.reseat p.1 d p.2) s

/-! Kernels to run (R336). -/

/-- KERNEL nodes before a node on its path. -/
def MixSet.kernelDepth (x : MixSet) : Nat → Nat → Nat
  | 0, _ => 0
  | fuel + 1, i =>
    match x.edges.find? fun e => e.dst == i with
    | some e => if (x.node e.src).typ = 5 then x.kernelDepth fuel e.src + 1 else 0
    | none => 0

/-- The instances of the conferences that are not parked wait on their cores, those nearer to their source first, where the
core takes work (R25). -/
def State.queueKernels (s : State) : State :=
  let conf (p : Nat × KInst) : Nat := confOfInst (p.1 / 256)
  let runs (p : Nat × KInst) : Bool := !p.2.disabled && !(s.mix (conf p)).parked && s.mediaOn &&
    s.unitWorks (coreCluster p.2.core) (p.2.core % 8)
  let set (p : Nat × KInst) : MixSet :=
    let m := s.mix (conf p)
    if p.1 / 256 < oldConf then m.run else m.old.getD m.run
  let of (core : Nat) : List (Nat × Nat) :=
    let l := (s.aud.dsp.insts.filter fun p => p.2.core == core && runs p).map fun p =>
      ((set p).kernelDepth 16 (p.1 % 256), p.1)
    (sortBy (fun (a b : Nat × Nat) => decide (a.1 < b.1) || (a.1 == b.1 && decide (a.2 < b.2))) l).map fun q =>
      (q.2 / 256, q.2 % 256)
  let cores := ((s.aud.dsp.insts.map fun p => p.2.core) ++ s.aud.dsp.cores.map fun p => p.1).eraseDups
  cores.foldl (fun (s : State) core =>
    let w := of core
    if (s.core core).waiting.isEmpty && w.isEmpty then s else s.setCore core { s.core core with waiting := w }) s

/-! Legs (R71, R92, R93, R236, R283, R368). -/

/-- Frames that carry a leg's packets to others leave the egress path (R71). -/
def State.dropForwarded (s : State) (leg : Nat) : State :=
  let s := { s with
    net := { s.net with ready := s.net.ready.filter fun (f : ReadyFrame) => f.src != some leg }
    cip := { s.cip with outQ := s.cip.outQ.filter fun (j : CipherJob) => j.src != some leg } }
  s.legs.foldl (fun (s : State) p =>
    let gone := p.2.egr.lanes.flatten.filter fun (f : TxFrame) => f.src == some leg
    if gone.isEmpty then s else
    (s.modEgr p.1 fun e => { e with lanes := e.lanes.map fun q => q.filter fun (f : TxFrame) => f.src != some leg }).dropFrames p.1 gone) s

/-- The decode contexts whose source is a flow of a leg lose it (Table 11-4): at their next frame boundary where the leg only
moves (R93). -/
def State.decLegGone (s : State) (leg : Nat) (moves : Bool := false) : State :=
  let mine (f : Option Nat) : Bool := match f with | some f => s.flowLeg f == leg | none => false
  s.vid.decs.foldl (fun (s : State) p =>
    if mine p.2.source then (if moves then s.decLeave p.1 else s.decNoSource p.1)
    else if mine p.2.next then (s.unsink p.2.next p.1).modDec p.1 fun d => { d with next := none }
    else s) s

/-- A CLOSING leg at the boundary after its delete: its packets are discarded, its forwarded packets leave no more, and its
video and audio leave every other leg's outputs. -/
def State.closingBoundary (s : State) (leg : Nat) : State :=
  let flows := (s.flowsOf leg).map fun p => p.1
  let s := (s.dropForwarded leg).decLegGone leg
  let s := { s with flows := tmap s.flows fun _ (f : Flow) =>
    if f.leg = leg then { f with jb := { f.jb with packets := [], waiting := [] } } else f }
  let drop (x : MixSet) : MixSet := x.dropLeg leg flows
  match s.leg leg with
  | none => s
  | some l => s.modMix l.conf fun m => { m with
      run := drop m.run, old := m.old.map drop, pends := m.pends.map fun p => (p.1, drop p.2)
      inbox := m.inbox.filter fun g => g.leg != leg }

/-- LEG_MOVE at its effective grain; where the target conference closes by then, is gone, or its index names another
tenant's conference (R62), the leg stays where it is and nothing is told (DESIGN CHOICE: no rule says what becomes of the
move). Otherwise: its flows leave the old conference's mix from this playout grain on, its part in video
objects ends, and the leg belongs to the new conference (R92, R93, R283). No leg moves to a conference of another tenant
(R92), so that no move removes an override (R229). -/
def State.moveLeg (s : State) (leg dest : Nat) : State :=
  match s.leg leg, s.conf dest with
  | some l, some c =>
    if c.state = .closing || c.tenant ≠ l.tenant then s.modLeg leg fun l => { l with movePend := none } else
    let flows := s.flowsOf leg
    let ids := flows.map fun p => p.1
    let x := (s.mix l.conf).latest
    let y := x.dropLeg leg ids
    let s := if x = y then s else (s.mixChange l.conf false fun x => x.dropLeg leg ids).2
    let s := s.decLegGone leg true
    let s := flows.foldl (fun (s : State) p =>
      if p.2.dir = 2 then (s.fwdUnbind p.1).outputLeave p.1 else s.fwdSourceGone p.1 true) s
    let s := { s with flows := tmap s.flows fun _ (f : Flow) =>
      if f.leg = leg && hType f.sink != 4 then { f with sink := 0 } else f }
    let s := s.modMix l.conf fun m => { m with inbox := m.inbox.filter fun g => g.leg != leg }
    let s := s.modLeg leg fun l => { l with conf := dest, movePend := none }
    s.beaconMoved leg l.conf
  | _, _ => s.modLeg leg fun l => { l with movePend := none }

/-- What falls due for one leg at the boundary that opens grain `m`. -/
def State.legBoundary (s : State) (m leg : Nat) : State :=
  match s.leg leg with
  | none => s
  | some l =>
    if l.state = .closing then (if grainOf l.closeAt < m then s.closingBoundary leg else s) else
    let l := if l.holdAt < grainStart m then { l with holdMix := l.hold } else l
    let l := match l.holdPend with
      | some (g, k) => if g ≤ m then l.setHold k (grainStart g) else l
      | none => l
    let l := match l.casc.pend with
      | some (g, d, r) => if g ≤ m then { l with casc := { l.casc with grains := d, role := r, pend := none } } else l
      | none => l
    let s := s.modLeg leg fun _ => l
    match l.movePend with
    | some (g, dest) => if g ≤ m then s.moveLeg leg dest else s
    | none => s

/-- Slot masks of port legs that reach their effective grain; the mask before stays for a crossfade (R368, R369). -/
def State.takeSlots (s : State) (m : Nat) : State :=
  { s with legs := tmap s.legs fun _ (l : Leg) =>
    match (l.slotPend.filter fun p => decide (p.1 + 1 + s.mixLag l.conf ≤ m)).getLast? with
    | some (g, k) =>
      { l with slotMask := k, slotPend := l.slotPend.filter fun p => decide (g < p.1)
               slotOld := if (s.mix l.conf).old.isSome then some l.slotMask else none }
    | none => l }

/-- Flows whose delete has passed a boundary are FREE, once their cipher work has finished (R792); those of a CLOSING leg
go with it. -/
def State.freeFlows (s : State) (m : Nat) : State :=
  s.flows.foldl (fun (s : State) p =>
    let f := p.2
    let whole := match s.leg f.leg with | some l => l.state != .closing | none => true
    let work := (s.cip.inQ ++ s.cip.outQ).any fun (j : CipherJob) => j.flow == some p.1
    if f.state == .closing && (whole || !f.closeReply.isEmpty) && decide (grainOf f.closeAt < m) && !work
    then s.freeFlow p.1 else s) s

/-! Conferences and clusters. -/

/-- Home moves that fall due, in the order of their grains (R718). -/
def State.homeBoundary (s : State) (m conf : Nat) : State :=
  match s.conf conf with
  | none => s
  | some c =>
    let due := sortBy (fun a b => decide (a.2 < b.2)) (c.homePend.filter fun p => decide (p.2 ≤ m))
    if due.isEmpty then s else
    let s := s.modConf conf fun c => { c with homePend := c.homePend.filter fun p => decide (m < p.2) }
    due.foldl (fun (s : State) p =>
      let old := match s.conf conf with | some c => c.home | none => 0
      (s.modConf conf fun c => { c with home := p.1 }).raise 303 (confH conf) (le 8 p.2 ++ le 1 old ++ le 1 p.1)) s

/-- The positions of a layout as of this boundary (R304). -/
def State.takePos (s : State) (conf : Nat) : State :=
  let x := s.mix conf
  if x.run.panMode = 2 then s.modMix conf fun m => { m with pos := s.layoutPos x.run.canvas } else s

/-- Audio clusters with and without work (R313): one with work is powered; its units wait for their reload (R711). -/
def State.clusterWork (s : State) : State :=
  (List.range 56).foldl (fun (s : State) c =>
    let k := s.cluster c
    if !isAudioCluster c || k.state ≠ .active then s
    else if s.audioWork c then
      let s := s.modCluster c fun k => { k with idleSince := none, gated := false }
      if k.gated then
        (s.clusterStale c).modUnits fun u => { u with regionOn := setAt u.regionOn (regionOf c) true }
      else s
    else s.modCluster c fun k => { k with idleSince := some (k.idleSince.getD s.now) }) s

/-- A media-path profile set before this boundary is in force (R237). -/
def State.takeProfiles (s : State) : State :=
  { s with flows := tmap s.flows fun _ (f : Flow) => if f.kind = 1 then { f with profOld := none } else f }

/-- What happens at the boundary that opens grain `m`, in order: the windows, the outputs that are late, the tasks' periods,
mixing, legs and flows that take their changes, homes, parking and placement, buffers, talkers, kernels, audio ports and
beacons, and the power of clusters. -/
def State.grainBegins (s : State) (m : Nat) (x : GrainIn) (coded : List (Nat × List Byte)) : State :=
  let next := decide (s.time.lastGrain + 1 = m) && !s.time.leapt
  let s := { s with time := { s.time with lastGrain := m, grainOpened := true, leapt := false } }.cipWindow
  let confs := s.confs.map fun p => p.1
  let s := confs.foldl (fun (s : State) c => s.lateCheck m c next coded) s
  let s := (s.disp.tasks.filter fun p => p.2.cls == 0 && p.2.grain).foldl (fun (s : State) p => s.periodBoundary p.1) s
  let s := s.takeProfiles.fecTurnGrain
  let s := confs.foldl (fun (s : State) c => s.takeMix m c) s
  let s := s.takeSlots m
  let s := (s.legs.map fun p => p.1).foldl (fun (s : State) l => s.legBoundary m l) s
  let s := s.freeFlows m
  let s := confs.foldl (fun (s : State) c => (((s.homeBoundary m c).wakeMix m c).reseatConf c).takePos c) s
  let s := ((s.jbGrain m x.quiet).selectGrain m).queueKernels
  let s := ((s.sapGrain m x.saps).mixesOpen m x.pcm).beaconGrain m
  let s := if s.coresPaused then s else (s.legs.map fun p => p.1).foldl (fun (s : State) l => s.sendCaps l) s
  let s := if m % 400 = 0 then (List.range 8).foldl (fun (s : State) p => s.gateOversize p) s else s
  s.holdCheck.clusterWork

/-- GRAIN_OPEN: the boundary that opens the grain of this instant; `coded` are the payloads that the encodes give for outputs
that are late. -/
def execGrainOpen (t : Nat) (x : GrainIn) (coded : List (Nat × List Byte)) (s : State) : Host.Outcome State Fault Refusal :=
  let s := s.advance t
  let m := grainOf s.now
  .next (if m ≤ s.time.lastGrain || s.sys.inReset || decide (s.sys.mode.code < 3) then s else s.grainBegins m x coded)

end Sys2Proof.Machine
end

