-- ==== Sys2Proof/Machine/Mgmt.lean ====
section
/-! DEFINITION. The management bus and its snapshot (file 24 of spec/, R753 to R756). -/

namespace Sys2Proof.Machine

def State.modMgmt (s : State) (f : Mgmt → Mgmt) : State := { s with host := { s.host with mgmt := f s.host.mgmt } }

/-- Whether the target answers: from 10 ms after PWRGD rose (R753). -/
def State.mgmtAnswers (s : State) : Bool := s.sys.pwrgd && decide (s.sys.pwrgdDt + 10 * msU ≤ s.now)

/-- The whole of Table 24-11 as it stands; `seq` is SNAP_SEQ. -/
def State.mgmtSnapshot (s : State) (seq : Nat) : List Byte :=
  let y := s.sys
  let links := sumOf (List.range 8) fun n => if (s.net.ports.getD n {}).up then 2 ^ n else 0
  let pcie := if s.host.pcie.up then s.host.pcie.gen % 16 + 16 * s.host.pcie.width.log2 else 0
  let b := le 4 iwId ++ le 1 y.mode.code ++ le 1 s.time.state.code ++ le 2 s.iwHealth ++ le 4 y.faultWord ++ le 4 seq ++
    le 8 (dtSec s.now) ++ le 4 (dtNs s.now) ++ zeros 4 ++ y.thermal.flatMap (fun t => leI 2 t.temp) ++
    s.mem.dramStacks.flatMap (fun x => leI 2 x.temp) ++ zeros 2 ++ y.thermal.flatMap (fun t => le 1 t.code) ++ zeros 1 ++
    le 2 y.powerW ++ zeros 2 ++ y.railMv.flatMap (le 2) ++ zeros 2 ++ le 1 links ++ le 1 pcie ++ le 2 s.failedUnits ++
    le 1 s.tamperState ++ le 1 s.alertCause ++ zeros 2 ++ le 4 s.trust.bootCount ++ le 4 (s.rcd.newest.getD 0) ++ zeros 156
  b ++ le 4 (crc32c b)

/-- The rails as measured, VBAT last; a VBAT that falls below 2.5 V raises event 37. -/
def State.measureRails (s : State) (rails : List Nat) : State :=
  let mv := (List.range 11).map fun i => rails.getD i (s.sys.railMv.getD i 0)
  let vbat := rails.getD 10 s.trust.vbatMv
  let low := decide (vbat < 2500) && decide (2500 ≤ s.trust.vbatMv)
  let s := s.modSys fun y => { y with railMv := mv }
  let s := { s with trust := { s.trust with vbatMv := vbat } }
  if low then s.raise 37 0 (le 2 vbat) else s

/-- A snapshot of the device as it stands (Table 24-11). -/
def State.takeSnapshot (s : State) : State :=
  s.modMgmt fun m => { m with snapSeq := m.snapSeq + 1, snapshot := s.mgmtSnapshot (m.snapSeq + 1) }

/-- MB_SNAPSHOT_REFRESH: every 1 ms, with the rails as measured, VBAT last (R755); a VBAT that falls below 2.5 V raises event
37. -/
def execMbSnapshotRefresh (t : Nat) (rails : List Nat) (s : State) : Host.Outcome State Fault Refusal :=
  let s := s.advance t
  if !s.sys.pwrgd then .next s else
  .next (s.measureRails rails).takeSnapshot

/-- MB_POINTER_WRITE: the pointer byte; bytes written after it have no effect (R754). -/
def execMbPointerWrite (t p : Nat) (s : State) : Host.Outcome State Fault Refusal :=
  let s := s.advance t
  .next (if s.mgmtAnswers then s.modMgmt fun m => { m with pointer := p % 256 } else s)

/-- MB_READ: `n` bytes of one snapshot from the pointer on, which advances and wraps (R754, R755). -/
def execMbRead (t n : Nat) (s : State) : Host.Outcome State Fault Refusal :=
  let s := s.advance t
  if !s.mgmtAnswers then .next s else
  let m := s.host.mgmt
  let data := (List.range n).map fun i => m.snapshot.getD ((m.pointer + i) % 256) 0
  .next ((s.emit (.mgmtRead data)).modMgmt fun m => { m with pointer := (m.pointer + n) % 256 })

/-- The answer to the alert response address, and the latched causes cleared (R756). -/
def State.alertResponse (s : State) : State :=
  let asserted := !s.host.mgmt.alertN
  let s := if asserted then s.emit (.mgmtRead (le 1 (2 * (0x58 + s.sys.mbAddr)))) else s
  let s := (s.modMgmt fun m => { m with cause := 0, alertN := true }).alertUpdate
  if asserted then s.emit (.pin "ALERT_N" true) else s

/-- MB_ALERT_RESPONSE: a read of the alert response address: the latched causes are cleared, and a target that asserts ALERT_N
answers with its address and releases it (R756). -/
def execMbAlertResponse (t : Nat) (s : State) : Host.Outcome State Fault Refusal :=
  let s := s.advance t
  if !s.mgmtAnswers then .next s else
  .next s.alertResponse

/-- MB_BUS_STUCK: SDA (0) or SCL (1) held low for 25 ms resets the interface (R756). -/
def execMbBusStuck (t line : Nat) (s : State) : Host.Outcome State Fault Refusal :=
  let s := s.advance t
  if !s.mgmtAnswers || 2 ≤ line then .next s else
  .next ((s.modMgmt fun m => { m with pointer := 0 }).raise 31 0 (le 1 line))

end Sys2Proof.Machine
end

