-- ==== Sys2Proof/Machine/Dispatch.lean ====
section
/-! DEFINITION. One arm for each command: a direct call of its meaning, or its rejection by name. -/

namespace Sys2Proof.Machine

/-- The effect of a command on everything but the queue. -/
def exec (i : Instr) (s : State) : Host.Outcome State Fault Refusal :=
  match i with
  -- Modes and power (0x00xx)
  | .modeSet c => Sys2Proof.Machine.execModeSet c s
  | .modeQuery c => Sys2Proof.Machine.execModeQuery c s
  | .powerSet c => Sys2Proof.Machine.execPowerSet c s
  | .thermalQuery c => Sys2Proof.Machine.execThermalQuery c s
  | .devReset c => Sys2Proof.Machine.execDevReset c s
  -- Conferences, legs and flows (0x01xx)
  | .confCreate c => Sys2Proof.Machine.execConfCreate c s
  | .confDelete c => Sys2Proof.Machine.execConfDelete c s
  | .confQuery c => Sys2Proof.Machine.execConfQuery c s
  | .legCreate c => Sys2Proof.Machine.execLegCreate c s
  | .legDelete c => Sys2Proof.Machine.execLegDelete c s
  | .legMove c => Sys2Proof.Machine.execLegMove c s
  | .legSetState c => Sys2Proof.Machine.execLegSetState c s
  | .legStats c => Sys2Proof.Machine.execLegStats c s
  | .flowCreate c => Sys2Proof.Machine.execFlowCreate c s
  | .flowDelete c => Sys2Proof.Machine.execFlowDelete c s
  | .flowQuery c => Sys2Proof.Machine.execFlowQuery c s
  | .tenantSetQuota c => Sys2Proof.Machine.execTenantSetQuota c s
  | .tenantQuery c => Sys2Proof.Machine.execTenantQuery c s
  -- Packet ingress (0x02xx)
  | .portSetMode c => Sys2Proof.Machine.execPortSetMode c s
  | .addrSet c => Sys2Proof.Machine.execAddrSet c s
  | .iceSetCredentials c => Sys2Proof.Machine.execIceSetCredentials c s
  | .policerSet c => Sys2Proof.Machine.execPolicerSet c s
  | .jbSet c => Sys2Proof.Machine.execJbSet c s
  | .reorderSet c => Sys2Proof.Machine.execReorderSet c s
  | .fecSet c => Sys2Proof.Machine.execFecSet c s
  | .ingressStats c => Sys2Proof.Machine.execIngressStats c s
  | .portStats c => Sys2Proof.Machine.execPortStats c s
  | .remoteQuery c => Sys2Proof.Machine.execRemoteQuery c s
  -- Forwarding and adaptation (0x03xx)
  | .fwdBind c => Sys2Proof.Machine.execFwdBind c s
  | .fwdUnbind c => Sys2Proof.Machine.execFwdUnbind c s
  | .fwdQuery c => Sys2Proof.Machine.execFwdQuery c s
  | .flowProfileSet c => Sys2Proof.Machine.execFlowProfileSet c s
  | .rtcpSet c => Sys2Proof.Machine.execRtcpSet c s
  | .keyframeRequest c => Sys2Proof.Machine.execKeyframeRequest c s
  | .adaptSet c => Sys2Proof.Machine.execAdaptSet c s
  | .adaptOverride c => Sys2Proof.Machine.execAdaptOverride c s
  | .adaptQuery c => Sys2Proof.Machine.execAdaptQuery c s
  | .cascadeSet c => Sys2Proof.Machine.execCascadeSet c s
  -- Egress (0x04xx)
  | .egressLegSet c => Sys2Proof.Machine.execEgressLegSet c s
  | .egressClassSet c => Sys2Proof.Machine.execEgressClassSet c s
  | .portEgressSet c => Sys2Proof.Machine.execPortEgressSet c s
  | .gclSet c => Sys2Proof.Machine.execGclSet c s
  | .gclQuery c => Sys2Proof.Machine.execGclQuery c s
  | .fecGenSet c => Sys2Proof.Machine.execFecGenSet c s
  | .fcSet c => Sys2Proof.Machine.execFcSet c s
  | .egressStats c => Sys2Proof.Machine.execEgressStats c s
  | .egressPortStats c => Sys2Proof.Machine.execEgressPortStats c s
  -- Audio mixing (0x05xx)
  | .mixGroupCreate c => Sys2Proof.Machine.execMixGroupCreate c s
  | .mixGroupDelete c => Sys2Proof.Machine.execMixGroupDelete c s
  | .mixContribute c => Sys2Proof.Machine.execMixContribute c s
  | .mixListen c => Sys2Proof.Machine.execMixListen c s
  | .mixUnlisten c => Sys2Proof.Machine.execMixUnlisten c s
  | .mixGraphLoad c => Sys2Proof.Machine.execMixGraphLoad c s
  | .mixSet c => Sys2Proof.Machine.execMixSet c s
  | .mixPanSet c => Sys2Proof.Machine.execMixPanSet c s
  | .mixQuery c => Sys2Proof.Machine.execMixQuery c s
  | .mixStats c => Sys2Proof.Machine.execMixStats c s
  -- DSP kernels (0x06xx)
  | .kernelLoad c => Sys2Proof.Machine.execKernelLoad c s
  | .kernelUnload c => Sys2Proof.Machine.execKernelUnload c s
  | .kernelQuery c => Sys2Proof.Machine.execKernelQuery c s
  | .kernelReset c => Sys2Proof.Machine.execKernelReset c s
  | .dspSet c => Sys2Proof.Machine.execDspSet c s
  | .dspStats c => Sys2Proof.Machine.execDspStats c s
  -- Serial audio ports (0x07xx)
  | .sapConfig c => Sys2Proof.Machine.execSapConfig c s
  | .sapMclkSet c => Sys2Proof.Machine.execSapMclkSet c s
  | .sapQuery c => Sys2Proof.Machine.execSapQuery c s
  | .sapFilterQuery c => Sys2Proof.Machine.execSapFilterQuery c s
  | .routeSet c => Sys2Proof.Machine.execRouteSet c s
  | .routeQuery c => Sys2Proof.Machine.execRouteQuery c s
  | .portLegMaskSet c => Sys2Proof.Machine.execPortLegMaskSet c s
  | .sapStats c => Sys2Proof.Machine.execSapStats c s
  -- Beacon modem (0x08xx)
  | .beaconModAttach c => Sys2Proof.Machine.execBeaconModAttach c s
  | .beaconModSet c => Sys2Proof.Machine.execBeaconModSet c s
  | .beaconModDetach c => Sys2Proof.Machine.execBeaconModDetach c s
  | .beaconModQuery c => Sys2Proof.Machine.execBeaconModQuery c s
  | .beaconRxSet c => Sys2Proof.Machine.execBeaconRxSet c s
  | .beaconWatch c => Sys2Proof.Machine.execBeaconWatch c s
  | .beaconModemSet c => Sys2Proof.Machine.execBeaconModemSet c s
  | .beaconLegQuery c => Sys2Proof.Machine.execBeaconLegQuery c s
  | .beaconStats c => Sys2Proof.Machine.execBeaconStats c s
  -- Video decoding (0x09xx)
  | .decCreate c => Sys2Proof.Machine.execDecCreate c s
  | .decDelete c => Sys2Proof.Machine.execDecDelete c s
  | .decBind c => Sys2Proof.Machine.execDecBind c s
  | .decSet c => Sys2Proof.Machine.execDecSet c s
  | .decQuery c => Sys2Proof.Machine.execDecQuery c s
  | .decStats c => Sys2Proof.Machine.execDecStats c s
  -- Composition (0x0Axx)
  | .canvasCreate c => Sys2Proof.Machine.execCanvasCreate c s
  | .canvasDelete c => Sys2Proof.Machine.execCanvasDelete c s
  | .canvasLayoutSet c => Sys2Proof.Machine.execCanvasLayoutSet c s
  | .overlayLoad c => Sys2Proof.Machine.execOverlayLoad c s
  | .guardSet c => Sys2Proof.Machine.execGuardSet c s
  | .canvasQuery c => Sys2Proof.Machine.execCanvasQuery c s
  | .compStats c => Sys2Proof.Machine.execCompStats c s
  -- Video encoding (0x0Bxx)
  | .encCreate c => Sys2Proof.Machine.execEncCreate c s
  | .encDelete c => Sys2Proof.Machine.execEncDelete c s
  | .encSet c => Sys2Proof.Machine.execEncSet c s
  | .encAttach c => Sys2Proof.Machine.execEncAttach c s
  | .encDetach c => Sys2Proof.Machine.execEncDetach c s
  | .encRefresh c => Sys2Proof.Machine.execEncRefresh c s
  | .encQuery c => Sys2Proof.Machine.execEncQuery c s
  | .encStats c => Sys2Proof.Machine.execEncStats c s
  -- Spliced composition (0x0Cxx)
  | .tileCreate c => Sys2Proof.Machine.execTileCreate c s
  | .tileDelete c => Sys2Proof.Machine.execTileDelete c s
  | .tileSet c => Sys2Proof.Machine.execTileSet c s
  | .tileQuery c => Sys2Proof.Machine.execTileQuery c s
  | .spliceCreate c => Sys2Proof.Machine.execSpliceCreate c s
  | .spliceDelete c => Sys2Proof.Machine.execSpliceDelete c s
  | .spliceLayoutSet c => Sys2Proof.Machine.execSpliceLayoutSet c s
  | .spliceSet c => Sys2Proof.Machine.execSpliceSet c s
  | .spliceQuery c => Sys2Proof.Machine.execSpliceQuery c s
  | .spliceStats c => Sys2Proof.Machine.execSpliceStats c s
  -- Dispatcher (0x0Dxx)
  | .dispSet c => Sys2Proof.Machine.execDispSet c s
  | .dispTenantSet c => Sys2Proof.Machine.execDispTenantSet c s
  | .dispQuery c => Sys2Proof.Machine.execDispQuery c s
  | .dispTenantQuery c => Sys2Proof.Machine.execDispTenantQuery c s
  | .dispKeyQuery c => Sys2Proof.Machine.execDispKeyQuery c s
  | .dispKeyReset c => Sys2Proof.Machine.execDispKeyReset c s
  -- Memory (0x0Exx)
  | .memQuery c => Sys2Proof.Machine.execMemQuery c s
  | .memLogRead c => Sys2Proof.Machine.execMemLogRead c s
  | .memSet c => Sys2Proof.Machine.execMemSet c s
  | .memTenantSet c => Sys2Proof.Machine.execMemTenantSet c s
  | .memTenantQuery c => Sys2Proof.Machine.execMemTenantQuery c s
  -- DMA (0x0Fxx)
  | .dmaQuery c => Sys2Proof.Machine.execDmaQuery c s
  | .dmaStats c => Sys2Proof.Machine.execDmaStats c s
  | .pfcGenSet c => Sys2Proof.Machine.execPfcGenSet c s
  -- Trust (0x10xx)
  | .attestReport c => Sys2Proof.Machine.execAttestReport c s
  | .idCertRead c => Sys2Proof.Machine.execIdCertRead c s
  | .provisionSet c => Sys2Proof.Machine.execProvisionSet c s
  | .provisionDone c => Sys2Proof.Machine.execProvisionDone c s
  | .trustReprovision c => Sys2Proof.Machine.execTrustReprovision c s
  | .peerMeasSet c => Sys2Proof.Machine.execPeerMeasSet c s
  | .dtlsKeyCreate c => Sys2Proof.Machine.execDtlsKeyCreate c s
  | .dtlsCertRead c => Sys2Proof.Machine.execDtlsCertRead c s
  | .dtlsLegSet c => Sys2Proof.Machine.execDtlsLegSet c s
  | .keyImport c => Sys2Proof.Machine.execKeyImport c s
  | .keyDelete c => Sys2Proof.Machine.execKeyDelete c s
  | .trunkKeySet c => Sys2Proof.Machine.execTrunkKeySet c s
  | .tamperSet c => Sys2Proof.Machine.execTamperSet c s
  | .tamperQuery c => Sys2Proof.Machine.execTamperQuery c s
  | .imageCommit c => Sys2Proof.Machine.execImageCommit c s
  -- Cipher (0x11xx)
  | .cipherFlowQuery c => Sys2Proof.Machine.execCipherFlowQuery c s
  | .cipherPin c => Sys2Proof.Machine.execCipherPin c s
  | .cipherStats c => Sys2Proof.Machine.execCipherStats c s
  -- Time (0x12xx)
  | .timeRefSet c => Sys2Proof.Machine.execTimeRefSet c s
  | .timeAllowStep c => Sys2Proof.Machine.execTimeAllowStep c s
  | .timePpsSeconds c => Sys2Proof.Machine.execTimePpsSeconds c s
  | .ppsOutSet c => Sys2Proof.Machine.execPpsOutSet c s
  | .timeUtcSet c => Sys2Proof.Machine.execTimeUtcSet c s
  | .timeQuery c => Sys2Proof.Machine.execTimeQuery c s
  -- Repair (0x13xx)
  | .castle c => Sys2Proof.Machine.execCastle c s
  | .clusterBench c => Sys2Proof.Machine.execClusterBench c s
  | .clusterSetState c => Sys2Proof.Machine.execClusterSetState c s
  | .clusterQuery c => Sys2Proof.Machine.execClusterQuery c s
  | .repairSet c => Sys2Proof.Machine.execRepairSet c s
  | .imageWrite c => Sys2Proof.Machine.execImageWrite c s
  | .imageActivate c => Sys2Proof.Machine.execImageActivate c s
  | .confHomeSet c => Sys2Proof.Machine.execConfHomeSet c s
  -- Events and record (0x14xx)
  | .evtMaskSet c => Sys2Proof.Machine.execEvtMaskSet c s
  | .evtMaskQuery c => Sys2Proof.Machine.execEvtMaskQuery c s
  | .recordSet c => Sys2Proof.Machine.execRecordSet c s
  | .recordQuery c => Sys2Proof.Machine.execRecordQuery c s
  | .recordRead c => Sys2Proof.Machine.execRecordRead c s
  | .recordExport c => Sys2Proof.Machine.execRecordExport c s
  | .recordSeal c => Sys2Proof.Machine.execRecordSeal c s
  | .returnChallenge c => Sys2Proof.Machine.execReturnChallenge c s
  | .returnArm c => Sys2Proof.Machine.execReturnArm c s
  | .returnEnter c => Sys2Proof.Machine.execReturnEnter c s
  | .returnExit c => Sys2Proof.Machine.execReturnExit c s
  -- Host (0x15xx)
  | .tenantHostSet c => Sys2Proof.Machine.execTenantHostSet c s
  | .tenantHostQuery c => Sys2Proof.Machine.execTenantHostQuery c s
  | .hostLinkQuery c => Sys2Proof.Machine.execHostLinkQuery c s
  | .diagLoopback c => Sys2Proof.Machine.execDiagLoopback c s
  | .mgmtSet c => Sys2Proof.Machine.execMgmtSet c s
  -- DSP core instructions
  | .dspAdd core dst srcA srcB sh acc x f => Sys2Proof.Machine.execDspAdd core dst srcA srcB sh acc x f s
  | .dspSub core dst srcA srcB sh acc x f => Sys2Proof.Machine.execDspSub core dst srcA srcB sh acc x f s
  | .dspAnd core dst srcA srcB sh acc x f => Sys2Proof.Machine.execDspAnd core dst srcA srcB sh acc x f s
  | .dspOr core dst srcA srcB sh acc x f => Sys2Proof.Machine.execDspOr core dst srcA srcB sh acc x f s
  | .dspXor core dst srcA srcB sh acc x f => Sys2Proof.Machine.execDspXor core dst srcA srcB sh acc x f s
  | .dspAsr core dst srcA srcB sh acc x f => Sys2Proof.Machine.execDspAsr core dst srcA srcB sh acc x f s
  | .dspLsr core dst srcA srcB sh acc x f => Sys2Proof.Machine.execDspLsr core dst srcA srcB sh acc x f s
  | .dspLsl core dst srcA srcB sh acc x f => Sys2Proof.Machine.execDspLsl core dst srcA srcB sh acc x f s
  | .dspAbs core dst srcA srcB sh acc x f => Sys2Proof.Machine.execDspAbs core dst srcA srcB sh acc x f s
  | .dspMin core dst srcA srcB sh acc x f => Sys2Proof.Machine.execDspMin core dst srcA srcB sh acc x f s
  | .dspMax core dst srcA srcB sh acc x f => Sys2Proof.Machine.execDspMax core dst srcA srcB sh acc x f s
  | .dspCmp core dst srcA srcB sh acc x f => Sys2Proof.Machine.execDspCmp core dst srcA srcB sh acc x f s
  | .dspNeg core dst srcA srcB sh acc x f => Sys2Proof.Machine.execDspNeg core dst srcA srcB sh acc x f s
  | .dspSat24 core dst srcA srcB sh acc x f => Sys2Proof.Machine.execDspSat24 core dst srcA srcB sh acc x f s
  | .dspAdda core dst srcA srcB sh acc x f => Sys2Proof.Machine.execDspAdda core dst srcA srcB sh acc x f s
  | .dspShla core dst srcA srcB sh acc x f => Sys2Proof.Machine.execDspShla core dst srcA srcB sh acc x f s
  | .dspShra core dst srcA srcB sh acc x f => Sys2Proof.Machine.execDspShra core dst srcA srcB sh acc x f s
  | .dspMova core dst srcA srcB sh acc x f => Sys2Proof.Machine.execDspMova core dst srcA srcB sh acc x f s
  | .dspMovas core dst srcA srcB sh acc x f => Sys2Proof.Machine.execDspMovas core dst srcA srcB sh acc x f s
  | .dspMovda core dst srcA srcB sh acc x f => Sys2Proof.Machine.execDspMovda core dst srcA srcB sh acc x f s
  | .dspClraov core dst srcA srcB sh acc x f => Sys2Proof.Machine.execDspClraov core dst srcA srcB sh acc x f s
  | .dspMac core inB acc a b other x y f => Sys2Proof.Machine.execDspMac core inB acc a b other x y f s
  | .dspMsu core inB acc a b other x y f => Sys2Proof.Machine.execDspMsu core inB acc a b other x y f s
  | .dspMpy core inB acc a b other x y f => Sys2Proof.Machine.execDspMpy core inB acc a b other x y f s
  | .dspMpyn core inB acc a b other x y f => Sys2Proof.Machine.execDspMpyn core inB acc a b other x y f s
  | .dspClra core inB acc a b other x y f => Sys2Proof.Machine.execDspClra core inB acc a b other x y f s
  | .dspMoveLoad core inY d p mod a b other f ecc => Sys2Proof.Machine.execDspMoveLoad core inY d p mod a b other f ecc s
  | .dspMoveStore core inY d p mod a b other f ecc => Sys2Proof.Machine.execDspMoveStore core inY d p mod a b other f ecc s
  | .dspLdiD core dst src imm f => Sys2Proof.Machine.execDspLdiD core dst src imm f s
  | .dspLdiP core dst src imm f => Sys2Proof.Machine.execDspLdiP core dst src imm f s
  | .dspLdiM core dst src imm f => Sys2Proof.Machine.execDspLdiM core dst src imm f s
  | .dspLdiLc core dst src imm f => Sys2Proof.Machine.execDspLdiLc core dst src imm f s
  | .dspAddiD core dst src imm f => Sys2Proof.Machine.execDspAddiD core dst src imm f s
  | .dspAddiP core dst src imm f => Sys2Proof.Machine.execDspAddiP core dst src imm f s
  | .dspMovsTo core dst src imm f => Sys2Proof.Machine.execDspMovsTo core dst src imm f s
  | .dspMovsFrom core dst src imm f => Sys2Proof.Machine.execDspMovsFrom core dst src imm f s
  | .dspRot core dst src imm f => Sys2Proof.Machine.execDspRot core dst src imm f s
  | .dspNop core cond cnt addr f => Sys2Proof.Machine.execDspNop core cond cnt addr f s
  | .dspBr core cond cnt addr f => Sys2Proof.Machine.execDspBr core cond cnt addr f s
  | .dspBrc core cond cnt addr f => Sys2Proof.Machine.execDspBrc core cond cnt addr f s
  | .dspCall core cond cnt addr f => Sys2Proof.Machine.execDspCall core cond cnt addr f s
  | .dspRet core cond cnt addr f => Sys2Proof.Machine.execDspRet core cond cnt addr f s
  | .dspLoop core cond cnt addr f => Sys2Proof.Machine.execDspLoop core cond cnt addr f s
  | .dspLoopr core cond cnt addr f => Sys2Proof.Machine.execDspLoopr core cond cnt addr f s
  | .dspRep core cond cnt addr f => Sys2Proof.Machine.execDspRep core cond cnt addr f s
  | .dspBreak core cond cnt addr f => Sys2Proof.Machine.execDspBreak core cond cnt addr f s
  | .dspHalt core cond cnt addr f => Sys2Proof.Machine.execDspHalt core cond cnt addr f s
  -- Core watchdog
  | .kernelWatchdog t core => Sys2Proof.Machine.execKernelWatchdog t core s
  -- Immediate window and MSI-X
  | .sqDoorbellWrite t fn n value => Sys2Proof.Machine.execSqDoorbellWrite t fn n value s
  | .cqHeadWrite t fn n value => Sys2Proof.Machine.execCqHeadWrite t fn n value s
  | .eqHeadWrite t fn value => Sys2Proof.Machine.execEqHeadWrite t fn value s
  | .evtSummaryClear t fn value => Sys2Proof.Machine.execEvtSummaryClear t fn value s
  | .timeCapture t fn value => Sys2Proof.Machine.execTimeCapture t fn value s
  | .sqEnable t fn n value => Sys2Proof.Machine.execSqEnable t fn n value s
  | .sqDisable t fn n value => Sys2Proof.Machine.execSqDisable t fn n value s
  | .cqEnable t fn n value => Sys2Proof.Machine.execCqEnable t fn n value s
  | .cqDisable t fn n value => Sys2Proof.Machine.execCqDisable t fn n value s
  | .eqEnable t fn value => Sys2Proof.Machine.execEqEnable t fn value s
  | .eqDisable t fn value => Sys2Proof.Machine.execEqDisable t fn value s
  | .qStatusReadClear t fn q => Sys2Proof.Machine.execQStatusReadClear t fn q s
  | .bootGo t fn value => Sys2Proof.Machine.execBootGo t fn value s
  | .registerWrite t fn bar offset size value => Sys2Proof.Machine.execRegisterWrite t fn bar offset size value s
  | .msixVectorUnmask t fn v => Sys2Proof.Machine.execMsixVectorUnmask t fn v s
  | .msixCoalesceExpiry t fn v => Sys2Proof.Machine.execMsixCoalesceExpiry t fn v s
  -- Command processor and queues
  | .commandFetch t fn sq e => Sys2Proof.Machine.execCommandFetch t fn sq e s
  | .commandExecuteStart t id => Sys2Proof.Machine.execCommandExecuteStart t id s
  | .commandTimeout t id => Sys2Proof.Machine.execCommandTimeout t id s
  | .completionWrite t fn cq => Sys2Proof.Machine.execCompletionWrite t fn cq s
  | .eventWrite t fn completion => Sys2Proof.Machine.execEventWrite t fn completion s
  -- Completions of long-running work
  | .kernelLoaded t id image fetchErr => Sys2Proof.Machine.execKernelLoaded t id image fetchErr s
  | .overlayLoaded t id image fetchErr => Sys2Proof.Machine.execOverlayLoaded t id image fetchErr s
  | .castleHandover t r failed => Sys2Proof.Machine.execCastleHandover t r failed s
  | .castleDone t r => Sys2Proof.Machine.execCastleDone t r s
  | .autoCastleStart t c => Sys2Proof.Machine.execAutoCastleStart t c s
  | .benchDone t c failed => Sys2Proof.Machine.execBenchDone t c failed s
  | .imageWritten t img fetchErr => Sys2Proof.Machine.execImageWritten t img fetchErr s
  | .hubPause t us ok => Sys2Proof.Machine.execHubPause t us ok s
  | .updateDone t => Sys2Proof.Machine.execUpdateDone t s
  | .recordExported t corrected unreadable failing => Sys2Proof.Machine.execRecordExported t corrected unreadable failing s
  | .loopbackDone t phys frames errors => Sys2Proof.Machine.execLoopbackDone t phys frames errors s
  | .unitReload t c u => Sys2Proof.Machine.execUnitReload t c u s
  -- Pins, supplies, tamper, PCIe, management bus
  | .vbatApplied t => Sys2Proof.Machine.execVbatApplied t s
  | .vbatRemoved t => Sys2Proof.Machine.execVbatRemoved t s
  | .pwrgdRise t x => Sys2Proof.Machine.execPwrgdRise t x s
  | .pwrgdFall t inProgress whole down => Sys2Proof.Machine.execPwrgdFall t inProgress whole down s
  | .resetNAssert t => Sys2Proof.Machine.execResetNAssert t s
  | .resetNRelease t x => Sys2Proof.Machine.execResetNRelease t x s
  | .initDone t us fail vault head => Sys2Proof.Machine.execInitDone t us fail vault head s
  | .bootDone t hub cluster failed holdupUs => Sys2Proof.Machine.execBootDone t hub cluster failed holdupUs s
  | .pfwNAssert t => Sys2Proof.Machine.execPfwNAssert t s
  | .rideStage t => Sys2Proof.Machine.execRideStage t s
  | .pfwNRelease t => Sys2Proof.Machine.execPfwNRelease t s
  | .rideMaxExpired t => Sys2Proof.Machine.execRideMaxExpired t s
  | .tamperDetect t sensor more active => Sys2Proof.Machine.execTamperDetect t sensor more active s
  | .tamperWhileOff t sensor => Sys2Proof.Machine.execTamperWhileOff t sensor s
  | .jtagInstructionSelect t ins => Sys2Proof.Machine.execJtagInstructionSelect t ins s
  | .thermalSample t die temp bad => Sys2Proof.Machine.execThermalSample t die temp bad s
  | .powerEstimate t w => Sys2Proof.Machine.execPowerEstimate t w s
  | .linkReplay t k again => Sys2Proof.Machine.execLinkReplay t k again s
  | .linkRetrain t k => Sys2Proof.Machine.execLinkRetrain t k s
  | .pcieFlr t fn => Sys2Proof.Machine.execPcieFlr t fn s
  | .vfConfigChange t enable num => Sys2Proof.Machine.execVfConfigChange t enable num s
  | .pcieLinkReset t => Sys2Proof.Machine.execPcieLinkReset t s
  | .pcieLinkUp t gen width => Sys2Proof.Machine.execPcieLinkUp t gen width s
  | .busMasterChange t fn busMaster memSpace d3 => Sys2Proof.Machine.execBusMasterChange t fn busMaster memSpace d3 s
  | .mbPointerWrite t p => Sys2Proof.Machine.execMbPointerWrite t p s
  | .mbRead t n => Sys2Proof.Machine.execMbRead t n s
  | .mbAlertResponse t => Sys2Proof.Machine.execMbAlertResponse t s
  | .mbBusStuck t line => Sys2Proof.Machine.execMbBusStuck t line s
  | .mbSnapshotRefresh t rails => Sys2Proof.Machine.execMbSnapshotRefresh t rails s
  -- Network engines
  | .frameReceive t port f buf => Sys2Proof.Machine.execFrameReceive t port f buf s
  | .flowCacheFill t flow => Sys2Proof.Machine.execFlowCacheFill t flow s
  | .clearContextLoad t h ok => Sys2Proof.Machine.execClearContextLoad t h ok s
  | .cipherVerdict t id auth fcs ecc => Sys2Proof.Machine.execCipherVerdict t id auth fcs ecc s
  | .cipherEncryptDone t id ecc => Sys2Proof.Machine.execCipherEncryptDone t id ecc s
  | .ringRead t pipe parse => Sys2Proof.Machine.execRingRead t pipe parse s
  | .dtlsRecordProcess t leg evt => Sys2Proof.Machine.execDtlsRecordProcess t leg evt s
  | .dtlsFlightRetransmit t leg => Sys2Proof.Machine.execDtlsFlightRetransmit t leg s
  | .connectLimitExpiry t leg => Sys2Proof.Machine.execConnectLimitExpiry t leg s
  | .consentLost t leg => Sys2Proof.Machine.execConsentLost t leg s
  | .mediaTimeout t flow => Sys2Proof.Machine.execMediaTimeout t flow s
  | .nackTimer t flow => Sys2Proof.Machine.execNackTimer t flow s
  | .reorderAbandon t flow => Sys2Proof.Machine.execReorderAbandon t flow s
  | .switchTimeout t flow => Sys2Proof.Machine.execSwitchTimeout t flow s
  | .pliTimeout t flow => Sys2Proof.Machine.execPliTimeout t flow s
  | .estimatorRun t leg => Sys2Proof.Machine.execEstimatorRun t leg s
  | .rtcpInterval t leg => Sys2Proof.Machine.execRtcpInterval t leg s
  | .twccFeedbackSend t leg => Sys2Proof.Machine.execTwccFeedbackSend t leg s
  | .egressEnqueue t => Sys2Proof.Machine.execEgressEnqueue t s
  | .egressSelect t port => Sys2Proof.Machine.execEgressSelect t port s
  | .queueSample t => Sys2Proof.Machine.execQueueSample t s
  | .gateEntryChange t port => Sys2Proof.Machine.execGateEntryChange t port s
  | .gclStart t port => Sys2Proof.Machine.execGclStart t port s
  | .pfcPauseExpiry t port => Sys2Proof.Machine.execPfcPauseExpiry t port s
  | .pfcPauseRepeat t port => Sys2Proof.Machine.execPfcPauseRepeat t port s
  | .fecBlockFlush t flow => Sys2Proof.Machine.execFecBlockFlush t flow s
  | .linkUp t port => Sys2Proof.Machine.execLinkUp t port s
  | .linkDown t port => Sys2Proof.Machine.execLinkDown t port s
  -- Dispatcher engine
  | .dispatcherTick t overrun sat links errs new timers => Sys2Proof.Machine.execDispatcherTick t overrun sat links errs new timers s
  | .grainOpen t x coded => Sys2Proof.Machine.execGrainOpen t x coded s
  | .timerFire t timer => Sys2Proof.Machine.execTimerFire t timer s
  | .promotion t id => Sys2Proof.Machine.execPromotion t id s
  | .stalemateCheck t => Sys2Proof.Machine.execStalemateCheck t s
  | .periodBoundary t idx => Sys2Proof.Machine.execPeriodBoundary t idx s
  | .completionPulse t idx inst kind => Sys2Proof.Machine.execCompletionPulse t idx inst kind s
  | .taskDispatch t idx unit => Sys2Proof.Machine.execTaskDispatch t idx unit s
  | .taskComplete t idx new timers => Sys2Proof.Machine.execTaskComplete t idx new timers s
  -- Audio engines
  | .mixGrainComplete t conf late coded => Sys2Proof.Machine.execMixGrainComplete t conf late coded s
  | .confPark t conf => Sys2Proof.Machine.execConfPark t conf s
  | .clusterPowerGate t c => Sys2Proof.Machine.execClusterPowerGate t c s
  | .sapStart t port => Sys2Proof.Machine.execSapStart t port s
  | .sapRealign t => Sys2Proof.Machine.execSapRealign t s
  -- Video engines
  | .headerParse t ctx f => Sys2Proof.Machine.execHeaderParse t ctx f s
  | .decodeFrameDone t ctx pix lost => Sys2Proof.Machine.execDecodeFrameDone t ctx pix lost s
  | .decodeLate t ctx => Sys2Proof.Machine.execDecodeLate t ctx s
  | .decoderHang t ctx => Sys2Proof.Machine.execDecoderHang t ctx s
  | .canvasPassReady t canvas => Sys2Proof.Machine.execCanvasPassReady t canvas s
  | .composePassDone t canvas => Sys2Proof.Machine.execComposePassDone t canvas s
  | .compositorHang t canvas => Sys2Proof.Machine.execCompositorHang t canvas s
  | .guardReadbackDone t canvas found => Sys2Proof.Machine.execGuardReadbackDone t canvas found s
  | .encodeRowDone t h bits repl => Sys2Proof.Machine.execEncodeRowDone t h bits repl s
  | .encodeFrameDone t h x => Sys2Proof.Machine.execEncodeFrameDone t h x s
  | .encoderHang t h bits => Sys2Proof.Machine.execEncoderHang t h bits s
  | .refreshDeferExpiry t ctx => Sys2Proof.Machine.execRefreshDeferExpiry t ctx s
  | .keySExpiry t ctx => Sys2Proof.Machine.execKeySExpiry t ctx s
  | .refreshAllocate t fps => Sys2Proof.Machine.execRefreshAllocate t fps s
  | .refreshVariantDone t tile form x => Sys2Proof.Machine.execRefreshVariantDone t tile form x s
  | .splicePictureAssemble t flow syn => Sys2Proof.Machine.execSplicePictureAssemble t flow syn s
  -- Beacon receiver
  | .beaconPeak t ch pos c before after p sync => Sys2Proof.Machine.execBeaconPeak t ch pos c before after p sync s
  | .beaconSync t ch pos corr p => Sys2Proof.Machine.execBeaconSync t ch pos corr p s
  | .beaconSearchTimeout t ch => Sys2Proof.Machine.execBeaconSearchTimeout t ch s
  | .beaconFrameEnd t ch d => Sys2Proof.Machine.execBeaconFrameEnd t ch d s
  | .beaconPeriodEnd t leg => Sys2Proof.Machine.execBeaconPeriodEnd t leg s
  -- Memory and DMA engines
  | .dramCommandIssue t stack pc arrive ecc => Sys2Proof.Machine.execDramCommandIssue t stack pc arrive ecc s
  | .refreshDue t stack pc => Sys2Proof.Machine.execRefreshDue t stack pc s
  | .dramTempSample t k temp => Sys2Proof.Machine.execDramTempSample t k temp s
  | .scrubWriteback t log addr => Sys2Proof.Machine.execScrubWriteback t log addr s
  | .patrolScrub t log addr cluster ecc => Sys2Proof.Machine.execPatrolScrub t log addr cluster ecc s
  | .selfRefreshEnter t => Sys2Proof.Machine.execSelfRefreshEnter t s
  | .bushelZeroFill t => Sys2Proof.Machine.execBushelZeroFill t s
  | .dmaBurst t e ch x => Sys2Proof.Machine.execDmaBurst t e ch x s
  | .dmaDescriptorDone t e ch => Sys2Proof.Machine.execDmaDescriptorDone t e ch s
  | .dmaStopRequest t e ch => Sys2Proof.Machine.execDmaStopRequest t e ch s
  | .dmaResume t e ch abort => Sys2Proof.Machine.execDmaResume t e ch abort s
  | .queueWrite t reader writer q word => Sys2Proof.Machine.execQueueWrite t reader writer q word s
  | .queueRead t reader writer q => Sys2Proof.Machine.execQueueRead t reader writer q s
  -- Vault engines
  | .rngHealthTest t failed => Sys2Proof.Machine.execRngHealthTest t failed s
  | .certReissue t tenant => Sys2Proof.Machine.execCertReissue t tenant s
  | .certRenewal t tenant gen => Sys2Proof.Machine.execCertRenewal t tenant gen s
  | .cipherSelftest t fails => Sys2Proof.Machine.execCipherSelftest t fails s
  | .recordCommit t => Sys2Proof.Machine.execRecordCommit t s
  -- Time, rails and remaining timers
  | .referenceLost t => Sys2Proof.Machine.execReferenceLost t s
  | .ppsInEdge t => Sys2Proof.Machine.execPpsInEdge t s
  | .dtStepApply t => Sys2Proof.Machine.execDtStepApply t s
  | .leapSecond t => Sys2Proof.Machine.execLeapSecond t s
  | .ptpSyncSend t => Sys2Proof.Machine.execPtpSyncSend t s
  | .ppsOutEdge t => Sys2Proof.Machine.execPpsOutEdge t s
  | .shaperBucketZero t leg => Sys2Proof.Machine.execShaperBucketZero t leg s
  | .certificateExpiry t tenant gen => Sys2Proof.Machine.execCertificateExpiry t tenant gen s
  | .railAlarm t rail mv => Sys2Proof.Machine.execRailAlarm t rail mv s
  | .railCleared t rail mv => Sys2Proof.Machine.execRailCleared t rail mv s
  | .legFreed t leg => Sys2Proof.Machine.execLegFreed t leg s
  | .linkRetrainDone t k ok => Sys2Proof.Machine.execLinkRetrainDone t k ok s
  | .castleWakeDone t r failed => Sys2Proof.Machine.execCastleWakeDone t r failed s
  | .devResetInitEntry t x => Sys2Proof.Machine.execDevResetInitEntry t x s

end Sys2Proof.Machine
end

