-- ==== Sys2Proof/Machine/Context.lean ====
section
/-! DEFINITION. The flow context and the task entry as the device lays them out (Tables 02-5 and 15-1; R77, R522). -/

namespace Sys2Proof.Machine

/-- The SSRC after rewriting: that of a send flow, none in a receive flow (R197). -/
def Flow.outSsrc (f : Flow) : Nat := if f.dir = 1 then 0 else f.ssrc

/-- The payload type of the flow that a flow of KIND 3 or 4 protects (DEDUCED: Table 02-5 says only "associated"). -/
def State.assocPt (s : State) (f : Flow) : Nat :=
  if f.assoc = 0 then 0 else match s.flow (hIdx f.assoc) with | some a => a.pt | none => 0

/-- An instant in 8 bytes: seconds, low 32 bits, and nanoseconds. -/
def instant8 (t : Nat) : List Byte := le 4 (dtSec t) ++ le 4 (dtNs t)

/-- An instant in units of an RTP clock. -/
def clockUnits (rate t : Nat) : Nat := t * rate / secU

/-- The layer, switch-point and rewriting state of a flow as numbers. -/
def Flow.layerState (f : Flow) : List Nat :=
  let x := f.fwd
  [x.code, x.cur.e, x.cur.s, x.cur.t, x.tgt.e, x.tgt.s, x.tgt.t, x.outSeq, x.tsOff, (x.frOff % 2 ^ 32).toNat,
    (x.tl0Off % 256).toNat, x.lastTs]

/-- The 256 bytes of a flow context (R77); zero where there is no flow. -/
def State.flowContext (s : State) (i : Nat) : List Byte :=
  match s.flow i with
  | none => zeros 256
  | some f =>
    let hdr := f.tenant % 64 * 2 ^ 24 + f.state.code % 16 * 2 ^ 20 + i % 2 ^ 20
    let legw := f.flags % 256 * 2 ^ 24 + f.kind % 16 * 2 ^ 20 + f.dir % 4 * 2 ^ 18 + f.leg % 65536
    let transit := match f.transit with
      | some (t, ts) => (clockUnits f.clockRate t + 2 ^ 32 - ts % 2 ^ 32) % 2 ^ 32
      | none => 0
    let sr := f.lastSr.getD (0, 0)
    le 4 hdr ++ le 4 legw ++ le 4 (if f.state = .learning then 0 else f.ssrc) ++ le 4 f.outSsrc ++ le 4 f.clockRate ++
      le 4 (s.assocPt f * 256 + f.pt) ++ le 4 (if f.kind = 3 || f.kind = 4 then hIdx f.assoc else 0) ++ le 4 f.sink ++
      padTo 8 f.mid ++ padTo 8 f.rid ++ padTo 16 (f.prof.exts.map fun n => BitVec.ofNat 8 n) ++
      le 4 (f.extSeq.getD 65536 - 65536) ++ le 4 f.baseSeq ++ instant8 f.lastArr ++
      le 4 (clockUnits f.clockRate f.jitter / 16) ++ le 4 transit ++ le 4 sr.1 ++ le 4 (sr.2 * 65536 / secU) ++
      le 8 f.packets ++ le 8 f.bytes ++ le 4 f.lost ++ le 4 f.fecRec ++ le 4 f.rtxRec ++ le 4 f.authFails ++
      (List.range 16).map (Config.layerByte f.layerState) ++ zeros 16 ++ padTo 96 f.cip.wrapped

/-- The code of a task's state (Table 15-3). -/
def TaskSt.code : TaskSt → Nat
  | .waiting => 1 | .ready => 2 | .dispatched => 3 | .done => 4

/-- The address of a work descriptor. -/
def Work.addr : Work → Nat
  | .other a => a
  | .decode c => Config.workAddr 1 c 0
  | .pass c => Config.workAddr 2 c 0
  | .encode c => Config.workAddr 3 c 0
  | .tile c => Config.workAddr 4 c 0
  | .variant c form => Config.workAddr 5 c form
  | .mix c => Config.workAddr 6 c 0
  | .splice f => Config.workAddr 7 f 0

/-- The 64 bytes of a task entry (Table 15-1). -/
def Task.entry (t : Task) : List Byte :=
  le 4 (t.st.code * 2 ^ 29 + t.cls % 4 * 2 ^ 27 + t.level % 8 * 2 ^ 24 + b2n t.urgent.isSome * 2 ^ 23 + t.tenant % 64 * 2 ^ 17) ++
    le 4 (match t.key with | some k => 2 ^ 31 + k % 2 ^ 20 | none => 0) ++
    le 1 t.count ++ le 1 t.reload ++ le 1 t.inst ++ le 1 (t.target % 16) ++
    le 4 ((match t.cluster with | some c => c % 64 | none => 63) * 256 + t.regions % 256) ++
    padTo 16 (t.succ.flatMap fun i => le 4 (2 ^ 31 + i % 2 ^ 18)) ++
    le 8 t.work.addr ++ le 8 t.readyDt ++ le 4 t.owner ++ le 4 (t.promos % 256) ++ zeros 8

/-- The entry at an index of the task table; zero where it is FREE. -/
def State.taskEntry (s : State) (i : Nat) : List Byte := ((tget s.disp.tasks i).map Task.entry).getD (zeros 64)

/-- An accepted command as a task: user class, on a control core. -/
def CmdEntry.task (e : CmdEntry) (id : Nat) : Task :=
  { st := if e.begun then .dispatched else if e.ready.isSome then .ready else .waiting
    cls := 3, level := e.level, tenant := e.whom.fn, work := .other (Config.workAddr 8 id 0), readyDt := e.ready.getD 0
    owner := e.cmd.obj, urgent := e.urgent, promos := e.promos }

end Sys2Proof.Machine
end

