-- ==== Sys2Proof/Safety.lean ====
section
/-! DEFINITION. The terms in which claims speak: when a command is taken by the command processor, what it is to complete,
and, for each row of the opcode table, the conditions on the state and the operands under which the row has its own
effect (the command is taken, its operands are readable, the object it names is in the state that its chapter asks for). -/

namespace Sys2Proof.Machine

/-- A Belex command passes the checks of acceptance (R110) and of the start of execution (R111) at its instant, while the
queues are served (R98). -/
def takes (opc : Nat) (c : Cmd) (s : State) : Bool :=
  let s := s.advance c.at_
  s.serving && match opInfo opc with
    | some o => (acceptCheck o c s).isNone && (startCheck o c s).isNone
    | none => false

/-- `exec` answers the state `u` with the reply DONE and the payload `pay` of the command added (R120). -/
def Does (opc : Nat) (i : Instr) (c : Cmd) (s u : State) (pay : List Byte) : Prop :=
  exec i s = .next (u.complete (replyTo (s.advance c.at_) opc c 0) stDone pay)

/-- A query replies DONE with `n` bytes and changes nothing beside. -/
def Answers (opc n : Nat) (i : Instr) (c : Cmd) (s : State) : Prop :=
  ∃ pay : List Byte, pay.length = n ∧ Does opc i c s (s.advance c.at_) pay

/-- A long-running command replies ACCEPTED, and the state `u` holds its work (R125). -/
def Begins (opc : Nat) (i : Instr) (c : Cmd) (s u : State) : Prop :=
  exec i s = .next (u.reply (replyTo (s.advance c.at_) opc c 0) stAccepted [])

/-! Mode and power (file 21). -/

/-- The mode MODE_SET enters, when it may (Table 21-2). -/
def modeOf (c : Cmd) (s : State) : Option Mode :=
  match (s.advance c.at_).modeTarget c with | .ok m => some m | .error _ => none
def canPowerSet (c : Cmd) (s : State) : Bool :=
  takes 0x0010 c s && c.rng0 0 2 20 2000 && c.rng0 2 2 1 100 && c.rng0 4 2 100 235 && c.zero 6 2
def canDevReset (c : Cmd) (s : State) : Bool := takes 0x0020 c s && c.u 0 4 == 0x52534554

/-! Conferences, legs and flows (file 02). -/

def canConfCreate (c : Cmd) (s : State) : Bool :=
  takes 0x0100 c s && c.rng 0 2 1 4096 && c.mask 2 1 3 && c.rng 4 1 0 15 && c.zero 5 7 && (s.advance c.at_).admission 0 c.fn == 0
def canConfDelete (c : Cmd) (s : State) : Bool :=
  takes 0x0101 c s && c.mask 0 4 1 && (c.flag 0 4 0 || !((s.legsOf (hIdx c.obj)).any fun p => p.2.state != .closing))
def canLegCreate (c : Cmd) (s : State) (k : Conf) (ty : LegType) : Bool :=
  takes 0x0110 c s &&
  let s := s.advance c.at_
  let l := newLeg s c ty k.tenant (hIdx c.obj)
  let pol := (s.quotas.getD k.tenant {}).policy
  s.conf (hIdx c.obj) == some k && legTypeOf (c.u 0 1) == some ty &&
    checkTypeObj s c.fn ty (c.u 28 4) == 0 && legParamsOk s c ty && k.state != .closing &&
    (ty != .trunk || bit pol 0) && (ty != .stream || (bit pol 1 && (c.u 28 4 == 0 || bit pol 0))) &&
    s.admission 1 k.tenant == 0 && decide (s.legLoad (hIdx c.obj) none < k.maxLegs) && !s.transportUsed l &&
    (ty != .port || s.routeMask (hIdx l.typeObj) &&& l.slotMask == 0)
def canLegMove (c : Cmd) (s : State) (l : Leg) (k : Conf) : Bool :=
  takes 0x0112 c s &&
  let s := s.advance c.at_
  checkParam s c.fn [1] (c.u 0 4) == 0 && c.zero 4 4 && s.leg (hIdx c.obj) == some l &&
    s.conf (hIdx (c.u 0 4)) == some k && l.conf != hIdx (c.u 0 4) &&
    decide (s.legLoad (hIdx (c.u 0 4)) (some (hIdx c.obj)) < k.maxLegs)
/-- A LEG_MOVE to the conference of the leg itself, which changes nothing (R92). -/
def staysPut (c : Cmd) (s : State) (l : Leg) (k : Conf) : Bool :=
  takes 0x0112 c s &&
  let s := s.advance c.at_
  checkParam s c.fn [1] (c.u 0 4) == 0 && c.zero 4 4 && s.leg (hIdx c.obj) == some l &&
    s.conf (hIdx (c.u 0 4)) == some k && l.conf == hIdx (c.u 0 4)
def canLegSetState (c : Cmd) (s : State) : Bool := takes 0x0113 c s && c.mask 0 4 3
def canFlowCreate (c : Cmd) (s : State) (l : Leg) : Bool :=
  takes 0x0120 c s &&
  let s := s.advance c.at_
  let li := hIdx c.obj
  let f := newFlow s c li l 0 0
  s.leg li == some l && flowHandles s c l.conf == 0 && flowParamsOk s c li l && l.typ != .port &&
    l.state != .closing && !s.isClosing (c.u 12 4) && s.admission 2 l.tenant == 0 && decide ((s.flowsOf li).length < 64) &&
    !s.ssrcUsed li f && (decide (2 < c.u 4 1) || s.sinkCheck li (c.u 32 4) (trimZeros (c.bytes 16 8)) == 0) &&
    (!c.flag 7 1 0 || s.canPin f)
def canTenantSetQuota (c : Cmd) (s : State) : Bool :=
  let q := quotaOf c
  takes 0x0130 c s && c.rng 0 1 0 63 && c.zero 1 3 && c.rng 4 2 0 8192 && c.rng 8 4 0 65536 && c.rng 16 4 0 1048576 &&
    c.mask 24 4 3 && decide (q.confRes ≤ q.confMax) && decide (q.legRes ≤ q.legMax) && decide (q.flowRes ≤ q.flowMax) &&
    [0, 1, 2].all fun p => decide (s.reservesWith p (c.u 0 1) q ≤ poolSize p)
def canTenantQuery (c : Cmd) (s : State) : Bool :=
  takes 0x0131 c s && c.rng 0 1 0 63 && c.zero 1 3 && (c.fn == 0 || c.u 0 1 == c.fn)

/-! Packet ingress (file 04). -/

def canPortSetMode (c : Cmd) (s : State) : Bool :=
  takes 0x0200 c s && c.rng 0 1 0 1 && c.rng 1 1 0 2 && c.zero 2 2 &&
    ((List.range 4).all fun i => decide (i < (match c.u 1 1 with | 0 => 1 | 1 => 2 | _ => 4)) || c.zero (4 + 6 * i) 6) &&
    !(s.legs.any fun l => l.2.typ != .port && l.2.netPort / 4 == c.u 0 1)
/-- The address that ADDR_SET gives. -/
def localAddrOf (c : Cmd) : LocalAddr := ⟨c.flag 2 2 0, c.flag 2 2 1, c.big 8 16⟩
def canAddrSet (c : Cmd) (s : State) : Bool :=
  takes 0x0201 c s && c.rng 0 1 0 7 && c.rng 1 1 0 31 && c.mask 2 2 3 && c.zero 4 4 && (c.flag 2 2 0 || c.zero 8 12) &&
    (!(s.legs.any fun l => l.2.matchable && l.2.netPort == c.u 0 1 && l.2.localAddr == c.u 1 1) ||
      localAddrOf c == (s.net.ports.getD (c.u 0 1) {}).addrs.getD (c.u 1 1) {})
def canIceSet (c : Cmd) (s : State) (l : Leg) : Bool :=
  takes 0x0210 c s && c.rng 0 1 4 32 && c.rng 1 1 4 32 && c.rng 2 1 22 64 && c.zero 3 1 && c.rng0 4 2 5 120 && c.zero 6 2 &&
    c.padded 8 (c.u 0 1) 32 && c.padded 40 (c.u 1 1) 32 && c.padded 72 (c.u 2 1) 64 &&
    s.leg (hIdx c.obj) == some l && l.typ == .endpoint &&
    !(s.legs.any fun p => p.1 != hIdx c.obj && p.2.typ == .endpoint && p.2.matchable && p.2.netPort == l.netPort &&
      p.2.localAddr == l.localAddr && p.2.localUdp == l.localUdp && p.2.ice.set && p.2.ice.lfrag == c.bytes 8 (c.u 0 1))
def canPolicerSet (c : Cmd) (s : State) : Bool :=
  takes 0x0211 c s && c.rng 4 4 9216 1048576 && c.rng 8 2 1 10000 && c.rng 10 2 1 1024 && c.zero 12 4
def canJbSet (c : Cmd) (s : State) (f : Flow) : Bool :=
  takes 0x0220 c s && s.flow (hIdx c.obj) == some f && f.kind == 1 && f.dir == 1 && c.rng 2 2 5 1000 &&
    decide (c.u 0 2 ≤ c.u 2 2) && c.zero 4 4
def canReorderSet (c : Cmd) (s : State) (f : Flow) : Bool :=
  takes 0x0221 c s && s.flow (hIdx c.obj) == some f && f.kind == 2 && f.dir == 1 && c.rng 0 1 0 2 && c.rng 1 1 0 15 &&
    c.rng 2 2 0 50000 && c.rng 4 2 10 1000 && c.zero 6 2
def canFecSet (c : Cmd) (s : State) (f : Flow) : Bool :=
  takes 0x0222 c s && s.flow (hIdx c.obj) == some f && f.kind == 3 && f.dir == 1 && c.rng 0 1 0 1 && c.zero 1 1 &&
    c.rng 2 2 20 1000 && c.zero 4 4
def canPortStats (c : Cmd) (s : State) : Bool := takes 0x0231 c s && c.rng 0 1 0 7 && c.zero 1 3

/-! Forwarding and adaptation (file 05). -/

/-- The binding that FWD_BIND describes, over the numbering of the binding before it. -/
def bindingOf (c : Cmd) (now : Nat) (f : Flow) : Fwd :=
  let w := f.fwd
  { bound := true, slot := c.u 4 1, prio := c.u 5 1, caps := ⟨c.u 6 1, c.u 7 1, c.u 8 1⟩, state := .pending, since := now
    lastSource := now, source := if c.u 0 4 = 0 then noFlow else hIdx (c.u 0 4)
    outSeq := if w.bound then w.outSeq else f.sendSeq, srcHigh := w.srcHigh, kept := w.kept, tsOff := w.tsOff, frOff := w.frOff
    tl0Off := w.tl0Off, lastTs := w.lastTs, lastStamp := w.lastStamp, lastFrame := w.lastFrame, lastTl0 := w.lastTl0
    sentTs := w.sentTs, pics := w.pics, tail := w.rest, framesOut := w.framesOut, pkts := w.pkts, padding := w.padding
    rtxSent := w.rtxSent, rtxMiss := w.rtxMiss }
def fwdParamsOk (c : Cmd) (f : Flow) : Bool :=
  (f.kind == 1 && bit f.flags 2 || f.kind == 2) && f.dir == 2 && c.rng 5 1 0 7 && c.rng 6 1 0 3 && c.rng 7 1 0 3 &&
    c.rng 8 1 0 3 && c.zero 9 7 && (if c.u 0 4 = 0 then f.kind == 1 && c.rng 4 1 1 3 else c.u 4 1 == 0)
/-- A binding of the first to a ranked slot of an end-to-end encrypted audio flow. -/
def canFwdSlot (c : Cmd) (s : State) (f : Flow) : Bool :=
  takes 0x0300 c s && s.flow (hIdx c.obj) == some f && fwdParamsOk c f && c.u 0 4 == 0 && f.outCtx == 0
/-- A binding to a source flow, of a flow that is not already forwarding one. -/
def canFwdSource (c : Cmd) (s : State) (f x : Flow) : Bool :=
  takes 0x0300 c s &&
  let s := s.advance c.at_
  s.flow (hIdx c.obj) == some f && fwdParamsOk c f && c.u 0 4 != 0 && checkParam s c.fn [3] (c.u 0 4) == 0 &&
    s.flow (hIdx (c.u 0 4)) == some x && s.confOf (c.u 0 4) == s.confOf c.obj && x.dir == 1 && x.kind == f.kind &&
    x.leg != f.leg && x.prof.codec == f.prof.codec && f.prof.codec != 0 && bit x.flags 2 == bit f.flags 2 && f.outCtx == 0
/-- Whether a replaced source goes on until the new one's switch point (R185). -/
def fwdGoing (s : State) (f : Flow) : Bool :=
  f.fwd.bound && f.fwd.started && if f.fwd.slot = 0 then (s.flow f.fwd.source).isSome else f.fwd.slotSource.isSome
/-- The send flow's forwarding after FWD_BIND: a replacement in waiting where the old source goes on, else the new binding. -/
def boundFwd (c : Cmd) (s : State) (f : Flow) : Fwd :=
  if fwdGoing s f then
    { f.fwd with next := some {
        source := if c.u 0 4 = 0 then noFlow else hIdx (c.u 0 4), slot := c.u 4 1, prio := c.u 5 1
        caps := ⟨c.u 6 1, c.u 7 1, c.u 8 1⟩ } }
  else bindingOf c s.now f
def canFwdUnbind (c : Cmd) (s : State) (f : Flow) : Bool :=
  takes 0x0301 c s && s.flow (hIdx c.obj) == some f && f.dir == 2 && f.fwd.bound
def canFwdQuery (c : Cmd) (s : State) (f : Flow) : Bool :=
  takes 0x0302 c s && s.flow (hIdx c.obj) == some f && f.dir == 2
def canProfileSet (c : Cmd) (s : State) (f : Flow) : Bool :=
  takes 0x0310 c s && s.flow (hIdx c.obj) == some f && codecSuits f.kind (c.u 0 1) && c.zero 7 1 && c.zero 12 4 &&
    ((f.kind == 1 && f.dir == 2) || c.zero 8 4)
def canRtcpSet (c : Cmd) (s : State) : Bool :=
  takes 0x0311 c s && c.rng0 0 2 100 5000 && c.mask 2 2 3 && c.rng 4 1 1 32 && c.zero 5 3 && c.padded 8 (c.u 4 1) 32
def canKeyframeRequest (c : Cmd) (s : State) (f : Flow) : Bool :=
  takes 0x0312 c s && s.flow (hIdx c.obj) == some f && f.kind == 2 && f.dir == 1 && c.mask 0 4 1
def canAdaptSet (c : Cmd) (s : State) : Bool :=
  takes 0x0320 c s && c.rng 4 1 0 50 && c.rng 5 1 (c.u 4 1) 50 && c.rng 6 1 0 3 && c.rng 7 1 0 3 && c.rng 8 1 0 3 && c.zero 9 7
def canAdaptOverride (c : Cmd) (s : State) (l : Leg) : Bool :=
  takes 0x0321 c s && c.mask 0 1 7 && c.rng 1 1 0 50 && c.rng 2 1 0 3 && c.rng 3 1 0 3 && c.rng 4 1 0 3 && c.zero 5 3 &&
    (if bit (c.u 0 1) 0 then c.rng 8 4 30 800000 else c.rng0 8 4 30 800000) && c.zero 12 4 && s.leg (hIdx c.obj) == some l
def canCascadeSet (c : Cmd) (s : State) (l : Leg) : Bool :=
  takes 0x0330 c s && c.rng0 0 1 1 40 && c.rng 1 1 0 1 && c.zero 2 6 && s.leg (hIdx c.obj) == some l && l.typ == .cascade

/-! Packet egress (file 06). -/

def canEgressLegSet (c : Cmd) (s : State) : Bool :=
  takes 0x0400 c s && c.rng 0 2 0 4096 && c.zero 2 2 && c.rng0 4 4 1536 1048576 && c.rng0 8 4 16384 16777216 &&
    c.rng0 12 2 10 5000 && c.rng0 14 2 10 5000
def canEgressClassSet (c : Cmd) (s : State) (f : Flow) : Bool :=
  takes 0x0401 c s && s.flow (hIdx c.obj) == some f && f.dir == 2 && c.rng 0 1 0 7 && c.zero 1 3 && c.u 0 1 != 7
/-- Whether frames of a flow wait in its lane, so that a new class waits for them (R242). -/
def laneBusy (s : State) (i : Nat) (f : Flow) : Bool :=
  (match s.leg f.leg with | some l => l.egr.lanes.getD f.cls [] | none => []).any fun x => match x.flow with
    | some y => s.classFlow y == i | none => false
def canPortEgressSet (c : Cmd) (s : State) : Bool :=
  takes 0x0410 c s && c.rng 0 1 0 7 && c.rng0 1 1 20 64 && c.mask 2 2 1 && ((c.bytes 4 8).all fun b => decide (b.toNat ≤ 7)) &&
    (c.bytes 12 8).all fun b => decide (b.toNat ≤ 63)
def canGclSet (c : Cmd) (s : State) : Bool :=
  takes 0x0411 c s && c.rng 0 1 0 7 && c.rng 1 1 0 1 && c.rng 2 2 0 256 && c.zero 4 4 && c.rng 16 4 0 999999999 &&
    c.rng 20 4 1000 1000000000 && ((List.range (c.u 2 2)).all fun i => c.zero (25 + 8 * i) 3) &&
    (c.u 1 1 == 1) == decide (0 < c.u 2 2) &&
    (List.range (c.u 2 2)).all fun i => decide (32 ≤ c.u (28 + 8 * i) 4) && decide (c.u (28 + 8 * i) 4 ≤ c.u 20 4)
def canGclQuery (c : Cmd) (s : State) : Bool := takes 0x0412 c s && c.rng 0 1 0 7 && c.zero 1 3
def canFecGenSet (c : Cmd) (s : State) (f : Flow) : Bool :=
  takes 0x0420 c s && s.flow (hIdx c.obj) == some f && f.dir == 2 && f.kind == 3 && c.rng 0 1 0 1 && c.rng0 1 1 5 100 && c.zero 2 2
def canFcSet (c : Cmd) (s : State) : Bool :=
  takes 0x0430 c s && c.rng 0 1 0 3 && c.rng 1 1 0 3 && c.rng 2 1 0 (match c.u 1 1 with | 1 => 1 | 3 => 7 | _ => 0) &&
    c.zero 3 1 && c.zero 12 4 && decide (c.u 8 4 < c.u 4 4)
def canEgressPortStats (c : Cmd) (s : State) : Bool := takes 0x0441 c s && c.rng 0 1 0 7 && c.zero 1 3

/-! Audio mixing (file 07). -/

def canGroupCreate (c : Cmd) (s : State) (k : Nat) : Bool :=
  takes 0x0500 c s && c.rng 0 1 1 2 && c.zero 1 7 && !s.isClosing c.obj && decide ((s.groupsOf (hIdx c.obj)).length < 64) &&
    s.mixPlace (hIdx c.obj) == some k && !s.engineFull (hIdx c.obj) k && decide (s.aud.groups.length < 16384)
def canGroupDelete (c : Cmd) (s : State) (x : MixGroup) : Bool :=
  takes 0x0501 c s && s.group (hIdx c.obj) == some x && !(s.mix x.conf).run.usesGroup (hIdx c.obj) &&
    !(s.mix x.conf).latest.usesGroup (hIdx c.obj)
def canContribute (c : Cmd) (s : State) (x : Flow) : Bool :=
  takes 0x0502 c s &&
  let s := s.advance c.at_
  let f := hIdx c.obj
  let conf := s.flowConf f
  let new := contribSet c f (s.mix conf).latest
  (c.u 0 4 == 0 || checkGroup s c.fn conf (c.u 0 4) == 0) && s.flow f == some x && x.kind == 1 && x.dir == 1 &&
    (c.rng 6 1 0 8 || c.u 6 1 == 0xFF) && c.mask 7 1 1 &&
    !((s.mix conf).run.nodes.any fun n => n.typ == 1 && n.ref == c.obj) && (c.u 0 4 == 0 || !bit x.flags 2) &&
    s.mixAdmit conf new == 0 && new.fits
def canListen (c : Cmd) (s : State) (x : Flow) (l : Leg) : Bool :=
  takes 0x0503 c s &&
  let s := s.advance c.at_
  let f := hIdx c.obj
  let conf := s.flowConf f
  let new := listenSet c f (s.mix conf).latest
  let pt := c.u 8 1
  checkGroup s c.fn conf (c.u 0 4) == 0 && s.flow f == some x && s.leg x.leg == some l && x.kind == 1 && x.dir == 2 &&
    (pt == 4 || pt == 8 || pt == 16 || pt == 24) && c.mask 9 1 7 && c.rng 11 1 0 127 && c.zero 12 4 &&
    codecListens l.typ x.prof.codec && bitrateOk x.prof.codec (c.u 4 4) &&
    (if x.prof.codec = 1 then c.rng 10 1 0 10 else c.zero 10 1) && !bit x.flags 2 && s.mixAdmit conf new == 0 &&
    decide (new.listeners (hIdx (c.u 0 4)) ≤ 4096)
def canUnlisten (c : Cmd) (s : State) (x : Flow) : Bool :=
  takes 0x0504 c s && s.flow (hIdx c.obj) == some x && x.kind == 1 && x.dir == 2
/-- A graph whose CRC, shape, references and limits are sound, with its KERNEL nodes placed as given. -/
def canGraphLoad (c : Cmd) (s : State) (g : Graph) (places : List KPlace) : Bool :=
  takes 0x0510 c s &&
  let s := s.advance c.at_
  let conf := hIdx c.obj
  let new := graphSet g places (s.mix conf).latest
  (match graphParse c with | .ok x => x == g | .error _ => false) && graphShape s g && g.nodes.all (graphRefOk s conf) &&
    g.nodes.all (graphChanOk s) && !(g.nodes.any (graphE2ee s)) && (g.resolve g.nodes.length []).length == g.nodes.length &&
    graphLimitsOk g && s.placeKernels conf ((s.mix conf).cluster.getD ((s.placeMix).getD 10)) g == some places && new.fits &&
    (new.outPorts.all fun o => decide (new.listeners o.2.2 ≤ 4096)) && s.mixAdmit conf new == 0
def canMixSet (c : Cmd) (s : State) : Bool :=
  takes 0x0511 c s && c.rng 0 1 0 16 && c.rng 1 1 0 3 && c.rng0 2 2 1 800 && c.rng0 4 1 40 90 && c.rng0 5 1 5 255 &&
    c.rng0 6 2 1 400 && (c.rng 8 1 0 40 || c.u 8 1 == 0xFF) && c.mask 9 1 7 && c.rng0 10 2 5 1000 && c.zero 12 4 &&
    (settingsSet c (s.mix (hIdx c.obj)).latest).fits
def canPanSet (c : Cmd) (s : State) : Bool :=
  takes 0x0512 c s &&
  let s := s.advance c.at_
  c.rng 0 1 0 2 && c.mask 1 1 1 && c.zero 2 2 && (if c.u 0 1 = 2 then
    checkHandle s c.fn false [6] (c.u 4 4) == 0 && s.confOf (c.u 4 4) == some (hIdx c.obj) else c.u 4 4 == 0)

/-! Kernels (file 08). -/

def canKernelLoad (c : Cmd) (s : State) : Bool :=
  takes 0x0600 c s && c.u 0 8 % 8 == 0 && decide (136 ≤ c.u 8 4) && decide (c.u 8 4 ≤ 16512) && c.u 8 4 % 8 == 0 &&
    c.zero 12 4 && s.trust.kernelKey.isSome
def canKernelUnload (c : Cmd) (s : State) : Bool := takes 0x0601 c s && !s.kernelNamed (hIdx c.obj)
def canKernelQuery (c : Cmd) (s : State) (k : Kernel) : Bool :=
  takes 0x0602 c s && tget s.aud.dsp.kernels (hIdx c.obj) == some k && (c.fn == 0 || bit k.mask c.fn)
def canKernelReset (c : Cmd) (s : State) : Bool :=
  takes 0x0603 c s && (c.u 0 4 == 0 || checkHandle (s.advance c.at_) c.fn true [1] (c.u 0 4) == 0 && !(s.advance c.at_).isClosing (c.u 0 4))
def canDspSet (c : Cmd) (s : State) : Bool :=
  takes 0x0610 c s && c.rng 0 4 0 640000 && c.zero 4 4 && (List.range 288).all fun k => decide (s.reserved k ≤ c.u 0 4)

/-! Serial audio ports and routing (file 09). -/

def canSapConfig (c : Cmd) (s : State) : Bool :=
  takes 0x0700 c s && sapConfigOk c && sapFormatOk (c.u 0 1) (c.u 1 1) (c.u 2 1) && !s.sapInUse (hIdx c.obj)
def canMclk (c : Cmd) (s : State) : Bool := takes 0x0701 c s && c.rng 0 1 0 3 && c.zero 1 3
/-- The port's owner and the operator may ask about it (R375). -/
def asksPort (c : Cmd) (s : State) : Bool := c.fn == 0 || c.fn == (s.sapPort (hIdx c.obj)).owner
def canRouteSet (c : Cmd) (s : State) : Bool :=
  takes 0x0710 c s && routesOk s c (hIdx c.obj) &&
    !((routeEntries s c (hIdx c.obj)).any fun e => e.2.1.sel != 1 && bit (s.legMask (hIdx c.obj) none) e.1)
def canPortMask (c : Cmd) (s : State) (l : Leg) : Bool :=
  takes 0x0720 c s && s.leg (hIdx c.obj) == some l && l.typ == .port && s.slotsOk (hIdx l.typeObj) (c.u 0 4) &&
    c.mask 4 1 1 && c.zero 5 3 && (s.legMask (hIdx l.typeObj) (some (hIdx c.obj))) &&& c.u 0 4 == 0 &&
    (s.routeMask (hIdx l.typeObj)) &&& c.u 0 4 == 0 &&
    decide (s.maskNeeds l.conf (hIdx c.obj) ≤ countOf (List.range 32) fun k => bit (c.u 0 4) k)
/-- A port whose first grain has come and which does not stop. -/
def sapDue (t p : Nat) (s : State) : Bool :=
  (s.sapPort p).enabled && !(s.sapPort p).started && (s.sapPort p).stopAt.isNone &&
    decide ((s.sapPort p).start * grainU ≤ (s.advance t).now)
/-- The ports that realign at the grain boundary of `t`. -/
def sapRealigning (t : Nat) (s : State) : List Nat :=
  (List.range 8).filter fun p => !(s.sapPort p).realigned && (s.sapPort p).realign == some (grainOf (s.advance t).now)

/-! The beacon modem (file 10). -/

def canModAttach (c : Cmd) (s : State) (l : Leg) : Bool :=
  takes 0x0800 c s && s.leg (hIdx c.obj) == some l && modSetOk c &&
    (l.typ == .endpoint || l.typ == .trunk || l.typ == .port) && !(s.aud.bcn.mods.any fun p => p.2.leg == hIdx c.obj) &&
    decide (s.aud.bcn.mods.length < 256) && !s.trust.rngFailed
def canRxSet (c : Cmd) (s : State) : Bool :=
  takes 0x0810 c s && c.rng 0 1 0 1 && c.rng0 1 1 30 95 && c.rng0 2 1 1 20 && c.zero 3 5
def canWatch (c : Cmd) (s : State) (l : Leg) : Bool :=
  takes 0x0811 c s && s.leg (hIdx c.obj) == some l && c.mask 0 4 1 &&
    (!c.flag 0 4 0 || l.bcn.watch || l.bcn.held || decide (s.holds < s.aud.bcn.holdMax))
def canModemSet (c : Cmd) (s : State) : Bool :=
  takes 0x0812 c s && (c.rng 0 2 0 512 || c.u 0 2 == 0xFFFF) && c.rng0 2 2 10 300 && c.rng0 4 1 50 100 && c.zero 5 3

/-! Video ingress and the decoder array (file 11); canvases and the compositor (file 12). -/

/-- The pool of the context that DEC_CREATE describes fits its tenant. -/
def canDecCreate (c : Cmd) (s : State) (k : Conf) : Bool :=
  takes 0x0900 c s && decCreateSts c s == 0 && s.conf (hIdx c.obj) == some k &&
    let d := decOf c k.tenant (hIdx c.obj)
    s.bushelsFit k.tenant d.poolBushels
def canDecBind (c : Cmd) (s : State) (d : DecCtx) : Bool :=
  takes 0x0902 c s && s.dec (hIdx c.obj) == some d && decBindSts c s d == 0
def canDecSet (c : Cmd) (s : State) (d : DecCtx) : Bool :=
  takes 0x0903 c s && decSetFields c && s.dec (hIdx c.obj) == some d &&
    (c.u 0 1 == 2 || d.counted || decide (s.decRates + d.rate ≤ s.capacity 2 1000000000)) &&
    (decSetNeed c d == 0 || s.bushelsFit d.tenant (decSetNeed c d))
/-- A decoder works on the first frame of a context. -/
def decoding (ctx : Nat) (s : State) (d : DecCtx) (x : DecFrame) (rest : List DecFrame) (unit : Nat) : Bool :=
  s.dec ctx == some d && d.frames == x :: rest && s.unitOf x.task == some unit
/-- The decoder of a context's first frame has passed the limit of R417. -/
def decHung (t ctx unit : Nat) (s : State) (d : DecCtx) (x : DecFrame) (rest : List DecFrame) (k : Task) : Bool :=
  decoding ctx s d x rest unit && tget s.disp.tasks x.task == some k &&
    decide (k.startDt + 4 * (max (x.info.w * x.info.h) x.info.bits * nsU) + 100 * usU < (s.advance t).now)

def canCanvasCreate (c : Cmd) (s : State) (k : Conf) : Bool :=
  takes 0x0A00 c s &&
    let v := canvasNew c k.tenant (hIdx c.obj) (s.advance c.at_).now
    canvasFields c && s.conf (hIdx c.obj) == some k && k.state != .closing && s.compAdmits none (s.rate2 v []) &&
      decide (s.vid.canvases.length < 2048) && s.bushelsFit k.tenant v.bushels
def canLayoutSet (c : Cmd) (s : State) (v : Canvas) : Bool :=
  takes 0x0A02 c s && s.canvas (hIdx c.obj) == some v && layoutSts c s v == 0
def canOverlayLoad (c : Cmd) (s : State) (v : Canvas) : Bool :=
  takes 0x0A03 c s && s.canvas (hIdx c.obj) == some v && overlaySts c s v == 0 && s.bushelsFit v.tenant (overlayNeed c)
def canGuardSet (c : Cmd) (s : State) (v : Canvas) : Bool :=
  takes 0x0A04 c s && s.canvas (hIdx c.obj) == some v && (c.fn == 0 || c.fn == v.tenant) && c.rng 0 1 0 3 &&
    c.mask 1 1 7 && c.rng 2 1 1 7 && c.zero 3 1 && (c.fn == 0 || !c.flag 1 1 1) &&
    (c.fn == 0 || !(v.guardsNext.getD (c.u 0 1) {}).locked) &&
    v.guardsOk v.latest (setAt v.guardsNext (c.u 0 1) (guardOf c))
/-- The sample instant of a canvas's frame `k` has come. -/
def canvasDue (t i k : Nat) (s : State) (v : Canvas) : Bool :=
  s.canvas i == some v && k == frameNow v.fps (s.advance t).now &&
    (match v.last with | some n => decide (n < k) | none => true)
/-- A compositor works on a pass of a canvas. -/
def composing (i : Nat) (s : State) (v : Canvas) (p : Pass) : Bool :=
  s.canvas i == some v && (v.passes.find? fun p => p.made.isNone && (s.unitOf p.task).isSome) == some p
def compHung (t i unit : Nat) (s : State) (v : Canvas) (p : Pass) (k : Task) : Bool :=
  composing i s v p && s.unitOf p.task == some unit && tget s.disp.tasks p.task == some k &&
    decide (k.startDt + 4 * p.time v.w v.h + 100 * usU < (s.advance t).now)
/-- A composed frame of a canvas waits for its guards. -/
def guarding (i : Nat) (s : State) (v : Canvas) (p : Pass) (f : CanvasFrame) : Bool :=
  s.canvas i == some v && (v.passes.find? fun p => p.made.isSome) == some p && p.made == some f
/-- The overlay fetch `id` of canvas `i` is in progress. -/
def overlayLoading (id i : Nat) (s : State) (v : Canvas) (j : OverlayJob) : Bool :=
  (s.vid.canvases.find? fun p => p.2.loading.any fun j => j.id == id) == some (i, v) &&
    (v.loading.find? fun j => j.id == id) == some j

/-! Video encoding (file 13) and spliced composition (file 14). -/

def canEncCreate (c : Cmd) (s : State) (k : Conf) (v : Canvas) : Bool :=
  takes 0x0B00 c s &&
  let s := s.advance c.at_
  checkHandle s c.fn false [6] (c.u 0 4) == 0 && s.confOf (c.u 0 4) == some (hIdx c.obj) &&
    s.canvas (hIdx (c.u 0 4)) == some v && s.conf (hIdx c.obj) == some k && encCreateSts c s k v == 0 &&
    s.bushelsFit k.tenant (encOf c k v s.now).bushels
def canEncSet (c : Cmd) (s : State) (e : EncCtx) : Bool :=
  takes 0x0B02 c s && s.enc (hIdx c.obj) == some e && encSetFields c e &&
    (c.u 5 1 == 2 || e.counted || s.encAdmits e.rc.rate12) && (encSetRc c e).covers &&
    s.bushelsFit e.tenant (encSetNeed c e)
def canEncAttach (c : Cmd) (s : State) (e : EncCtx) (f : Flow) : Bool :=
  takes 0x0B03 c s && s.enc (hIdx c.obj) == some e && s.outputFlow c.fn e.conf (c.u 0 4) == 0 && c.zero 4 4 &&
    s.flow (hIdx (c.u 0 4)) == some f && encAttachSts s e f == 0
def canEncDetach (c : Cmd) (s : State) (e : EncCtx) : Bool :=
  takes 0x0B04 c s && s.enc (hIdx c.obj) == some e && s.outputFlow c.fn e.conf (c.u 0 4) == 0 && c.zero 4 4 &&
    e.flows.any fun f => f.1 == hIdx (c.u 0 4)
/-- An encoder works on the frame in progress of context `i`. -/
def encoding (i : Nat) (s : State) (e : EncCtx) : Bool :=
  s.enc i == some e && match e.run with
    | some (_, _, _, task, _) => (s.unitOf task).isSome
    | none => false
/-- An encoder works on the frame in progress of tile `i`. -/
def tileCoding (i unit : Nat) (s : State) (x : Tile) (f : TileFrame) : Bool :=
  s.tile i == some x && x.run == some f && s.unitOf f.task == some unit
def encHung (t h bits unit task ns : Nat) (s : State) (k : Task) : Bool :=
  s.encTask h bits == some (task, ns) && s.unitOf task == some unit && tget s.disp.tasks task == some k &&
    decide (k.startDt + 4 * ns * nsU + 100 * usU < (s.advance t).now)
/-- The deferred refreshes of a context are due (R483). -/
def deferDue (t i r : Nat) (s : State) (e : EncCtx) : Bool :=
  s.enc i == some e && e.lastRefresh == some r && decide (r + refreshMin ≤ (s.advance t).now) && !e.deferred.isEmpty
/-- KEY_S has passed since the last key frame of a context, and no such request waits. -/
def keyDue (t i : Nat) (s : State) (e : EncCtx) : Bool :=
  s.enc i == some e && e.keyS != 0 && e.st == .encoding && decide (e.lastKey + e.keyS * secU ≤ (s.advance t).now) &&
    !((e.asks ++ e.deferred).any (fun a => a.1 == 6))

def canTileCreate (c : Cmd) (s : State) (k : Conf) : Bool :=
  takes 0x0C00 c s &&
  let s := s.advance c.at_
  let x := tileOf c k.tenant s.now
  tileCreateSts c s == 0 && s.conf (hIdx c.obj) == some k && s.bushelsFit k.tenant x.need
def canTileSet (c : Cmd) (s : State) (x : Tile) : Bool :=
  takes 0x0C02 c s && s.tile (hIdx c.obj) == some x && c.rng 0 4 30 50000 && c.zero 4 4 &&
    s.ladderOk (some (hIdx c.obj)) x (c.u 0 4)
def canSpliceCreate (c : Cmd) (s : State) (f : Flow) : Bool :=
  takes 0x0C10 c s && s.spliceObj (hIdx c.obj) == 0 && c.rng 1 1 1 60 && c.rng0 2 2 600 8800 && c.zero 4 4 &&
    s.flow (hIdx c.obj) == some f && spliceCreateSts c s f == 0
/-- A command names a spliced output. -/
def onSplice (opc : Nat) (c : Cmd) (s : State) (o : Splice) : Bool :=
  takes opc c s && s.spliceObj (hIdx c.obj) == 0 && s.spliceLive (hIdx c.obj) == some o
def canGridSet (c : Cmd) (s : State) (o : Splice) : Bool :=
  onSplice 0x0C12 c s o && gridSts c s (hIdx c.obj) o == 0
def canSpliceSet (c : Cmd) (s : State) (o : Splice) : Bool :=
  onSplice 0x0C13 c s o && c.rng 0 1 0 2 && c.rng 1 1 (c.u 0 1) 2 && c.zero 2 2
/-- The ready instant of the tile frames `k` of a frame rate has come. -/
def allocDue (t fps k : Nat) (s : State) : Bool :=
  fps != 0 && decide (fps ≤ 60) && k == frameNow fps (s.advance t).now &&
    (match tget s.vid.alloc fps with | some n => decide (n < k) | none => true)
/-- A coded tile frame of context `x` suits it: intra where a start frame, lossless where a refresh variant. -/
def tileCoded (x : Tile) (coded : Coded) (intra lossless : Bool) : Bool :=
  codedSuits coded x.rc.codec x.rc.w x.rc.h intra lossless
/-- An encoder makes the refresh variant of a tile in a form. -/
def variantRuns (tile form : Nat) (s : State) (x : Tile) (v : Variant) : Bool :=
  s.tile tile == some x && (x.variants.find? fun v => v.form == form && !v.made && (s.unitOf v.task).isSome) == some v
/-- All inputs of an output's next picture `k` are settled. -/
def assembling (t flow k : Nat) (s : State) (o : Splice) : Bool :=
  (s.advance t).splice flow == some o && o.next == some k && (s.advance t).pictureReady o k

/-! The Dispatcher (file 15). -/

def canDispSet (c : Cmd) (s : State) : Bool :=
  takes 0x0D00 c s && c.rng0 0 2 1 1000 && c.rng0 2 2 10 60000 && c.rng0 4 2 10 10000 && c.zero 6 10
def canDispTenantSet (c : Cmd) (s : State) : Bool :=
  takes 0x0D01 c s && c.rng 0 1 0 63 && c.rng0 1 1 1 16 && c.zero 2 2
/-- A function may ask about itself, and the operator about any (R542). -/
def canDispTenantQuery (c : Cmd) (s : State) : Bool :=
  takes 0x0D03 c s && c.rng 0 1 0 63 && c.zero 1 3 && (c.fn == 0 || c.fn == c.u 0 1)
def canKeyReset (c : Cmd) (s : State) : Bool :=
  takes 0x0D05 c s && decide (c.u 0 4 < 1048576) && !(s.keyTasks (c.u 0 4) fun st => st != .done).isEmpty
/-- A READY task fits an idle executor of the region's epoch, and none of its kind comes before it (R527 to R533). -/
def dispatchable (t idx unit : Nat) (s : State) (k : Task) : Bool :=
  let s := s.advance t
  tget s.disp.tasks idx == some k && k.st == .ready && s.unitFits k unit && !s.execBusy unit && !s.mustAvoid k unit &&
    s.keyTurn idx k && s.epochOk unit && s.firstFor idx unit k && (s.poolWait k).isNone && !(s.bindsNew unit k && decide (65536 ≤ s.bindings))
/-- A dispatched task that does not complete by a row of its own. -/
def completes (idx : Nat) (s : State) (k : Task) : Bool :=
  tget s.disp.tasks idx == some k && k.st == .dispatched &&
    ((match k.work with | .other _ => true | .mix _ => true | .splice _ => true | _ => false) ||
      !(k.target == 3 || k.target == 4 || k.target == 5))
/-- A READY command has waited PROMO_AGE. -/
def promotable (t id r : Nat) (s : State) (e : CmdEntry) : Bool :=
  tget s.cp.cmds id == some e && e.ready == some r && !e.begun && e.urgent.isNone &&
    decide ((s.advance t).promoDue r ≤ (s.advance t).now)
/-- A READY user task has waited PROMO_AGE, and no command has its number. -/
def promotableTask (t id : Nat) (s : State) (i : UserItem) : Bool :=
  (tget s.cp.cmds id).isNone && (tget s.disp.tasks id).bind Task.item == some i && (s.advance t).promotes i

/-! Memory and DMA (files 16 and 17). -/

def canMemSet (c : Cmd) (s : State) : Bool :=
  takes 0x0E10 c s && c.rng0 0 2 256 16384 && c.rng0 2 2 10 10000 && c.zero 4 4
def canMemTenantSet (c : Cmd) (s : State) : Bool :=
  takes 0x0E11 c s && c.rng 0 1 0 63 && c.zero 1 3 && c.rng 4 4 0 1048576
def canMemTenantQuery (c : Cmd) (s : State) : Bool :=
  takes 0x0E12 c s && c.rng 0 1 0 63 && c.zero 1 3 && (c.fn == 0 || c.fn == c.u 0 1)
def canPfcGenSet (c : Cmd) (s : State) : Bool :=
  takes 0x0F10 c s && c.rng 0 1 0 1 && c.mask 1 1 1 && c.zero 3 1 &&
    decide (c.dflt 8 4 1048576 < c.dflt 4 4 1572864) && decide (c.dflt 4 4 1572864 ≤ 2097152)
/-- The requests that arrive at a pseudo-channel. -/
def arriving (stack pc : Nat) (l : List DramReq) : List DramReq :=
  l.filter fun r => dramStack r.addr == stack && dramPc r.addr == pc && decide (r.addr < 2 ^ 36)
/-- The state in which arrivals enter the queues: out of self-refresh, with the instant of the last request (R560). -/
def woken (s : State) (mine : List DramReq) : State :=
  if mine.isEmpty then s else s.srExit.modMem fun m => { m with lastReq := s.now }
/-- A logged word is due to be written back (R569, R571). -/
def writebackDue (t log addr : Nat) (s : State) (e : LogEntry) : Bool :=
  s.entryOf log addr == some e && !(decide (log < 4) && ((s.advance t).mem.selfRefresh || !(s.advance t).dramLive)) &&
    ((e.st == 0 && decide (4 ≤ e.count)) || (e.st == 1 && decide (4 ≤ e.since)))
/-- A channel of an engine that has not failed. -/
def engineLive (e ch : Nat) (s : State) : Bool :=
  decide (e ≤ 56) && decide (ch < engineChans e) && !s.dma.failed.contains e
/-- The last burst of a channel's descriptor has been accepted. -/
def descEnds (e ch : Nat) (s : State) : Bool :=
  (s.chan e ch).st == 1 && (s.chan e ch).residue == 0 && (s.chan e ch).len != 0
def isQueue (reader writer q : Nat) : Bool := decide (reader ≤ 70) && decide (writer ≤ 70) && decide (q ≤ 255)

/-! The vault (file 18) and the cipher cluster (file 19). -/

/-- A function may ask for its own tenant, and the operator for any (R618). -/
def asksTenant (opc : Nat) (c : Cmd) (s : State) : Bool :=
  takes opc c s && c.rng 0 1 0 63 && (c.fn == 0 || c.u 0 1 == c.fn)
def canPeerMeas (c : Cmd) (s : State) : Bool := takes 0x1013 c s && c.rng 0 1 0 8 && c.zero 1 7
def canDtlsKey (c : Cmd) (s : State) : Bool :=
  takes 0x1020 c s && c.rng 0 1 1 2 && c.zero 1 3 && s.trust.provisioned && !s.trust.rngFailed
def canCertRead (c : Cmd) (s : State) (k : DtlsKey) (x : CertGen) : Bool :=
  asksTenant 0x1021 c s && c.zero 1 1 && tget s.trust.dtls (c.u 0 1) == some k &&
    (if c.u 2 2 = 0 then k.gens.getLast? else k.gens.find? fun x => x.gen % 65536 == c.u 2 2) == some x
def canDtlsLeg (c : Cmd) (s : State) (l : Leg) (g : CertGen) : Bool :=
  takes 0x1022 c s && s.leg (hIdx c.obj) == some l && c.rng 0 1 0 1 && c.mask 1 1 3 && c.u 1 1 != 0 && c.mask 2 1 15 &&
    c.zero 3 5 && (l.typ == .endpoint || l.typ == .cascade || l.typ == .stream) && !l.hostKeyed &&
    ((tget s.trust.dtls l.tenant).bind fun k => k.gens.getLast?) == some g
def canKeyImport (c : Cmd) (s : State) : Bool :=
  takes 0x1030 c s && keyFields c && bit (s.quotas.getD c.fn {}).policy 0 && decide (s.trust.keys.length < 16384)
def canKeyDelete (c : Cmd) (s : State) : Bool :=
  takes 0x1031 c s && !(s.legs.any fun p => p.2.hostKeyed && p.2.typeObj == c.obj)
def canTrunkKey (c : Cmd) (s : State) (l : Leg) (k : KeyEntry) : Bool :=
  takes 0x1032 c s && checkHandle s c.fn false [13] (c.u 0 4) == 0 && s.leg (hIdx c.obj) == some l &&
    tget s.trust.keys (hIdx (c.u 0 4)) == some k && (l.typ == .trunk || (l.typ == .stream && l.typeObj != 0))
/-- Sensor 0 keeps its class (R790). -/
def canTamperSet (c : Cmd) (s : State) : Bool :=
  takes 0x1040 c s && c.rng 0 1 0 7 && c.rng 1 1 0 2 && c.zero 2 2 && (c.u 0 1 != 0 || c.u 1 1 == 2)
def renewalDue (t tenant gen : Nat) (s : State) (g : CertGen) : Bool :=
  s.certGen tenant gen == some g && !s.trust.rngFailed && !g.renewed && decide (g.issued + 335 * daySecs * secU ≤ (s.advance t).now)
def expiryDue (t tenant gen : Nat) (s : State) (g : CertGen) : Bool :=
  s.certGen tenant gen == some g && !g.expired && decide (g.issued + 365 * daySecs * secU ≤ (s.advance t).now)
/-- A leg's flight is due again (R627). -/
def flightDue (t i : Nat) (s : State) (l : Leg) : Bool :=
  s.leg i == some l && l.dtls.running && decide (l.dtls.lastFlight + l.dtls.retryS * secU ≤ (s.advance t).now) &&
    !(s.advance t).coresPaused

def canCipherPin (c : Cmd) (s : State) : Bool :=
  takes 0x1101 c s && c.mask 0 4 1 &&
    (!c.flag 0 4 0 || (match s.flow (hIdx c.obj) with | some f => f.cip.pinWanted | none => false) ||
      decide (countOf s.flows (fun p => p.2.cip.pinWanted) < 1024))
/-- The clear context of an owner with packets in the cluster is not loaded, and the owner has keys. -/
def loadDue (h : Nat) (s : State) : Bool :=
  let o := s.ownerOf h
  (hType h == 2 || hType h == 3) && s.hasJobs h && (s.slotOf h).isNone && !(s.crypto o.1 o.2).keyless s.cip.gen
/-- A packet of a queue is on a core, under live keys, with its clear context loaded; the check bits of that
context say nothing worse than corrected. -/
def jobReady (q : List CipherJob) (id ecc : Nat) (s : State) (j : CipherJob) : Bool :=
  (q.find? fun j => j.id == id) == some j && j.phase == .running && !(s.jobCtx j).keyless s.cip.gen && !(s.jobCtx j).ended &&
    (s.slotOf j.owner).isSome && ecc != 2

/-! Time (file 20). -/

def canTimeRef (c : Cmd) (s : State) : Bool :=
  takes 0x1200 c s && timeRefFields c && (!c.flag 3 1 2 || c.u 0 1 == 2) &&
    (!(c.u 0 1 == 1 || c.flag 3 1 2) ||
      (s.portProvided (c.u 1 1) && ((s.net.ports.getD (c.u 1 1) {}).addrs.getD (c.u 2 1) {}).valid))
def canPpsOut (c : Cmd) (s : State) : Bool := takes 0x1203 c s && c.rng 0 1 0 2 && c.zero 1 1 && c.rng 2 2 0 500
def canUtc (c : Cmd) (s : State) : Bool := takes 0x1204 c s && c.rng 0 2 0 255 && c.zero 2 2
/-- No valid Sync or Announce for three announce intervals (R675). -/
def gmSilent (t : Nat) (s : State) : Bool :=
  s.time.ref == 1 && decide (s.time.lastSync + 3 * logInterval s.time.logAnnounce ≤ (s.advance t).now)
/-- No edge for 1.5 s since the last one (R678). -/
def ppsSilent (t l : Nat) (s : State) : Bool :=
  s.time.ref == 2 && s.time.ppsLast == some l && decide (2 * l + 3 * secU ≤ 2 * (s.advance t).now) && !s.time.ppsLost
def syncDue (t : Nat) (s : State) : Bool :=
  s.time.ref == 2 && s.time.master && decide (s.time.syncSent + logInterval s.time.logSync ≤ (s.advance t).now)

/-! Repair and upgrade (file 22). -/

/-- No castling, cluster image or hub image occupies a region. -/
def regionFree (s : State) (r : Nat) : Bool := (s.castlingIn r).isNone && !s.regionUpdating r && !s.hubWaits
def canCastle (c : Cmd) (s : State) (k : Nat) : Bool :=
  takes 0x1300 c s && (s.cluster (hIdx c.obj)).state == .active && regionFree s (regionOf (hIdx c.obj)) &&
    s.spareOf (regionOf (hIdx c.obj)) == some k
def canBench (c : Cmd) (s : State) : Bool :=
  takes 0x1301 c s && (s.cluster (hIdx c.obj)).state == .bench && (s.cluster (hIdx c.obj)).benching.isNone
def canSetCluster (c : Cmd) (s : State) : Bool :=
  takes 0x1302 c s && c.zero 1 3 && !s.inCastling (hIdx c.obj)
def canRetire (c : Cmd) (s : State) : Bool :=
  canSetCluster c s && c.u 0 1 == 3 &&
    ((s.cluster (hIdx c.obj)).state == .bench || (s.cluster (hIdx c.obj)).state == .spare)
def canSpare (c : Cmd) (s : State) : Bool :=
  canSetCluster c s && c.u 0 1 == 1 && (s.cluster (hIdx c.obj)).state == .bench && (s.cluster (hIdx c.obj)).benching.isNone &&
    (s.spareOf (regionOf (hIdx c.obj))).isNone
def imagesIdle (s : State) : Bool := s.units.writing.isNone && s.units.activating.isNone
def canImageWrite (c : Cmd) (s : State) : Bool :=
  takes 0x1320 c s && c.u 0 8 % 8 == 0 && decide (224 ≤ c.u 8 4) && decide (c.u 12 1 ≤ 2) && c.zero 13 3 && imagesIdle s &&
    (c.u 12 1 == 2 || c.u 12 1 != s.sys.slotBooted)
def canImageActivate (c : Cmd) (s : State) (i : Image) : Bool :=
  takes 0x1321 c s && decide (c.u 0 1 ≤ 2) && (c.u 1 1 == 1 || c.u 1 1 == 2) && c.zero 2 2 && imagesIdle s &&
    tget s.units.held (2 * c.u 0 1 + c.u 1 1 - 1) == some i && (c.u 1 1 != 2 || s.sparesEverywhere)
def canHomeSet (c : Cmd) (s : State) : Bool :=
  takes 0x1330 c s && c.rng 0 1 0 15 && c.zero 1 7 &&
    let s := s.advance c.at_
    decide (grainOf s.now + 2 * s.confD (hIdx c.obj) + 2 ≤ c.u 8 8)
/-- A cluster waits to be castled, and its region and the mode allow it (R703). -/
def autoReady (k x : Nat) (s : State) : Bool :=
  (s.units.waiting.any fun w => w.1 == k) && (s.cluster k).state == .active && s.units.autoCastle &&
    regionFree s (regionOf k) && !s.sys.inReset && rangeAccepts 0x13 .other s.sys.mode && s.spareOf (regionOf k) == some x
/-- A castling of a region is in a phase. -/
def castlingPhase (r n : Nat) (s : State) (k : Castling) : Bool := s.castlingIn r == some k && k.phase == n
/-- The safe point of an audio cluster: late in a grain in which the handover was not deferred (R705, R706). -/
def audioPoint (t : Nat) (s : State) (k : Castling) : Bool :=
  let s := s.advance t
  isAudioCluster k.source && decide (grainStart (grainOf s.now) + 2400 * usU ≤ s.now) &&
    k.deferredAt != some (grainOf s.now)
def reloadable (c u : Nat) (s : State) : Bool :=
  decide (c < 56) && decide (u < 16) && (s.cluster c).state == .active && !(s.cluster c).gated &&
    !bit (s.cluster c).failed u && (s.cluster c).epochs.getD u 0 != s.units.epochs.getD (regionOf c) 0
def pausable (us : Nat) (s : State) (j : ImageJob) : Bool :=
  s.units.activating == some j && j.typ == 1 && !j.paused && decide (us ≤ 50000) && !(s.units.castling.any fun k => k.isSome)

/-! Events and the permanent record (file 23). -/

def canEvtMask (c : Cmd) (s : State) : Bool :=
  takes 0x1400 c s && c.rng 0 1 0 9 && c.zero 1 3 && c.mask 4 4 (allEventMasks.getD (c.u 0 1) 0)
def canRecordSet (c : Cmd) (s : State) : Bool :=
  takes 0x1410 c s && ((List.range 10).all fun g => c.mask (4 * g) 4 (allEventMasks.getD g 0)) &&
    (c.rng 40 2 0 1000 || c.u 40 2 == 0xFFFF) && c.zero 42 6
def canRecordRead (c : Cmd) (s : State) : Bool :=
  takes 0x1412 c s && c.rng 4 2 1 63 && c.zero 6 2 && s.rcd.holds (c.u 0 4)
def canExport (c : Cmd) (s : State) (a b : Nat) : Bool :=
  takes 0x1413 c s && c.u 0 8 % 64 == 0 && c.mask 8 4 0x807FFFFF && s.rcd.exporting.isNone &&
    s.exportFirst c == some a && s.rcd.newest == some b

/-! The host interface (files 03 and 24). -/

def canHostSet (c : Cmd) (s : State) : Bool :=
  takes 0x1500 c s && c.rng 0 1 0 63 && c.rng 1 1 0 7 && c.zero 2 2 && c.rng0 4 4 1 60000
def canHostQuery (c : Cmd) (s : State) : Bool :=
  takes 0x1501 c s && c.rng 0 1 0 63 && c.zero 1 3 && (c.fn == 0 || c.u 0 1 == c.fn)
def canLoopback (c : Cmd) (s : State) : Bool :=
  takes 0x1520 c s && c.rng 0 1 0 1 && c.rng 1 1 1 2 && c.rng 2 2 1 10000 && c.zero 4 4 &&
    (tget s.host.pcie.loopback (c.u 0 1)).isNone
/-- INDEX of a doorbell or head write. -/
def indexOf (value : Nat) : Nat := value % 4096
/-- The window of function `fn` is open and has a queue `n` of the kind written. -/
def queueOpen (fn n : Nat) (s : State) : Bool := s.windowOpen fn && decide (n < 8)
/-- A write of 4 or 8 bytes at natural alignment to an open window. -/
def aligned (fn offset size : Nat) (s : State) : Bool :=
  s.windowOpen fn && (size == 4 || size == 8) && offset % size == 0
/-- A vector under coalescing is due (R751). -/
def vectorFires (t fn v : Nat) (s : State) : Bool :=
  match ((s.func fn).msix.getD v {}).fireAt with
  | some a => decide (a ≤ (s.advance t).now) && !((s.func fn).msix.getD v {}).covers.isEmpty &&
      (((s.func fn).msix.getD v {}).masked || s.fnMasters fn)
  | none => false
def loopEnds (t p : Nat) (s : State) (id pat end_ : Nat) : Bool :=
  tget s.host.pcie.loopback p == some (id, pat, end_) && decide (end_ ≤ (s.advance t).now)

/-! The command processor (file 03). -/

/-- An entry of an SQ may be fetched, and its tenant has room for one more waiting command (R98, R103, R538). -/
def fetchable (t fn sq : Nat) (s : State) : Bool :=
  let s := s.advance t
  decide (sq < 8) && s.canFetch fn sq && decide (s.userWaiting fn < 4096)
/-- The oldest completion of a queue that takes one (R106, R131). -/
def writable (t fn cq : Nat) (s : State) (c : Completion) (rest : List Completion) : Bool :=
  let s := s.advance t
  decide (cq < 8) && !s.hubPaused && s.cqTakes fn cq && ((s.func fn).cqs.getD cq {}).waiting == c :: rest
def eventReady (t fn : Nat) (completion : Bool) (s : State) (e : Event) (rest : List Event) : Bool :=
  let s := s.advance t
  s.eqTakes fn && (if completion then (s.func fn).eq.comps else (s.func fn).eq.held) == e :: rest

/-! Power, start-up, supplies and die links (files 05, 21 and 23) and tamper (file 18). -/

/-- The device runs: INIT or above, and not waiting in reset. -/
def powered (t : Nat) (s : State) : Bool := decide (2 ≤ (s.advance t).sys.mode.code) && !s.sys.inReset
/-- DEV_RESET_INIT_ENTRY is due (R692). -/
def devResetDue (t : Nat) (s : State) : Bool :=
  s.sys.resetN && s.sys.pwrgd && match s.sys.devReset with
    | some a => decide (a + 10 * msU ≤ (s.advance t).now)
    | none => false
/-- INIT, or BOOT, goes on. -/
def startsUp (m : Mode) (s : State) : Bool := s.sys.mode == m && !s.sys.stuck && !s.sys.inReset
/-- BOOT has the images it asks for: those of the flash, or one pushed and BOOT_GO written (R688). -/
def bootReady (hub : List Image) (s : State) : Bool :=
  startsUp .boot s && s.sys.bootSrc != 3 && (s.sys.bootSrc != 2 || s.host.bootGo) && !hub.isEmpty
/-- A ride-through may begin: a service mode, and the warning not yet seen (R693). -/
def rideStarts (s : State) : Bool :=
  s.sys.pfwN && !s.sys.inReset && (s.sys.mode == .service || s.sys.mode == .degraded)
/-- A further stage of a ride-through is due. -/
def stageDue (t : Nat) (r : Ride) (s : State) : Bool :=
  s.sys.ride == some r && decide (r.stage < 3) && decide (r.entry + r.stage * r.stageMs * msU ≤ (s.advance t).now)
/-- The supply is back before RIDE_MAX (R694). -/
def rideEnds (t : Nat) (r : Ride) (s : State) : Bool :=
  !s.sys.pfwN && s.sys.ride == some r && decide ((s.advance t).now < r.entry + r.rideMaxMs * msU)
def rideExpires (t : Nat) (r : Ride) (s : State) : Bool :=
  s.sys.ride == some r && !r.expired && decide (r.entry + r.rideMaxMs * msU ≤ (s.advance t).now)
/-- A rail leaves its range (R765). -/
def railFails (t rail : Nat) (s : State) : Bool :=
  decide (rail < 11) && s.sys.pwrgd && decide (2 ≤ (s.advance t).sys.mode.code) && s.sys.railAlarm.getD rail true == false
def railBack (rail : Nat) (s : State) : Bool := decide (rail < 11) && s.sys.railAlarm.getD rail false
/-- The eighth replay of a flit in succession has failed (R37). -/
def flitStuck (k : Nat) (l : DieLink) (s : State) : Bool := s.units.links[k]? == some l && !l.training && decide (8 ≤ l.flitFails)
def linkTraining (k : Nat) (l : DieLink) (s : State) : Bool := s.units.links[k]? == some l && l.training
/-- A sensor watched on VBAT detects while main power is off (R633). -/
def offDetection (sensor : Nat) (s : State) : Bool :=
  s.sys.mode == .keepalive && s.sys.vbat && (sensor == 0 || sensor == 1 || sensor == 4)

/-! DSP cores and operator kernels (file 08). -/

/-- What an instruction on a core comes to beside registers, and what its registers and cycles are. -/
def dspResult (core : Nat) (i : DspIns) (s : State) : DspCore × DspEnd × Nat :=
  let s := s.enterInvocation core
  (s.core core).execIns i s.free.1

/-- A core issues an instruction: it exists, the instruction is the one that the running kernel has at PC, no watchdog waits, and
the instruction is legal, as it is and where it stands (R321, R324, R327, R335, R345). -/
def dspIssues (core : Nat) (i : DspIns) (s : State) : Bool :=
  let k := (s.enterInvocation core).core core
  decide (core < 288) && i.legal && !k.misplaced i && k.fetches i 0 &&
    (match k.inv with | some v => decide (k.pc < v.code) && !v.watch | none => true)

/-- The instruction also completes: no move leaves its windows, and no loop or stack overflows (R335). -/
def dspRuns (core : Nat) (i : DspIns) (s : State) : Bool :=
  dspIssues core i s && (((s.enterInvocation core).core core).execIns i 0).2.1 == .on

/-- The state after an instruction that completes: its core changed, and its cycles accounted. -/
def dspNext (core : Nat) (i : DspIns) (s : State) : State :=
  ((s.enterInvocation core).free.2.setCore core (dspResult core i s).1).dspCycles core (dspResult core i s).2.2

/-- `exec` of a row answers the state after its instruction, whenever the instruction runs. -/
def DspRow (core : Nat) (i : DspIns) (row : Instr) (s : State) : Prop :=
  dspRuns core i s = true → exec row s = .next (dspNext core i s)

/-- An invocation that runs on a core. -/
def invOn (core : Nat) (s : State) : Option Invocation := ((s.enterInvocation core).core core).inv

/-- An invocation whose kernel has used CYC_MAX cycles (R340). -/
def overrun (t core : Nat) (v : Invocation) (s : State) : Bool :=
  decide (core < 288) && ((s.advance t).core core).inv == some v && decide (v.cycMax ≤ v.cycles)

def loadingKernel (id : Nat) (j : KernelJob) (s : State) : Bool := (s.aud.dsp.loading.find? fun j => j.id == id) == some j

/-! Rows of the network engine (files 04 to 06 and 20) and of the legs (file 02). -/

/-- A pipeline's reader presents entry `e` of its ring `cls`. -/
def presents (t pipe cls : Nat) (e : RingEntry) (s : State) : Bool :=
  ((s.advance t).net.pipes.getD pipe {}).head == some (cls, e)
/-- The oldest DTLS record of a leg, which the control cores take. -/
def dtlsFirst (t leg pipe id : Nat) (s : State) : Bool :=
  ((s.advance t).dtlsWaiting leg).head? == some (pipe, id) && !(s.advance t).coresPaused
/-- A leg that has not connected in its conference's limit. -/
def connectOver (t leg : Nat) (l : Leg) (s : State) : Bool :=
  s.leg leg == some l && l.state == .connecting && match s.conf l.conf with
    | some k => decide (l.connectFrom + k.connectLimit * secU ≤ (s.advance t).now)
    | none => false
/-- An endpoint leg from which no valid request has come for CONSENT_LIMIT (R155). -/
def consentOver (t leg : Nat) (l : Leg) (s : State) : Bool :=
  s.leg leg == some l && l.consentOver (s.advance t).now
/-- A flow that has had packets, and none for 10 s. -/
def mediaSilent (t flow : Nat) (f : Flow) (s : State) : Bool :=
  s.flow flow == some f && f.dir == 1 && f.state == .live && !f.timedOut && f.packets != 0 &&
    decide (f.lastArr + 10 * secU ≤ (s.advance t).now)
def nackDue (t flow : Nat) (f : Flow) (s : State) : Bool :=
  s.flow flow == some f && f.state != .closing && !((s.advance t).nacksDue f).isEmpty
def gapOver (t flow : Nat) (f : Flow) (s : State) : Bool :=
  s.flow flow == some f && !((s.advance t).gapsOver f).isEmpty
/-- A PLI sent at `p` has had no key frame in max(2 × round trip, 100 ms) (R204). -/
def pliOver (t flow p : Nat) (f : Flow) (s : State) : Bool :=
  s.flow flow == some f && f.keyReq.lastPli == some p && f.keyReq.wanted && f.state != .closing &&
    (!f.keyReq.awaits || decide (s.pliLimit f p ≤ (s.advance t).now))
/-- A change of E has waited 500 ms for its key frame (R194). -/
def switchOver (t flow : Nat) (f : Flow) (s : State) : Bool :=
  s.flow flow == some f && f.fwd.bound && f.fwd.state == .pending && f.fwd.waiting && !s.fwdBlind f.fwd &&
    decide (f.fwd.since + 500 * msU ≤ (s.advance t).now)
/-- The estimator of a leg runs every 25 ms (R219). -/
def estDue (t leg : Nat) (l : Leg) (s : State) : Bool :=
  s.leg leg == some l && s.hasSend leg && l.state != .closing && !(s.advance t).coresPaused &&
    (l.ada.lastRun == 0 || decide (l.ada.lastRun + 25 * msU ≤ (s.advance t).now))
/-- The drawn interval of a leg is over, half of INTERVAL_MS or more after the report before (R210). -/
def reportDue (t leg : Nat) (l : Leg) (s : State) : Bool :=
  s.leg leg == some l && (l.state == .active || l.state == .held) && l.typ != .port &&
    decide (l.rtcp.lastDt + l.rtcp.intervalMs * msU / 2 ≤ (s.advance t).now)
def feedbackDue (t leg : Nat) (l : Leg) (s : State) : Bool :=
  s.leg leg == some l && l.rtcp.feedbackDue (s.advance t).now && l.state != .closing
/-- A CLOSING leg whose queue has drained and whose instants have passed (R72). -/
def legEnds (t leg : Nat) (l : Leg) (s : State) : Bool :=
  s.leg leg == some l && l.state == .closing && (s.advance t).legDrained leg l
/-- A gate list waits for its start, which has come (R263). -/
def listStarts (t port : Nat) (g : GateList) (s : State) : Bool :=
  (s.net.ports.getD port {}).pending == some g && decide (g.start ≤ (s.advance t).now)
/-- An open parity block of a flow, begun at `x`, is to be flushed (R272). -/
def blockOver (t flow x : Nat) (f : Flow) (s : State) : Bool :=
  s.flow flow == some f && f.fgen.blkFirst == some x && decide (x + f.fgen.blkFlush * msU ≤ (s.advance t).now)
/-- The link of a provided port may come up: it is down, and no loopback test holds it (R142, R762). -/
def linkRises (port : Nat) (s : State) : Bool :=
  s.sys.macs && s.portProvided port && decide (port < 8) && !(s.net.ports.getD port {}).up &&
    (tget s.host.pcie.loopback (port / 4)).isNone

/-! Grains (files 01, 07 and 22) and beacons (file 10). -/

/-- A grain begins that has not begun yet, in a mode that runs on grains. -/
def grainStarts (t m : Nat) (s : State) : Bool :=
  grainOf (s.advance t).now == m && decide (s.time.lastGrain < m) && !s.sys.inReset && decide (3 ≤ s.sys.mode.code)
/-- A correlator position of a demodulator is a peak above its threshold (R388). -/
def peakSeen (ch c before after : Nat) (d : Demod) (s : State) : Bool :=
  tget s.aud.bcn.demods ch == some d && decide (d.det * 10000 ≤ c) && decide (before ≤ c) && decide (after ≤ c)
def syncSeen (ch pos corr : Nat) (d : Demod) (s : State) : Bool :=
  tget s.aud.bcn.demods ch == some d && d.syncs pos corr
/-- A search of 40 ms has ended without a sync word (R389). -/
def searchOver (t ch : Nat) (d : Demod) (s : State) : Bool :=
  tget s.aud.bcn.demods ch == some d && d.state == .search && decide (d.peakAt + 40 * msU ≤ (s.advance t).now)
def frameLocked (ch : Nat) (d : Demod) (s : State) : Bool :=
  tget s.aud.bcn.demods ch == some d && d.state == .locked
/-- The 800 grains of a leg's period have passed (R396). -/
def periodOver (t leg ch : Nat) (d : Demod) (l : Leg) (s : State) : Bool :=
  s.demodOf leg == some (ch, d) && s.leg leg == some l && !d.ending && decide (d.period + 800 ≤ grainOf (s.advance t).now)

/-! Rows by what they carry. -/

/-- The opcode and the command of a row of the Belex opcode table (Table 03-3). -/
def commandOf : Instr → Option (Nat × Cmd)
  | .modeSet c => some (0x0000, c)
  | .modeQuery c => some (0x0001, c)
  | .powerSet c => some (0x0010, c)
  | .thermalQuery c => some (0x0011, c)
  | .devReset c => some (0x0020, c)
  | .confCreate c => some (0x0100, c)
  | .confDelete c => some (0x0101, c)
  | .confQuery c => some (0x0102, c)
  | .legCreate c => some (0x0110, c)
  | .legDelete c => some (0x0111, c)
  | .legMove c => some (0x0112, c)
  | .legSetState c => some (0x0113, c)
  | .legStats c => some (0x0114, c)
  | .flowCreate c => some (0x0120, c)
  | .flowDelete c => some (0x0121, c)
  | .flowQuery c => some (0x0122, c)
  | .tenantSetQuota c => some (0x0130, c)
  | .tenantQuery c => some (0x0131, c)
  | .portSetMode c => some (0x0200, c)
  | .addrSet c => some (0x0201, c)
  | .iceSetCredentials c => some (0x0210, c)
  | .policerSet c => some (0x0211, c)
  | .jbSet c => some (0x0220, c)
  | .reorderSet c => some (0x0221, c)
  | .fecSet c => some (0x0222, c)
  | .ingressStats c => some (0x0230, c)
  | .portStats c => some (0x0231, c)
  | .remoteQuery c => some (0x0232, c)
  | .fwdBind c => some (0x0300, c)
  | .fwdUnbind c => some (0x0301, c)
  | .fwdQuery c => some (0x0302, c)
  | .flowProfileSet c => some (0x0310, c)
  | .rtcpSet c => some (0x0311, c)
  | .keyframeRequest c => some (0x0312, c)
  | .adaptSet c => some (0x0320, c)
  | .adaptOverride c => some (0x0321, c)
  | .adaptQuery c => some (0x0322, c)
  | .cascadeSet c => some (0x0330, c)
  | .egressLegSet c => some (0x0400, c)
  | .egressClassSet c => some (0x0401, c)
  | .portEgressSet c => some (0x0410, c)
  | .gclSet c => some (0x0411, c)
  | .gclQuery c => some (0x0412, c)
  | .fecGenSet c => some (0x0420, c)
  | .fcSet c => some (0x0430, c)
  | .egressStats c => some (0x0440, c)
  | .egressPortStats c => some (0x0441, c)
  | .mixGroupCreate c => some (0x0500, c)
  | .mixGroupDelete c => some (0x0501, c)
  | .mixContribute c => some (0x0502, c)
  | .mixListen c => some (0x0503, c)
  | .mixUnlisten c => some (0x0504, c)
  | .mixGraphLoad c => some (0x0510, c)
  | .mixSet c => some (0x0511, c)
  | .mixPanSet c => some (0x0512, c)
  | .mixQuery c => some (0x0520, c)
  | .mixStats c => some (0x0521, c)
  | .kernelLoad c => some (0x0600, c)
  | .kernelUnload c => some (0x0601, c)
  | .kernelQuery c => some (0x0602, c)
  | .kernelReset c => some (0x0603, c)
  | .dspSet c => some (0x0610, c)
  | .dspStats c => some (0x0611, c)
  | .sapConfig c => some (0x0700, c)
  | .sapMclkSet c => some (0x0701, c)
  | .sapQuery c => some (0x0702, c)
  | .sapFilterQuery c => some (0x0703, c)
  | .routeSet c => some (0x0710, c)
  | .routeQuery c => some (0x0711, c)
  | .portLegMaskSet c => some (0x0720, c)
  | .sapStats c => some (0x0730, c)
  | .beaconModAttach c => some (0x0800, c)
  | .beaconModSet c => some (0x0801, c)
  | .beaconModDetach c => some (0x0802, c)
  | .beaconModQuery c => some (0x0803, c)
  | .beaconRxSet c => some (0x0810, c)
  | .beaconWatch c => some (0x0811, c)
  | .beaconModemSet c => some (0x0812, c)
  | .beaconLegQuery c => some (0x0820, c)
  | .beaconStats c => some (0x0821, c)
  | .decCreate c => some (0x0900, c)
  | .decDelete c => some (0x0901, c)
  | .decBind c => some (0x0902, c)
  | .decSet c => some (0x0903, c)
  | .decQuery c => some (0x0904, c)
  | .decStats c => some (0x0910, c)
  | .canvasCreate c => some (0x0A00, c)
  | .canvasDelete c => some (0x0A01, c)
  | .canvasLayoutSet c => some (0x0A02, c)
  | .overlayLoad c => some (0x0A03, c)
  | .guardSet c => some (0x0A04, c)
  | .canvasQuery c => some (0x0A05, c)
  | .compStats c => some (0x0A10, c)
  | .encCreate c => some (0x0B00, c)
  | .encDelete c => some (0x0B01, c)
  | .encSet c => some (0x0B02, c)
  | .encAttach c => some (0x0B03, c)
  | .encDetach c => some (0x0B04, c)
  | .encRefresh c => some (0x0B05, c)
  | .encQuery c => some (0x0B06, c)
  | .encStats c => some (0x0B10, c)
  | .tileCreate c => some (0x0C00, c)
  | .tileDelete c => some (0x0C01, c)
  | .tileSet c => some (0x0C02, c)
  | .tileQuery c => some (0x0C03, c)
  | .spliceCreate c => some (0x0C10, c)
  | .spliceDelete c => some (0x0C11, c)
  | .spliceLayoutSet c => some (0x0C12, c)
  | .spliceSet c => some (0x0C13, c)
  | .spliceQuery c => some (0x0C14, c)
  | .spliceStats c => some (0x0C20, c)
  | .dispSet c => some (0x0D00, c)
  | .dispTenantSet c => some (0x0D01, c)
  | .dispQuery c => some (0x0D02, c)
  | .dispTenantQuery c => some (0x0D03, c)
  | .dispKeyQuery c => some (0x0D04, c)
  | .dispKeyReset c => some (0x0D05, c)
  | .memQuery c => some (0x0E00, c)
  | .memLogRead c => some (0x0E01, c)
  | .memSet c => some (0x0E10, c)
  | .memTenantSet c => some (0x0E11, c)
  | .memTenantQuery c => some (0x0E12, c)
  | .dmaQuery c => some (0x0F00, c)
  | .dmaStats c => some (0x0F01, c)
  | .pfcGenSet c => some (0x0F10, c)
  | .attestReport c => some (0x1000, c)
  | .idCertRead c => some (0x1001, c)
  | .provisionSet c => some (0x1010, c)
  | .provisionDone c => some (0x1011, c)
  | .trustReprovision c => some (0x1012, c)
  | .peerMeasSet c => some (0x1013, c)
  | .dtlsKeyCreate c => some (0x1020, c)
  | .dtlsCertRead c => some (0x1021, c)
  | .dtlsLegSet c => some (0x1022, c)
  | .keyImport c => some (0x1030, c)
  | .keyDelete c => some (0x1031, c)
  | .trunkKeySet c => some (0x1032, c)
  | .tamperSet c => some (0x1040, c)
  | .tamperQuery c => some (0x1041, c)
  | .imageCommit c => some (0x1050, c)
  | .cipherFlowQuery c => some (0x1100, c)
  | .cipherPin c => some (0x1101, c)
  | .cipherStats c => some (0x1110, c)
  | .timeRefSet c => some (0x1200, c)
  | .timeAllowStep c => some (0x1201, c)
  | .timePpsSeconds c => some (0x1202, c)
  | .ppsOutSet c => some (0x1203, c)
  | .timeUtcSet c => some (0x1204, c)
  | .timeQuery c => some (0x1205, c)
  | .castle c => some (0x1300, c)
  | .clusterBench c => some (0x1301, c)
  | .clusterSetState c => some (0x1302, c)
  | .clusterQuery c => some (0x1303, c)
  | .repairSet c => some (0x1310, c)
  | .imageWrite c => some (0x1320, c)
  | .imageActivate c => some (0x1321, c)
  | .confHomeSet c => some (0x1330, c)
  | .evtMaskSet c => some (0x1400, c)
  | .evtMaskQuery c => some (0x1401, c)
  | .recordSet c => some (0x1410, c)
  | .recordQuery c => some (0x1411, c)
  | .recordRead c => some (0x1412, c)
  | .recordExport c => some (0x1413, c)
  | .recordSeal c => some (0x1414, c)
  | .returnChallenge c => some (0x1420, c)
  | .returnArm c => some (0x1421, c)
  | .returnEnter c => some (0x1422, c)
  | .returnExit c => some (0x1423, c)
  | .tenantHostSet c => some (0x1500, c)
  | .tenantHostQuery c => some (0x1501, c)
  | .hostLinkQuery c => some (0x1510, c)
  | .diagLoopback c => some (0x1520, c)
  | .mgmtSet c => some (0x1530, c)
  | _ => none

/-- The opcodes of the queries that change nothing, statistics of windows included. -/
def queryOps : List Nat := [0x0001, 0x0102, 0x0122, 0x0131, 0x0230, 0x0232, 0x0302, 0x0322, 0x0412, 0x0520, 0x0521, 0x0602,
  0x0611, 0x0702, 0x0711, 0x0730, 0x0803, 0x0820, 0x0821, 0x0904, 0x0910, 0x0A05, 0x0A10, 0x0B06,
  0x0B10, 0x0C03, 0x0C14, 0x0C20, 0x0D02, 0x0D03, 0x0D04, 0x0E00, 0x0E01, 0x0E12, 0x0F00, 0x0F01,
  0x1100, 0x1205, 0x1303, 0x1411, 0x1501, 0x1510]

/-- The core, the instruction and the reserved bits of a DSP row whose memory reads are good. -/
def dspOf : Instr → Option (Nat × DspIns × Nat)
  | .dspAdd core dst a b sh acc x ⟨rsv, .good, .good, .good⟩ => some (core, .alu 0x00 dst a b sh acc x, rsv)
  | .dspSub core dst a b sh acc x ⟨rsv, .good, .good, .good⟩ => some (core, .alu 0x01 dst a b sh acc x, rsv)
  | .dspAnd core dst a b sh acc x ⟨rsv, .good, .good, .good⟩ => some (core, .alu 0x02 dst a b sh acc x, rsv)
  | .dspOr core dst a b sh acc x ⟨rsv, .good, .good, .good⟩ => some (core, .alu 0x03 dst a b sh acc x, rsv)
  | .dspXor core dst a b sh acc x ⟨rsv, .good, .good, .good⟩ => some (core, .alu 0x04 dst a b sh acc x, rsv)
  | .dspAsr core dst a b sh acc x ⟨rsv, .good, .good, .good⟩ => some (core, .alu 0x05 dst a b sh acc x, rsv)
  | .dspLsr core dst a b sh acc x ⟨rsv, .good, .good, .good⟩ => some (core, .alu 0x06 dst a b sh acc x, rsv)
  | .dspLsl core dst a b sh acc x ⟨rsv, .good, .good, .good⟩ => some (core, .alu 0x07 dst a b sh acc x, rsv)
  | .dspAbs core dst a b sh acc x ⟨rsv, .good, .good, .good⟩ => some (core, .alu 0x08 dst a b sh acc x, rsv)
  | .dspMin core dst a b sh acc x ⟨rsv, .good, .good, .good⟩ => some (core, .alu 0x09 dst a b sh acc x, rsv)
  | .dspMax core dst a b sh acc x ⟨rsv, .good, .good, .good⟩ => some (core, .alu 0x0A dst a b sh acc x, rsv)
  | .dspCmp core dst a b sh acc x ⟨rsv, .good, .good, .good⟩ => some (core, .alu 0x0B dst a b sh acc x, rsv)
  | .dspNeg core dst a b sh acc x ⟨rsv, .good, .good, .good⟩ => some (core, .alu 0x0C dst a b sh acc x, rsv)
  | .dspSat24 core dst a b sh acc x ⟨rsv, .good, .good, .good⟩ => some (core, .alu 0x0D dst a b sh acc x, rsv)
  | .dspAdda core dst a b sh acc x ⟨rsv, .good, .good, .good⟩ => some (core, .alu 0x10 dst a b sh acc x, rsv)
  | .dspShla core dst a b sh acc x ⟨rsv, .good, .good, .good⟩ => some (core, .alu 0x11 dst a b sh acc x, rsv)
  | .dspShra core dst a b sh acc x ⟨rsv, .good, .good, .good⟩ => some (core, .alu 0x12 dst a b sh acc x, rsv)
  | .dspMova core dst a b sh acc x ⟨rsv, .good, .good, .good⟩ => some (core, .alu 0x13 dst a b sh acc x, rsv)
  | .dspMovas core dst a b sh acc x ⟨rsv, .good, .good, .good⟩ => some (core, .alu 0x14 dst a b sh acc x, rsv)
  | .dspMovda core dst a b sh acc x ⟨rsv, .good, .good, .good⟩ => some (core, .alu 0x15 dst a b sh acc x, rsv)
  | .dspClraov core dst a b sh acc x ⟨rsv, .good, .good, .good⟩ => some (core, .alu 0x16 dst a b sh acc x, rsv)
  | .dspMac core inB acc a b other x y ⟨rsv, .good, .good, .good⟩ => some (core, dualWith 1 inB acc a b other x y, rsv)
  | .dspMsu core inB acc a b other x y ⟨rsv, .good, .good, .good⟩ => some (core, dualWith 2 inB acc a b other x y, rsv)
  | .dspMpy core inB acc a b other x y ⟨rsv, .good, .good, .good⟩ => some (core, dualWith 3 inB acc a b other x y, rsv)
  | .dspMpyn core inB acc a b other x y ⟨rsv, .good, .good, .good⟩ => some (core, dualWith 4 inB acc a b other x y, rsv)
  | .dspClra core inB acc a b other x y ⟨rsv, .good, .good, .good⟩ => some (core, dualWith 5 inB acc a b other x y, rsv)
  | .dspMoveLoad core inY d p mod a b other ⟨rsv, .good, .good, .good⟩ .good =>
    some (core, if inY then .dual a b other ⟨false, d, p, mod⟩ else .dual a b ⟨false, d, p, mod⟩ other, rsv)
  | .dspMoveStore core inY d p mod a b other ⟨rsv, .good, .good, .good⟩ .good =>
    some (core, if inY then .dual a b other ⟨true, d, p, mod⟩ else .dual a b ⟨true, d, p, mod⟩ other, rsv)
  | .dspLdiD core dst src v ⟨rsv, .good, .good, .good⟩ => some (core, .imm 0 dst src v, rsv)
  | .dspLdiP core dst src v ⟨rsv, .good, .good, .good⟩ => some (core, .imm 1 dst src v, rsv)
  | .dspLdiM core dst src v ⟨rsv, .good, .good, .good⟩ => some (core, .imm 2 dst src v, rsv)
  | .dspLdiLc core dst src v ⟨rsv, .good, .good, .good⟩ => some (core, .imm 3 dst src v, rsv)
  | .dspAddiD core dst src v ⟨rsv, .good, .good, .good⟩ => some (core, .imm 4 dst src v, rsv)
  | .dspAddiP core dst src v ⟨rsv, .good, .good, .good⟩ => some (core, .imm 5 dst src v, rsv)
  | .dspMovsTo core dst src v ⟨rsv, .good, .good, .good⟩ => some (core, .imm 6 dst src v, rsv)
  | .dspMovsFrom core dst src v ⟨rsv, .good, .good, .good⟩ => some (core, .imm 7 dst src v, rsv)
  | .dspRot core dst src v ⟨rsv, .good, .good, .good⟩ => some (core, .imm 8 dst src v, rsv)
  | .dspNop core cond cnt addr ⟨rsv, .good, .good, .good⟩ => some (core, .ctrl 0 cond cnt addr, rsv)
  | .dspBr core cond cnt addr ⟨rsv, .good, .good, .good⟩ => some (core, .ctrl 1 cond cnt addr, rsv)
  | .dspBrc core cond cnt addr ⟨rsv, .good, .good, .good⟩ => some (core, .ctrl 2 cond cnt addr, rsv)
  | .dspCall core cond cnt addr ⟨rsv, .good, .good, .good⟩ => some (core, .ctrl 3 cond cnt addr, rsv)
  | .dspRet core cond cnt addr ⟨rsv, .good, .good, .good⟩ => some (core, .ctrl 4 cond cnt addr, rsv)
  | .dspLoop core cond cnt addr ⟨rsv, .good, .good, .good⟩ => some (core, .ctrl 5 cond cnt addr, rsv)
  | .dspLoopr core cond cnt addr ⟨rsv, .good, .good, .good⟩ => some (core, .ctrl 6 cond cnt addr, rsv)
  | .dspRep core cond cnt addr ⟨rsv, .good, .good, .good⟩ => some (core, .ctrl 7 cond cnt addr, rsv)
  | .dspBreak core cond cnt addr ⟨rsv, .good, .good, .good⟩ => some (core, .ctrl 8 cond cnt addr, rsv)
  | .dspHalt core cond cnt addr ⟨rsv, .good, .good, .good⟩ => some (core, .ctrl 9 cond cnt addr, rsv)
  | _ => none

/-- The core on which a DSP row issues, any waiting invocation entered. -/
def issuer (core : Nat) (s : State) : DspCore := (s.enterInvocation core).core core

/-- The D registers of a core once the writes of the instruction before have landed (R322). -/
def DspCore.settled (k : DspCore) : List (BitVec 32) := k.late.foldl (fun d w => setAt d w.1 w.2) k.d

/-- A register ALU operation without a move completes with a value in DST (none where the operation writes no D register) and
with its flags; a carry that is not given is open. Everything else of the core but its control state is as before. -/
def AluDoes (core op dst a b sh : Nat) (row : Instr) (s : State) (val : Option (BitVec 32)) (nz : BitVec 32) (v : Bool)
    (c : Option Bool) : Prop :=
  dspRuns core (.alu op dst a b sh 0 {}) s = true → ∃ t, exec row s = .next t ∧
    let k := issuer core s
    let r := t.core core
    r.d = (match val with | some x => setAt k.settled (physD k.rrb dst) x | none => k.settled) ∧
    r.n = nz.msb ∧ r.z = (nz == 0) ∧ r.v = v ∧ (∀ x, c = some x → r.c = x) ∧
    r.acc = k.acc ∧ r.aov = k.aov ∧ r.p = k.p ∧ r.m = k.m ∧ r.lc = k.lc ∧ r.xmem = k.xmem ∧ r.ymem = k.ymem ∧ r.pmem = k.pmem

/-- An accumulator operation completes with an exact value, which wraps at 72 bits and then sets its AOV bit. Flags, D
registers and everything else of the core but its control state are as before. -/
def AccDoes (core acc : Nat) (i : DspIns) (row : Instr) (s : State) (val : Int) : Prop :=
  dspRuns core i s = true → ∃ t, exec row s = .next t ∧
    let k := issuer core s
    let r := t.core core
    r.acc = setAt k.acc acc (BitVec.ofInt 72 val) ∧
    r.aov = (if (BitVec.ofInt 72 val).toInt = val then k.aov else k.aov ||| BitVec.ofNat 8 (2 ^ acc)) ∧
    r.d = k.settled ∧ r.n = k.n ∧ r.z = k.z ∧ r.v = k.v ∧ r.c = k.c ∧
    r.p = k.p ∧ r.m = k.m ∧ r.lc = k.lc ∧ r.xmem = k.xmem ∧ r.ymem = k.ymem ∧ r.pmem = k.pmem

/-! Invariants. -/

/-- The shape of a DSP core: its registers are all there, loops nest at most two deep, the return stack holds at most 8
entries, a repeat runs at most 4,096 times (R317, R324, R325, R327), and its memories are in their canonical form. -/
def DspCore.shaped (k : DspCore) : Bool :=
  k.d.length == 32 && k.acc.length == 8 && k.p.length == 16 && k.m.length == 8 && k.lc.length == 2 &&
  decide (k.rrb < 16) && decide (k.stack.length ≤ 8) && decide (k.loops.length ≤ 2) &&
  (match k.rep with | some n => decide (1 ≤ n) && decide (n ≤ 4096) | none => true) && k.xmem.wf && k.ymem.wf

/-- Every command that waits is a DSP instruction, and every core of the package, and only those, has its shape. -/
def State.coresShaped (s : State) : Bool :=
  (s.pending.all fun i => (dspOf i).isSome) && s.aud.dsp.cores.all fun p => decide (p.1 < 288) && p.2.shaped

end Sys2Proof.Machine
end

