-- ==== Sys2Proof/Certificates/Slice0/Obligations.lean ====
section
/-! DEFINITION. The statements for the provers: what each row of the opcode table does where its conditions hold, what it
leaves alone, what reset leaves, and the invariants that every step keeps. -/

open Sys2Proof Sys2Proof.Machine

/-- MODE_SET enters the mode that Table 21-2 gives, with cause 0; POWER_SET stores its settings, a 0 selecting the default;
DEV_RESET notes the instant of its reset; the queries answer (spec file 21). -/
def Obligations.ModeCommandsComplete : Prop :=
  (∀ c s m, takes 0x0000 c s = true → modeOf c s = some m →
    Does 0x0000 (.modeSet c) c s ((s.advance c.at_).setMode m 0 0) []) ∧
  (∀ c s, takes 0x0001 c s = true → Answers 0x0001 32 (.modeQuery c) c s) ∧
  (∀ c s, canPowerSet c s = true → Does 0x0010 (.powerSet c) c s ((s.advance c.at_).modSys fun y =>
    { y with rideMaxMs := c.dflt 0 2 200, stageMs := c.dflt 2 2 20, capW := c.u 4 2 }) []) ∧
  (∀ c s, takes 0x0011 c s = true → ∃ pay, Does 0x0011 (.thermalQuery c) c s (s.advance c.at_).throttleAccount pay) ∧
  (∀ c s, canDevReset c s = true → Does 0x0020 (.devReset c) c s
    ((s.advance c.at_).modSys fun y => { y with devReset := some (s.advance c.at_).now }) [])

/-- A create adds the object its parameters describe at a free index and replies with its handle, a delete puts its object
into CLOSING, LEG_MOVE and LEG_SET_STATE take effect at the first grain boundary after acceptance and reply with its index,
TENANT_SET_QUOTA stores the quota, and the queries answer. A flow context is 256 bytes, with the SSRC after rewriting in its fourth word (spec file 02). -/
def Obligations.ConferenceCommandsComplete : Prop :=
  (∀ c s, canConfCreate c s = true → Does 0x0100 (.confCreate c) c s ((s.advance c.at_).addConf c).1
    (le 4 (confH ((s.advance c.at_).addConf c).2))) ∧
  (∀ c s, canConfDelete c s = true → exec (.confDelete c) s =
    .next ((s.advance c.at_).closeConf (hIdx c.obj) (replyTo (s.advance c.at_) 0x0101 c 0))) ∧
  (∀ c s, takes 0x0102 c s = true → Answers 0x0102 16 (.confQuery c) c s) ∧
  (∀ c s k ty, canLegCreate c s k ty = true →
    let r := (s.advance c.at_).addLeg (newLeg (s.advance c.at_) c ty k.tenant (hIdx c.obj))
    Does 0x0110 (.legCreate c) c s r.1 (le 4 (legH r.2))) ∧
  (∀ c s, takes 0x0111 c s = true → exec (.legDelete c) s =
    .next ((s.advance c.at_).closeLeg (hIdx c.obj) true [replyTo (s.advance c.at_) 0x0111 c 0])) ∧
  (∀ c s l k, canLegMove c s l k = true →
    let g := nextGrain (s.advance c.at_).now
    Does 0x0112 (.legMove c) c s ((s.advance c.at_).modLeg (hIdx c.obj) fun l =>
      { l with movePend := some (g, hIdx (c.u 0 4)) }) (le 8 g)) ∧
  (∀ c s l k, staysPut c s l k = true → Does 0x0112 (.legMove c) c s (s.advance c.at_) (le 8 (nextGrain (s.advance c.at_).now))) ∧
  (∀ c s, canLegSetState c s = true →
    let g := nextGrain (s.advance c.at_).now
    Does 0x0113 (.legSetState c) c s ((s.advance c.at_).modLeg (hIdx c.obj) fun l =>
      if l.state = .connecting then { l with hold := c.u 0 4, holdPend := none } else { l with holdPend := some (g, c.u 0 4) }) (le 8 g)) ∧
  (∀ c s l, takes 0x0114 c s = true → 0 < windowOf (s.advance c.at_).now → (s.advance c.at_).leg (hIdx c.obj) = some l →
    ∃ pay : List Byte, pay.length = 64 ∧ Does 0x0114 (.legStats c) c s
      ((s.advance c.at_).modLeg (hIdx c.obj) fun _ => l.roll (s.advance c.at_).now) pay) ∧
  (∀ c s l, canFlowCreate c s l = true →
    let r := (s.advance c.at_).addFlow c (hIdx c.obj) l
    Does 0x0120 (.flowCreate c) c s r.1 (le 4 (flowH r.2))) ∧
  (∀ c s f, takes 0x0121 c s = true → (s.advance c.at_).flow (hIdx c.obj) = some f → exec (.flowDelete c) s =
    .next ((s.advance c.at_).deleteFlow (hIdx c.obj) f (replyTo (s.advance c.at_) 0x0121 c 0))) ∧
  (∀ c s, takes 0x0122 c s = true → Answers 0x0122 32 (.flowQuery c) c s) ∧
  (∀ c s, canTenantSetQuota c s = true → Does 0x0130 (.tenantSetQuota c) c s
    { s.advance c.at_ with quotas := setAt s.quotas (c.u 0 1) (quotaOf c) } []) ∧
  (∀ c s, canTenantQuery c s = true → Answers 0x0131 48 (.tenantQuery c) c s) ∧
  (∀ i f, ∀ s : State, s.flow i = some f → (s.flowContext i).length = 256 ∧
    ofLe (((s.flowContext i).drop 12).take 4) = (if f.dir = 1 then 0 else f.ssrc % 2 ^ 32))

/-- PORT_SET_MODE takes the links down and sets mode and addresses, ADDR_SET stores a local address, ICE_SET_CREDENTIALS the
credentials, POLICER_SET the policers' rates and bursts, JB_SET new bounds from the next grain boundary, REORDER_SET and
FEC_SET their settings, and the queries answer (spec file 04). -/
def Obligations.IngressCommandsComplete : Prop :=
  (∀ c s, canPortSetMode c s = true →
    Does 0x0200 (.portSetMode c) c s ((List.range 4).foldl (fun (u : State) i => u.modPort (4 * c.u 0 1 + i) fun (q : LPort) =>
      { q with mac := c.big (4 + 6 * i) 6, freeAt := u.now })
      (((s.advance c.at_).linksLost (c.u 0 1)).modPhys (c.u 0 1) fun q => { q with mode := c.u 1 1, macBuf := 0 })) []) ∧
  (∀ c s, canAddrSet c s = true → Does 0x0201 (.addrSet c) c s
    ((s.advance c.at_).modPort (c.u 0 1) fun p => { p with addrs := setAt p.addrs (c.u 1 1) (localAddrOf c) }) []) ∧
  (∀ c s l, canIceSet c s l = true → Does 0x0210 (.iceSetCredentials c) c s
    ((s.advance c.at_).modLeg (hIdx c.obj) fun l => { l with ice := { l.ice with
      set := true, lfrag := c.bytes 8 (c.u 0 1), rfrag := c.bytes 40 (c.u 1 1), pwd := c.bytes 72 (c.u 2 1)
      consentS := c.dflt 4 2 30 } }) []) ∧
  (∀ c s, canPolicerSet c s = true → Does 0x0211 (.policerSet c) c s
    ((s.advance c.at_).modLeg (hIdx c.obj) fun l =>
      let g := l.ing.refill (s.advance c.at_).now
      { l with ing := { g with
        mediaKbps := if c.u 0 4 = 0 then mediaDefault l.maxKbps else c.u 0 4, mediaBurst := c.u 4 4
        mediaTokens := min g.mediaTokens (c.u 4 4 * byteTok), ctrlPps := c.u 8 2, ctrlBurst := c.u 10 2
        ctrlTokens := min g.ctrlTokens (c.u 10 2 * pktTok) } }) []) ∧
  (∀ c s f, canJbSet c s f = true →
    let g := nextGrain (s.advance c.at_).now
    Does 0x0220 (.jbSet c) c s ((s.advance c.at_).modFlow (hIdx c.obj) fun f =>
      { f with jb := { f.jb with pend := some (g, c.u 0 2, c.u 2 2) } }) (le 8 g)) ∧
  (∀ c s f, canReorderSet c s f = true → Does 0x0221 (.reorderSet c) c s
    (if f.sink = 0 then
      ((s.advance c.at_).modFlow (hIdx c.obj) fun g => g.setReorder (c.u 0 1) (c.u 1 1) (c.u 2 2) (c.u 4 2)).drain (hIdx c.obj)
    else (s.advance c.at_).modFlow (hIdx c.obj) fun g =>
      { g with ro := { g.ro with pend := some (c.u 0 1, c.u 1 1, c.u 2 2, c.u 4 2) } }) []) ∧
  (∀ c s f, canFecSet c s f = true → Does 0x0222 (.fecSet c) c s
    (let v := (s.advance c.at_).modFlow (hIdx c.obj) fun g => { g with fec := { g.fec with pend := some (c.flag 0 1 0, c.u 2 2) } }
     if f.sink = 0 then v.modFlow (hIdx c.obj) fun g =>
       { g with fec := { g.fec with enable := c.flag 0 1 0, windowMs := c.u 2 2, pend := none } }
     else v) []) ∧
  (∀ c s, takes 0x0230 c s = true → Answers 0x0230 64 (.ingressStats c) c s) ∧
  (∀ c s, canPortStats c s = true → Does 0x0231 (.portStats c) c s (s.advance c.at_)
    ((s.net.ports.getD (c.u 0 1) {}).counters.flatMap (le 8))) ∧
  (∀ c s, takes 0x0232 c s = true → Answers 0x0232 24 (.remoteQuery c) c s)

/-- FWD_BIND binds at once, or notes the replacement for the new source's first switch point; FWD_UNBIND removes a binding;
the profile, RTCP and adaptation commands store their settings; KEYFRAME_REQUEST asks for a key frame; CASCADE_SET names the
first grain mixed under its D; and the queries answer (spec file 05). -/
def Obligations.AdaptationCommandsComplete : Prop :=
  (∀ c s f, canFwdSlot c s f = true → Does 0x0300 (.fwdBind c) c s
    ((s.advance c.at_).modFlow (hIdx c.obj) fun g => { g with fwd := boundFwd c (s.advance c.at_) f }) []) ∧
  (∀ c s f x, canFwdSource c s f x = true →
    let s' := s.advance c.at_
    let src := hIdx (c.u 0 4)
    let v := s'.modFlow (hIdx c.obj) fun g => { g with fwd := boundFwd c s' f }
    Does 0x0300 (.fwdBind c) c s
      (if f.kind = 2 then (match (v.sourceSet src)[0]? with | some e => v.keyRequest e | none => v) else v) []) ∧
  (∀ c s f, canFwdUnbind c s f = true → Does 0x0301 (.fwdUnbind c) c s ((s.advance c.at_).fwdUnbind (hIdx c.obj)) []) ∧
  (∀ c s f, canFwdQuery c s f = true → Answers 0x0302 32 (.fwdQuery c) c s) ∧
  (∀ c s f, canProfileSet c s f = true →
    let keep := f.kind ≠ 1 && f.kind ≠ 2 || (f.kind = 2 && !f.carried)
    Does 0x0310 (.flowProfileSet c) c s ((s.advance c.at_).modFlow (hIdx c.obj) fun g => { g with
      prof := ⟨c.u 0 1, (List.range 6).map fun k => c.u (1 + k) 1, c.u 8 4⟩
      profOld := if keep then none else some g.media, profAt := (s.advance c.at_).now }) []) ∧
  (∀ c s, canRtcpSet c s = true → Does 0x0311 (.rtcpSet c) c s ((s.advance c.at_).modLeg (hIdx c.obj) fun l =>
    { l with rtcp := { l.rtcp with intervalMs := c.dflt 0 2 1000, flags := c.u 2 2, cname := c.bytes 8 (c.u 4 1) } }) []) ∧
  (∀ c s f, canKeyframeRequest c s f = true → Does 0x0312 (.keyframeRequest c) c s (if c.flag 0 4 0 then
    ((s.advance c.at_).modFlow (hIdx c.obj) fun f => { f with keyReq := { f.keyReq with wanted := true } }).sendPli (hIdx c.obj) true
    else (s.advance c.at_).keyRequest (hIdx c.obj)) []) ∧
  (∀ c s, canAdaptSet c s = true → Does 0x0320 (.adaptSet c) c s ((s.advance c.at_).modLeg (hIdx c.obj) fun l =>
    { l with ada := { l.ada with
      initKbps := c.dflt 0 4 1000, fecMin := c.u 4 1, fecMax := c.u 5 1, maxE := c.u 6 1, maxS := c.u 7 1, maxT := c.u 8 1
      est := if l.ada.lastRun = 0 then c.dflt 0 4 1000 * 1000000 else l.ada.est } }) []) ∧
  (∀ c s l, canAdaptOverride c s l = true →
    Does 0x0321 (.adaptOverride c) c s ((s.advance c.at_).override (hIdx c.obj) c l) []) ∧
  (∀ c s, takes 0x0322 c s = true → Answers 0x0322 48 (.adaptQuery c) c s) ∧
  (∀ c s l, canCascadeSet c s l = true →
    let v := s.advance c.at_
    let g := nextGrain v.now
    let next := v.modLeg (hIdx c.obj) fun l => { l with casc := { l.casc with grains := c.dflt 0 1 4, role := c.u 1 1 } }
    Does 0x0330 (.cascadeSet c) c s ((s.advance c.at_).modLeg (hIdx c.obj) fun l =>
      { l with casc := { l.casc with pend := some (g, c.dflt 0 1 4, c.u 1 1) } })
      (le 8 (g - 1 - min (next.outLag l.conf) (v.outLag l.conf))))

/-- The egress commands store weights, bursts, limits, classes and maps; GCL_SET makes a list pending and replies with its
start; FC_SET assigns a pin; the queries answer (spec file 06). -/
def Obligations.EgressCommandsComplete : Prop :=
  (∀ c s, canEgressLegSet c s = true → Does 0x0400 (.egressLegSet c) c s ((s.advance c.at_).modEgr (hIdx c.obj) fun e =>
    let e := e.refill (s.advance c.at_).now
    { e with weight := c.dflt 0 2 64, shapeBurst := c.dflt 4 4 16384, qlimit := c.dflt 8 4 524288
             ageAudioMs := c.dflt 12 2 100, ageVideoMs := c.dflt 14 2 400
             bucket := min e.bucket ((c.dflt 4 4 16384 * byteTok : Nat) : Int) }) []) ∧
  (∀ c s f, canEgressClassSet c s f = true → Does 0x0401 (.egressClassSet c) c s
    ((s.advance c.at_).modFlow (hIdx c.obj) fun g =>
      if laneBusy s (hIdx c.obj) f && c.u 0 1 != g.cls then { g with clsNew := some (c.u 0 1) }
      else { g with cls := c.u 0 1, clsNew := none }) []) ∧
  (∀ c s, canPortEgressSet c s = true → Does 0x0410 (.portEgressSet c) c s ((s.advance c.at_).modPort (c.u 0 1) fun p =>
    { p with oh := c.dflt 1 1 20, pfcHonour := c.flag 2 2 0
             pcp := (c.bytes 4 8).map fun b => b.toNat, dscp := (c.bytes 12 8).map fun b => b.toNat }) []) ∧
  (∀ c s, canGclSet c s = true → (s.advance c.at_).now ≤ (gateListOf c (s.advance c.at_).now).base →
    let g := gateListOf c (s.advance c.at_).now
    let u := (s.advance c.at_).modPort (c.u 0 1) fun p => { p with pending := some g }
    Does 0x0411 (.gclSet c) c s (if (s.net.ports.getD (c.u 0 1) {}).pending.isSome then u.raise 142 0 (le 1 (c.u 0 1)) else u)
      (le 8 (dtSec g.start) ++ le 4 (dtNs g.start) ++ zeros 4 ++ le 8 ((g.start - g.base) / g.cycle))) ∧
  (∀ c s, canGclQuery c s = true → Answers 0x0412 48 (.gclQuery c) c s) ∧
  (∀ c s f, canFecGenSet c s f = true → Does 0x0420 (.fecGenSet c) c s ((s.advance c.at_).modFlow (hIdx c.obj) fun f =>
    { f with fgen := { f.fgen with mode := c.u 0 1, flushMs := c.dflt 1 1 30 } }) []) ∧
  (∀ c s, canFcSet c s = true →
    let unit := if c.u 1 1 = 2 then 4096 else 1
    let s' := s.advance c.at_
    Does 0x0430 (.fcSet c) c s (State.fcUpdate { s' with net := { s'.net with fc := modAt s'.net.fc (c.u 0 1) fun (p : FcPin) =>
      { p with source := c.u 1 1, index := c.u 2 1, high := c.u 4 4 * unit, low := c.u 8 4 * unit } } }) []) ∧
  (∀ c s l, takes 0x0440 c s = true → s.leg (hIdx c.obj) = some l → ∃ pay : List Byte, pay.length = 48 ∧
    Does 0x0440 (.egressStats c) c s ((s.advance c.at_).modLeg (hIdx c.obj) fun _ => l.roll (s.advance c.at_).now) pay) ∧
  (∀ c s, canEgressPortStats c s = true → let p := s.net.ports.getD (c.u 0 1) {}
    Does 0x0441 (.egressPortStats c) c s (s.advance c.at_) ((p.sentFrames.flatMap (le 8)) ++ p.sentBytes.flatMap (le 8)))

/-- The mix commands create and delete groups, change the whole set that a conference mixes from, in its shadow, and reply
with the effective grain of that set; the queries answer (spec file 07). -/
def Obligations.MixCommandsComplete : Prop :=
  (∀ c s k, canGroupCreate c s k = true → let r := (s.advance c.at_).addGroup (hIdx c.obj) k (c.u 0 1)
    Does 0x0500 (.mixGroupCreate c) c s r.1 (le 4 (mkHandle 8 r.2))) ∧
  (∀ c s x, canGroupDelete c s x = true → let s' := s.advance c.at_
    Does 0x0501 (.mixGroupDelete c) c s { s' with aud := { s'.aud with groups := tdel s'.aud.groups (hIdx c.obj) } } []) ∧
  (∀ c s x, canContribute c s x = true →
    let s' := s.advance c.at_
    let conf := s'.flowConf (hIdx c.obj)
    let r := (s'.modFlow (hIdx c.obj) fun x => { x with sink := c.u 0 4 }).mixChange conf (c.flag 7 1 0) (contribSet c (hIdx c.obj))
    Does 0x0502 (.mixContribute c) c s r.2 (le 8 r.1)) ∧
  (∀ c s x l, canListen c s x l = true →
    let s' := s.advance c.at_
    let conf := s'.flowConf (hIdx c.obj)
    let r := s'.mixChange conf false (listenSet c (hIdx c.obj))
    Does 0x0503 (.mixListen c) c s r.2 (le 8 r.1)) ∧
  (∀ c s x, canUnlisten c s x = true →
    let s' := s.advance c.at_
    let r := s'.mixChange (s'.flowConf (hIdx c.obj)) false fun y => { y with listens := tdel y.listens (hIdx c.obj) }
    Does 0x0504 (.mixUnlisten c) c s r.2 (le 8 r.1)) ∧
  (∀ c s g places, canGraphLoad c s g places = true →
    let r := (s.advance c.at_).loadGraph (hIdx c.obj) c.obj g places
    r.2.heardBack (graphSet g places (s.mix (hIdx c.obj)).latest) = false →
    Does 0x0510 (.mixGraphLoad c) c s r.2 (le 8 r.1)) ∧
  (∀ c s, canMixSet c s = true →
    let r := (s.advance c.at_).mixChange (hIdx c.obj) (c.flag 9 1 0) (settingsSet c)
    Does 0x0511 (.mixSet c) c s r.2 (le 8 r.1)) ∧
  (∀ c s, canPanSet c s = true →
    let r := (s.advance c.at_).mixChange (hIdx c.obj) (c.flag 1 1 0) fun y => { y with panMode := c.u 0 1, canvas := c.u 4 4 }
    Does 0x0512 (.mixPanSet c) c s r.2 (le 8 r.1)) ∧
  (∀ c s, takes 0x0520 c s = true → Answers 0x0520 88 (.mixQuery c) c s) ∧
  (∀ c s, takes 0x0521 c s = true → Answers 0x0521 40 (.mixStats c) c s)

/-- KERNEL_LOAD begins a load with its image's place, length and tenant mask; KERNEL_UNLOAD removes a kernel; KERNEL_RESET
enables instances; DSP_SET stores the budget; the queries answer (spec file 08). -/
def Obligations.KernelCommandsComplete : Prop :=
  (∀ c s, canKernelLoad c s = true →
    let r := (s.advance c.at_).startLong (replyTo (s.advance c.at_) 0x0600 c 0) 172 0
    Begins 0x0600 (.kernelLoad c) c s { r.2 with aud := { r.2.aud with dsp := { r.2.aud.dsp with
      loading := r.2.aud.dsp.loading ++ [⟨r.1, c.u 0 8, c.u 8 4, c.u 16 8⟩] } } }) ∧
  (∀ c s, canKernelUnload c s = true → let s' := s.advance c.at_
    Does 0x0601 (.kernelUnload c) c s
      { s' with aud := { s'.aud with dsp := { s'.aud.dsp with kernels := tdel s'.aud.dsp.kernels (hIdx c.obj) } } } []) ∧
  (∀ c s k, canKernelQuery c s k = true → Answers 0x0602 48 (.kernelQuery c) c s) ∧
  (∀ c s, canKernelReset c s = true →
    let s' := s.advance c.at_
    let upd (key : Nat) (x : KInst) : KInst := if x.kernel = hIdx c.obj && (c.u 0 4 == 0 || key / 256 == hIdx (c.u 0 4)) then
      { x with disabled := false, faults := 0 } else x
    Does 0x0603 (.kernelReset c) c s
      { s' with aud := { s'.aud with dsp := { s'.aud.dsp with insts := tmap s'.aud.dsp.insts upd } } } []) ∧
  (∀ c s, canDspSet c s = true → let s' := s.advance c.at_
    Does 0x0610 (.dspSet c) c s { s' with aud := { s'.aud with dsp := { s'.aud.dsp with opkBudget := c.u 0 4 } } } []) ∧
  (∀ c s, takes 0x0611 c s = true → Answers 0x0611 32 (.dspStats c) c s)

/-- The port commands set a port, the pin AMCLK_OUT, the fixed routes and the slots of a port leg, each with the grain it
takes effect at; a port starts at its first grain with event 180, and realigns with event 184 (spec file 09). -/
def Obligations.SerialPortCommandsComplete : Prop :=
  (∀ c s, canSapConfig c s = true →
    let r := (s.advance c.at_).sapReply c (hIdx c.obj)
    Does 0x0700 (.sapConfig c) c s (r.2.modSap (hIdx c.obj) (sapSet c (grainOf (s.advance c.at_).now))) (le 8 r.1)) ∧
  (∀ c s, canMclk c s = true → let s' := s.advance c.at_
    Does 0x0701 (.sapMclkSet c) c s
      { s' with aud := { s'.aud with sap := { s'.aud.sap with mclkPend := some (nextGrain s'.now, c.u 0 1) } } }
      (le 8 (nextGrain s'.now))) ∧
  (∀ c s, takes 0x0702 c s = true → asksPort c s = true → Answers 0x0702 48 (.sapQuery c) c s) ∧
  (∀ c s, takes 0x0703 c s = true → Does 0x0703 (.sapFilterQuery c) c s (s.advance c.at_)
    ((List.range 20).flatMap fun i => leI 4 (Config.filterTap i))) ∧
  (∀ c s, canRouteSet c s = true → let s' := s.advance c.at_
    Does 0x0710 (.routeSet c) c s (s'.modSap (hIdx c.obj)
      (routeShadow (grainOf s'.now) (c.flag 1 1 0) (routeEntries s' c (hIdx c.obj)))) (le 8 (grainOf s'.now))) ∧
  (∀ c s, takes 0x0711 c s = true → Answers 0x0711 256 (.routeQuery c) c s) ∧
  (∀ c s l, canPortMask c s l = true → let s' := s.advance c.at_
    Does 0x0720 (.portLegMaskSet c) c s (s'.maskLeg (hIdx c.obj) l.conf (grainOf s'.now) (c.u 0 4) (c.flag 4 1 0))
      (le 8 (grainOf s'.now))) ∧
  (∀ c s, takes 0x0730 c s = true → asksPort c s = true → Answers 0x0730 40 (.sapStats c) c s) ∧
  (∀ t p s, sapDue t p s = true → exec (.sapStart t p) s = .next (((s.advance t).modSap p fun q =>
    { q with started := true, sent := 0 }).raise 180 (sapH p) (le 8 (s.sapPort p).start))) ∧
  (∀ t s, sapRealigning t s ≠ [] → let s' := s.advance t
    exec (.sapRealign t) s = .next (((sapRealigning t s).foldl (fun s p => s.modSap p fun q =>
      { q with realigns := q.realigns + 1, realigned := true }) s').raise 184 0
        (le 1 (sumOf (sapRealigning t s) fun p => 2 ^ p) ++ le 8 (grainOf s'.now))))

/-- The beacon commands attach, set and detach modulators, set a conference's receivers and the modem, and watch a leg; the
queries answer (spec file 10). -/
def Obligations.BeaconCommandsComplete : Prop :=
  (∀ c s l, canModAttach c s l = true → let r := (s.advance c.at_).attachMod (hIdx c.obj) (modSetOf c)
    Does 0x0800 (.beaconModAttach c) c s r.2.2
      (le 4 (mkHandle 11 r.1) ++ le 4 r.2.1 ++ le 8 (grainOf (s.advance c.at_).now))) ∧
  (∀ c s, takes 0x0801 c s = true → modSetOk c = true → let s' := s.advance c.at_
    Does 0x0801 (.beaconModSet c) c s (s'.modBcn (hIdx c.obj) fun m => m.ask (grainOf s'.now) (modSetOf c))
      (le 8 (grainOf s'.now))) ∧
  (∀ c s, takes 0x0802 c s = true → Does 0x0802 (.beaconModDetach c) c s
    ((s.advance c.at_).detachMod (hIdx c.obj)) (le 8 (grainOf (s.advance c.at_).now))) ∧
  (∀ c s m, takes 0x0803 c s = true → tget s.aud.bcn.mods (hIdx c.obj) = some m →
    Answers 0x0803 24 (.beaconModQuery c) c s) ∧
  (∀ c s, canRxSet c s = true →
    let s' := s.advance c.at_
    let u := s'.setBeaconRx (hIdx c.obj) (grainOf s'.now, c.u 0 1 == 1, c.dflt 1 1 55, c.dflt 2 1 6)
    Does 0x0810 (.beaconRxSet c) c s
      (if c.u 0 1 = 0 then (u.legsOf (hIdx c.obj)).foldl (fun (s : State) p => s.clearBeacon p.1) u else u)
      (le 8 (grainOf s'.now))) ∧
  (∀ c s l, canWatch c s l = true → let s' := s.advance c.at_
    Does 0x0811 (.beaconWatch c) c s (if c.flag 0 4 0 then s'.modLegBcn (hIdx c.obj) fun b => { b with watch := true }
      else s'.unwatch (hIdx c.obj) l) []) ∧
  (∀ c s, canModemSet c s = true → let s' := s.advance c.at_
    Does 0x0812 (.beaconModemSet c) c s { s' with aud := { s'.aud with bcn := { s'.aud.bcn with
      holdMax := if c.u 0 2 = 0xFFFF then 384 else c.u 0 2, rotaS := c.dflt 2 2 30, sync := c.dflt 4 1 75 } } } []) ∧
  (∀ c s l, takes 0x0820 c s = true → s.leg (hIdx c.obj) = some l → Answers 0x0820 32 (.beaconLegQuery c) c s) ∧
  (∀ c s, takes 0x0821 c s = true → ∃ n, Answers 0x0821 n (.beaconStats c) c s)

/-- The decoder commands make, free, bind and set contexts and answer; the decoder rows parse a context's first ready frame,
complete the decode of its first frame, note it late, and handle a hung decoder (spec file 11). -/
def Obligations.DecoderRowsComplete : Prop :=
  (∀ c s k, canDecCreate c s k = true →
    let r := (s.advance c.at_).addDec (decOf c k.tenant (hIdx c.obj))
    Does 0x0900 (.decCreate c) c s r.2 (le 4 (decH r.1))) ∧
  (∀ c s, takes 0x0901 c s = true → s.decNamed (hIdx c.obj) = false →
    Does 0x0901 (.decDelete c) c s ((s.advance c.at_).decFree (hIdx c.obj)) []) ∧
  (∀ c s d, canDecBind c s d = true →
    let s' := if d.leaving then (s.advance c.at_).decNoSource (hIdx c.obj) else s.advance c.at_
    let d := (s'.dec (hIdx c.obj)).getD d
    Does 0x0902 (.decBind c) c s
      (if c.u 0 4 = 0 then s'.decUnbind (hIdx c.obj) d else s'.decBind (hIdx c.obj) (hIdx (c.u 0 4)) d) []) ∧
  (∀ c s d, canDecSet c s d = true →
    Does 0x0903 (.decSet c) c s ((s.advance c.at_).decSet (hIdx c.obj) c d) []) ∧
  (∀ c s d, takes 0x0904 c s = true → s.dec (hIdx c.obj) = some d → Answers 0x0904 48 (.decQuery c) c s) ∧
  (∀ c s, takes 0x0910 c s = true → Answers 0x0910 32 (.decStats c) c s) ∧
  (∀ t ctx f s d r rest d', s.dec ctx = some d → d.ready = r :: rest →
    let u := (s.advance t).decNext ctx rest
    u.dec ctx = some d' → exec (.headerParse t ctx f) s = .next (u.decParsed ctx d' r f)) ∧
  (∀ t ctx pix bad s d x rest unit, decoding ctx s d x rest unit = true →
    exec (.decodeFrameDone t ctx pix bad) s = .next ((s.advance t).decDone ctx unit d x rest pix bad)) ∧
  (∀ t ctx s d m, s.dec ctx = some d → lateMs d.prio = some m →
    exec (.decodeLate t ctx) s = .next ((s.advance t).decLate ctx d m)) ∧
  (∀ t ctx unit s d x rest k, decHung t ctx unit s d x rest k = true →
    exec (.decoderHang t ctx) s = .next ((s.advance t).decHang unit ctx x.task))

/-- The canvas commands make and free canvases, give them layouts, overlays and guards, and answer; the compositor rows
begin, complete and abandon passes, check guards, and take overlays (spec file 12). -/
def Obligations.CanvasRowsComplete : Prop :=
  (∀ c s k, canCanvasCreate c s k = true → let s' := s.advance c.at_
    let r := s'.addCanvas (canvasNew c k.tenant (hIdx c.obj) s'.now)
    Does 0x0A00 (.canvasCreate c) c s r.2 (le 4 (canvasH r.1))) ∧
  (∀ c s, takes 0x0A01 c s = true → s.canvasNamed (hIdx c.obj) = false →
    Does 0x0A01 (.canvasDelete c) c s ((s.advance c.at_).canvasFree (hIdx c.obj)) []) ∧
  (∀ c s v, canLayoutSet c s v = true → let s' := s.advance c.at_
    let k := frameAfter v.fps s'.now
    Does 0x0A02 (.canvasLayoutSet c) c s (s'.modCanvas (hIdx c.obj) fun v => { v with
      pend := (v.pend.filter fun p => p.1 != k) ++ [(k, layoutOf c)] }) (le 8 k)) ∧
  (∀ c s v, canOverlayLoad c s v = true → let s' := s.advance c.at_
    Begins 0x0A03 (.overlayLoad c) c s (s'.overlayBegin (replyTo s' 0x0A03 c 0) c v)) ∧
  (∀ c s v, canGuardSet c s v = true → let s' := s.advance c.at_
    let k := frameAfter v.fps s'.now
    Does 0x0A04 (.guardSet c) c s (s'.modCanvas (hIdx c.obj) fun x => { x with
      guardPend := (x.guardPend.filter fun p => !(p.1 == k && p.2.1 == c.u 0 1)) ++ [(k, c.u 0 1, guardOf c)] }) (le 8 k)) ∧
  (∀ c s v, takes 0x0A05 c s = true → s.canvas (hIdx c.obj) = some v → Answers 0x0A05 48 (.canvasQuery c) c s) ∧
  (∀ c s, takes 0x0A10 c s = true → Answers 0x0A10 32 (.compStats c) c s) ∧
  (∀ t i k s v, canvasDue t i k s v = true →
    exec (.canvasPassReady t i) s = .next ((s.advance t).canvasFrame i k v)) ∧
  (∀ t i s v p, composing i s v p = true → exec (.composePassDone t i) s = .next ((s.advance t).passDone i v p)) ∧
  (∀ t i unit s v p k, compHung t i unit s v p k = true →
    exec (.compositorHang t i) s = .next ((s.advance t).compHang unit i p.task)) ∧
  (∀ t i found s v p f, guarding i s v p f = true →
    let bad := guardsBad found v f p
    let u := (s.advance t).guardsMark i p bad
    exec (.guardReadbackDone t i found) s =
      .next (if bad.isEmpty then u.guardsPass i v f p else u.guardsFail found i v f p bad)) ∧
  (∀ t id i image err s v j, overlayLoading id i s v j = true →
    let u := (s.advance t).modCanvas i fun v => { v with loading := v.loading.filter fun x => x.id != id }
    let img := padTo (4 * j.w * j.h) image
    exec (.overlayLoaded t id image err) s =
      .next (if j.addr ≠ 0 && (err || crc32c img != j.crc) then u.overlayBad i v j else u.overlayGood i v j img))

/-- The encoder commands make, free, set, attach and refresh contexts and answer; the encoder rows code rows and frames of
outputs and tiles, handle hung encoders, and serve the refresh timers (spec file 13). -/
def Obligations.EncoderRowsComplete : Prop :=
  (∀ c s k v, canEncCreate c s k v = true → let s' := s.advance c.at_
    let r := s'.addEnc (encOf c k v s'.now)
    Does 0x0B00 (.encCreate c) c s r.2 (le 4 (encH r.1))) ∧
  (∀ c s e, takes 0x0B01 c s = true → s.enc (hIdx c.obj) = some e → let s' := s.advance c.at_
    if e.run.isNone then Does 0x0B01 (.encDelete c) c s (s'.encFree (hIdx c.obj)) []
    else exec (.encDelete c) s = .next (s'.encDeleteLater (hIdx c.obj) e (replyTo s' 0x0B01 c 0))) ∧
  (∀ c s e, canEncSet c s e = true → let s' := s.advance c.at_
    Does 0x0B02 (.encSet c) c s (s'.encSet (hIdx c.obj) c e) (le 8 (s'.encNextFrame e))) ∧
  (∀ c s e f, canEncAttach c s e f = true → let s' := s.advance c.at_
    Does 0x0B03 (.encAttach c) c s (s'.encAttach (hIdx c.obj) (hIdx (c.u 0 4))) (le 8 (s'.refreshFrame e))) ∧
  (∀ c s e, canEncDetach c s e = true →
    Does 0x0B04 (.encDetach c) c s ((s.advance c.at_).encLeave (hIdx c.obj) (hIdx (c.u 0 4)) e) []) ∧
  (∀ c s e, takes 0x0B05 c s = true → c.mask 0 4 1 = true → s.enc (hIdx c.obj) = some e → let s' := s.advance c.at_
    Does 0x0B05 (.encRefresh c) c s (s'.encAsk (hIdx c.obj) 3 (c.flag 0 4 0))
      (le 8 (s'.refreshReply e (c.flag 0 4 0)))) ∧
  (∀ c s e, takes 0x0B06 c s = true → s.enc (hIdx c.obj) = some e → Answers 0x0B06 48 (.encQuery c) c s) ∧
  (∀ c s, takes 0x0B10 c s = true → Answers 0x0B10 32 (.encStats c) c s) ∧
  (∀ t i bits repl s e, encoding i s e = true → i < 65536 →
    exec (.encodeRowDone t (encH i) bits repl) s = .next ((s.advance t).encRow i bits repl)) ∧
  (∀ t i bits repl unit s x f, tileCoding i unit s x f = true → i < 65536 →
    exec (.encodeRowDone t (tileH i) bits repl) s =
      .next ((s.advance t).modTile i fun x => { x with rc := x.rc.row bits repl })) ∧
  (∀ t i coded s e, encoding i s e = true → e.rc.rowsDone = true → i < 65536 →
    exec (.encodeFrameDone t (encH i) coded) s = .next (
      if e.rc.frame.any fun f => e.suits f coded then (s.advance t).encDone i coded.units else s.advance t)) ∧
  (∀ t i unit coded s x f, tileCoding i unit s x f = true → x.rc.rowsDone = true → i < 65536 →
    exec (.encodeFrameDone t (tileH i) coded) s = .next (
      if tileCoded x coded ((x.rc.frame.map fun r => r.isKey).getD false) false then
        ((((s.advance t).unitGood unit).taskDone f.task).addLoad 2 (x.rc.w * x.rc.h)).tileDone i (codedPayload coded)
      else s.advance t)) ∧
  (∀ t h bits unit task ns s k, encHung t h bits unit task ns s k = true →
    exec (.encoderHang t h bits) s = .next ((s.advance t).encHang unit h task)) ∧
  (∀ t i r s e, deferDue t i r s e = true → exec (.refreshDeferExpiry t i) s =
    .next ((s.advance t).modEnc i fun x => { x with
      asks := x.asks ++ e.deferred.filter (fun a => a.2 || e.sweepLeft == 0), deferred := [] })) ∧
  (∀ t i s e, keyDue t i s e = true → exec (.keySExpiry t i) s = .next ((s.advance t).encAsk i 6 false))

/-- The tile and splice commands make, free and set tiles and spliced outputs, give them layouts, and answer; the rows grant
refreshes, make variants and assemble pictures (spec file 14). -/
def Obligations.SpliceRowsComplete : Prop :=
  (∀ c s k, canTileCreate c s k = true → let s' := s.advance c.at_
    let r := s'.addTile (tileOf c k.tenant s'.now)
    Does 0x0C00 (.tileCreate c) c s r.2 (le 4 (tileH r.1))) ∧
  (∀ c s, takes 0x0C01 c s = true → s.tileNamed (hIdx c.obj) = false →
    Does 0x0C01 (.tileDelete c) c s ((s.advance c.at_).tileFree (hIdx c.obj)) []) ∧
  (∀ c s x, canTileSet c s x = true → let s' := s.advance c.at_
    let k := frameAfter x.rc.fps s'.now
    Does 0x0C02 (.tileSet c) c s (s'.modTile (hIdx c.obj) fun x => { x with
      pend := (x.pend.filter fun p => p.1 != k) ++ [(k, c.u 0 4)] }) (le 8 k)) ∧
  (∀ c s x, takes 0x0C03 c s = true → s.tile (hIdx c.obj) = some x → Answers 0x0C03 32 (.tileQuery c) c s) ∧
  (∀ c s f, canSpliceCreate c s f = true →
    Does 0x0C10 (.spliceCreate c) c s ((s.advance c.at_).addSplice (hIdx c.obj) c f) []) ∧
  (∀ c s o, onSplice 0x0C11 c s o = true →
    Does 0x0C11 (.spliceDelete c) c s ((s.advance c.at_).spliceEnd (hIdx c.obj)) []) ∧
  (∀ c s o, canGridSet c s o = true → let s' := s.advance c.at_
    let k := frameAfter o.fps s'.now
    Does 0x0C12 (.spliceLayoutSet c) c s
      (s'.modSplice (hIdx c.obj) fun x => { x with atomic := some (o.askLayout (gridOf c) k s'.now) }) (le 8 k)) ∧
  (∀ c s o, canSpliceSet c s o = true → Does 0x0C13 (.spliceSet c) c s
    ((s.advance c.at_).modSplice (hIdx c.obj) fun o => { o with setPend := some (c.u 0 1, c.u 1 1) }) []) ∧
  (∀ c s o, onSplice 0x0C14 c s o = true → Answers 0x0C14 48 (.spliceQuery c) c s) ∧
  (∀ c s, takes 0x0C20 c s = true → Answers 0x0C20 32 (.spliceStats c) c s) ∧
  (∀ t fps k s, allocDue t fps k s = true → exec (.refreshAllocate t fps) s = .next ((s.advance t).allocate fps k)) ∧
  (∀ t tile form coded s x v, variantRuns tile form s x v = true →
    exec (.refreshVariantDone t tile form coded) s = .next (
      if tileCoded x coded true true then (s.advance t).variantMade tile form (codedPayload coded) x v
      else s.advance t)) ∧
  (∀ t flow syn k s o, assembling t flow k s o = true →
    let s' := s.advance t
    let take := s'.pictureTake o k
    let u := if (o.grantAt k).isSome && take.isNone then s'.pictureRetry flow else s'
    exec (.splicePictureAssemble t flow syn) s = .next (
      match (match take with | some (a, _) => a.grid.orElse fun _ => o.grid | none => o.grid) with
      | none => if o.ending.isSome then u.spliceFree flow else u.modSplice flow fun o => { o with next := none }
      | some g => u.pictureSend flow k syn o take g))

/-- The Dispatcher's commands set it, reset a flow and answer; its rows dispatch and complete tasks, pulse them, bring period
boundaries, fire timers, do the work of a tick, promote commands and look for stalemates (spec file 15). -/
def Obligations.DispatcherRowsComplete : Prop :=
  (∀ c s, canDispSet c s = true → Does 0x0D00 (.dispSet c) c s
    ((s.advance c.at_).modDisp fun d => { d with setPend := some (c.dflt 0 2 20, c.dflt 2 2 1000, c.dflt 4 2 100) }) []) ∧
  (∀ c s, canDispTenantSet c s = true → Does 0x0D01 (.dispTenantSet c) c s
    ((s.advance c.at_).modDisp fun d => { d with weightPend := d.weightPend ++ [(c.u 0 1, c.dflt 1 1 1)] }) []) ∧
  (∀ c s, takes 0x0D02 c s = true → Answers 0x0D02 64 (.dispQuery c) c s) ∧
  (∀ c s, canDispTenantQuery c s = true → Answers 0x0D03 32 (.dispTenantQuery c) c s) ∧
  (∀ c s, takes 0x0D04 c s = true → c.u 0 4 < 1048576 → Answers 0x0D04 32 (.dispKeyQuery c) c s) ∧
  (∀ c s, canKeyReset c s = true → let s' := s.advance c.at_
    Does 0x0D05 (.dispKeyReset c) c s (s'.keyReset (c.u 0 4))
      (le 4 (s'.keyTasks (c.u 0 4) fun st => st == .ready || st == .waiting).length)) ∧
  (∀ t idx unit s k, dispatchable t idx unit s k = true →
    exec (.taskDispatch t idx unit) s = .next ((s.advance t).dispatch idx unit k)) ∧
  (∀ t idx new timers s k, completes idx s k = true →
    exec (.taskComplete t idx new timers) s = .next (((s.advance t).taskDone idx).spawn new timers)) ∧
  (∀ t idx inst kind s, exec (.completionPulse t idx inst kind) s = .next ((s.advance t).pulse idx inst kind)) ∧
  (∀ t idx s k, tget s.disp.tasks idx = some k → k.grain = false →
    exec (.periodBoundary t idx) s = .next ((s.advance t).periodBoundary idx)) ∧
  (∀ t timer s x, tget s.disp.timers timer = some x → (s.advance t).timerDue timer x = true →
    exec (.timerFire t timer) s = .next ((s.advance t).timerFire timer x)) ∧
  (∀ t o sat links errs new timers s, let s' := s.advance t
    s'.time.lastTick < tickOf s'.now → exec (.dispatcherTick t o sat links errs new timers) s =
      .next (s'.tick (tickOf s'.now) o sat links errs new timers)) ∧
  (∀ t id r s e, promotable t id r s e = true → let s' := s.advance t
    exec (.promotion t id) s = .next (if (s.func e.whom.fn).topLevel < e.level then s'.promote id e.whom.fn (s'.promoDue r)
      else s'.makeUrgent id e (s'.promoDue r))) ∧
  (∀ t id s i, promotableTask t id s i = true → let s' := s.advance t
    exec (.promotion t id) s = .next (s'.promoteTask id (s'.promoDue i.ready) i)) ∧
  (∀ t s, exec (.stalemateCheck t) s =
    .next (s.disp.keys.foldl (fun (u : State) p => u.staleCheck p.1 p.2) (s.advance t)))

/-- The memory commands set it and answer; its rows take and issue requests, bring refreshes due, write back and scrub words,
enter self-refresh and fill bushels. A byte is stored under the keystream of its block's address and its line's version, which
every write of the line advances (spec file 16). -/
def Obligations.MemoryRowsComplete : Prop :=
  (∀ c s, takes 0x0E00 c s = true → c.rng 0 1 0 3 = true → c.zero 1 3 = true → Answers 0x0E00 48 (.memQuery c) c s) ∧
  (∀ c s, takes 0x0E01 c s = true → c.rng 0 1 0 6 = true → c.zero 1 3 = true → ∃ n, Answers 0x0E01 n (.memLogRead c) c s) ∧
  (∀ c s, canMemSet c s = true → Does 0x0E10 (.memSet c) c s
    ((s.advance c.at_).modMem fun m => { m with rhThresh := c.dflt 0 2 2048, srIdleMs := c.dflt 2 2 100 }) []) ∧
  (∀ c s, canMemTenantSet c s = true → Does 0x0E11 (.memTenantSet c) c s
    ((s.advance c.at_).modMem fun m => { m with max := setAt m.max (c.u 0 1) (c.u 4 4) }) []) ∧
  (∀ c s, canMemTenantQuery c s = true → Answers 0x0E12 16 (.memTenantQuery c) c s) ∧
  (∀ t k p l ecc s, k < 4 → p < 32 → s.dramLive = true →
    let u := woken (s.advance t) (arriving k p l)
    u.mem.selfRefresh = false →
    exec (.dramCommandIssue t k p l ecc) s = .next ((u.dramTake k p (arriving k p l)).dramNext k p ecc)) ∧
  (∀ t k p s, (s.advance t).refreshIsDue k p = true → let u := s.advance t
    exec (.refreshDue t k p) s = .next (u.modPc k p fun x => { x with
      owed := x.owed + 1, forced := max x.forced (x.owed + 1 - (s.stack k).ceil)
      dueAt := some (x.dueAt.getD u.now + (s.stack k).interval) })) ∧
  (∀ t log addr s e, writebackDue t log addr s e = true →
    exec (.scrubWriteback t log addr) s = .next ((s.advance t).writtenBack log addr)) ∧
  (∀ t log addr k ecc s, 4 ≤ log → log < 7 → let r := (s.advance t).free
    exec (.patrolScrub t log addr k ecc) s = .next (r.2.scrubSram log addr k ecc (r.1 % 65536))) ∧
  (∀ t log addr k ecc s, log < 4 → s.scrubIdle log addr = true → let r := (s.advance t).free
    exec (.patrolScrub t log addr k ecc) s = .next (r.2.scrubLine log addr ecc (r.1 % 65536))) ∧
  (∀ t s, (s.advance t).memIdle = true → let s' := s.advance t
    exec (.selfRefreshEnter t) s = .next ((s'.modMem fun m =>
      { m with selfRefresh := true, selfSince := s'.now }).raise 78 0 (le 4 (dtSec s'.now)))) ∧
  (∀ t s, let u := (s.advance t).modMem MemState.refilled
    exec (.bushelZeroFill t) s =
      .next (if 10486 ≤ u.freeBushels then u.modMem fun m => { m with low := false } else u)) ∧
  (∀ a v, (counterBlock a v).extractLsb' 96 32 = BitVec.ofNat 32 (a / 16) ∧
    (counterBlock a v).extractLsb' 70 26 = BitVec.ofNat 26 v ∧ (counterBlock a v).extractLsb' 0 70 = 0) ∧
  (∀ a, ∀ s : State, s.storedByte a = s.mem.keys[dramStack a]?.map fun k =>
    let version := (tget s.mem.versions (lineOf a)).getD 0
    s.mem.dram.read a ^^^ ((Config.dramAes k (counterBlock a version)) >>> (8 * (15 - a % 16))).setWidth 8) ∧
  (∀ r ecc line, ∀ s : State, twf s.mem.versions = true →
    let version (s : State) : Nat := (tget s.mem.versions line).getD 0
    version (s.dramWrite r ecc) = if line = lineOf r.addr then (version s + 1) % 2 ^ 26 else version s)

/-- The DMA commands answer and set a pause generator; its rows run a burst, end a descriptor, stop, resume and abort
channels, and move words through crossing queues (spec file 17). -/
def Obligations.DmaRowsComplete : Prop :=
  (∀ c s, takes 0x0F00 c s = true → c.rng 0 1 0 56 = true → c.u 1 1 < engineChans (c.u 0 1) → c.zero 2 2 = true →
    Answers 0x0F00 32 (.dmaQuery c) c s) ∧
  (∀ c s, takes 0x0F01 c s = true → c.rng 0 1 0 56 = true → c.zero 1 3 = true → Answers 0x0F01 32 (.dmaStats c) c s) ∧
  (∀ c s, canPfcGenSet c s = true → Does 0x0F10 (.pfcGenSet c) c s ((s.advance c.at_).pfcSet (c.u 0 1) (c.flag 1 1 0) (c.u 2 1)
    (c.dflt 4 4 1572864) (c.dflt 8 4 1048576)) []) ∧
  (∀ t e ch x s, engineLive e ch s = true → let u := (s.advance t).dmaIn e x
    if x.stateErr then exec (.dmaBurst t e ch x) s = .next (u.engineFail e ch)
    else (u.dmaStart e ch x.start).burstReady e ch x.request = true →
      exec (.dmaBurst t e ch x) s = .next ((u.dmaStart e ch x.start).dmaBurst e ch x)) ∧
  (∀ t e ch s, descEnds e ch s = true →
    exec (.dmaDescriptorDone t e ch) s = .next ((s.advance t).descDone e ch (s.chan e ch))) ∧
  (∀ t e ch s, (s.chan e ch).st = 1 → exec (.dmaStopRequest t e ch) s = .next (
    if ch < 8 then (s.advance t).dmaPause e ch else (s.advance t).dmaAbort e ch 2)) ∧
  (∀ t e ch abort s, let u := (s.advance t).haltLong
    let c := u.chan e ch
    c.st = 3 ∨ c.st = 5 → exec (.dmaResume t e ch abort) s = .next (
      if abort then u.dmaAbort e ch (if c.st = 5 then 3 else 2)
      else if (c.cause = 5 || c.unread) && c.st = 5 then u.loadDesc e ch c.desc
      else u.modChan e ch fun c => { c with st := 1, cause := 0, irq := false })) ∧
  (∀ t r w q word s, isQueue r w q = true → let u := (s.advance t).queueChecks
    let x := u.crossQ (queueKey r w q)
    let full := x.looksFull w (queueDepth r w q) u.now (bit u.free.1 0)
    exec (.queueWrite t r w q word) s = .next (u.free.2.setCrossQ (queueKey r w q) (x.put full word u.now))) ∧
  (∀ t r w q s, isQueue r w q = true → let u := (s.advance t).queueChecks
    let x := u.crossQ (queueKey r w q)
    let d := queueDepth r w q
    exec (.queueRead t r w q) s = .next (
      if x.looksEmpty r u.now (bit u.free.1 0) then u.free.2.emit (.queueRead r w q false 0)
      else (u.free.2.setCrossQ (queueKey r w q) (CrossQ.settle w d u.now (bit u.free.1 1) 1 (x.pull d u.now))).emit
        (.queueRead r w q true ((x.words.map fun v => v.1).headD 0)))) ∧
  (∀ w d now late (x : CrossQ), d ≤ x.words.length → x.looksFull w d now late = true) ∧
  (∀ r now late (x : CrossQ), x.words = [] → x.looksEmpty r now late = true)

/-- The vault's commands report, provision, and hold keys and certificates; its rows issue, renew and expire certificates,
retransmit flights and test the random generator (spec file 18). -/
def Obligations.TrustRowsComplete : Prop :=
  (∀ c s, asksTenant 0x1000 c s = true → c.zero 1 3 = true → let r := ((s.advance c.at_).pkQueueOps 0 3).free
    Does 0x1000 (.attestReport c) c s r.2 (r.2.attestReport (c.u 0 1) (c.bytes 4 32) r.1)) ∧
  (∀ c s, takes 0x1001 c s = true → Does 0x1001 (.idCertRead c) c s (s.advance c.at_) (Config.idCertificate.take 2048)) ∧
  (∀ c s, takes 0x1010 c s = true → provisionFields c = true →
    Does 0x1010 (.provisionSet c) c s ((s.advance c.at_).modTrust fun r => { r with
      enrolled := true, groupId := c.bytes 4 16, kernelKey := if c.flag 0 1 0 then some (c.bytes 20 64) else none }) []) ∧
  (∀ c s, takes 0x1011 c s = true →
    Does 0x1011 (.provisionDone c) c s (s.advance c.at_).sealVault (le 4 (s.trust.provisionCount + 1))) ∧
  (∀ c s, takes 0x1012 c s = true → c.u 0 4 = 0x50524F56 → s.trust.meshLatch = false →
    Does 0x1012 (.trustReprovision c) c s (s.advance c.at_).reprovision []) ∧
  (∀ c s, canPeerMeas c s = true → Does 0x1013 (.peerMeasSet c) c s ((s.advance c.at_).modTrust fun r => { r with
    approved := (List.range (c.u 0 1)).map fun i => c.bytes (8 + 48 * i) 48 }) []) ∧
  (∀ c s, canDtlsKey c s = true → Does 0x1020 (.dtlsKeyCreate c) c s ((s.advance c.at_).newDtlsKey c.fn (c.u 0 1))
    (le 2 (s.dtlsKeyOf c.fn).nextGen ++ zeros 2)) ∧
  (∀ c s k x, canCertRead c s k x = true → Does 0x1021 (.dtlsCertRead c) c s (s.advance c.at_) (x.cert.take 1024)) ∧
  (∀ c s l g, canDtlsLeg c s l g = true → Does 0x1022 (.dtlsLegSet c) c s
    ((s.advance c.at_).dtlsBind (hIdx c.obj) g.gen c) (le 2 g.gen ++ zeros 2)) ∧
  (∀ c s, canKeyImport c s = true →
    let r := (s.advance c.at_).importKey c.fn (c.u 0 1) (c.bytes 4 48) (c.bytes 52 48)
    Does 0x1030 (.keyImport c) c s r.2 (le 4 (mkHandle 13 r.1))) ∧
  (∀ c s, canKeyDelete c s = true → Does 0x1031 (.keyDelete c) c s
    ((s.advance c.at_).modTrust fun r => { r with keys := tdel r.keys (hIdx c.obj) }) []) ∧
  (∀ c s l k, canTrunkKey c s l k = true → let u := (s.advance c.at_).modLeg (hIdx c.obj) fun l => { l with typeObj := c.u 0 4 }
    Does 0x1032 (.trunkKeySet c) c s ((u.installKeys (hIdx c.obj) k.profile k.rx k.tx).legConnected (hIdx c.obj)) []) ∧
  (∀ c s, canTamperSet c s = true → Does 0x1040 (.tamperSet c) c s
    ((s.advance c.at_).modTrust fun r => { r with classes := setAt r.classes (c.u 0 1) (c.u 1 1) }) []) ∧
  (∀ c s, takes 0x1041 c s = true → ∃ pay, Does 0x1041 (.tamperQuery c) c s (s.advance c.at_).pkUpdate pay) ∧
  (∀ c s, takes 0x1050 c s = true → c.rng 0 1 1 2 = true → c.zero 1 3 = true → let hub := c.u 0 1 == 1
    let new := s.committed hub
    Does 0x1050 (.imageCommit c) c s (((s.advance c.at_).modTrust fun r =>
      if hub then { r with ctrHub := new } else { r with ctrCluster := new }).raise 47 0 (le 1 (c.u 0 1) ++ le 2 new))
      (le 2 new ++ zeros 2)) ∧
  (∀ t tenant s k, tget s.trust.dtls tenant = some k → k.measured ≠ s.measurements → s.trust.rngFailed = false →
    exec (.certReissue t tenant) s = .next ((s.advance t).issueCert tenant 1)) ∧
  (∀ t tenant gen s g, renewalDue t tenant gen s g = true → exec (.certRenewal t tenant gen) s =
    .next (((s.advance t).modGen tenant gen fun g => { g with renewed := true }).issueCert tenant 3)) ∧
  (∀ t tenant gen s g, expiryDue t tenant gen s g = true → exec (.certificateExpiry t tenant gen) s =
    .next (((s.advance t).modGen tenant gen fun g => { g with expired := true }).closeBound tenant gen 5)) ∧
  (∀ t i s l, flightDue t i s l = true → l.state = .connecting → exec (.dtlsFlightRetransmit t i) s =
    .next (((s.advance t).modDtls i fun d => { d with retryS := min 8 (2 * d.retryS) }).sendFlight i)) ∧
  (∀ t f s, exec (.rngHealthTest t f) s = .next (match f with
    | some k => ((s.advance t).modTrust fun r => { r with rngFailed := true }).raise 51 0 (le 1 (k % 2))
    | none => (s.advance t).modTrust fun r => { r with rngFailed := false }))

/-- The cipher commands pin a flow's context and answer; the rows load a clear context, end the processing of received and of
sent packets, and run the self-test (spec file 19). -/
def Obligations.CipherRowsComplete : Prop :=
  (∀ c s, takes 0x1100 c s = true → Answers 0x1100 32 (.cipherFlowQuery c) c s) ∧
  (∀ c s, canCipherPin c s = true → Does 0x1101 (.cipherPin c) c s ((s.advance c.at_).modFlow (hIdx c.obj) fun f =>
    { f with cip := { f.cip with pinWanted := c.flag 0 4 0 } }) []) ∧
  (∀ c s, takes 0x1110 c s = true → Does 0x1110 (.cipherStats c) c s (s.advance c.at_) (s.cip.counters.flatMap (le 8))) ∧
  (∀ t h ok s, loadDue h s = true → exec (.clearContextLoad t h ok) s = .next ((s.advance t).loadClear h ok)) ∧
  (∀ t id auth fcs ecc s j, let u := (s.advance t).cipWindow.cipRun
    jobReady u.cip.inQ id ecc u j = true →
    exec (.cipherVerdict t id auth fcs ecc) s = .next ((u.slotEcc j.owner ecc).2.verdict j auth fcs)) ∧
  (∀ t id ecc s j, let u := (s.advance t).cipWindow.cipRun
    jobReady u.cip.outQ id ecc u j = true →
    exec (.cipherEncryptDone t id ecc) s = .next ((u.slotEcc j.owner ecc).2.encrypted j)) ∧
  (∀ t fails s, 4 ≤ s.sys.mode.code → s.sys.inReset = false → exec (.cipherSelftest t fails) s =
    .next (fails.foldl (fun (u : State) f =>
      if !f.2.2 || !(decide (f.1 < 3) && decide (f.2.1 < if f.1 = 2 then 16 else 48)) then u
      else (u.fatal 5 (f.1 * 256 + f.2.1)).raiseRec 59 0 (le 1 f.1 ++ le 1 f.2.1) true) (s.advance t)))

/-- The time commands select the reference, permit a step, name seconds and set PPS_OUT and UTC_OFFSET; the rows apply a
step, a leap second and edges, send Sync, and find the reference lost (spec file 20). -/
def Obligations.TimeRowsComplete : Prop :=
  (∀ c s, canTimeRef c s = true → let r := (s.advance c.at_).refSettings c
    Does 0x1200 (.timeRefSet c) c s (if s.time.ref = c.u 0 1 then r else r.refChange (s.advance c.at_).time) []) ∧
  (∀ c s, takes 0x1201 c s = true → let s' := s.advance c.at_
    s'.stepAllowed = true → let d := -(meanOf s.time.offsets)
    let at_ := (tickOf s'.now + 1) * tickU
    Does 0x1201 (.timeAllowStep c) c s (s'.modTime fun u => { u with stepAt := some (at_, d) })
      (leI 8 (nsOf d) ++ le 8 (s'.grainAfterStep (moved at_ d)))) ∧
  (∀ c s, takes 0x1202 c s = true → Does 0x1202 (.timePpsSeconds c) c s
    ((s.advance c.at_).modTime fun u => { u with ppsNamed := some (c.u 0 8) }) []) ∧
  (∀ c s, canPpsOut c s = true → Does 0x1203 (.ppsOutSet c) c s
    ((s.advance c.at_).modTime fun u => { u with ppsPending := some (c.u 0 1, c.dflt 2 2 100) }) []) ∧
  (∀ c s, canUtc c s = true → Does 0x1204 (.timeUtcSet c) c s
    ((s.advance c.at_).utcChange 1 fun u => { u with opUtc := c.u 0 2 }) []) ∧
  (∀ c s, takes 0x1205 c s = true → Answers 0x1205 48 (.timeQuery c) c s) ∧
  (∀ t s, gmSilent t s = true → exec (.referenceLost t) s =
    .next (((s.advance t).modTime fun u => { u with gm := none }).ptpPort 4).holdIfLocked) ∧
  (∀ t l s, ppsSilent t l s = true → exec (.referenceLost t) s =
    .next (((s.advance t).modTime fun u => { u with ppsLost := true }).raise 264 0 (le 8 (dtSec l))).holdIfLocked) ∧
  (∀ t s, exec (.ppsInEdge t) s = .next (let u := (s.advance t).ppsTake
    if s.time.ref = 2 then u.ppsMeasure (s.advance t).time else u)) ∧
  (∀ t s at_ d, s.time.stepAt = some (at_, d) → let s' := s.advance t
    at_ ≤ s'.now → exec (.dtStepApply t) s = .next ((s'.dtStep d).raise 257 0
      (leI 8 (nsOf d) ++ le 8 (s'.grainAfterStep (moved s'.now d)))).enterSlew) ∧
  (∀ t s kind sec, s.time.leap = some (kind, sec) → sec ≤ dtSec (s.advance t).now →
    exec (.leapSecond t) s = .next ((s.advance t).leapNow kind)) ∧
  (∀ t s, syncDue t s = true → let u := (s.advance t).time
    let r := (s.advance t).ptpSync u
    exec (.ptpSyncSend t) s =
      .next (if r.now < u.announceSent + logInterval u.logAnnounce then r else r.ptpAnnounce u)) ∧
  (∀ t s, (s.advance t).now % secU = 0 →
    exec (.ppsOutEdge t) s = .next ((s.advance t).modTime TimeUnit.takePps).ppsPulse)

/-- The repair commands begin castlings and bench tests, set clusters, write and activate images and move homes; the rows
carry castlings, bench tests, reloads and images to their ends (spec file 22). -/
def Obligations.RepairRowsComplete : Prop :=
  (∀ c s k, canCastle c s k = true → let s' := s.advance c.at_
    let r := s'.startLong (replyTo s' 0x1300 c 0) 288 c.obj
    Begins 0x1300 (.castle c) c s (r.2.castleStart (hIdx c.obj) k r.1 false)) ∧
  (∀ c s, canBench c s = true → let s' := s.advance c.at_
    let r := s'.startLong (replyTo s' 0x1301 c 0) 291 c.obj
    Begins 0x1301 (.clusterBench c) c s (r.2.modCluster (hIdx c.obj) fun x => { x with benching := some r.1 })) ∧
  (∀ c s, canRetire c s = true → Does 0x1302 (.clusterSetState c) c s
    ((s.advance c.at_).retireCluster (hIdx c.obj) c.obj (s.cluster (hIdx c.obj)).state) []) ∧
  (∀ c s, canSpare c s = true → Does 0x1302 (.clusterSetState c) c s
    (((s.advance c.at_).modCluster (hIdx c.obj) fun y => { y with state := .spare, gated := true }).advanceEpoch
      (regionOf (hIdx c.obj)) 2) []) ∧
  (∀ c s, takes 0x1303 c s = true → Answers 0x1303 16 (.clusterQuery c) c s) ∧
  (∀ c s, takes 0x1310 c s = true → c.mask 0 1 3 = true → c.zero 1 3 = true → Does 0x1310 (.repairSet c) c s
    ((s.advance c.at_).modUnits fun u => { u with autoCastle := c.flag 0 1 0, autoBench := c.flag 0 1 1 }) []) ∧
  (∀ c s, canImageWrite c s = true → let s' := s.advance c.at_
    let r := s'.startLong (replyTo s' 0x1320 c 0) 297 0
    let job : ImageJob :=
      { id := r.1, dest := c.u 12 1, typ := 0, todo := [], skipped := [], paused := false, len := c.u 8 4 }
    Begins 0x1320 (.imageWrite c) c s (r.2.modUnits fun u => { u with writing := some job })) ∧
  (∀ c s i, canImageActivate c s i = true → let s' := s.advance c.at_
    exec (.imageActivate c) s = .next (match s'.imageFault i with
      | some k => (s'.raise 45 0 (le 1 (c.u 1 1) ++ le 1 (c.u 0 1) ++ le 1 k)).complete (replyTo s' 0x1321 c 0) (rejectSts k) []
      | none => (s'.activateImage (replyTo s' 0x1321 c 0) (c.u 0 1) (c.u 1 1)).reply (replyTo s' 0x1321 c 0) stAccepted [])) ∧
  (∀ c s, canHomeSet c s = true → Does 0x1330 (.confHomeSet c) c s
    ((s.advance c.at_).modConf (hIdx c.obj) fun x => { x with
      homePend := (x.homePend.filter fun p => p.2 != c.u 8 8) ++ [(c.u 0 1, c.u 8 8)] }) []) ∧
  (∀ t k x s, autoReady k x s = true → exec (.autoCastleStart t k) s = .next ((s.advance t).castleStart k x 0 false)) ∧
  (∀ t r failed s k, castlingPhase r 1 s k = true → exec (.castleWakeDone t r failed) s = .next (match failed with
    | some u => (s.advance t).targetFails r (u % 16) k
    | none => (s.advance t).castleReady r k)) ∧
  (∀ t r s k, castlingPhase r 2 s k = true → s.sys.inReset = false → isAudioCluster k.source = false →
    exec (.castleHandover t r none) s = .next (((s.advance t).free).2.handOver r ((s.advance t).free).1 k)) ∧
  (∀ t r s k, castlingPhase r 2 s k = true → s.sys.inReset = false → audioPoint t s k = true →
    let s' := s.advance t
    exec (.castleHandover t r none) s = .next (if s'.sourceRuns k.source then s'.castleDefer r (grainOf s'.now) k
      else s'.handOver r (grainOf s'.now + 1) k)) ∧
  (∀ t r s k, castlingPhase r 4 s k = true →
    (s.disp.tasks.any fun p => p.2.st == .dispatched && p.2.unit / 16 == k.source) = false →
    exec (.castleDone t r) s = .next ((s.advance t).castleEnd r k)) ∧
  (∀ t k failed s id, (s.cluster k).benching = some id → (s.cluster k).state = .bench →
    exec (.benchDone t k failed) s = .next ((s.advance t).benchEnd k id failed)) ∧
  (∀ t k u s, reloadable k u s = true → let e := s.units.epochs.getD (regionOf k) 0
    exec (.unitReload t k u) s = .next (((s.advance t).modCluster k fun x => { x with epochs := setAt x.epochs u e }).raise
      296 (mkHandle 12 k) (le 2 (k * 16 + u) ++ le 2 e))) ∧
  (∀ t img err s j, s.units.writing = some j →
    exec (.imageWritten t img err) s = .next ((s.advance t).imageEnd j img err)) ∧
  (∀ t us ok s j, pausable us s j = true → let u := (s.advance t).modUnits fun u =>
      { u with activating := some { j with paused := true, us := us, ok := ok } }
    exec (.hubPause t us ok) s = .next { u with cp := { u.cp with pausedTill := some (u.now + us * usU) } }) ∧
  (∀ t s j, s.units.activating = some j → j.typ = 2 → j.todo = [] → exec (.updateDone t) s =
    .next (((s.advance t).modUnits fun u => u.endActivation).finishLong j.id
      (if j.skipped.isEmpty then stDone else stWarn) (le 1 2 ++ le 1 (regionMask j.skipped)))) ∧
  (∀ t s j, s.units.activating = some j → j.typ = 1 → j.paused = true → (s.advance t).pauseOver = true →
    exec (.updateDone t) s = .next ((s.advance t).hubStarts j))

/-- The event and record commands set masks and read, seal and export the record, and an entry is committed by its row; the
field return's commands challenge, arm, enter and leave it by a token (spec file 23). -/
def Obligations.RecordRowsComplete : Prop :=
  (∀ c s, canEvtMask c s = true → Does 0x1400 (.evtMaskSet c) c s
    ((s.advance c.at_).modFunc c.fn fun f => { f with mask := setAt f.mask (c.u 0 1) (c.u 4 4) }) []) ∧
  (∀ c s, takes 0x1401 c s = true → Does 0x1401 (.evtMaskQuery c) c s (s.advance c.at_) ((s.func c.fn).mask.flatMap (le 4))) ∧
  (∀ c s, canRecordSet c s = true → let s' := s.advance c.at_
    Does 0x1410 (.recordSet c) c s { s' with rcd := { s'.rcd with
      mask := (List.range 10).map fun g => c.u (4 * g) 4, rate := if c.u 40 2 = 0xFFFF then 100 else c.u 40 2 } } []) ∧
  (∀ c s, takes 0x1411 c s = true → Answers 0x1411 32 (.recordQuery c) c s) ∧
  (∀ c s, canRecordRead c s = true → Does 0x1412 (.recordRead c) c s (s.advance c.at_)
    (((s.rcd.range (c.u 0 4) (s.rcd.newest.getD (c.u 0 4))).take (c.u 4 2)).flatMap fun x => x.bytes)) ∧
  (∀ c s a b, canExport c s a b = true → let s' := s.advance c.at_
    Begins 0x1413 (.recordExport c) c s (s'.exportBegin (replyTo s' 0x1413 c 0) c a b)) ∧
  (∀ c s, takes 0x1414 c s = true → let s' := s.advance c.at_
    exec (.recordSeal c) s = .next (s'.recordSeal 2 (some (replyTo s' 0x1414 c 0)))) ∧
  (∀ t n bad fail s j, s.rcd.exporting = some j →
    exec (.recordExported t n bad fail) s = .next ((s.advance t).exportEnd j n bad fail)) ∧
  (∀ t s, exec (.recordCommit t) s = .next (s.advance t).commitNext) ∧
  (∀ c s, takes 0x1420 c s = true → s.trust.rngFailed = false → let r := (s.advance c.at_).free
    Does 0x1420 (.returnChallenge c) c s { r.2 with rcd := { r.2.rcd with challenge := some (Config.challenge r.1) } }
      (be 32 (Config.challenge r.1).toNat ++ le 4 iwId ++ zeros 12 ++ idHash)) ∧
  (∀ c s, takes 0x1421 c s = true → scopeOk c = true →
    if s.tokenOk c && (c.flag 0 4 0 || c.flag 0 4 2) then
      Does 0x1421 (.returnArm c) c s ((s.advance c.at_).spendChallenge.armReturn c) []
    else let s' := s.advance c.at_
      exec (.returnArm c) s =
        .next ((s'.raise 315 0 (le 2 0x1421)).complete (replyTo s' 0x1421 c 0) stTokenInvalid [])) ∧
  (∀ c s, takes 0x1422 c s = true → c.u 0 4 = 0x4E525452 → s.confs = [] →
    Does 0x1422 (.returnEnter c) c s ((s.advance c.at_).enterReturn 0) []) ∧
  (∀ c s, takes 0x1423 c s = true → scopeOk c = true →
    if s.tokenOk c && c.flag 0 4 3 then
      Does 0x1423 (.returnExit c) c s ((s.advance c.at_).spendChallenge.leaveReturn c) []
    else let s' := s.advance c.at_
      exec (.returnExit c) s =
        .next ((s'.raise 315 0 (le 2 0x1423)).complete (replyTo s' 0x1423 c 0) stTokenInvalid []))

/-- The host commands set and report tenants, links, loopback tests and the alert mask; a test ends with its completion (spec
file 24). -/
def Obligations.HostCommandsComplete : Prop :=
  (∀ c s, canHostSet c s = true → Does 0x1500 (.tenantHostSet c) c s ((s.advance c.at_).modFunc (c.u 0 1) fun f =>
    { f with topLevel := c.u 1 1, waitLimitMs := c.dflt 4 4 1000 }) []) ∧
  (∀ c s, canHostQuery c s = true → Answers 0x1501 16 (.tenantHostQuery c) c s) ∧
  (∀ c s, takes 0x1510 c s = true → Answers 0x1510 32 (.hostLinkQuery c) c s) ∧
  (∀ c s, canLoopback c s = true → let s' := s.advance c.at_
    Begins 0x1520 (.diagLoopback c) c s (s'.loopbackBegin (replyTo s' 0x1520 c 0) c)) ∧
  (∀ c s, takes 0x1530 c s = true → c.zero 1 3 = true → let s' := s.advance c.at_
    Does 0x1530 (.mgmtSet c) c s { s' with host := { s'.host with mgmt := { s'.host.mgmt with alertMask := c.u 0 1 } } } []) ∧
  (∀ t p f e s id pat end_, loopEnds t p s id pat end_ = true → let s' := s.advance t
    exec (.loopbackDone t p f e) s = .next (State.finishLong { s' with host := { s'.host with pcie :=
      { s'.host.pcie with loopback := tdel s'.host.pcie.loopback p } } } id stDone (le 4 f ++ le 4 e)))

/-- Writes to the immediate window act on the queues and registers they name, each with its whole effect, an index out of
range counted as an error; a read of Q_STATUS returns it, and the identity, mode, health, event summary and fault registers
read as their tables say (spec files 24 and 03). -/
def Obligations.WindowRowsComplete : Prop :=
  (∀ t fn n v s, queueOpen fn n s = true → let s' := s.advance t
    exec (.sqDoorbellWrite t fn n v) s = .next (
      if 2 ^ ((s.func fn).sqs.getD n {}).sizeLog2 ≤ indexOf v then (s'.modFunc fn fun f => { f with
        sqs := modAt f.sqs n fun (q : Sq) => { q with dbErr := min 255 (q.dbErr + 1) } }).doorbellError fn n
      else s'.modFunc fn fun f => { f with sqs := modAt f.sqs n (Sq.ring (indexOf v)) })) ∧
  (∀ t fn n v s, queueOpen fn n s = true → let s' := s.advance t
    let q := (s.func fn).cqs.getD n {}
    exec (.cqHeadWrite t fn n v) s = .next (
      if 2 ^ q.sizeLog2 ≤ indexOf v then (s'.modFunc fn fun f => { f with
        cqs := modAt f.cqs n fun (q : Cq) => { q with dbErr := min 255 (q.dbErr + 1) } }).doorbellError fn (8 + n)
      else (s'.modFunc fn fun f => { f with cqs := modAt f.cqs n fun (q : Cq) => { q with head := indexOf v } }).uncover
        fn n q.head (indexOf v) (2 ^ q.sizeLog2))) ∧
  (∀ t fn v s, s.windowOpen fn = true → let s' := s.advance t
    let q := (s.func fn).eq
    exec (.eqHeadWrite t fn v) s = .next (
      if 2 ^ q.sizeLog2 ≤ indexOf v then (s'.modFunc fn fun f => { f with
        eq := { f.eq with dbErr := min 255 (f.eq.dbErr + 1) } }).doorbellError fn 16
      else (s'.modFunc fn fun f => { f with eq := { f.eq with head := indexOf v, fullSince := none } }).uncover
        fn 8 q.head (indexOf v) (2 ^ q.sizeLog2))) ∧
  (∀ t fn v s, s.windowOpen fn = true → exec (.evtSummaryClear t fn v) s =
    .next ((s.advance t).modFunc fn fun f => { f with summary := f.summary - (f.summary &&& v) })) ∧
  (∀ t fn v s, s.windowOpen fn = true → bit v 0 = true → let s' := s.advance t
    exec (.timeCapture t fn v) s = .next (s'.modFunc fn fun f =>
      { f with capSec := dtSec s'.now, capNs := dtNs s'.now, capSeq := (f.capSeq + 1) % 65536 })) ∧
  (∀ t fn n v s, queueOpen fn n s = true →
    exec (.sqEnable t fn n v) s = .next ((s.advance t).writeQCtl fn n (withEnable v true)) ∧
    exec (.sqDisable t fn n v) s = .next ((s.advance t).writeQCtl fn n (withEnable v false)) ∧
    exec (.cqEnable t fn n v) s = .next ((s.advance t).writeQCtl fn (8 + n) (withEnable v true)) ∧
    exec (.cqDisable t fn n v) s = .next ((s.advance t).writeQCtl fn (8 + n) (withEnable v false))) ∧
  (∀ t fn v s, s.windowOpen fn = true →
    exec (.eqEnable t fn v) s = .next ((s.advance t).writeQCtl fn 16 (withEnable v true)) ∧
    exec (.eqDisable t fn v) s = .next ((s.advance t).writeQCtl fn 16 (withEnable v false)) ∧
    exec (.bootGo t fn v) s = .next ((s.advance t).bootGo fn v)) ∧
  (∀ t fn q s, s.windowOpen fn = true → q ≤ 16 → let s' := s.advance t
    exec (.qStatusReadClear t fn q) s = .next ((s'.emit (.regRead (s'.barRead fn 0 (0x040C + 32 * q) 4))).modFunc fn (Func.clearDbErr q))) ∧
  (∀ s : State, ∀ fn q, q ≤ 16 → s.barRead fn 0 (0x040C + 32 * q) 4 = s.qStatus fn q) ∧
  (∀ s : State, ∀ fn, s.barRead fn 0 0 4 = iwId ∧ s.barRead fn 0 4 4 = s.iwMode ∧ s.barRead fn 0 8 4 = s.iwHealth ∧
    s.barRead fn 0 0x0C 4 = (s.func fn).summary ∧ s.barRead fn 0 0x24 4 = s.sys.faultWord) ∧
  (∀ t fn bar o size v s, aligned fn o size s = true →
    exec (.registerWrite t fn bar o size v) s = .next (
      let w := (s.advance t).barWrite fn bar o (v % 4294967296)
      if size = 8 then w.barWrite fn bar (o + 4) (v / 4294967296 % 4294967296) else w)) ∧
  (∀ fn o v, ∀ s : State, s.barWrite fn 2 o v = s.msixWrite fn o v ∧
    (0x0400 ≤ o → o < 0x0620 → s.barWrite fn 0 o v = s.queueRegWrite fn (o - 0x0400) v) ∧
    (fn = 0 → 0x0900 ≤ o → s.barWrite fn 0 o v = s.bootRegWrite o v)) ∧
  (∀ t fn v s, s.windowOpen fn = true → v < 16 →
    exec (.msixVectorUnmask t fn v) s = .next ((s.advance t).unmaskVector fn v)) ∧
  (∀ t fn v s, vectorFires t fn v s = true → exec (.msixCoalesceExpiry t fn v) s = .next ((s.advance t).fireVector fn v))

/-- The PCIe rows reset, enable and train functions and the link, and the management bus reads the snapshot from its pointer
(spec file 24). -/
def Obligations.LinkRowsComplete : Prop :=
  (∀ t fn s, s.fnExists fn = true → let u := (s.advance t).modFunc fn Func.flr
    exec (.pcieFlr t fn) s = .next (State.raise { u with host := { u.host with pcie :=
      { u.host.pcie with flrs := u.host.pcie.flrs + 1 } } } 26 0 (le 1 fn))) ∧
  (∀ t on n s, ¬(s.host.pcie.vfEnable = on ∧ s.host.pcie.numVfs = min n 63) → exec (.vfConfigChange t on n) s =
    .next (((s.advance t).setVfs on (min n 63)).raise 27 0 (le 1 (min n 63) ++ le 1 (b2n on)))) ∧
  (∀ t s, let s' := s.advance t
    let u : State := { s' with host := { s'.host with
      funcs := s'.host.funcs.map Func.flr,
      pcie := { s'.host.pcie with up := false, gen := 0, vfEnable := false, numVfs := 0,
                                  linkDowns := s'.host.pcie.linkDowns + 1 } } }
    exec (.pcieLinkReset t) s = .next (
      if s.host.pcie.vfEnable = true ∨ s.host.pcie.numVfs ≠ 0 then u.raise 27 0 (le 1 0 ++ le 1 0) else u)) ∧
  (∀ t g w s, let s' := s.advance t
    exec (.pcieLinkUp t g w) s = .next (State.raise { s' with host := { s'.host with pcie :=
      { s'.host.pcie with up := true, gen := g, width := w } } } 24 0 (le 1 g ++ le 1 w))) ∧
  (∀ t fn b m d s, s.fnExists fn = true → exec (.busMasterChange t fn b m d) s =
    .next ((((s.advance t).modFunc fn fun f => { f with busMaster := b, memSpace := m, d3 := d }).trimHeld fn).sendPending fn)) ∧
  (∀ t rails s, s.sys.pwrgd = true →
    exec (.mbSnapshotRefresh t rails) s = .next ((s.advance t).measureRails rails).takeSnapshot) ∧
  (∀ t p s, (s.advance t).mgmtAnswers = true →
    exec (.mbPointerWrite t p) s = .next ((s.advance t).modMgmt fun m => { m with pointer := p % 256 })) ∧
  (∀ t n s, (s.advance t).mgmtAnswers = true → let m := s.host.mgmt
    exec (.mbRead t n) s = .next (((s.advance t).emit (.mgmtRead
      ((List.range n).map fun i => m.snapshot.getD ((m.pointer + i) % 256) 0))).modMgmt fun m =>
        { m with pointer := (m.pointer + n) % 256 })) ∧
  (∀ t s, (s.advance t).mgmtAnswers = true → exec (.mbAlertResponse t) s = .next (s.advance t).alertResponse) ∧
  (∀ t l s, (s.advance t).mgmtAnswers = true → l < 2 →
    exec (.mbBusStuck t l) s = .next (((s.advance t).modMgmt fun m => { m with pointer := 0 }).raise 31 0 (le 1 l)))

/-- The command processor fetches, begins, times out and completes commands and writes events (spec file 03). -/
def Obligations.CommandProcessorRowsComplete : Prop :=
  (∀ t fn sq e s, fetchable t fn sq s = true → exec (.commandFetch t fn sq e) s =
    .next (if e.fetchErr then (s.advance t).fetchFails fn sq
      else (s.advance t).fetched fn sq (sqField e 0 2) (sqCmd e fn sq t))) ∧
  (∀ t id s e, tget s.cp.cmds id = some e → e.begun = false →
    exec (.commandExecuteStart t id) s = .next ((s.advance t).begin id e)) ∧
  (∀ t id s e, tget s.cp.cmds id = some e → e.begun = false → e.limit ≤ (s.advance t).now →
    exec (.commandTimeout t id) s = .next ((s.advance t).complete e.whom stTimeout [])) ∧
  (∀ t fn cq s c rest, writable t fn cq s c rest = true → exec (.completionWrite t fn cq) s =
    .next (((s.advance t).writeCqe fn cq ((s.func fn).cqs.getD cq {}) c rest).resetAfter c)) ∧
  (∀ t fn comp s e rest, eventReady t fn comp s e rest = true →
    exec (.eventWrite t fn comp) s = .next ((s.advance t).writeEqe fn comp (s.func fn).eq e rest))

/-- The supply and reset rows move the device between OFF, KEEPALIVE, reset and INIT, with the power-down of Table 21-5 where
there is one (spec file 21). -/
def Obligations.SupplyRowsComplete : Prop :=
  (∀ t s, let s' := s.advance t; exec (.vbatApplied t) s = .next (s'.modSys (vbatOn s'.now))) ∧
  (∀ t s, let s' := s.advance t
    exec (.vbatRemoved t) s = .next (if s'.sys.mode = .keepalive then (s'.modSys fun y =>
        { y with vbat := false, mode := .off, prev := .keepalive, cause := 1, modeDt := s'.now }).vbatGone
      else s'.modSys fun y => { y with vbat := false })) ∧
  (∀ t x s, s.sys.pwrgd = false → s.sys.mode.code < 2 → let s' := s.advance t
    let u := s'.modSys fun y => latchStraps x { y with pwrgd := true, pwrgdDt := s'.now }
    exec (.pwrgdRise t x) s = .next (if s.sys.resetN then u.enterInit 0 x else u)) ∧
  (∀ t p w d s, s.sys.pwrgd = true → let u := (s.advance t).modSys fun y => { y with pwrgd := false }
    exec (.pwrgdFall t p w d) s = .next (if u.sys.mode.code < 2 then u else u.mainsGone p w d)) ∧
  (∀ t s, s.sys.resetN = true → let u := (s.advance t).modSys fun y => { y with resetN := false }
    exec (.resetNAssert t) s = .next (if u.sys.mode.code < 2 then u else
      u.beginReset.modSys fun y => { y with devReset := none, resetCause := 1 })) ∧
  (∀ t x s, s.sys.resetN = false → let u := (s.advance t).modSys fun y => { y with resetN := true }
    exec (.resetNRelease t x) s = .next (if !u.sys.pwrgd then u else if u.sys.inReset then u.enterInit 1 x
      else if u.sys.mode.code < 2 then u.enterInit 0 x else u)) ∧
  (∀ t x s, devResetDue t s = true → exec (.devResetInitEntry t x) s =
    .next ((s.advance t).beginReset.enterInit 2 { x with
      mbAddr := s.sys.pinMbAddr, bootSrc := s.sys.pinBootSrc, refclk := s.sys.pinRefclk }))

/-- INIT ends in BOOT or in a fatal fault, and BOOT in the mode that its images, the record and the vault call for (spec file
21). -/
def Obligations.StartUpRowsComplete : Prop :=
  (∀ t us fail vault head s, startsUp .init s = true → let u := (s.advance t).headFound head
    exec (.initDone t us fail vault head) s = .next (match vault, fail with
      | some c, _ => (u.raise 50 0 (le 1 c)).fatal 6 c
      | none, some (k, c) => (u.raise 81 0 (le 1 k ++ le 1 c)).fatal 3 k
      | none, none => u.enterBoot us)) ∧
  (∀ t hub cluster failed us s, bootReady hub s = true → let s' := s.advance t
    exec (.bootDone t hub cluster failed us) s = .next (match s'.pickHub (s'.bootTries hub) with
      | (none, u, d) => if s.sys.bootSrc = 2 then u.rejectPush else u.fatal 8 d
      | (some (k, i), u, _) => u.bootCluster k i cluster failed us)) ∧
  (∀ t hub cluster failed us s, startsUp .boot s = true → s.sys.bootSrc = 3 →
    exec (.bootDone t hub cluster failed us) s = .next ((s.advance t).fatal 9 3))

/-- A supply warning begins a ride-through of a service mode, its stages shed load, and it ends with the supply's return or
with RIDE_MAX; in another mode the warning flushes the record and raises event 3 (spec file 21). -/
def Obligations.RideRowsComplete : Prop :=
  (∀ t s, rideStarts s = true →
    exec (.pfwNAssert t) s = .next ((s.advance t).modSys fun y => { y with pfwN := false }).rideBegin) ∧
  (∀ t s, s.sys.pfwN = true → s.sys.inReset = false → 2 ≤ s.sys.mode.code → s.sys.mode ≠ .service →
    s.sys.mode ≠ .degraded → let u := (s.advance t).modSys fun y => { y with pfwN := false }
    exec (.pfwNAssert t) s = .next (u.flushRecord.raise 3 0 (le 1 s.sys.mode.code))) ∧
  (∀ t r s, stageDue t r s = true → exec (.rideStage t) s = .next ((s.advance t).rideStage r)) ∧
  (∀ t r s, rideEnds t r s = true →
    exec (.pfwNRelease t) s = .next (((s.advance t).modSys fun y => { y with pfwN := true }).rideReturn r)) ∧
  (∀ t r s, rideExpires t r s = true → exec (.rideMaxExpired t) s = .next ((s.advance t).rideOver r))

/-- Temperature, power and rail measurements are taken in with the stages, events and faults they cause (R553, R697 to R699,
R765), and the die links replay, retrain and fail (spec files 21 and 01). -/
def Obligations.MeasurementRowsComplete : Prop :=
  (∀ t die temp bad s, powered t s = true → die < 3 →
    exec (.thermalSample t die temp bad) s = .next ((s.advance t).thermalTake die temp bad)) ∧
  (∀ t k temp s, powered t s = true → s.sys.mode.code ≠ 2 → k < 4 →
    exec (.dramTempSample t k temp) s = .next ((s.advance t).dramTempTake k temp)) ∧
  (∀ t w s, powered t s = true → exec (.powerEstimate t w) s = .next ((s.advance t).powerTake w)) ∧
  (∀ t rail mv s, railFails t rail s = true → let u := (s.advance t).modSys fun y =>
      { y with railMv := setAt y.railMv rail mv, railAlarm := setAt y.railAlarm rail true }
    exec (.railAlarm t rail mv) s = .next ((u.latchAlert 3).raise 16 0 (le 1 rail ++ le 2 mv))) ∧
  (∀ t rail mv s, railBack rail s = true → let u := (s.advance t).modSys fun y =>
      { y with railMv := setAt y.railMv rail mv, railAlarm := setAt y.railAlarm rail false }
    exec (.railCleared t rail mv) s = .next (u.raise 17 0 (le 1 rail ++ le 2 mv))) ∧
  (∀ t k again s, exec (.linkReplay t k again) s = .next ((s.advance t).modLink k fun l =>
    { l with replays := l.replays + 1, flitFails := if again then l.flitFails + 1 else 1 })) ∧
  (∀ t k l s, flitStuck k l s = true → exec (.linkRetrain t k) s = .next
    (((s.advance t).modLink k fun l => { l with training := true, retrains := l.retrains + 1 }).raise 302 0
      (le 1 k ++ le 4 l.replays ++ le 4 (l.retrains + 1)))) ∧
  (∀ t k l s, linkTraining k l s = true → let s' := s.advance t
    exec (.linkRetrainDone t k true) s = .next (s'.modLink k fun l =>
      { l with training := false, flitFails := 0, trainFails := 0 }) ∧
    let u := s'.modLink k fun l => { l with training := false, trainFails := l.trainFails + 1 }
    exec (.linkRetrainDone t k false) s = .next (if l.trainFails + 1 = 3 then u.fatal 1 k else u))

/-- Tamper detections respond, or are latched while main power is off, and an instruction the JTAG port does not have is a
detection (spec files 18 and 24). -/
def Obligations.TamperRowsComplete : Prop :=
  (∀ t k more active s, 2 ≤ s.sys.mode.code → k < 8 →
    exec (.tamperDetect t k more active) s = .next (State.detect
      ((s.advance t).modTrust fun r => { r with active := active % 256 })
      (k :: (more.filter fun d => decide (d.1 < 8) && decide (d.2 < usU)).map fun d => d.1))) ∧
  (∀ t k s, offDetection k s = true → let s' := s.advance t
    exec (.tamperWhileOff t k) s = .next (s'.modTrust fun r =>
      { r with latched := r.latched ++ [⟨k, s.trust.classes.getD k 0, dtSec s'.now⟩] })) ∧
  (∀ t ins s, let s' := s.advance t
    let u : State := { s' with host := { s'.host with mgmt := { s'.host.mgmt with
      jtag := if ins = 3 && s.sys.resetN then 0 else if ins < 4 then ins else 0 } } }
    exec (.jtagInstructionSelect t ins) s = .next (if ins < 4 ∨ s.sys.mode.code < 2 then u else u.detect [7]))

/-- Every register ALU instruction of a DSP core runs to the state of its operation (spec file 08). -/
def Obligations.DspAluRowsComplete : Prop := ∀ core dst a b sh acc x s,
  DspRow core (.alu 0x00 dst a b sh acc x) (.dspAdd core dst a b sh acc x {}) s ∧
  DspRow core (.alu 0x01 dst a b sh acc x) (.dspSub core dst a b sh acc x {}) s ∧
  DspRow core (.alu 0x02 dst a b sh acc x) (.dspAnd core dst a b sh acc x {}) s ∧
  DspRow core (.alu 0x03 dst a b sh acc x) (.dspOr core dst a b sh acc x {}) s ∧
  DspRow core (.alu 0x04 dst a b sh acc x) (.dspXor core dst a b sh acc x {}) s ∧
  DspRow core (.alu 0x05 dst a b sh acc x) (.dspAsr core dst a b sh acc x {}) s ∧
  DspRow core (.alu 0x06 dst a b sh acc x) (.dspLsr core dst a b sh acc x {}) s ∧
  DspRow core (.alu 0x07 dst a b sh acc x) (.dspLsl core dst a b sh acc x {}) s ∧
  DspRow core (.alu 0x08 dst a b sh acc x) (.dspAbs core dst a b sh acc x {}) s ∧
  DspRow core (.alu 0x09 dst a b sh acc x) (.dspMin core dst a b sh acc x {}) s ∧
  DspRow core (.alu 0x0A dst a b sh acc x) (.dspMax core dst a b sh acc x {}) s ∧
  DspRow core (.alu 0x0B dst a b sh acc x) (.dspCmp core dst a b sh acc x {}) s ∧
  DspRow core (.alu 0x0C dst a b sh acc x) (.dspNeg core dst a b sh acc x {}) s ∧
  DspRow core (.alu 0x0D dst a b sh acc x) (.dspSat24 core dst a b sh acc x {}) s ∧
  DspRow core (.alu 0x10 dst a b sh acc x) (.dspAdda core dst a b sh acc x {}) s ∧
  DspRow core (.alu 0x11 dst a b sh acc x) (.dspShla core dst a b sh acc x {}) s ∧
  DspRow core (.alu 0x12 dst a b sh acc x) (.dspShra core dst a b sh acc x {}) s ∧
  DspRow core (.alu 0x13 dst a b sh acc x) (.dspMova core dst a b sh acc x {}) s ∧
  DspRow core (.alu 0x14 dst a b sh acc x) (.dspMovas core dst a b sh acc x {}) s ∧
  DspRow core (.alu 0x15 dst a b sh acc x) (.dspMovda core dst a b sh acc x {}) s ∧
  DspRow core (.alu 0x16 dst a b sh acc x) (.dspClraov core dst a b sh acc x {}) s

/-- The multiply slots run in either slot of a DUAL instruction, and its moves load and store, an error that the memory
corrects being counted for its cluster and logged with the SRAM of its die (the address of the entry is the choice of log
entry 112), one it cannot correct, or one of the instruction's word, ending in the trap (spec files 08 and 16). -/
def Obligations.DspDualRowsComplete : Prop :=
  (∀ core inB acc a b other x y s,
    DspRow core (dualWith 1 inB acc a b other x y) (.dspMac core inB acc a b other x y {}) s ∧
    DspRow core (dualWith 2 inB acc a b other x y) (.dspMsu core inB acc a b other x y {}) s ∧
    DspRow core (dualWith 3 inB acc a b other x y) (.dspMpy core inB acc a b other x y {}) s ∧
    DspRow core (dualWith 4 inB acc a b other x y) (.dspMpyn core inB acc a b other x y {}) s ∧
    DspRow core (dualWith 5 inB acc a b other x y) (.dspClra core inB acc a b other x y {}) s) ∧
  (∀ core inY d p mod a b other s,
    let m (store : Bool) : DspMove := ⟨store, d, p, mod⟩
    let i (store : Bool) : DspIns := if inY then .dual a b other (m store) else .dual a b (m store) other
    DspRow core (i false) (.dspMoveLoad core inY d p mod a b other {} .good) s ∧
    DspRow core (i true) (.dspMoveStore core inY d p mod a b other {} .good) s ∧
    (dspRuns core (i false) s = true → mod ≠ 7 → ∀ w bit, let u := s.enterInvocation core
      let addr := ((u.core core).addrP p).toNat
      let mem := if inY then 2 else 1
      exec (.dspMoveLoad core inY d p mod a b other {} (.corrected w bit)) s =
        .next ((u.dspCorrected core mem addr bit).dspRun core (i false)) ∧
      exec (.dspMoveLoad core inY d p mod a b other {} (.uncorrectable w)) s = .next (u.dspTrap core mem addr)) ∧
    (dspIssues core (i false) s = true → ∀ w bit, let u := s.enterInvocation core
      let pc := 8 * (u.core core).pc
      exec (.dspMoveLoad core inY d p mod a b other { fetch := .uncorrectable w } .good) s = .next (u.dspTrap core 0 pc) ∧
      exec (.dspMoveLoad core inY d p mod a b other { fetch := .corrected w bit } .good) s =
        .next ((u.dspCorrected core 0 pc bit).dspRun core (i false)))) ∧
  (∀ core mem a bitNo, ∀ s : State, core < 288 → coreCluster core / 28 < s.mem.sramLogs.length →
    let t := s.dspCorrected core mem a bitNo
    let k := coreCluster core
    ((tget t.aud.dsp.stats k).getD {}).corrected = ((tget s.aud.dsp.stats k).getD {}).corrected + 1 ∧
    (t.entryOf (4 + k / 28) (localAddr core mem (a / 8 * 8))).isSome = true ∧
    ((s.errLog (4 + k / 28)).length ≤ 64 → (t.errLog (4 + k / 28)).length ≤ 64))

/-- Immediate operations and control operations run; HALT ends the invocation with its output samples, or by a kernel fault
when D0 is not 0 (spec file 08). -/
def Obligations.DspControlRowsComplete : Prop :=
  (∀ core dst src v s,
    DspRow core (.imm 0 dst src v) (.dspLdiD core dst src v {}) s ∧
    DspRow core (.imm 1 dst src v) (.dspLdiP core dst src v {}) s ∧
    DspRow core (.imm 2 dst src v) (.dspLdiM core dst src v {}) s ∧
    DspRow core (.imm 3 dst src v) (.dspLdiLc core dst src v {}) s ∧
    DspRow core (.imm 4 dst src v) (.dspAddiD core dst src v {}) s ∧
    DspRow core (.imm 5 dst src v) (.dspAddiP core dst src v {}) s ∧
    DspRow core (.imm 6 dst src v) (.dspMovsTo core dst src v {}) s ∧
    DspRow core (.imm 7 dst src v) (.dspMovsFrom core dst src v {}) s ∧
    DspRow core (.imm 8 dst src v) (.dspRot core dst src v {}) s) ∧
  (∀ core cond cnt addr s,
    DspRow core (.ctrl 0 cond cnt addr) (.dspNop core cond cnt addr {}) s ∧
    DspRow core (.ctrl 1 cond cnt addr) (.dspBr core cond cnt addr {}) s ∧
    DspRow core (.ctrl 2 cond cnt addr) (.dspBrc core cond cnt addr {}) s ∧
    DspRow core (.ctrl 3 cond cnt addr) (.dspCall core cond cnt addr {}) s ∧
    DspRow core (.ctrl 4 cond cnt addr) (.dspRet core cond cnt addr {}) s ∧
    DspRow core (.ctrl 5 cond cnt addr) (.dspLoop core cond cnt addr {}) s ∧
    DspRow core (.ctrl 6 cond cnt addr) (.dspLoopr core cond cnt addr {}) s ∧
    DspRow core (.ctrl 7 cond cnt addr) (.dspRep core cond cnt addr {}) s ∧
    DspRow core (.ctrl 8 cond cnt addr) (.dspBreak core cond cnt addr {}) s) ∧
  (∀ core v s, dspIssues core (.ctrl 9 0 0 0) s = true → invOn core s = some v →
    let k := (s.enterInvocation core).core core
    let u := dspNext core (.ctrl 9 0 0 0) s
    let w : Invocation := { v with cycles := v.cycles + 1 }
    exec (.dspHalt core 0 0 0 {}) s = .next (if k.readD 0 = 0 then u.endInvocation core w (outputSamples k.ymem v.output)
      else u.kernelFault core 4)) ∧
  (∀ core s, dspIssues core (.ctrl 9 0 0 0) s = true → invOn core s = none →
    exec (.dspHalt core 0 0 0 {}) s = .next (dspNext core (.ctrl 9 0 0 0) s))

/-- A loaded kernel image is checked and stored or refused, and the watchdog aborts a kernel that overruns, at the next
boundary where an interrupt may come (spec file 08). -/
def Obligations.KernelRowsComplete : Prop :=
  (∀ t id image s j, loadingKernel id j s = true → let u := (s.advance t).loadGone id
    exec (.kernelLoaded t id image true) s = .next (u.finishLong id stIntegrity []) ∧
    exec (.kernelLoaded t id image false) s = .next (match s.trust.kernelKey with
      | none => u.finishLong id stNotPermitted []
      | some key => match kernelOf key (padTo j.len image) j.mask with
        | .error e => u.finishLong id e []
        | .ok k => u.storeKernel id k)) ∧
  (∀ t core v s, overrun t core v s = true → let s' := s.advance t
    exec (.kernelWatchdog t core) s = .next (if (s'.core core).eligible then s'.watchdogAbort core v
      else s'.setCore core { s'.core core with inv := some { v with watch := true } }))

/-- Frames are received, contexts fetched, and ring entries and DTLS records taken to what they are for (spec files 04 and
18). -/
def Obligations.IngressRowsComplete : Prop :=
  (∀ t port f buf s, s.receives port = true →
    exec (.frameReceive t port f buf) s = .next ((s.advance t).frameArrived port f buf)) ∧
  (∀ t flow s, (s.missOf flow).isEmpty = false →
    exec (.flowCacheFill t flow) s = .next ((s.advance t).cacheFill flow)) ∧
  (∀ t pipe cls parse e s, presents t pipe cls e s = true →
    exec (.ringRead t pipe parse) s = .next (((s.advance t).ringDrop pipe cls e.id).ringTake e parse)) ∧
  (∀ t leg evt pipe id s, dtlsFirst t leg pipe id s = true →
    exec (.dtlsRecordProcess t leg evt) s = .next (((s.advance t).ringDrop pipe 0 id).dtlsEvent leg evt)) ∧
  (∀ t flow f s, nackDue t flow f s = true →
    exec (.nackTimer t flow) s = .next ((s.advance t).nackSend flow f)) ∧
  (∀ t flow f s, gapOver t flow f s = true → let s' := s.advance t
    exec (.reorderAbandon t flow) s = .next ((s'.abandon flow (s'.gapsOver f)).drain flow)) ∧
  (∀ t flow p f s, pliOver t flow p f s = true →
    exec (.pliTimeout t flow) s = .next (
      let s' := s.advance t
      let u := if f.keyReq.awaits then s'.pliFailed flow else s'
      if u.pliEarly flow then u else u.sendPli flow false)) ∧
  (∀ t flow f s, mediaSilent t flow f s = true →
    exec (.mediaTimeout t flow) s = .next (((s.advance t).modFlow flow fun f => { f with timedOut := true }).raise 117
      (flowH flow) (le 4 (dtSec f.lastArr))))

/-- A leg that does not connect, loses its consent or has drained closes or is freed, and its reports, feedback and estimates
go out when they are due (spec files 02, 04 and 05). -/
def Obligations.LegTimerRowsComplete : Prop :=
  (∀ t leg l s, connectOver t leg l s = true →
    exec (.connectLimitExpiry t leg) s = .next ((s.advance t).connectFails leg l)) ∧
  (∀ t leg l s, consentOver t leg l s = true →
    exec (.consentLost t leg) s =
      .next (((s.advance t).raise 105 (legH leg) (le 4 (dtSec l.ice.lastValid))).closeLeg leg false [])) ∧
  (∀ (l : Leg) now, l.consentOver now = true ↔ l.typ = .endpoint ∧ (l.state = .active ∨ l.state = .held) ∧
    l.ice.consentFrom + l.ice.consentS * secU ≤ now) ∧
  (∀ t leg l s, legEnds t leg l s = true → exec (.legFreed t leg) s = .next ((s.advance t).freeLeg leg)) ∧
  (∀ t flow f s, switchOver t flow f s = true →
    exec (.switchTimeout t flow) s = .next (((s.advance t).modFlow flow fun x => { x with fwd := f.fwd.giveUp }).raise 121
      (flowH flow) (le 1 f.fwd.tgt.e ++ le 1 f.fwd.tgt.s ++ le 1 f.fwd.tgt.t))) ∧
  (∀ t leg l s, estDue t leg l s = true → exec (.estimatorRun t leg) s = .next ((s.advance t).estRun leg l)) ∧
  (∀ t leg l s, reportDue t leg l s = true → exec (.rtcpInterval t leg) s = .next ((s.advance t).rtcpReport leg l)) ∧
  (∀ t leg l s, feedbackDue t leg l s = true → let s' := s.advance t
    exec (.twccFeedbackSend t leg) s = .next ((s'.modLeg leg fun l =>
      { l with rtcp := { l.rtcp with twccSeen := [], twccDt := s'.now } }).sendFeedback leg
        (.twcc true (feedbackMarks l.rtcp.twccSeen))))

/-- Frames enter their queues and leave them, gates, pauses and parity blocks follow their instants, and links come up and go
down (spec file 06). -/
def Obligations.EgressRowsComplete : Prop :=
  (∀ t f rest s, s.net.ready = f :: rest → let s' := s.advance t
    let u : State := { s' with net := { s'.net with ready := rest } }
    exec (.egressEnqueue t) s = .next (match f.leg with | some l => u.enqueueLeg l f | none => u.enqueuePort f)) ∧
  (∀ t port s, exec (.egressSelect t port) s = .next ((s.advance t).select port)) ∧
  (∀ t leg l s, s.leg leg = some l → let s' := s.advance t
    let e := l.egr.refill s'.now
    let u := s'.modEgr leg fun _ => e
    exec (.shaperBucketZero t leg) s = .next (if e.bucket < 0 then u else u.select l.netPort)) ∧
  (∀ t s, (s.advance t).now % msU = 0 → exec (.queueSample t) s = .next (s.advance t).sampleAll) ∧
  (∀ t port s, let s' := s.advance t
    exec (.gateEntryChange t port) s = .next (s'.modPort port (LPort.gatesLive s'.now))) ∧
  (∀ t port g s, listStarts t port g s = true → exec (.gclStart t port) s =
    .next ((((s.advance t).modPort port (LPort.useList g)).raise 132 0
      (le 1 port ++ le 8 ((g.start - g.base) / g.cycle))).gateOversize port)) ∧
  (∀ t port s, exec (.pfcPauseExpiry t port) s = .next ((s.advance t).pauseEnd port)) ∧
  (∀ t port s, (s.advance t).pauseDue port = true → exec (.pfcPauseRepeat t port) s =
    .next ((s.advance t).pauseRepeat port)) ∧
  (∀ t flow x f s, blockOver t flow x f s = true →
    exec (.fecBlockFlush t flow) s = .next ((s.advance t).fecClose flow false)) ∧
  (∀ t port s, linkRises port s = true → let s' := s.advance t
    exec (.linkUp t port) s =
      .next ((s'.modPort port fun p => { p with up := true, freeAt := s'.now }).raise 96 0 (le 1 port))) ∧
  (∀ t port s, exec (.linkDown t port) s = .next ((s.advance t).linkLost port))

/-- A grain opens with all that is done at its boundary, a conference's playout grain is mixed once, a silent conference
parks and an audio cluster without work is powered down (spec files 07 and 01). -/
def Obligations.GrainRowsComplete : Prop :=
  (∀ t m x coded s, grainStarts t m s = true →
    exec (.grainOpen t x coded) s = .next ((s.advance t).grainBegins m x coded)) ∧
  (∀ t conf coded s g, (s.advance t).mixDue conf = some g →
    exec (.mixGrainComplete t conf false coded) s = .next ((s.advance t).mixForm conf g coded)) ∧
  (∀ t conf coded s, exec (.mixGrainComplete t conf true coded) s = .next ((s.advance t).mixLate conf)) ∧
  (∀ t conf s, s.parkDue conf = true → exec (.confPark t conf) s = .next ((s.advance t).parkConf conf)) ∧
  (∀ t c s, (s.advance t).gateDue c = true → exec (.clusterPowerGate t c) s = .next ((s.advance t).gateCluster c))

/-- The beacon receiver's peaks, sync words, timeouts, frames and periods have their effects (spec file 10). -/
def Obligations.BeaconRowsComplete : Prop :=
  (∀ t ch pos c before after p sync d s, peakSeen ch c before after d s = true →
    exec (.beaconPeak t ch pos c before after p sync) s = .next ((s.advance t).beaconPeak ch d pos p sync)) ∧
  (∀ t ch pos corr p d s, syncSeen ch pos corr d s = true →
    exec (.beaconSync t ch pos corr p) s = .next ((s.advance t).beaconLock ch d pos (strengthCode p))) ∧
  (∀ t ch d s, searchOver t ch d s = true →
    exec (.beaconSearchTimeout t ch) s = .next ((((s.advance t).toArmed ch).bcnCount 1).raiseAt 188 0 1001)) ∧
  (∀ t ch d x s, frameLocked ch x s = true →
    exec (.beaconFrameEnd t ch d) s = .next (((s.advance t).beaconFrame x d).toArmed ch)) ∧
  (∀ t leg ch d l s, periodOver t leg ch d l s = true →
    exec (.beaconPeriodEnd t leg) s = .next ((s.advance t).periodEnd leg ch d l.bcn))

/-! The machine as a whole. -/

/-- A step takes the command at the front of the queue and executes it with the queue's rest; on an empty queue the block
idles. That an empty queue idles is the model's choice (log entry 1). -/
def Obligations.StepTakesTheFront : Prop :=
  (∀ (c : Instr) (q : List Instr) (s : State), s.pending = c :: q → step s = exec c { s with pending := q }) ∧
  (∀ s : State, s.pending = [] → step s = .next s)

/-- The machine after reset: INIT, no conference, leg or flow, no command in progress, no record entry waiting, and the last
cluster of each region its spare (R29, R681, R700). -/
def Obligations.ResetIsIdle : Prop :=
  let s := State.reset
  s.sys.mode = .init ∧ s.sys.faultCause = 0 ∧ s.pending = [] ∧ s.cp.cmds = [] ∧ s.cp.longs = [] ∧
  s.confs = [] ∧ s.legs = [] ∧ s.flows = [] ∧ s.rcd.queue = [] ∧ s.aud.dsp.cores = [] ∧
  s.sys.rideMaxMs = 200 ∧ s.sys.stageMs = 20 ∧ s.sys.capW = 0 ∧
  (∀ r, r < 8 → (regionClusters r).map (fun c => decide ((s.cluster c).state = .spare)) =
    List.replicate ((regionClusters r).length - 1) false ++ [true])

/-- A command that fails a check of acceptance or of the start of execution completes with that check's status, a failure, and
changes nothing but the queues of its reply; where the queues are not served it does nothing at all (R98, R110, R111, R136). -/
def Obligations.RefusedCommandsHaveNoEffect : Prop :=
  ∀ i opc c s, commandOf i = some (opc, c) → let s' := s.advance c.at_
    (s'.serving = false → exec i s = .next s') ∧
    (∀ o sts, s'.serving = true → opInfo opc = some o →
      acceptCheck o c s' = some sts ∨ acceptCheck o c s' = none ∧ startCheck o c s' = some sts →
      0x100 ≤ sts ∧ exec i s = .next (s'.complete (replyTo s' opc c 0) sts []))

/-- Operator commands of another function than 0, and commands that the mode does not accept, have no effect (R14, R110). -/
def Obligations.GatedCommandsHaveNoEffect : Prop :=
  ∀ i opc c s o, commandOf i = some (opc, c) → let s' := s.advance c.at_
    s'.serving = true → opInfo opc = some o → (o.operator = true ∧ c.fn ≠ 0) ∨ o.accepts s.sys.mode = false →
    ∃ sts, 0x100 ≤ sts ∧ exec i s = .next (s'.complete (replyTo s' opc c 0) sts [])

/-- A reply touches only the completion queue it is written to and what the command processor keeps: all else of the machine is
as the command's own effect leaves it (R108, R120). -/
def Obligations.RepliesTouchOnlyTheirQueue : Prop :=
  ∀ opc i c s u pay, Does opc i c s u pay → ∃ t, exec i s = .next t ∧
    (∃ fs p, t = { u with host := { u.host with funcs := fs }, cp := p }) ∧
    (∀ fn, t.func fn = { u.func fn with cqs := (t.func fn).cqs }) ∧
    (∀ fn, fn ≠ c.fn → t.func fn = u.func fn)

/-- A query changes nothing: time goes on to its instant, and its reply is queued. -/
def Obligations.QueriesChangeNothing : Prop :=
  ∀ i opc c s t, commandOf i = some (opc, c) → opc ∈ queryOps → exec i s = .next t →
    ∃ fs p, t = { s.advance c.at_ with host := { s.host with funcs := fs }, cp := p }

/-- MODE_SET STANDBY fails with MODE_BUSY, event 9 raised and the mode kept, while any conference of any tenant exists (R686). -/
def Obligations.StandbyNeedsNoConference : Prop :=
  ∀ c s, takes 0x0000 c s = true → c.u 0 1 = 5 → c.zero 1 3 = true → s.sys.mode = .service ∨ s.sys.mode = .degraded →
    let s' := s.advance c.at_
    (s.confs ≠ [] → exec (.modeSet c) s = .next ((s'.raise 9 0 (le 1 5 ++ le 2 stModeBusy)).complete
      (replyTo s' 0x0000 c 0) stModeBusy [])) ∧
    (s.confs = [] → Does 0x0000 (.modeSet c) c s (s'.setMode .standby 0 0) [])

/-- EXTEST takes control of the pins only while RESET_N is low; otherwise it acts as BYPASS, and all else stays (R761). -/
def Obligations.ExtestNeedsReset : Prop :=
  ∀ t s, let s' := s.advance t
    let with_ (x : Nat) : State := { s' with host := { s'.host with mgmt := { s'.host.mgmt with jtag := x } } }
    (s.sys.resetN = false → exec (.jtagInstructionSelect t 3) s = .next (with_ 3)) ∧
    (s.sys.resetN = true → exec (.jtagInstructionSelect t 3) s = .next (with_ 0) ∧
      exec (.jtagInstructionSelect t 0) s = .next (with_ 0))

/-- A detection of class T2, with no response in progress, leaves no key in the vault, no memory key and the device in LOCKDOWN
(R631, R632, R635). -/
def Obligations.SecondClassTamperErases : Prop :=
  ∀ t k active s u, k < 8 → s.trust.classes.getD k 0 = 2 → s.trust.response = none → 3 ≤ s.sys.mode.code →
    s.sys.mode ≠ .lockdown → s.sys.mode ≠ .fieldReturn → exec (.tamperDetect t k [] active) s = .next u →
    u.trust.keys = [] ∧ u.mem.keys = [] ∧ u.trust.provisioned = false ∧ u.sys.mode = .lockdown ∧
    u.trust.lockdownHeld = true ∧ u.confs = []

/-- A write to the window of one function changes no submission queue and no completion queue of another function (R94, R99). -/
def Obligations.WindowsAreSeparate : Prop :=
  ∀ t fn n v s u f', f' ≠ fn → 
    (exec (.sqDoorbellWrite t fn n v) s = .next u ∨ exec (.cqHeadWrite t fn n v) s = .next u ∨
      exec (.eqHeadWrite t fn v) s = .next u ∨ exec (.sqEnable t fn n v) s = .next u ∨ exec (.sqDisable t fn n v) s = .next u ∨
      exec (.cqEnable t fn n v) s = .next u ∨ exec (.cqDisable t fn n v) s = .next u ∨ exec (.eqEnable t fn v) s = .next u ∨
      exec (.eqDisable t fn v) s = .next u ∨ exec (.qStatusReadClear t fn n) s = .next u ∨
      exec (.evtSummaryClear t fn v) s = .next u ∨ exec (.timeCapture t fn v) s = .next u) →
    (u.func f').sqs = (s.func f').sqs ∧ (u.func f').cqs = (s.func f').cqs ∧ (u.func f').eq.enable = (s.func f').eq.enable

/-! DSP instructions. -/

/-- A reference to Dn reaches physical register n for n from 0 to 15 and 16 + ((n − 16 + RRB) mod 16) for n from 16 to 31, as the
destination of LDI.D, which writes no other register, and as the sources of OR (R317). -/
def Obligations.RegistersRenameByBase : Prop :=
  let phys (k : DspCore) (n : Nat) : Nat := if n < 16 then n else 16 + (n - 16 + k.rrb) % 16
  (∀ core n v s, dspRuns core (.imm 0 n 0 v) s = true → (issuer core s).d.length = 32 → (issuer core s).late = [] →
    ∃ t, exec (.dspLdiD core n 0 v {}) s = .next t ∧
      let k := issuer core s
      let r := t.core core
      r.d.getD (phys k n) 0 = BitVec.ofNat 32 v ∧ (∀ q, q ≠ phys k n → r.d.getD q 0 = k.d.getD q 0) ∧
      r.acc = k.acc ∧ r.p = k.p ∧ r.m = k.m ∧ r.lc = k.lc ∧ r.aov = k.aov ∧ r.n = k.n ∧ r.z = k.z ∧ r.v = k.v ∧ r.c = k.c ∧
      r.xmem = k.xmem ∧ r.ymem = k.ymem) ∧
  (∀ core n a b s, dspRuns core (.alu 0x03 n a b 0 0 {}) s = true → (issuer core s).d.length = 32 →
    (issuer core s).late = [] → ∃ t, exec (.dspOr core n a b 0 0 {} {}) s = .next t ∧
      let k := issuer core s
      (t.core core).d = setAt k.d (phys k n) (k.d.getD (phys k a) 0 ||| k.d.getD (phys k b) 0))

/-- The register ALU operations give the results and the flags of Table 08-16, and change nothing else; the carry after a
subtraction is open. -/
def Obligations.AluResultsAndFlags : Prop :=
  ∀ core dst a b sh s, let k := issuer core s
    let x := k.readD a
    let y := k.readD b
    let low := x == BitVec.ofNat 32 0x80000000
    let lost (n : Nat) : Bool := decide (0 < sh) && x.getLsbD n
    let clip : BitVec 32 := BitVec.ofInt 32 (sat24 x.toInt)
    let small := if x.toInt ≤ y.toInt then x else y
    let large := if x.toInt ≤ y.toInt then y else x
    let size := if low then BitVec.ofNat 32 0x7FFFFFFF else if x.msb then -x else x
    AluDoes core 0x00 dst a b 0 (.dspAdd core dst a b 0 0 {} {}) s (some (x + y)) (x + y)
      (decide ((x + y).toInt ≠ x.toInt + y.toInt)) (some (decide (2 ^ 32 ≤ x.toNat + y.toNat))) ∧
    AluDoes core 0x01 dst a b 0 (.dspSub core dst a b 0 0 {} {}) s (some (x - y)) (x - y)
      (decide ((x - y).toInt ≠ x.toInt - y.toInt)) none ∧
    AluDoes core 0x02 dst a b 0 (.dspAnd core dst a b 0 0 {} {}) s (some (x &&& y)) (x &&& y) k.v (some k.c) ∧
    AluDoes core 0x03 dst a b 0 (.dspOr core dst a b 0 0 {} {}) s (some (x ||| y)) (x ||| y) k.v (some k.c) ∧
    AluDoes core 0x04 dst a b 0 (.dspXor core dst a b 0 0 {} {}) s (some (x ^^^ y)) (x ^^^ y) k.v (some k.c) ∧
    (sh < 32 →
      AluDoes core 0x05 dst a 0 sh (.dspAsr core dst a 0 sh 0 {} {}) s (some (x.sshiftRight sh)) (x.sshiftRight sh) k.v
        (some (lost (sh - 1))) ∧
      AluDoes core 0x06 dst a 0 sh (.dspLsr core dst a 0 sh 0 {} {}) s (some (x >>> sh)) (x >>> sh) k.v (some (lost (sh - 1))) ∧
      AluDoes core 0x07 dst a 0 sh (.dspLsl core dst a 0 sh 0 {} {}) s (some (x <<< sh)) (x <<< sh) k.v
        (some (lost (32 - sh)))) ∧
    AluDoes core 0x08 dst a 0 0 (.dspAbs core dst a 0 0 0 {} {}) s (some size) size low (some k.c) ∧
    AluDoes core 0x09 dst a b 0 (.dspMin core dst a b 0 0 {} {}) s (some small) small k.v (some k.c) ∧
    AluDoes core 0x0A dst a b 0 (.dspMax core dst a b 0 0 {} {}) s (some large) large k.v (some k.c) ∧
    AluDoes core 0x0B 0 a b 0 (.dspCmp core 0 a b 0 0 {} {}) s none (x - y)
      (decide ((x - y).toInt ≠ x.toInt - y.toInt)) none ∧
    AluDoes core 0x0C dst a 0 0 (.dspNeg core dst a 0 0 0 {} {}) s (some (-x)) (-x) low none ∧
    AluDoes core 0x0D dst a 0 0 (.dspSat24 core dst a 0 0 0 {} {}) s (some clip) clip (clip != x) (some k.c)

/-- Accumulator and multiply operations give exact values that wrap at 72 bits with their AOV bit, and leave the flags and the
other registers (Tables 08-4, 08-16, R331). -/
def Obligations.AccumulatorResults : Prop :=
  ∀ core acc a b sh s, acc < 8 → let k := issuer core s
    let v := (k.readAcc acc).toInt
    let m := (k.readD (16 + a)).toInt * (k.readD b).toInt
    let i (op a b sh : Nat) : DspIns := .alu op 0 a b sh acc {}
    let slot (op a b : Nat) : DspIns := .dual ⟨op, acc, a, b⟩ {} {} {}
    AccDoes core acc (i 0x10 a 0 0) (.dspAdda core 0 a 0 0 acc {} {}) s (v + (k.readAcc a).toInt) ∧
    AccDoes core acc (i 0x11 0 0 sh) (.dspShla core 0 0 0 sh acc {} {}) s (v * 2 ^ sh) ∧
    AccDoes core acc (i 0x12 0 0 sh) (.dspShra core 0 0 0 sh acc {} {}) s (v / 2 ^ sh) ∧
    AccDoes core acc (i 0x15 a 0 0) (.dspMovda core 0 a 0 0 acc {} {}) s ((k.readD a).toInt * 2147483648) ∧
    AccDoes core acc (slot 1 a b) (.dspMac core false acc a b {} {} {} {}) s (v + m) ∧
    AccDoes core acc (slot 2 a b) (.dspMsu core false acc a b {} {} {} {}) s (v - m) ∧
    AccDoes core acc (slot 3 a b) (.dspMpy core false acc a b {} {} {} {}) s m ∧
    AccDoes core acc (slot 4 a b) (.dspMpyn core false acc a b {} {} {} {}) s (-m) ∧
    AccDoes core acc (slot 5 0 0) (.dspClra core false acc 0 0 {} {} {} {}) s 0

/-- A load into D in one instruction is not seen by the next one, and by the one after it (R322). -/
def Obligations.LoadsAreSeenFromTheSecond : Prop :=
  ∀ core d p s, let i : DspIns := .dual {} {} ⟨false, d, p, 0⟩ {}
    let k := issuer core s
    dspRuns core i s = true → k.inv.isSome = true → k.late = [] →
    ∃ t, exec (.dspMoveLoad core false d p 0 {} {} {} {} .good) s = .next t ∧ (t.core core).d = k.d ∧
      (dspRuns core (.ctrl 0 0 0 0) t = true → ∃ u, exec (.dspNop core 0 0 0 {}) t = .next u ∧
        (u.core core).d = setAt k.d (physD k.rrb d) (k.xmem.read32 (k.addrP p).toNat))

/-- A store writes the four bytes of D at its address, in the memory of its move, and no other byte (R323, Table 08-5). -/
def Obligations.StoresWriteOneWord : Prop :=
  ∀ core d p mod s, let k := issuer core s
    let a := (k.addrP p).toNat
    k.xmem.wf = true → k.ymem.wf = true →
    (dspRuns core (.dual {} {} ⟨true, d, p, mod⟩ {}) s = true → mod ≠ 7 →
      ∃ t, exec (.dspMoveStore core false d p mod {} {} {} {} .good) s = .next t ∧ (t.core core).xmem.read32 a = k.readD d ∧
        (∀ x, x < a ∨ a + 4 ≤ x → (t.core core).xmem.read x = k.xmem.read x) ∧
        (∀ x, (t.core core).ymem.read x = k.ymem.read x)) ∧
    (dspRuns core (.dual {} {} {} ⟨true, d, p, mod⟩) s = true → mod ≠ 7 →
      ∃ t, exec (.dspMoveStore core true d p mod {} {} {} {} .good) s = .next t ∧ (t.core core).ymem.read32 a = k.readD d ∧
        (∀ x, x < a ∨ a + 4 ≤ x → (t.core core).ymem.read x = k.ymem.read x) ∧
        (∀ x, (t.core core).xmem.read x = k.xmem.read x))

/-- BR executes its two delay slots before its target; a LOOP of count 0 goes past its end; a third LOOP, a ninth CALL and a RET
with an empty stack are kernel faults of cause 3 (R324, R325). -/
def Obligations.ControlFollowsItsRules : Prop :=
  (∀ core a v s t u w, (issuer core s).inv.isSome = true → dspRuns core (.ctrl 1 0 0 a) s = true →
    exec (.dspBr core 0 0 a {}) s = .next t → dspRuns core (.imm 0 0 0 v) t = true → exec (.dspLdiD core 0 0 v {}) t = .next u →
    dspRuns core (.imm 0 0 0 v) u = true → exec (.dspLdiD core 0 0 v {}) u = .next w →
    let pc := (issuer core s).pc
    (t.core core).pc = pc + 1 ∧ (u.core core).pc = pc + 2 ∧ (w.core core).pc = a) ∧
  (∀ core cond a s, dspRuns core (.ctrl 5 cond 0 a) s = true → (issuer core s).loops = [] →
    ∃ t, exec (.dspLoop core cond 0 a {}) s = .next t ∧ (t.core core).pc = a + 1 ∧ (t.core core).loops = []) ∧
  (∀ core cond cnt a s, let u := ((s.enterInvocation core).free.2.dspCycles core 1).kernelFault core 3
    (dspIssues core (.ctrl 5 cond cnt a) s = true → (issuer core s).loops.length = 2 →
      exec (.dspLoop core cond cnt a {}) s = .next u) ∧
    (dspIssues core (.ctrl 3 0 0 a) s = true → (issuer core s).stack.length = 8 → exec (.dspCall core 0 0 a {}) s = .next u) ∧
    (dspIssues core (.ctrl 4 0 0 0) s = true → (issuer core s).stack = [] → exec (.dspRet core 0 0 0 {}) s = .next u))

/-- A kernel fault ends the invocation and marks no unit failed, whatever its cause; an instruction with a reserved bit set, or
illegal, or where it may not stand, is such a fault (R319, R335). -/
def Obligations.KernelFaultsSpareTheCore : Prop :=
  (∀ core cause v, ∀ s : State, (s.core core).inv = some v →
    ((s.kernelFault core cause).core core).inv = none ∧ (s.kernelFault core cause).units = s.units) ∧
  (∀ row core i rsv v s, dspOf row = some (core, i, rsv) → core < 288 → invOn core s = some v →
    (issuer core s).pc < v.code → (issuer core s).fetches i rsv = true → rsv ≠ 0 ∨ i.legal = false ∨ (issuer core s).misplaced i = true →
    ∃ t, exec row s = .next t ∧ (t.core core).inv = none ∧ t.units = s.units ∧ (t.core core).xmem = (issuer core s).xmem ∧
      (t.core core).ymem = (issuer core s).ymem ∧ (t.core core).d = (issuer core s).d)

/-- A DSP instruction that completes changes its own core, and beside it only what counts cycles and raises events: no other
core, and no other part of the machine (R336). -/
def Obligations.DspInstructionsStayOnTheirCore : Prop :=
  ∀ row core i s, dspOf row = some (core, i, 0) → dspRuns core i s = true → ∃ t, exec row s = .next t ∧
    (∃ e h r f d, t = { s with evt := e, host := h, rcd := r, fresh := f, aud := { s.aud with dsp := d } }) ∧
    (∀ c, c ≠ core → t.core c = s.core c)

/-- The word of a legal instruction decodes to it, whatever its fields (Tables 08-3 to 08-5). -/
def Obligations.DspWordsDecode : Prop := ∀ i : DspIns, i.legal = true → dspDecode i.word = some i

/-! Invariants. -/

/-- The invariant of the DSP cores holds after reset. -/
def Obligations.ResetHasShapedCores : Prop := State.reset.coresShaped = true

/-- Every step keeps the invariant: while DSP instructions are what waits, whatever they are and wherever they stand, every core
keeps its registers, its bounds on loops, stack and repeats, and the canonical form of its memories (R317, R324, R325, R327). -/
def Obligations.StepsKeepCoresShaped : Prop :=
  ∀ s t : State, s.coresShaped = true → step s = .next t → t.coresShaped = true
end

