-- ==== Sys2Proof/Laws/Belex.lean ====
section
/-! SUPPORT. What running a Belex command does: the one lemma for all opcodes, in the forms of its reply. -/

namespace Sys2Proof.Machine

/-- A taken command runs its body at its instant, and its completion follows what the body gives (R120, R125). -/
theorem runBelex_takes {opc : Nat} {body : Body} {c : Cmd} {s : State} (h : takes opc c s = true) :
    runBelex opc body c s = .next (
      let whom := replyTo (s.advance c.at_) opc c 0
      let r := body whom c (s.advance c.at_)
      if r.deferred then r.st else if r.sts = stAccepted then r.st.reply whom r.sts [] else r.st.complete whom r.sts r.pay) := by
  unfold takes at h
  simp only [Bool.and_eq_true] at h
  obtain ⟨h1, h2⟩ := h
  unfold runBelex
  cases ho : opInfo opc with
  | none => simp [ho] at h2
  | some o =>
    simp only [ho, Bool.and_eq_true, Option.isNone_iff_eq_none] at h2
    simp [h1, executeCmd, h2.1, h2.2]

/-- A body that completes with DONE. -/
theorem runBelex_ok {opc : Nat} {body : Body} {c : Cmd} {s u : State} {pay : List Byte} (h : takes opc c s = true)
    (hb : body (replyTo (s.advance c.at_) opc c 0) c (s.advance c.at_) = .ok u pay) :
    runBelex opc body c s = .next (u.complete (replyTo (s.advance c.at_) opc c 0) stDone pay) := by
  rw [runBelex_takes h]
  simp [hb, Res.ok, stDone, stAccepted]

/-- A body whose reply waits. -/
theorem runBelex_wait {opc : Nat} {body : Body} {c : Cmd} {s u : State} (h : takes opc c s = true)
    (hb : body (replyTo (s.advance c.at_) opc c 0) c (s.advance c.at_) = .wait u) : runBelex opc body c s = .next u := by
  rw [runBelex_takes h]
  simp [hb, Res.wait]

/-- A long-running command that begins. -/
theorem runBelex_accepted {opc : Nat} {body : Body} {c : Cmd} {s u : State} (h : takes opc c s = true)
    (hb : body (replyTo (s.advance c.at_) opc c 0) c (s.advance c.at_) = .accepted u) :
    runBelex opc body c s = .next (u.reply (replyTo (s.advance c.at_) opc c 0) stAccepted []) := by
  rw [runBelex_takes h]
  simp [hb, Res.accepted, stAccepted]

/-- The object of a taken command is of the type its opcode names, and exists (R13). -/
theorem takes_object {opc : Nat} {c : Cmd} {s : State} {ty : Nat} (o : OpInfo) (ho : opInfo opc = some o)
    (hc : o.objs = [ty]) (h : takes opc c s = true) : hType c.obj = ty ∧ (s.owner ty (hIdx c.obj)).isSome := by
  unfold takes at h
  simp only [ho, Bool.and_eq_true, Option.isNone_iff_eq_none] at h
  obtain ⟨-, -, h⟩ := h
  simp only [startCheck] at h
  split at h
  · cases h
  · split at h
    · cases h
    · split at h
      · cases h
      · rename_i hh
        have e : (s.advance c.at_).owner = s.owner := rfl
        simp only [checkHandle, hc, e, List.contains_cons, List.contains_nil, Bool.or_false, ne_eq, Decidable.not_not] at hh
        by_cases ht : hType c.obj = ty
        · refine ⟨ht, ?_⟩
          subst ht
          cases hx : s.owner (hType c.obj) (hIdx c.obj) with
          | none =>
            simp only [hx, stNoObject, stBadParam] at hh
            split at hh <;> simp at hh
          | some _ => rfl
        · simp [ht, stBadParam] at hh

end Sys2Proof.Machine
end

