-- ==== Sys2Proof/Laws/Table.lean ====
section
/-! SUPPORT. The sparse tables and the indexed lists: reading after an update, and what an update keeps. -/

namespace Sys2Proof.Machine

/-- Reading the key that was set gives what was set. -/
@[simp] theorem tget_tset_self {α : Type} (t : Tbl α) (k : Nat) (a : α) : tget (tset t k a) k = some a := by
  induction t with
  | nil => simp [tset, tget]
  | cons p r ih => grind [tset, tget]

/-- Where the keys rise, every other key reads as before. -/
theorem tget_tset_ne {α : Type} (t : Tbl α) (k j : Nat) (a : α) (h : j ≠ k) : tget (tset t k a) j = tget t j := by
  induction t with
  | nil => simp [tset, tget]; omega
  | cons p r ih => grind [tset, tget]

/-- An entry changed reads as its change. -/
theorem tget_tmod_self {α : Type} (t : Tbl α) (k : Nat) (f : α → α) : tget (tmod t k f) k = (tget t k).map f := by
  induction t with
  | nil => rfl
  | cons p r ih => grind [tmod, tget]

/-- A change of one entry leaves the others. -/
theorem tget_tmod_ne {α : Type} (t : Tbl α) (k j : Nat) (f : α → α) (h : j ≠ k) : tget (tmod t k f) j = tget t j := by
  induction t with
  | nil => rfl
  | cons p r ih => grind [tmod, tget]

/-- A change of an entry depends only on what it makes of that entry. -/
theorem tmod_congr {α : Type} (t : Tbl α) (k : Nat) (f g : α → α) (a : α) (h : tget t k = some a) (e : f a = g a) :
    tmod t k f = tmod t k g := by
  induction t with
  | nil => rfl
  | cons p r ih =>
    obtain ⟨j, b⟩ := p
    simp only [tget] at h
    simp only [tmod]
    split at h
    · cases h; simp_all
    · simp_all

/-- A removal leaves the other entries. -/
theorem tget_tdel_ne {α : Type} (t : Tbl α) (k j : Nat) (h : j ≠ k) : tget (tdel t k) j = tget t j := by
  induction t with
  | nil => rfl
  | cons p r ih => grind [tdel, tget]

/-- A change of an entry keeps the keys. -/
@[simp] theorem tkeys_tmod {α : Type} (t : Tbl α) (k : Nat) (f : α → α) : tkeys (tmod t k f) = tkeys t := by
  induction t with
  | nil => rfl
  | cons p r ih => grind [tkeys, tmod]

/-- A key has an entry where it is in use. -/
theorem tget_isSome_iff {α : Type} (t : Tbl α) (k : Nat) : (tget t k).isSome = true ↔ k ∈ tkeys t := by
  induction t with
  | nil => simp [tget, tkeys]
  | cons p r ih => grind [tget, tkeys]

/-- Keys that rise strictly go on rising when one is set. -/
theorem twf_tset {α : Type} (t : Tbl α) (k : Nat) (a : α) (h : twf t = true) : twf (tset t k a) = true := by
  induction t with
  | nil => rfl
  | cons p r ih =>
    cases r with
    | nil => grind [tset, twf]
    | cons q r => grind [tset, twf]

/-- A change at an index keeps the length. -/
@[simp] theorem length_modAt {α : Type} (l : List α) (i : Nat) (f : α → α) : (modAt l i f).length = l.length := by
  induction l generalizing i with
  | nil => cases i <;> rfl
  | cons a r ih => cases i <;> simp [modAt, ih]

@[simp] theorem length_setAt {α : Type} (l : List α) (i : Nat) (a : α) : (setAt l i a).length = l.length :=
  length_modAt l i _

/-- A change at an index, read there. -/
theorem getD_modAt_self {α : Type} (l : List α) (i : Nat) (f : α → α) (d : α) (h : i < l.length) :
    (modAt l i f).getD i d = f (l.getD i d) := by
  induction l generalizing i with
  | nil => simp at h
  | cons a r ih => cases i with
    | zero => rfl
    | succ i => simpa [modAt] using ih i (by simpa using h)

/-- A change at an index leaves the others. -/
theorem getD_modAt_ne {α : Type} (l : List α) (i j : Nat) (f : α → α) (d : α) (h : j ≠ i) :
    (modAt l i f).getD j d = l.getD j d := by
  induction l generalizing i j with
  | nil => cases i <;> rfl
  | cons a r ih => cases i with
    | zero => cases j with
      | zero => exact absurd rfl h
      | succ j => rfl
    | succ i => cases j with
      | zero => rfl
      | succ j => simpa [modAt] using ih i j (by omega)

end Sys2Proof.Machine
end

