-- ==== Sys2Proof/Laws/Frame.lean ====
section
/-! SUPPORT. Everything the shared operations can do: an event changes the functions' queues, the marks of its window and the
record, a completion the functions' queues and the command processor, and nothing else. -/

namespace Sys2Proof.Machine

/-- `t` differs from `s` at most in what events touch: the event marks, the host's functions, the record. -/
def EventsOnly (s t : State) : Prop := ∃ e fs r, t = { s with evt := e, host := { s.host with funcs := fs }, rcd := r }

theorem EventsOnly.refl (s : State) : EventsOnly s s := ⟨s.evt, s.host.funcs, s.rcd, rfl⟩

theorem EventsOnly.trans {s t u : State} (h : EventsOnly s t) (h' : EventsOnly t u) : EventsOnly s u := by
  obtain ⟨e, fs, r, rfl⟩ := h
  obtain ⟨e', fs', r', rfl⟩ := h'
  exact ⟨e', fs', r', rfl⟩

/-- An event for one function changes that function's queue only. -/
theorem pushEvent_only (s : State) (fn : Nat) (e : Event) : EventsOnly s (s.pushEvent fn e).1 := by
  unfold State.pushEvent
  dsimp only
  split
  · exact .refl s
  · split <;> exact ⟨_, _, _, rfl⟩

theorem countIn_only (s : State) (src obj n : Nat) : EventsOnly s (s.countIn src obj n).2 := ⟨_, _, _, rfl⟩

theorem firstIn_only (s : State) (src obj : Nat) : EventsOnly s (s.firstIn src obj).2 := by
  unfold State.firstIn
  dsimp only
  split
  · exact .refl s
  · exact ⟨_, _, _, rfl⟩

theorem dropped_only (s : State) (fn n : Nat) : EventsOnly s (s.dropped fn n) := by
  have h := (countIn_only s 318 fn n).trans (firstIn_only _ 318 fn)
  unfold State.dropped
  dsimp only
  split
  · exact h
  · split
    · exact (h.trans (pushEvent_only _ 0 _)).trans (countIn_only _ 318 0 1)
    · exact h.trans (pushEvent_only _ 0 _)

theorem recordPut_only (s : State) (e : RecEntry) : EventsOnly s (s.recordPut e) := by
  unfold State.recordPut
  dsimp only
  split <;> exact ⟨_, _, _, rfl⟩

theorem recordOptional_only (s : State) (src h tn : Nat) (d : List Byte) : EventsOnly s (s.recordOptional src h tn d) := by
  unfold State.recordOptional
  dsimp only
  split
  · exact .refl s
  · generalize (if s.rcd.rateWin.1 = windowOf s.now then s.rcd.rateWin.2 else 0) = n
    split
    · exact .trans ⟨_, _, _, rfl⟩ (recordPut_only _ _)
    · generalize hu : ({ s with rcd := { s.rcd with
        optDropped := s.rcd.optDropped + 1, optDroppedSeal := s.rcd.optDroppedSeal + 1 } } : State) = u
      have h : EventsOnly s (u.countIn 309 0 1).2 := .trans (hu ▸ ⟨_, _, _, rfl⟩) (countIn_only u 309 0 1)
      have h' := h.trans (firstIn_only _ 309 0)
      split
      · exact h'
      · split
        · exact (h'.trans (pushEvent_only _ 0 _)).trans (dropped_only _ 0 1)
        · exact h'.trans (pushEvent_only _ 0 _)

theorem deliver_only (s : State) (src h : Nat) (d : List Byte) : EventsOnly s (s.deliver src h d) := by
  unfold State.deliver
  generalize s.evtTenants h = l
  induction l generalizing s with
  | nil => exact .refl s
  | cons fn l ih =>
    refine .trans ?_ (ih _)
    dsimp only
    split
    · exact (pushEvent_only _ _ _).trans (dropped_only _ _ _)
    · exact pushEvent_only _ _ _

/-- A queue cut back to the events it may hold changes what events touch. -/
theorem trimHeld_only (s : State) (fn : Nat) : EventsOnly s (s.trimHeld fn) := by
  unfold State.trimHeld
  dsimp only
  split
  · exact .refl s
  · exact .trans ⟨_, _, _, rfl⟩ (dropped_only _ _ _)

/-- An event raised touches only what events touch. -/
theorem raise_only (s : State) (src h : Nat) (d : List Byte) : EventsOnly s (s.raise src h d) :=
  (deliver_only s src h d).trans (recordOptional_only _ _ _ _ _)

/-- A recorded event touches only what events touch. -/
theorem raiseRec_only (s : State) (src h : Nat) (d : List Byte) (f t : Bool) : EventsOnly s (s.raiseRec src h d f t) :=
  (deliver_only s src h d).trans (recordPut_only _ _)

/-- So does an event raised once in a window. -/
theorem raiseW_only (s : State) (src h : Nat) (d : List Byte) : EventsOnly s (s.raiseW src h d) := by
  unfold State.raiseW
  dsimp only
  split
  · exact (firstIn_only s src h).trans (raise_only _ _ _ _)
  · exact firstIn_only s src h

theorem raiseWK_only (s : State) (src k h : Nat) (d : List Byte) : EventsOnly s (s.raiseWK src k h d) := by
  unfold State.raiseWK
  dsimp only
  split
  · exact (firstIn_only s src k).trans (raise_only _ _ _ _)
  · exact firstIn_only s src k

theorem raiseCount_only (s : State) (src k h : Nat) (p : List Byte) : EventsOnly s (s.raiseCount src k h p) := by
  unfold State.raiseCount
  dsimp only
  split
  · exact ((countIn_only s src k 1).trans (firstIn_only _ src k)).trans (raise_only _ _ _ _)
  · exact (countIn_only s src k 1).trans (firstIn_only _ src k)

theorem raiseAt_only (s : State) (src h n : Nat) : EventsOnly s (s.raiseAt src h n) := by
  unfold State.raiseAt
  dsimp only
  split
  · exact (countIn_only s src h 1).trans (raise_only _ _ _ _)
  · exact countIn_only s src h 1

/-- `t` differs from `s` at most in what completions touch: the functions' queues and the command processor. -/
def RepliesOnly (s t : State) : Prop := ∃ fs p, t = { s with host := { s.host with funcs := fs }, cp := p }

theorem RepliesOnly.refl (s : State) : RepliesOnly s s := ⟨s.host.funcs, s.cp, rfl⟩

theorem RepliesOnly.trans {s t u : State} (h : RepliesOnly s t) (h' : RepliesOnly t u) : RepliesOnly s u := by
  obtain ⟨fs, p, rfl⟩ := h
  obtain ⟨fs', p', rfl⟩ := h'
  exact ⟨fs', p', rfl⟩

theorem reply_only (s : State) (w : ReplyTo) (sts : Nat) (pay : List Byte) : RepliesOnly s (s.reply w sts pay) := by
  unfold State.reply
  dsimp only
  generalize (if sts < 0x100 then pay else []) = pl
  split
  · exact ⟨_, _, rfl⟩
  · split <;> exact ⟨_, _, rfl⟩

theorem finalize_only (s : State) (w : ReplyTo) (sts : Nat) : RepliesOnly s (s.finalize w sts) := by
  unfold State.finalize
  dsimp only
  split
  · exact .refl s
  · exact ⟨_, _, rfl⟩

/-- A final completion touches only what completions touch. -/
theorem complete_only (s : State) (w : ReplyTo) (sts : Nat) (pay : List Byte) : RepliesOnly s (s.complete w sts pay) :=
  (reply_only s w sts pay).trans (finalize_only _ _ _)

/-- A long-running command begun changes the command processor only. -/
theorem startLong_only (s : State) (w : ReplyTo) (e h : Nat) : RepliesOnly s (s.startLong w e h).2 := ⟨_, _, rfl⟩

/-- A completion event changes what events and completions touch. -/
theorem finishLong_only (s : State) (id sts : Nat) (r : List Byte) :
    ∃ t u, RepliesOnly s t ∧ EventsOnly t u ∧ RepliesOnly u (s.finishLong id sts r) := by
  unfold State.finishLong
  dsimp only
  split
  · exact ⟨s, s, .refl s, .refl s, .refl s⟩
  · exact ⟨_, _, ⟨_, _, rfl⟩, recordOptional_only _ _ _ _ _, finalize_only _ _ _⟩

/-- A command without a number of its own is not finalized. -/
theorem complete_direct (s : State) (w : ReplyTo) (sts : Nat) (pay : List Byte) (h : w.id = 0) :
    s.complete w sts pay = s.reply w sts pay := by
  simp [State.complete, State.finalize, h]

/-- A change of one function leaves the others. -/
theorem func_modFunc_ne (s : State) (a b : Nat) (f : Func → Func) (h : b ≠ a) : (s.modFunc a f).func b = s.func b :=
  getD_modAt_ne s.host.funcs a b f {} h

/-- A reply reaches the queues of its own function only. -/
theorem reply_func_ne (s : State) (w : ReplyTo) (sts : Nat) (pay : List Byte) (fn : Nat) (h : fn ≠ w.fn) :
    (s.reply w sts pay).func fn = s.func fn := by
  unfold State.reply
  dsimp only
  generalize (if sts < 0x100 then pay else []) = pl
  split
  · rfl
  · split
    · rfl
    · exact func_modFunc_ne _ _ _ _ h

/-- The list of waiting commands and every object table stay as they are through an event. -/
theorem EventsOnly.fields {s t : State} (h : EventsOnly s t) :
    t.pending = s.pending ∧ t.time = s.time ∧ t.sys = s.sys ∧ t.cp = s.cp ∧ t.quotas = s.quotas ∧ t.confs = s.confs ∧
    t.legs = s.legs ∧ t.flows = s.flows ∧ t.net = s.net ∧ t.cip = s.cip ∧ t.trust = s.trust ∧ t.aud = s.aud ∧
    t.vid = s.vid ∧ t.units = s.units ∧ t.disp = s.disp ∧ t.mem = s.mem ∧ t.dma = s.dma ∧ t.out = s.out ∧ t.fresh = s.fresh := by
  obtain ⟨e, fs, r, rfl⟩ := h
  simp

/-- The same through a completion, which may change the command processor. -/
theorem RepliesOnly.fields {s t : State} (h : RepliesOnly s t) :
    t.pending = s.pending ∧ t.time = s.time ∧ t.sys = s.sys ∧ t.evt = s.evt ∧ t.rcd = s.rcd ∧ t.quotas = s.quotas ∧
    t.confs = s.confs ∧ t.legs = s.legs ∧ t.flows = s.flows ∧ t.net = s.net ∧ t.cip = s.cip ∧ t.trust = s.trust ∧
    t.aud = s.aud ∧ t.vid = s.vid ∧ t.units = s.units ∧ t.disp = s.disp ∧ t.mem = s.mem ∧ t.dma = s.dma ∧ t.out = s.out ∧
    t.fresh = s.fresh := by
  obtain ⟨fs, p, rfl⟩ := h
  simp

end Sys2Proof.Machine
end

