-- ==== Sys2Proof/Laws/Mem.lean ====
section
/-! SUPPORT. The addressed memories: reading after a write, and that every operation keeps the canonical form. -/

namespace Sys2Proof.Machine

/-- Below the bound of a memory every address reads 0. -/
theorem Mem.read_below (m : Mem) (lo a : Nat) (h : Mem.above m lo = true) (ha : a < lo) : Mem.read m a = 0 := by
  induction m generalizing lo with
  | nil => rfl
  | cons p r ih => grind [Mem.read, Mem.above]

/-- A bound may be lowered. -/
theorem Mem.above_mono (m : Mem) (lo lo' : Nat) (h : Mem.above m lo = true) (hl : lo' ≤ lo) : Mem.above m lo' = true := by
  cases m with
  | nil => rfl
  | cons p r => grind [Mem.above]

/-- A write at or above the bound keeps it, and the canonical form with it. -/
theorem Mem.above_write (m : Mem) (lo a : Nat) (v : Byte) (h : Mem.above m lo = true) (ha : lo ≤ a) :
    Mem.above (Mem.write m a v) lo = true := by
  induction m generalizing lo with
  | nil => grind [Mem.write, Mem.above]
  | cons p r ih =>
    have := fun h => Mem.above_mono r (p.1 + 1) lo h
    grind [Mem.write, Mem.above, Mem.above_mono]

/-- A byte written reads back. -/
theorem Mem.read_write_self (m : Mem) (a : Nat) (v : Byte) (lo : Nat) (h : Mem.above m lo = true) :
    Mem.read (Mem.write m a v) a = v := by
  induction m generalizing lo with
  | nil => grind [Mem.write, Mem.read]
  | cons p r ih =>
    have := Mem.read_below r (p.1 + 1) a
    grind [Mem.write, Mem.read, Mem.above]

/-- A write leaves every other byte. -/
theorem Mem.read_write_ne (m : Mem) (a b : Nat) (v : Byte) (lo : Nat) (h : Mem.above m lo = true) (hb : b ≠ a) :
    Mem.read (Mem.write m a v) b = Mem.read m b := by
  induction m generalizing lo with
  | nil => grind [Mem.write, Mem.read]
  | cons p r ih => grind [Mem.write, Mem.read, Mem.above]

/-- A write keeps the canonical form. -/
theorem Mem.wf_write (m : Mem) (a : Nat) (v : Byte) (h : Mem.wf m = true) : Mem.wf (Mem.write m a v) = true :=
  Mem.above_write m 0 a v h (Nat.zero_le a)

/-- A byte string written keeps the canonical form. -/
theorem Mem.wf_writeN (m : Mem) (a : Nat) (l : List Byte) (h : Mem.wf m = true) : Mem.wf (Mem.writeN m a l) = true := by
  induction l generalizing m a with
  | nil => exact h
  | cons b r ih => exact ih _ _ (Mem.wf_write m a b h)

/-- A word written keeps the canonical form. -/
theorem Mem.wf_write32 (m : Mem) (a : Nat) (v : BitVec 32) (h : Mem.wf m = true) : Mem.wf (Mem.write32 m a v) = true :=
  Mem.wf_writeN m a _ h

/-- A byte string written leaves every byte outside it. -/
theorem Mem.read_writeN_out (m : Mem) (a b : Nat) (l : List Byte) (h : Mem.wf m = true) (hb : b < a ∨ a + l.length ≤ b) :
    Mem.read (Mem.writeN m a l) b = Mem.read m b := by
  induction l generalizing m a with
  | nil => rfl
  | cons c r ih =>
    simp only [List.length_cons] at hb
    rw [Mem.writeN, ih _ _ (Mem.wf_write m a c h) (by omega), Mem.read_write_ne m a b c 0 h (by omega)]

/-- A byte string written reads back, byte by byte. -/
theorem Mem.read_writeN_in (m : Mem) (a i : Nat) (l : List Byte) (h : Mem.wf m = true) (hi : i < l.length) :
    Mem.read (Mem.writeN m a l) (a + i) = l.getD i 0 := by
  induction l generalizing m a i with
  | nil => simp at hi
  | cons c r ih =>
    cases i with
    | zero =>
      rw [Mem.writeN, Mem.read_writeN_out _ _ _ _ (Mem.wf_write m a c h) (by omega), Nat.add_zero,
        Mem.read_write_self m a c 0 h]
      rfl
    | succ i =>
      simp only [List.length_cons] at hi
      rw [Mem.writeN, show a + (i + 1) = a + 1 + i by omega, ih _ _ _ (Mem.wf_write m a c h) (by omega)]
      rfl

/-- A range cleared reads 0. -/
theorem Mem.read_clear_in (m : Mem) (a n b : Nat) (hb : a ≤ b ∧ b < a + n) : Mem.read (Mem.clear m a n) b = 0 := by
  induction m with
  | nil => rfl
  | cons p r ih =>
    unfold Mem.clear at ih ⊢
    grind [Mem.read]

/-- Outside a cleared range every byte reads as before. -/
theorem Mem.read_clear_out (m : Mem) (a n b : Nat) (hb : b < a ∨ a + n ≤ b) : Mem.read (Mem.clear m a n) b = Mem.read m b := by
  induction m with
  | nil => rfl
  | cons p r ih =>
    unfold Mem.clear at ih ⊢
    grind [Mem.read]

/-- A range cleared keeps the bound, and the canonical form with it. -/
theorem Mem.above_clear (m : Mem) (lo a n : Nat) (h : Mem.above m lo = true) : Mem.above (Mem.clear m a n) lo = true := by
  induction m generalizing lo with
  | nil => rfl
  | cons p r ih =>
    unfold Mem.clear at ih ⊢
    have := fun h => Mem.above_mono (r.filter fun p => decide (p.1 < a) || decide (a + n ≤ p.1)) (p.1 + 1) lo h
    grind [Mem.above]

theorem Mem.wf_clear (m : Mem) (a n : Nat) (h : Mem.wf m = true) : Mem.wf (Mem.clear m a n) = true := Mem.above_clear m 0 a n h

end Sys2Proof.Machine
end

