-- ==== Sys2Proof/Laws/PerInstr.lean ====
section
/-! SUPPORT. What holds of every constructor of Instr as syntax: a row of Belex is a row of the opcode table and no DSP
instruction. -/

namespace Sys2Proof.Laws.Rows

open Sys2Proof.Machine

/-- A command that Belex carries has a row of the opcode table and is no DSP instruction. -/
def Statement (i : Instr) : Prop := ∀ opc c, commandOf i = some (opc, c) → (opInfo opc).isSome = true ∧ dspOf i = none

theorem modeSet (c : Cmd) : Statement (.modeSet c) := fun _ _ h => by cases h; exact ⟨rfl, rfl⟩
theorem modeQuery (c : Cmd) : Statement (.modeQuery c) := fun _ _ h => by cases h; exact ⟨rfl, rfl⟩
theorem powerSet (c : Cmd) : Statement (.powerSet c) := fun _ _ h => by cases h; exact ⟨rfl, rfl⟩
theorem thermalQuery (c : Cmd) : Statement (.thermalQuery c) := fun _ _ h => by cases h; exact ⟨rfl, rfl⟩
theorem devReset (c : Cmd) : Statement (.devReset c) := fun _ _ h => by cases h; exact ⟨rfl, rfl⟩
theorem confCreate (c : Cmd) : Statement (.confCreate c) := fun _ _ h => by cases h; exact ⟨rfl, rfl⟩
theorem confDelete (c : Cmd) : Statement (.confDelete c) := fun _ _ h => by cases h; exact ⟨rfl, rfl⟩
theorem confQuery (c : Cmd) : Statement (.confQuery c) := fun _ _ h => by cases h; exact ⟨rfl, rfl⟩
theorem legCreate (c : Cmd) : Statement (.legCreate c) := fun _ _ h => by cases h; exact ⟨rfl, rfl⟩
theorem legDelete (c : Cmd) : Statement (.legDelete c) := fun _ _ h => by cases h; exact ⟨rfl, rfl⟩
theorem legMove (c : Cmd) : Statement (.legMove c) := fun _ _ h => by cases h; exact ⟨rfl, rfl⟩
theorem legSetState (c : Cmd) : Statement (.legSetState c) := fun _ _ h => by cases h; exact ⟨rfl, rfl⟩
theorem legStats (c : Cmd) : Statement (.legStats c) := fun _ _ h => by cases h; exact ⟨rfl, rfl⟩
theorem flowCreate (c : Cmd) : Statement (.flowCreate c) := fun _ _ h => by cases h; exact ⟨rfl, rfl⟩
theorem flowDelete (c : Cmd) : Statement (.flowDelete c) := fun _ _ h => by cases h; exact ⟨rfl, rfl⟩
theorem flowQuery (c : Cmd) : Statement (.flowQuery c) := fun _ _ h => by cases h; exact ⟨rfl, rfl⟩
theorem tenantSetQuota (c : Cmd) : Statement (.tenantSetQuota c) := fun _ _ h => by cases h; exact ⟨rfl, rfl⟩
theorem tenantQuery (c : Cmd) : Statement (.tenantQuery c) := fun _ _ h => by cases h; exact ⟨rfl, rfl⟩
theorem portSetMode (c : Cmd) : Statement (.portSetMode c) := fun _ _ h => by cases h; exact ⟨rfl, rfl⟩
theorem addrSet (c : Cmd) : Statement (.addrSet c) := fun _ _ h => by cases h; exact ⟨rfl, rfl⟩
theorem iceSetCredentials (c : Cmd) : Statement (.iceSetCredentials c) := fun _ _ h => by cases h; exact ⟨rfl, rfl⟩
theorem policerSet (c : Cmd) : Statement (.policerSet c) := fun _ _ h => by cases h; exact ⟨rfl, rfl⟩
theorem jbSet (c : Cmd) : Statement (.jbSet c) := fun _ _ h => by cases h; exact ⟨rfl, rfl⟩
theorem reorderSet (c : Cmd) : Statement (.reorderSet c) := fun _ _ h => by cases h; exact ⟨rfl, rfl⟩
theorem fecSet (c : Cmd) : Statement (.fecSet c) := fun _ _ h => by cases h; exact ⟨rfl, rfl⟩
theorem ingressStats (c : Cmd) : Statement (.ingressStats c) := fun _ _ h => by cases h; exact ⟨rfl, rfl⟩
theorem portStats (c : Cmd) : Statement (.portStats c) := fun _ _ h => by cases h; exact ⟨rfl, rfl⟩
theorem remoteQuery (c : Cmd) : Statement (.remoteQuery c) := fun _ _ h => by cases h; exact ⟨rfl, rfl⟩
theorem fwdBind (c : Cmd) : Statement (.fwdBind c) := fun _ _ h => by cases h; exact ⟨rfl, rfl⟩
theorem fwdUnbind (c : Cmd) : Statement (.fwdUnbind c) := fun _ _ h => by cases h; exact ⟨rfl, rfl⟩
theorem fwdQuery (c : Cmd) : Statement (.fwdQuery c) := fun _ _ h => by cases h; exact ⟨rfl, rfl⟩
theorem flowProfileSet (c : Cmd) : Statement (.flowProfileSet c) := fun _ _ h => by cases h; exact ⟨rfl, rfl⟩
theorem rtcpSet (c : Cmd) : Statement (.rtcpSet c) := fun _ _ h => by cases h; exact ⟨rfl, rfl⟩
theorem keyframeRequest (c : Cmd) : Statement (.keyframeRequest c) := fun _ _ h => by cases h; exact ⟨rfl, rfl⟩
theorem adaptSet (c : Cmd) : Statement (.adaptSet c) := fun _ _ h => by cases h; exact ⟨rfl, rfl⟩
theorem adaptOverride (c : Cmd) : Statement (.adaptOverride c) := fun _ _ h => by cases h; exact ⟨rfl, rfl⟩
theorem adaptQuery (c : Cmd) : Statement (.adaptQuery c) := fun _ _ h => by cases h; exact ⟨rfl, rfl⟩
theorem cascadeSet (c : Cmd) : Statement (.cascadeSet c) := fun _ _ h => by cases h; exact ⟨rfl, rfl⟩
theorem egressLegSet (c : Cmd) : Statement (.egressLegSet c) := fun _ _ h => by cases h; exact ⟨rfl, rfl⟩
theorem egressClassSet (c : Cmd) : Statement (.egressClassSet c) := fun _ _ h => by cases h; exact ⟨rfl, rfl⟩
theorem portEgressSet (c : Cmd) : Statement (.portEgressSet c) := fun _ _ h => by cases h; exact ⟨rfl, rfl⟩
theorem gclSet (c : Cmd) : Statement (.gclSet c) := fun _ _ h => by cases h; exact ⟨rfl, rfl⟩
theorem gclQuery (c : Cmd) : Statement (.gclQuery c) := fun _ _ h => by cases h; exact ⟨rfl, rfl⟩
theorem fecGenSet (c : Cmd) : Statement (.fecGenSet c) := fun _ _ h => by cases h; exact ⟨rfl, rfl⟩
theorem fcSet (c : Cmd) : Statement (.fcSet c) := fun _ _ h => by cases h; exact ⟨rfl, rfl⟩
theorem egressStats (c : Cmd) : Statement (.egressStats c) := fun _ _ h => by cases h; exact ⟨rfl, rfl⟩
theorem egressPortStats (c : Cmd) : Statement (.egressPortStats c) := fun _ _ h => by cases h; exact ⟨rfl, rfl⟩
theorem mixGroupCreate (c : Cmd) : Statement (.mixGroupCreate c) := fun _ _ h => by cases h; exact ⟨rfl, rfl⟩
theorem mixGroupDelete (c : Cmd) : Statement (.mixGroupDelete c) := fun _ _ h => by cases h; exact ⟨rfl, rfl⟩
theorem mixContribute (c : Cmd) : Statement (.mixContribute c) := fun _ _ h => by cases h; exact ⟨rfl, rfl⟩
theorem mixListen (c : Cmd) : Statement (.mixListen c) := fun _ _ h => by cases h; exact ⟨rfl, rfl⟩
theorem mixUnlisten (c : Cmd) : Statement (.mixUnlisten c) := fun _ _ h => by cases h; exact ⟨rfl, rfl⟩
theorem mixGraphLoad (c : Cmd) : Statement (.mixGraphLoad c) := fun _ _ h => by cases h; exact ⟨rfl, rfl⟩
theorem mixSet (c : Cmd) : Statement (.mixSet c) := fun _ _ h => by cases h; exact ⟨rfl, rfl⟩
theorem mixPanSet (c : Cmd) : Statement (.mixPanSet c) := fun _ _ h => by cases h; exact ⟨rfl, rfl⟩
theorem mixQuery (c : Cmd) : Statement (.mixQuery c) := fun _ _ h => by cases h; exact ⟨rfl, rfl⟩
theorem mixStats (c : Cmd) : Statement (.mixStats c) := fun _ _ h => by cases h; exact ⟨rfl, rfl⟩
theorem kernelLoad (c : Cmd) : Statement (.kernelLoad c) := fun _ _ h => by cases h; exact ⟨rfl, rfl⟩
theorem kernelUnload (c : Cmd) : Statement (.kernelUnload c) := fun _ _ h => by cases h; exact ⟨rfl, rfl⟩
theorem kernelQuery (c : Cmd) : Statement (.kernelQuery c) := fun _ _ h => by cases h; exact ⟨rfl, rfl⟩
theorem kernelReset (c : Cmd) : Statement (.kernelReset c) := fun _ _ h => by cases h; exact ⟨rfl, rfl⟩
theorem dspSet (c : Cmd) : Statement (.dspSet c) := fun _ _ h => by cases h; exact ⟨rfl, rfl⟩
theorem dspStats (c : Cmd) : Statement (.dspStats c) := fun _ _ h => by cases h; exact ⟨rfl, rfl⟩
theorem sapConfig (c : Cmd) : Statement (.sapConfig c) := fun _ _ h => by cases h; exact ⟨rfl, rfl⟩
theorem sapMclkSet (c : Cmd) : Statement (.sapMclkSet c) := fun _ _ h => by cases h; exact ⟨rfl, rfl⟩
theorem sapQuery (c : Cmd) : Statement (.sapQuery c) := fun _ _ h => by cases h; exact ⟨rfl, rfl⟩
theorem sapFilterQuery (c : Cmd) : Statement (.sapFilterQuery c) := fun _ _ h => by cases h; exact ⟨rfl, rfl⟩
theorem routeSet (c : Cmd) : Statement (.routeSet c) := fun _ _ h => by cases h; exact ⟨rfl, rfl⟩
theorem routeQuery (c : Cmd) : Statement (.routeQuery c) := fun _ _ h => by cases h; exact ⟨rfl, rfl⟩
theorem portLegMaskSet (c : Cmd) : Statement (.portLegMaskSet c) := fun _ _ h => by cases h; exact ⟨rfl, rfl⟩
theorem sapStats (c : Cmd) : Statement (.sapStats c) := fun _ _ h => by cases h; exact ⟨rfl, rfl⟩
theorem beaconModAttach (c : Cmd) : Statement (.beaconModAttach c) := fun _ _ h => by cases h; exact ⟨rfl, rfl⟩
theorem beaconModSet (c : Cmd) : Statement (.beaconModSet c) := fun _ _ h => by cases h; exact ⟨rfl, rfl⟩
theorem beaconModDetach (c : Cmd) : Statement (.beaconModDetach c) := fun _ _ h => by cases h; exact ⟨rfl, rfl⟩
theorem beaconModQuery (c : Cmd) : Statement (.beaconModQuery c) := fun _ _ h => by cases h; exact ⟨rfl, rfl⟩
theorem beaconRxSet (c : Cmd) : Statement (.beaconRxSet c) := fun _ _ h => by cases h; exact ⟨rfl, rfl⟩
theorem beaconWatch (c : Cmd) : Statement (.beaconWatch c) := fun _ _ h => by cases h; exact ⟨rfl, rfl⟩
theorem beaconModemSet (c : Cmd) : Statement (.beaconModemSet c) := fun _ _ h => by cases h; exact ⟨rfl, rfl⟩
theorem beaconLegQuery (c : Cmd) : Statement (.beaconLegQuery c) := fun _ _ h => by cases h; exact ⟨rfl, rfl⟩
theorem beaconStats (c : Cmd) : Statement (.beaconStats c) := fun _ _ h => by cases h; exact ⟨rfl, rfl⟩
theorem decCreate (c : Cmd) : Statement (.decCreate c) := fun _ _ h => by cases h; exact ⟨rfl, rfl⟩
theorem decDelete (c : Cmd) : Statement (.decDelete c) := fun _ _ h => by cases h; exact ⟨rfl, rfl⟩
theorem decBind (c : Cmd) : Statement (.decBind c) := fun _ _ h => by cases h; exact ⟨rfl, rfl⟩
theorem decSet (c : Cmd) : Statement (.decSet c) := fun _ _ h => by cases h; exact ⟨rfl, rfl⟩
theorem decQuery (c : Cmd) : Statement (.decQuery c) := fun _ _ h => by cases h; exact ⟨rfl, rfl⟩
theorem decStats (c : Cmd) : Statement (.decStats c) := fun _ _ h => by cases h; exact ⟨rfl, rfl⟩
theorem canvasCreate (c : Cmd) : Statement (.canvasCreate c) := fun _ _ h => by cases h; exact ⟨rfl, rfl⟩
theorem canvasDelete (c : Cmd) : Statement (.canvasDelete c) := fun _ _ h => by cases h; exact ⟨rfl, rfl⟩
theorem canvasLayoutSet (c : Cmd) : Statement (.canvasLayoutSet c) := fun _ _ h => by cases h; exact ⟨rfl, rfl⟩
theorem overlayLoad (c : Cmd) : Statement (.overlayLoad c) := fun _ _ h => by cases h; exact ⟨rfl, rfl⟩
theorem guardSet (c : Cmd) : Statement (.guardSet c) := fun _ _ h => by cases h; exact ⟨rfl, rfl⟩
theorem canvasQuery (c : Cmd) : Statement (.canvasQuery c) := fun _ _ h => by cases h; exact ⟨rfl, rfl⟩
theorem compStats (c : Cmd) : Statement (.compStats c) := fun _ _ h => by cases h; exact ⟨rfl, rfl⟩
theorem encCreate (c : Cmd) : Statement (.encCreate c) := fun _ _ h => by cases h; exact ⟨rfl, rfl⟩
theorem encDelete (c : Cmd) : Statement (.encDelete c) := fun _ _ h => by cases h; exact ⟨rfl, rfl⟩
theorem encSet (c : Cmd) : Statement (.encSet c) := fun _ _ h => by cases h; exact ⟨rfl, rfl⟩
theorem encAttach (c : Cmd) : Statement (.encAttach c) := fun _ _ h => by cases h; exact ⟨rfl, rfl⟩
theorem encDetach (c : Cmd) : Statement (.encDetach c) := fun _ _ h => by cases h; exact ⟨rfl, rfl⟩
theorem encRefresh (c : Cmd) : Statement (.encRefresh c) := fun _ _ h => by cases h; exact ⟨rfl, rfl⟩
theorem encQuery (c : Cmd) : Statement (.encQuery c) := fun _ _ h => by cases h; exact ⟨rfl, rfl⟩
theorem encStats (c : Cmd) : Statement (.encStats c) := fun _ _ h => by cases h; exact ⟨rfl, rfl⟩
theorem tileCreate (c : Cmd) : Statement (.tileCreate c) := fun _ _ h => by cases h; exact ⟨rfl, rfl⟩
theorem tileDelete (c : Cmd) : Statement (.tileDelete c) := fun _ _ h => by cases h; exact ⟨rfl, rfl⟩
theorem tileSet (c : Cmd) : Statement (.tileSet c) := fun _ _ h => by cases h; exact ⟨rfl, rfl⟩
theorem tileQuery (c : Cmd) : Statement (.tileQuery c) := fun _ _ h => by cases h; exact ⟨rfl, rfl⟩
theorem spliceCreate (c : Cmd) : Statement (.spliceCreate c) := fun _ _ h => by cases h; exact ⟨rfl, rfl⟩
theorem spliceDelete (c : Cmd) : Statement (.spliceDelete c) := fun _ _ h => by cases h; exact ⟨rfl, rfl⟩
theorem spliceLayoutSet (c : Cmd) : Statement (.spliceLayoutSet c) := fun _ _ h => by cases h; exact ⟨rfl, rfl⟩
theorem spliceSet (c : Cmd) : Statement (.spliceSet c) := fun _ _ h => by cases h; exact ⟨rfl, rfl⟩
theorem spliceQuery (c : Cmd) : Statement (.spliceQuery c) := fun _ _ h => by cases h; exact ⟨rfl, rfl⟩
theorem spliceStats (c : Cmd) : Statement (.spliceStats c) := fun _ _ h => by cases h; exact ⟨rfl, rfl⟩
theorem dispSet (c : Cmd) : Statement (.dispSet c) := fun _ _ h => by cases h; exact ⟨rfl, rfl⟩
theorem dispTenantSet (c : Cmd) : Statement (.dispTenantSet c) := fun _ _ h => by cases h; exact ⟨rfl, rfl⟩
theorem dispQuery (c : Cmd) : Statement (.dispQuery c) := fun _ _ h => by cases h; exact ⟨rfl, rfl⟩
theorem dispTenantQuery (c : Cmd) : Statement (.dispTenantQuery c) := fun _ _ h => by cases h; exact ⟨rfl, rfl⟩
theorem dispKeyQuery (c : Cmd) : Statement (.dispKeyQuery c) := fun _ _ h => by cases h; exact ⟨rfl, rfl⟩
theorem dispKeyReset (c : Cmd) : Statement (.dispKeyReset c) := fun _ _ h => by cases h; exact ⟨rfl, rfl⟩
theorem memQuery (c : Cmd) : Statement (.memQuery c) := fun _ _ h => by cases h; exact ⟨rfl, rfl⟩
theorem memLogRead (c : Cmd) : Statement (.memLogRead c) := fun _ _ h => by cases h; exact ⟨rfl, rfl⟩
theorem memSet (c : Cmd) : Statement (.memSet c) := fun _ _ h => by cases h; exact ⟨rfl, rfl⟩
theorem memTenantSet (c : Cmd) : Statement (.memTenantSet c) := fun _ _ h => by cases h; exact ⟨rfl, rfl⟩
theorem memTenantQuery (c : Cmd) : Statement (.memTenantQuery c) := fun _ _ h => by cases h; exact ⟨rfl, rfl⟩
theorem dmaQuery (c : Cmd) : Statement (.dmaQuery c) := fun _ _ h => by cases h; exact ⟨rfl, rfl⟩
theorem dmaStats (c : Cmd) : Statement (.dmaStats c) := fun _ _ h => by cases h; exact ⟨rfl, rfl⟩
theorem pfcGenSet (c : Cmd) : Statement (.pfcGenSet c) := fun _ _ h => by cases h; exact ⟨rfl, rfl⟩
theorem attestReport (c : Cmd) : Statement (.attestReport c) := fun _ _ h => by cases h; exact ⟨rfl, rfl⟩
theorem idCertRead (c : Cmd) : Statement (.idCertRead c) := fun _ _ h => by cases h; exact ⟨rfl, rfl⟩
theorem provisionSet (c : Cmd) : Statement (.provisionSet c) := fun _ _ h => by cases h; exact ⟨rfl, rfl⟩
theorem provisionDone (c : Cmd) : Statement (.provisionDone c) := fun _ _ h => by cases h; exact ⟨rfl, rfl⟩
theorem trustReprovision (c : Cmd) : Statement (.trustReprovision c) := fun _ _ h => by cases h; exact ⟨rfl, rfl⟩
theorem peerMeasSet (c : Cmd) : Statement (.peerMeasSet c) := fun _ _ h => by cases h; exact ⟨rfl, rfl⟩
theorem dtlsKeyCreate (c : Cmd) : Statement (.dtlsKeyCreate c) := fun _ _ h => by cases h; exact ⟨rfl, rfl⟩
theorem dtlsCertRead (c : Cmd) : Statement (.dtlsCertRead c) := fun _ _ h => by cases h; exact ⟨rfl, rfl⟩
theorem dtlsLegSet (c : Cmd) : Statement (.dtlsLegSet c) := fun _ _ h => by cases h; exact ⟨rfl, rfl⟩
theorem keyImport (c : Cmd) : Statement (.keyImport c) := fun _ _ h => by cases h; exact ⟨rfl, rfl⟩
theorem keyDelete (c : Cmd) : Statement (.keyDelete c) := fun _ _ h => by cases h; exact ⟨rfl, rfl⟩
theorem trunkKeySet (c : Cmd) : Statement (.trunkKeySet c) := fun _ _ h => by cases h; exact ⟨rfl, rfl⟩
theorem tamperSet (c : Cmd) : Statement (.tamperSet c) := fun _ _ h => by cases h; exact ⟨rfl, rfl⟩
theorem tamperQuery (c : Cmd) : Statement (.tamperQuery c) := fun _ _ h => by cases h; exact ⟨rfl, rfl⟩
theorem imageCommit (c : Cmd) : Statement (.imageCommit c) := fun _ _ h => by cases h; exact ⟨rfl, rfl⟩
theorem cipherFlowQuery (c : Cmd) : Statement (.cipherFlowQuery c) := fun _ _ h => by cases h; exact ⟨rfl, rfl⟩
theorem cipherPin (c : Cmd) : Statement (.cipherPin c) := fun _ _ h => by cases h; exact ⟨rfl, rfl⟩
theorem cipherStats (c : Cmd) : Statement (.cipherStats c) := fun _ _ h => by cases h; exact ⟨rfl, rfl⟩
theorem timeRefSet (c : Cmd) : Statement (.timeRefSet c) := fun _ _ h => by cases h; exact ⟨rfl, rfl⟩
theorem timeAllowStep (c : Cmd) : Statement (.timeAllowStep c) := fun _ _ h => by cases h; exact ⟨rfl, rfl⟩
theorem timePpsSeconds (c : Cmd) : Statement (.timePpsSeconds c) := fun _ _ h => by cases h; exact ⟨rfl, rfl⟩
theorem ppsOutSet (c : Cmd) : Statement (.ppsOutSet c) := fun _ _ h => by cases h; exact ⟨rfl, rfl⟩
theorem timeUtcSet (c : Cmd) : Statement (.timeUtcSet c) := fun _ _ h => by cases h; exact ⟨rfl, rfl⟩
theorem timeQuery (c : Cmd) : Statement (.timeQuery c) := fun _ _ h => by cases h; exact ⟨rfl, rfl⟩
theorem castle (c : Cmd) : Statement (.castle c) := fun _ _ h => by cases h; exact ⟨rfl, rfl⟩
theorem clusterBench (c : Cmd) : Statement (.clusterBench c) := fun _ _ h => by cases h; exact ⟨rfl, rfl⟩
theorem clusterSetState (c : Cmd) : Statement (.clusterSetState c) := fun _ _ h => by cases h; exact ⟨rfl, rfl⟩
theorem clusterQuery (c : Cmd) : Statement (.clusterQuery c) := fun _ _ h => by cases h; exact ⟨rfl, rfl⟩
theorem repairSet (c : Cmd) : Statement (.repairSet c) := fun _ _ h => by cases h; exact ⟨rfl, rfl⟩
theorem imageWrite (c : Cmd) : Statement (.imageWrite c) := fun _ _ h => by cases h; exact ⟨rfl, rfl⟩
theorem imageActivate (c : Cmd) : Statement (.imageActivate c) := fun _ _ h => by cases h; exact ⟨rfl, rfl⟩
theorem confHomeSet (c : Cmd) : Statement (.confHomeSet c) := fun _ _ h => by cases h; exact ⟨rfl, rfl⟩
theorem evtMaskSet (c : Cmd) : Statement (.evtMaskSet c) := fun _ _ h => by cases h; exact ⟨rfl, rfl⟩
theorem evtMaskQuery (c : Cmd) : Statement (.evtMaskQuery c) := fun _ _ h => by cases h; exact ⟨rfl, rfl⟩
theorem recordSet (c : Cmd) : Statement (.recordSet c) := fun _ _ h => by cases h; exact ⟨rfl, rfl⟩
theorem recordQuery (c : Cmd) : Statement (.recordQuery c) := fun _ _ h => by cases h; exact ⟨rfl, rfl⟩
theorem recordRead (c : Cmd) : Statement (.recordRead c) := fun _ _ h => by cases h; exact ⟨rfl, rfl⟩
theorem recordExport (c : Cmd) : Statement (.recordExport c) := fun _ _ h => by cases h; exact ⟨rfl, rfl⟩
theorem recordSeal (c : Cmd) : Statement (.recordSeal c) := fun _ _ h => by cases h; exact ⟨rfl, rfl⟩
theorem returnChallenge (c : Cmd) : Statement (.returnChallenge c) := fun _ _ h => by cases h; exact ⟨rfl, rfl⟩
theorem returnArm (c : Cmd) : Statement (.returnArm c) := fun _ _ h => by cases h; exact ⟨rfl, rfl⟩
theorem returnEnter (c : Cmd) : Statement (.returnEnter c) := fun _ _ h => by cases h; exact ⟨rfl, rfl⟩
theorem returnExit (c : Cmd) : Statement (.returnExit c) := fun _ _ h => by cases h; exact ⟨rfl, rfl⟩
theorem tenantHostSet (c : Cmd) : Statement (.tenantHostSet c) := fun _ _ h => by cases h; exact ⟨rfl, rfl⟩
theorem tenantHostQuery (c : Cmd) : Statement (.tenantHostQuery c) := fun _ _ h => by cases h; exact ⟨rfl, rfl⟩
theorem hostLinkQuery (c : Cmd) : Statement (.hostLinkQuery c) := fun _ _ h => by cases h; exact ⟨rfl, rfl⟩
theorem diagLoopback (c : Cmd) : Statement (.diagLoopback c) := fun _ _ h => by cases h; exact ⟨rfl, rfl⟩
theorem mgmtSet (c : Cmd) : Statement (.mgmtSet c) := fun _ _ h => by cases h; exact ⟨rfl, rfl⟩
theorem dspAdd : ∀ x0 x1 x2 x3 x4 x5 x6 x7, Statement (.dspAdd x0 x1 x2 x3 x4 x5 x6 x7) := fun _ _ _ _ _ _ _ _ _ _ h => nomatch h
theorem dspSub : ∀ x0 x1 x2 x3 x4 x5 x6 x7, Statement (.dspSub x0 x1 x2 x3 x4 x5 x6 x7) := fun _ _ _ _ _ _ _ _ _ _ h => nomatch h
theorem dspAnd : ∀ x0 x1 x2 x3 x4 x5 x6 x7, Statement (.dspAnd x0 x1 x2 x3 x4 x5 x6 x7) := fun _ _ _ _ _ _ _ _ _ _ h => nomatch h
theorem dspOr : ∀ x0 x1 x2 x3 x4 x5 x6 x7, Statement (.dspOr x0 x1 x2 x3 x4 x5 x6 x7) := fun _ _ _ _ _ _ _ _ _ _ h => nomatch h
theorem dspXor : ∀ x0 x1 x2 x3 x4 x5 x6 x7, Statement (.dspXor x0 x1 x2 x3 x4 x5 x6 x7) := fun _ _ _ _ _ _ _ _ _ _ h => nomatch h
theorem dspAsr : ∀ x0 x1 x2 x3 x4 x5 x6 x7, Statement (.dspAsr x0 x1 x2 x3 x4 x5 x6 x7) := fun _ _ _ _ _ _ _ _ _ _ h => nomatch h
theorem dspLsr : ∀ x0 x1 x2 x3 x4 x5 x6 x7, Statement (.dspLsr x0 x1 x2 x3 x4 x5 x6 x7) := fun _ _ _ _ _ _ _ _ _ _ h => nomatch h
theorem dspLsl : ∀ x0 x1 x2 x3 x4 x5 x6 x7, Statement (.dspLsl x0 x1 x2 x3 x4 x5 x6 x7) := fun _ _ _ _ _ _ _ _ _ _ h => nomatch h
theorem dspAbs : ∀ x0 x1 x2 x3 x4 x5 x6 x7, Statement (.dspAbs x0 x1 x2 x3 x4 x5 x6 x7) := fun _ _ _ _ _ _ _ _ _ _ h => nomatch h
theorem dspMin : ∀ x0 x1 x2 x3 x4 x5 x6 x7, Statement (.dspMin x0 x1 x2 x3 x4 x5 x6 x7) := fun _ _ _ _ _ _ _ _ _ _ h => nomatch h
theorem dspMax : ∀ x0 x1 x2 x3 x4 x5 x6 x7, Statement (.dspMax x0 x1 x2 x3 x4 x5 x6 x7) := fun _ _ _ _ _ _ _ _ _ _ h => nomatch h
theorem dspCmp : ∀ x0 x1 x2 x3 x4 x5 x6 x7, Statement (.dspCmp x0 x1 x2 x3 x4 x5 x6 x7) := fun _ _ _ _ _ _ _ _ _ _ h => nomatch h
theorem dspNeg : ∀ x0 x1 x2 x3 x4 x5 x6 x7, Statement (.dspNeg x0 x1 x2 x3 x4 x5 x6 x7) := fun _ _ _ _ _ _ _ _ _ _ h => nomatch h
theorem dspSat24 : ∀ x0 x1 x2 x3 x4 x5 x6 x7, Statement (.dspSat24 x0 x1 x2 x3 x4 x5 x6 x7) := fun _ _ _ _ _ _ _ _ _ _ h => nomatch h
theorem dspAdda : ∀ x0 x1 x2 x3 x4 x5 x6 x7, Statement (.dspAdda x0 x1 x2 x3 x4 x5 x6 x7) := fun _ _ _ _ _ _ _ _ _ _ h => nomatch h
theorem dspShla : ∀ x0 x1 x2 x3 x4 x5 x6 x7, Statement (.dspShla x0 x1 x2 x3 x4 x5 x6 x7) := fun _ _ _ _ _ _ _ _ _ _ h => nomatch h
theorem dspShra : ∀ x0 x1 x2 x3 x4 x5 x6 x7, Statement (.dspShra x0 x1 x2 x3 x4 x5 x6 x7) := fun _ _ _ _ _ _ _ _ _ _ h => nomatch h
theorem dspMova : ∀ x0 x1 x2 x3 x4 x5 x6 x7, Statement (.dspMova x0 x1 x2 x3 x4 x5 x6 x7) := fun _ _ _ _ _ _ _ _ _ _ h => nomatch h
theorem dspMovas : ∀ x0 x1 x2 x3 x4 x5 x6 x7, Statement (.dspMovas x0 x1 x2 x3 x4 x5 x6 x7) := fun _ _ _ _ _ _ _ _ _ _ h => nomatch h
theorem dspMovda : ∀ x0 x1 x2 x3 x4 x5 x6 x7, Statement (.dspMovda x0 x1 x2 x3 x4 x5 x6 x7) := fun _ _ _ _ _ _ _ _ _ _ h => nomatch h
theorem dspClraov : ∀ x0 x1 x2 x3 x4 x5 x6 x7, Statement (.dspClraov x0 x1 x2 x3 x4 x5 x6 x7) := fun _ _ _ _ _ _ _ _ _ _ h => nomatch h
theorem dspMac : ∀ x0 x1 x2 x3 x4 x5 x6 x7 x8, Statement (.dspMac x0 x1 x2 x3 x4 x5 x6 x7 x8) := fun _ _ _ _ _ _ _ _ _ _ _ h => nomatch h
theorem dspMsu : ∀ x0 x1 x2 x3 x4 x5 x6 x7 x8, Statement (.dspMsu x0 x1 x2 x3 x4 x5 x6 x7 x8) := fun _ _ _ _ _ _ _ _ _ _ _ h => nomatch h
theorem dspMpy : ∀ x0 x1 x2 x3 x4 x5 x6 x7 x8, Statement (.dspMpy x0 x1 x2 x3 x4 x5 x6 x7 x8) := fun _ _ _ _ _ _ _ _ _ _ _ h => nomatch h
theorem dspMpyn : ∀ x0 x1 x2 x3 x4 x5 x6 x7 x8, Statement (.dspMpyn x0 x1 x2 x3 x4 x5 x6 x7 x8) := fun _ _ _ _ _ _ _ _ _ _ _ h => nomatch h
theorem dspClra : ∀ x0 x1 x2 x3 x4 x5 x6 x7 x8, Statement (.dspClra x0 x1 x2 x3 x4 x5 x6 x7 x8) := fun _ _ _ _ _ _ _ _ _ _ _ h => nomatch h
theorem dspMoveLoad : ∀ x0 x1 x2 x3 x4 x5 x6 x7 x8 x9, Statement (.dspMoveLoad x0 x1 x2 x3 x4 x5 x6 x7 x8 x9) := fun _ _ _ _ _ _ _ _ _ _ _ _ h => nomatch h
theorem dspMoveStore : ∀ x0 x1 x2 x3 x4 x5 x6 x7 x8 x9, Statement (.dspMoveStore x0 x1 x2 x3 x4 x5 x6 x7 x8 x9) := fun _ _ _ _ _ _ _ _ _ _ _ _ h => nomatch h
theorem dspLdiD : ∀ x0 x1 x2 x3 x4, Statement (.dspLdiD x0 x1 x2 x3 x4) := fun _ _ _ _ _ _ _ h => nomatch h
theorem dspLdiP : ∀ x0 x1 x2 x3 x4, Statement (.dspLdiP x0 x1 x2 x3 x4) := fun _ _ _ _ _ _ _ h => nomatch h
theorem dspLdiM : ∀ x0 x1 x2 x3 x4, Statement (.dspLdiM x0 x1 x2 x3 x4) := fun _ _ _ _ _ _ _ h => nomatch h
theorem dspLdiLc : ∀ x0 x1 x2 x3 x4, Statement (.dspLdiLc x0 x1 x2 x3 x4) := fun _ _ _ _ _ _ _ h => nomatch h
theorem dspAddiD : ∀ x0 x1 x2 x3 x4, Statement (.dspAddiD x0 x1 x2 x3 x4) := fun _ _ _ _ _ _ _ h => nomatch h
theorem dspAddiP : ∀ x0 x1 x2 x3 x4, Statement (.dspAddiP x0 x1 x2 x3 x4) := fun _ _ _ _ _ _ _ h => nomatch h
theorem dspMovsTo : ∀ x0 x1 x2 x3 x4, Statement (.dspMovsTo x0 x1 x2 x3 x4) := fun _ _ _ _ _ _ _ h => nomatch h
theorem dspMovsFrom : ∀ x0 x1 x2 x3 x4, Statement (.dspMovsFrom x0 x1 x2 x3 x4) := fun _ _ _ _ _ _ _ h => nomatch h
theorem dspRot : ∀ x0 x1 x2 x3 x4, Statement (.dspRot x0 x1 x2 x3 x4) := fun _ _ _ _ _ _ _ h => nomatch h
theorem dspNop : ∀ x0 x1 x2 x3 x4, Statement (.dspNop x0 x1 x2 x3 x4) := fun _ _ _ _ _ _ _ h => nomatch h
theorem dspBr : ∀ x0 x1 x2 x3 x4, Statement (.dspBr x0 x1 x2 x3 x4) := fun _ _ _ _ _ _ _ h => nomatch h
theorem dspBrc : ∀ x0 x1 x2 x3 x4, Statement (.dspBrc x0 x1 x2 x3 x4) := fun _ _ _ _ _ _ _ h => nomatch h
theorem dspCall : ∀ x0 x1 x2 x3 x4, Statement (.dspCall x0 x1 x2 x3 x4) := fun _ _ _ _ _ _ _ h => nomatch h
theorem dspRet : ∀ x0 x1 x2 x3 x4, Statement (.dspRet x0 x1 x2 x3 x4) := fun _ _ _ _ _ _ _ h => nomatch h
theorem dspLoop : ∀ x0 x1 x2 x3 x4, Statement (.dspLoop x0 x1 x2 x3 x4) := fun _ _ _ _ _ _ _ h => nomatch h
theorem dspLoopr : ∀ x0 x1 x2 x3 x4, Statement (.dspLoopr x0 x1 x2 x3 x4) := fun _ _ _ _ _ _ _ h => nomatch h
theorem dspRep : ∀ x0 x1 x2 x3 x4, Statement (.dspRep x0 x1 x2 x3 x4) := fun _ _ _ _ _ _ _ h => nomatch h
theorem dspBreak : ∀ x0 x1 x2 x3 x4, Statement (.dspBreak x0 x1 x2 x3 x4) := fun _ _ _ _ _ _ _ h => nomatch h
theorem dspHalt : ∀ x0 x1 x2 x3 x4, Statement (.dspHalt x0 x1 x2 x3 x4) := fun _ _ _ _ _ _ _ h => nomatch h
theorem kernelWatchdog : ∀ x0 x1, Statement (.kernelWatchdog x0 x1) := fun _ _ _ _ h => nomatch h
theorem sqDoorbellWrite : ∀ x0 x1 x2 x3, Statement (.sqDoorbellWrite x0 x1 x2 x3) := fun _ _ _ _ _ _ h => nomatch h
theorem cqHeadWrite : ∀ x0 x1 x2 x3, Statement (.cqHeadWrite x0 x1 x2 x3) := fun _ _ _ _ _ _ h => nomatch h
theorem eqHeadWrite : ∀ x0 x1 x2, Statement (.eqHeadWrite x0 x1 x2) := fun _ _ _ _ _ h => nomatch h
theorem evtSummaryClear : ∀ x0 x1 x2, Statement (.evtSummaryClear x0 x1 x2) := fun _ _ _ _ _ h => nomatch h
theorem timeCapture : ∀ x0 x1 x2, Statement (.timeCapture x0 x1 x2) := fun _ _ _ _ _ h => nomatch h
theorem sqEnable : ∀ x0 x1 x2 x3, Statement (.sqEnable x0 x1 x2 x3) := fun _ _ _ _ _ _ h => nomatch h
theorem sqDisable : ∀ x0 x1 x2 x3, Statement (.sqDisable x0 x1 x2 x3) := fun _ _ _ _ _ _ h => nomatch h
theorem cqEnable : ∀ x0 x1 x2 x3, Statement (.cqEnable x0 x1 x2 x3) := fun _ _ _ _ _ _ h => nomatch h
theorem cqDisable : ∀ x0 x1 x2 x3, Statement (.cqDisable x0 x1 x2 x3) := fun _ _ _ _ _ _ h => nomatch h
theorem eqEnable : ∀ x0 x1 x2, Statement (.eqEnable x0 x1 x2) := fun _ _ _ _ _ h => nomatch h
theorem eqDisable : ∀ x0 x1 x2, Statement (.eqDisable x0 x1 x2) := fun _ _ _ _ _ h => nomatch h
theorem qStatusReadClear : ∀ x0 x1 x2, Statement (.qStatusReadClear x0 x1 x2) := fun _ _ _ _ _ h => nomatch h
theorem bootGo : ∀ x0 x1 x2, Statement (.bootGo x0 x1 x2) := fun _ _ _ _ _ h => nomatch h
theorem registerWrite : ∀ x0 x1 x2 x3 x4 x5, Statement (.registerWrite x0 x1 x2 x3 x4 x5) := fun _ _ _ _ _ _ _ _ h => nomatch h
theorem msixVectorUnmask : ∀ x0 x1 x2, Statement (.msixVectorUnmask x0 x1 x2) := fun _ _ _ _ _ h => nomatch h
theorem msixCoalesceExpiry : ∀ x0 x1 x2, Statement (.msixCoalesceExpiry x0 x1 x2) := fun _ _ _ _ _ h => nomatch h
theorem commandFetch : ∀ x0 x1 x2 x3, Statement (.commandFetch x0 x1 x2 x3) := fun _ _ _ _ _ _ h => nomatch h
theorem commandExecuteStart : ∀ x0 x1, Statement (.commandExecuteStart x0 x1) := fun _ _ _ _ h => nomatch h
theorem commandTimeout : ∀ x0 x1, Statement (.commandTimeout x0 x1) := fun _ _ _ _ h => nomatch h
theorem completionWrite : ∀ x0 x1 x2, Statement (.completionWrite x0 x1 x2) := fun _ _ _ _ _ h => nomatch h
theorem eventWrite : ∀ x0 x1 x2, Statement (.eventWrite x0 x1 x2) := fun _ _ _ _ _ h => nomatch h
theorem kernelLoaded : ∀ x0 x1 x2 x3, Statement (.kernelLoaded x0 x1 x2 x3) := fun _ _ _ _ _ _ h => nomatch h
theorem overlayLoaded : ∀ x0 x1 x2 x3, Statement (.overlayLoaded x0 x1 x2 x3) := fun _ _ _ _ _ _ h => nomatch h
theorem castleHandover : ∀ x0 x1 x2, Statement (.castleHandover x0 x1 x2) := fun _ _ _ _ _ h => nomatch h
theorem castleDone : ∀ x0 x1, Statement (.castleDone x0 x1) := fun _ _ _ _ h => nomatch h
theorem autoCastleStart : ∀ x0 x1, Statement (.autoCastleStart x0 x1) := fun _ _ _ _ h => nomatch h
theorem benchDone : ∀ x0 x1 x2, Statement (.benchDone x0 x1 x2) := fun _ _ _ _ _ h => nomatch h
theorem imageWritten : ∀ x0 x1 x2, Statement (.imageWritten x0 x1 x2) := fun _ _ _ _ _ h => nomatch h
theorem hubPause : ∀ x0 x1 x2, Statement (.hubPause x0 x1 x2) := fun _ _ _ _ _ h => nomatch h
theorem updateDone : ∀ x0, Statement (.updateDone x0) := fun _ _ _ h => nomatch h
theorem recordExported : ∀ x0 x1 x2 x3, Statement (.recordExported x0 x1 x2 x3) := fun _ _ _ _ _ _ h => nomatch h
theorem loopbackDone : ∀ x0 x1 x2 x3, Statement (.loopbackDone x0 x1 x2 x3) := fun _ _ _ _ _ _ h => nomatch h
theorem unitReload : ∀ x0 x1 x2, Statement (.unitReload x0 x1 x2) := fun _ _ _ _ _ h => nomatch h
theorem vbatApplied : ∀ x0, Statement (.vbatApplied x0) := fun _ _ _ h => nomatch h
theorem vbatRemoved : ∀ x0, Statement (.vbatRemoved x0) := fun _ _ _ h => nomatch h
theorem pwrgdRise : ∀ x0 x1, Statement (.pwrgdRise x0 x1) := fun _ _ _ _ h => nomatch h
theorem pwrgdFall : ∀ x0 x1 x2 x3, Statement (.pwrgdFall x0 x1 x2 x3) := fun _ _ _ _ _ _ h => nomatch h
theorem resetNAssert : ∀ x0, Statement (.resetNAssert x0) := fun _ _ _ h => nomatch h
theorem resetNRelease : ∀ x0 x1, Statement (.resetNRelease x0 x1) := fun _ _ _ _ h => nomatch h
theorem initDone : ∀ x0 x1 x2 x3 x4, Statement (.initDone x0 x1 x2 x3 x4) := fun _ _ _ _ _ _ _ h => nomatch h
theorem bootDone : ∀ x0 x1 x2 x3 x4, Statement (.bootDone x0 x1 x2 x3 x4) := fun _ _ _ _ _ _ _ h => nomatch h
theorem pfwNAssert : ∀ x0, Statement (.pfwNAssert x0) := fun _ _ _ h => nomatch h
theorem rideStage : ∀ x0, Statement (.rideStage x0) := fun _ _ _ h => nomatch h
theorem pfwNRelease : ∀ x0, Statement (.pfwNRelease x0) := fun _ _ _ h => nomatch h
theorem rideMaxExpired : ∀ x0, Statement (.rideMaxExpired x0) := fun _ _ _ h => nomatch h
theorem tamperDetect : ∀ x0 x1 x2 x3, Statement (.tamperDetect x0 x1 x2 x3) := fun _ _ _ _ _ _ h => nomatch h
theorem tamperWhileOff : ∀ x0 x1, Statement (.tamperWhileOff x0 x1) := fun _ _ _ _ h => nomatch h
theorem jtagInstructionSelect : ∀ x0 x1, Statement (.jtagInstructionSelect x0 x1) := fun _ _ _ _ h => nomatch h
theorem thermalSample : ∀ x0 x1 x2 x3, Statement (.thermalSample x0 x1 x2 x3) := fun _ _ _ _ _ _ h => nomatch h
theorem powerEstimate : ∀ x0 x1, Statement (.powerEstimate x0 x1) := fun _ _ _ _ h => nomatch h
theorem linkReplay : ∀ x0 x1 x2, Statement (.linkReplay x0 x1 x2) := fun _ _ _ _ _ h => nomatch h
theorem linkRetrain : ∀ x0 x1, Statement (.linkRetrain x0 x1) := fun _ _ _ _ h => nomatch h
theorem pcieFlr : ∀ x0 x1, Statement (.pcieFlr x0 x1) := fun _ _ _ _ h => nomatch h
theorem vfConfigChange : ∀ x0 x1 x2, Statement (.vfConfigChange x0 x1 x2) := fun _ _ _ _ _ h => nomatch h
theorem pcieLinkReset : ∀ x0, Statement (.pcieLinkReset x0) := fun _ _ _ h => nomatch h
theorem pcieLinkUp : ∀ x0 x1 x2, Statement (.pcieLinkUp x0 x1 x2) := fun _ _ _ _ _ h => nomatch h
theorem busMasterChange : ∀ x0 x1 x2 x3 x4, Statement (.busMasterChange x0 x1 x2 x3 x4) := fun _ _ _ _ _ _ _ h => nomatch h
theorem mbPointerWrite : ∀ x0 x1, Statement (.mbPointerWrite x0 x1) := fun _ _ _ _ h => nomatch h
theorem mbRead : ∀ x0 x1, Statement (.mbRead x0 x1) := fun _ _ _ _ h => nomatch h
theorem mbAlertResponse : ∀ x0, Statement (.mbAlertResponse x0) := fun _ _ _ h => nomatch h
theorem mbBusStuck : ∀ x0 x1, Statement (.mbBusStuck x0 x1) := fun _ _ _ _ h => nomatch h
theorem mbSnapshotRefresh : ∀ x0 x1, Statement (.mbSnapshotRefresh x0 x1) := fun _ _ _ _ h => nomatch h
theorem frameReceive : ∀ x0 x1 x2 x3, Statement (.frameReceive x0 x1 x2 x3) := fun _ _ _ _ _ _ h => nomatch h
theorem flowCacheFill : ∀ x0 x1, Statement (.flowCacheFill x0 x1) := fun _ _ _ _ h => nomatch h
theorem clearContextLoad : ∀ x0 x1 x2, Statement (.clearContextLoad x0 x1 x2) := fun _ _ _ _ _ h => nomatch h
theorem cipherVerdict : ∀ x0 x1 x2 x3 x4, Statement (.cipherVerdict x0 x1 x2 x3 x4) := fun _ _ _ _ _ _ _ h => nomatch h
theorem cipherEncryptDone : ∀ x0 x1 x2, Statement (.cipherEncryptDone x0 x1 x2) := fun _ _ _ _ _ h => nomatch h
theorem ringRead : ∀ x0 x1 x2, Statement (.ringRead x0 x1 x2) := fun _ _ _ _ _ h => nomatch h
theorem dtlsRecordProcess : ∀ x0 x1 x2, Statement (.dtlsRecordProcess x0 x1 x2) := fun _ _ _ _ _ h => nomatch h
theorem dtlsFlightRetransmit : ∀ x0 x1, Statement (.dtlsFlightRetransmit x0 x1) := fun _ _ _ _ h => nomatch h
theorem connectLimitExpiry : ∀ x0 x1, Statement (.connectLimitExpiry x0 x1) := fun _ _ _ _ h => nomatch h
theorem consentLost : ∀ x0 x1, Statement (.consentLost x0 x1) := fun _ _ _ _ h => nomatch h
theorem mediaTimeout : ∀ x0 x1, Statement (.mediaTimeout x0 x1) := fun _ _ _ _ h => nomatch h
theorem nackTimer : ∀ x0 x1, Statement (.nackTimer x0 x1) := fun _ _ _ _ h => nomatch h
theorem reorderAbandon : ∀ x0 x1, Statement (.reorderAbandon x0 x1) := fun _ _ _ _ h => nomatch h
theorem switchTimeout : ∀ x0 x1, Statement (.switchTimeout x0 x1) := fun _ _ _ _ h => nomatch h
theorem pliTimeout : ∀ x0 x1, Statement (.pliTimeout x0 x1) := fun _ _ _ _ h => nomatch h
theorem estimatorRun : ∀ x0 x1, Statement (.estimatorRun x0 x1) := fun _ _ _ _ h => nomatch h
theorem rtcpInterval : ∀ x0 x1, Statement (.rtcpInterval x0 x1) := fun _ _ _ _ h => nomatch h
theorem twccFeedbackSend : ∀ x0 x1, Statement (.twccFeedbackSend x0 x1) := fun _ _ _ _ h => nomatch h
theorem egressEnqueue : ∀ x0, Statement (.egressEnqueue x0) := fun _ _ _ h => nomatch h
theorem egressSelect : ∀ x0 x1, Statement (.egressSelect x0 x1) := fun _ _ _ _ h => nomatch h
theorem queueSample : ∀ x0, Statement (.queueSample x0) := fun _ _ _ h => nomatch h
theorem gateEntryChange : ∀ x0 x1, Statement (.gateEntryChange x0 x1) := fun _ _ _ _ h => nomatch h
theorem gclStart : ∀ x0 x1, Statement (.gclStart x0 x1) := fun _ _ _ _ h => nomatch h
theorem pfcPauseExpiry : ∀ x0 x1, Statement (.pfcPauseExpiry x0 x1) := fun _ _ _ _ h => nomatch h
theorem pfcPauseRepeat : ∀ x0 x1, Statement (.pfcPauseRepeat x0 x1) := fun _ _ _ _ h => nomatch h
theorem fecBlockFlush : ∀ x0 x1, Statement (.fecBlockFlush x0 x1) := fun _ _ _ _ h => nomatch h
theorem linkUp : ∀ x0 x1, Statement (.linkUp x0 x1) := fun _ _ _ _ h => nomatch h
theorem linkDown : ∀ x0 x1, Statement (.linkDown x0 x1) := fun _ _ _ _ h => nomatch h
theorem dispatcherTick : ∀ x0 x1 x2 x3 x4 x5 x6, Statement (.dispatcherTick x0 x1 x2 x3 x4 x5 x6) := fun _ _ _ _ _ _ _ _ _ h => nomatch h
theorem grainOpen : ∀ x0 x1 x2, Statement (.grainOpen x0 x1 x2) := fun _ _ _ _ _ h => nomatch h
theorem timerFire : ∀ x0 x1, Statement (.timerFire x0 x1) := fun _ _ _ _ h => nomatch h
theorem promotion : ∀ x0 x1, Statement (.promotion x0 x1) := fun _ _ _ _ h => nomatch h
theorem stalemateCheck : ∀ x0, Statement (.stalemateCheck x0) := fun _ _ _ h => nomatch h
theorem periodBoundary : ∀ x0 x1, Statement (.periodBoundary x0 x1) := fun _ _ _ _ h => nomatch h
theorem completionPulse : ∀ x0 x1 x2 x3, Statement (.completionPulse x0 x1 x2 x3) := fun _ _ _ _ _ _ h => nomatch h
theorem taskDispatch : ∀ x0 x1 x2, Statement (.taskDispatch x0 x1 x2) := fun _ _ _ _ _ h => nomatch h
theorem taskComplete : ∀ x0 x1 x2 x3, Statement (.taskComplete x0 x1 x2 x3) := fun _ _ _ _ _ _ h => nomatch h
theorem mixGrainComplete : ∀ x0 x1 x2 x3, Statement (.mixGrainComplete x0 x1 x2 x3) := fun _ _ _ _ _ _ h => nomatch h
theorem confPark : ∀ x0 x1, Statement (.confPark x0 x1) := fun _ _ _ _ h => nomatch h
theorem clusterPowerGate : ∀ x0 x1, Statement (.clusterPowerGate x0 x1) := fun _ _ _ _ h => nomatch h
theorem sapStart : ∀ x0 x1, Statement (.sapStart x0 x1) := fun _ _ _ _ h => nomatch h
theorem sapRealign : ∀ x0, Statement (.sapRealign x0) := fun _ _ _ h => nomatch h
theorem headerParse : ∀ x0 x1 x2, Statement (.headerParse x0 x1 x2) := fun _ _ _ _ _ h => nomatch h
theorem decodeFrameDone : ∀ x0 x1 x2 x3, Statement (.decodeFrameDone x0 x1 x2 x3) := fun _ _ _ _ _ _ h => nomatch h
theorem decodeLate : ∀ x0 x1, Statement (.decodeLate x0 x1) := fun _ _ _ _ h => nomatch h
theorem decoderHang : ∀ x0 x1, Statement (.decoderHang x0 x1) := fun _ _ _ _ h => nomatch h
theorem canvasPassReady : ∀ x0 x1, Statement (.canvasPassReady x0 x1) := fun _ _ _ _ h => nomatch h
theorem composePassDone : ∀ x0 x1, Statement (.composePassDone x0 x1) := fun _ _ _ _ h => nomatch h
theorem compositorHang : ∀ x0 x1, Statement (.compositorHang x0 x1) := fun _ _ _ _ h => nomatch h
theorem guardReadbackDone : ∀ x0 x1 x2, Statement (.guardReadbackDone x0 x1 x2) := fun _ _ _ _ _ h => nomatch h
theorem encodeRowDone : ∀ x0 x1 x2 x3, Statement (.encodeRowDone x0 x1 x2 x3) := fun _ _ _ _ _ _ h => nomatch h
theorem encodeFrameDone : ∀ x0 x1 x2, Statement (.encodeFrameDone x0 x1 x2) := fun _ _ _ _ _ h => nomatch h
theorem encoderHang : ∀ x0 x1 x2, Statement (.encoderHang x0 x1 x2) := fun _ _ _ _ _ h => nomatch h
theorem refreshDeferExpiry : ∀ x0 x1, Statement (.refreshDeferExpiry x0 x1) := fun _ _ _ _ h => nomatch h
theorem keySExpiry : ∀ x0 x1, Statement (.keySExpiry x0 x1) := fun _ _ _ _ h => nomatch h
theorem refreshAllocate : ∀ x0 x1, Statement (.refreshAllocate x0 x1) := fun _ _ _ _ h => nomatch h
theorem refreshVariantDone : ∀ x0 x1 x2 x3, Statement (.refreshVariantDone x0 x1 x2 x3) := fun _ _ _ _ _ _ h => nomatch h
theorem splicePictureAssemble : ∀ x0 x1 x2, Statement (.splicePictureAssemble x0 x1 x2) := fun _ _ _ _ _ h => nomatch h
theorem beaconPeak : ∀ x0 x1 x2 x3 x4 x5 x6 x7, Statement (.beaconPeak x0 x1 x2 x3 x4 x5 x6 x7) := fun _ _ _ _ _ _ _ _ _ _ h => nomatch h
theorem beaconSync : ∀ x0 x1 x2 x3 x4, Statement (.beaconSync x0 x1 x2 x3 x4) := fun _ _ _ _ _ _ _ h => nomatch h
theorem beaconSearchTimeout : ∀ x0 x1, Statement (.beaconSearchTimeout x0 x1) := fun _ _ _ _ h => nomatch h
theorem beaconFrameEnd : ∀ x0 x1 x2, Statement (.beaconFrameEnd x0 x1 x2) := fun _ _ _ _ _ h => nomatch h
theorem beaconPeriodEnd : ∀ x0 x1, Statement (.beaconPeriodEnd x0 x1) := fun _ _ _ _ h => nomatch h
theorem dramCommandIssue : ∀ x0 x1 x2 x3 x4, Statement (.dramCommandIssue x0 x1 x2 x3 x4) := fun _ _ _ _ _ _ _ h => nomatch h
theorem refreshDue : ∀ x0 x1 x2, Statement (.refreshDue x0 x1 x2) := fun _ _ _ _ _ h => nomatch h
theorem dramTempSample : ∀ x0 x1 x2, Statement (.dramTempSample x0 x1 x2) := fun _ _ _ _ _ h => nomatch h
theorem scrubWriteback : ∀ x0 x1 x2, Statement (.scrubWriteback x0 x1 x2) := fun _ _ _ _ _ h => nomatch h
theorem patrolScrub : ∀ x0 x1 x2 x3 x4, Statement (.patrolScrub x0 x1 x2 x3 x4) := fun _ _ _ _ _ _ _ h => nomatch h
theorem selfRefreshEnter : ∀ x0, Statement (.selfRefreshEnter x0) := fun _ _ _ h => nomatch h
theorem bushelZeroFill : ∀ x0, Statement (.bushelZeroFill x0) := fun _ _ _ h => nomatch h
theorem dmaBurst : ∀ x0 x1 x2 x3, Statement (.dmaBurst x0 x1 x2 x3) := fun _ _ _ _ _ _ h => nomatch h
theorem dmaDescriptorDone : ∀ x0 x1 x2, Statement (.dmaDescriptorDone x0 x1 x2) := fun _ _ _ _ _ h => nomatch h
theorem dmaStopRequest : ∀ x0 x1 x2, Statement (.dmaStopRequest x0 x1 x2) := fun _ _ _ _ _ h => nomatch h
theorem dmaResume : ∀ x0 x1 x2 x3, Statement (.dmaResume x0 x1 x2 x3) := fun _ _ _ _ _ _ h => nomatch h
theorem queueWrite : ∀ x0 x1 x2 x3 x4, Statement (.queueWrite x0 x1 x2 x3 x4) := fun _ _ _ _ _ _ _ h => nomatch h
theorem queueRead : ∀ x0 x1 x2 x3, Statement (.queueRead x0 x1 x2 x3) := fun _ _ _ _ _ _ h => nomatch h
theorem rngHealthTest : ∀ x0 x1, Statement (.rngHealthTest x0 x1) := fun _ _ _ _ h => nomatch h
theorem certReissue : ∀ x0 x1, Statement (.certReissue x0 x1) := fun _ _ _ _ h => nomatch h
theorem certRenewal : ∀ x0 x1 x2, Statement (.certRenewal x0 x1 x2) := fun _ _ _ _ _ h => nomatch h
theorem cipherSelftest : ∀ x0 x1, Statement (.cipherSelftest x0 x1) := fun _ _ _ _ h => nomatch h
theorem recordCommit : ∀ x0, Statement (.recordCommit x0) := fun _ _ _ h => nomatch h
theorem referenceLost : ∀ x0, Statement (.referenceLost x0) := fun _ _ _ h => nomatch h
theorem ppsInEdge : ∀ x0, Statement (.ppsInEdge x0) := fun _ _ _ h => nomatch h
theorem dtStepApply : ∀ x0, Statement (.dtStepApply x0) := fun _ _ _ h => nomatch h
theorem leapSecond : ∀ x0, Statement (.leapSecond x0) := fun _ _ _ h => nomatch h
theorem ptpSyncSend : ∀ x0, Statement (.ptpSyncSend x0) := fun _ _ _ h => nomatch h
theorem ppsOutEdge : ∀ x0, Statement (.ppsOutEdge x0) := fun _ _ _ h => nomatch h
theorem shaperBucketZero : ∀ x0 x1, Statement (.shaperBucketZero x0 x1) := fun _ _ _ _ h => nomatch h
theorem certificateExpiry : ∀ x0 x1 x2, Statement (.certificateExpiry x0 x1 x2) := fun _ _ _ _ _ h => nomatch h
theorem railAlarm : ∀ x0 x1 x2, Statement (.railAlarm x0 x1 x2) := fun _ _ _ _ _ h => nomatch h
theorem railCleared : ∀ x0 x1 x2, Statement (.railCleared x0 x1 x2) := fun _ _ _ _ _ h => nomatch h
theorem legFreed : ∀ x0 x1, Statement (.legFreed x0 x1) := fun _ _ _ _ h => nomatch h
theorem linkRetrainDone : ∀ x0 x1 x2, Statement (.linkRetrainDone x0 x1 x2) := fun _ _ _ _ _ h => nomatch h
theorem castleWakeDone : ∀ x0 x1 x2, Statement (.castleWakeDone x0 x1 x2) := fun _ _ _ _ _ h => nomatch h
theorem devResetInitEntry : ∀ x0 x1, Statement (.devResetInitEntry x0 x1) := fun _ _ _ _ h => nomatch h

end Sys2Proof.Laws.Rows
end

