-- ==== Sys2Proof/Laws/State.lean ====
section
/-! SUPPORT. What each named update of the state leaves as it was, field by field, and what it makes of the field it
changes: all true by unfolding, so that no later proof unfolds a record update. -/

namespace Sys2Proof.Machine

/-! advance. -/

@[simp] theorem State.advance_pending (s : State) (t : Nat) : (s.advance t).pending = s.pending := rfl
@[simp] theorem State.advance_out (s : State) (t : Nat) : (s.advance t).out = s.out := rfl
@[simp] theorem State.advance_fresh (s : State) (t : Nat) : (s.advance t).fresh = s.fresh := rfl
@[simp] theorem State.advance_time (s : State) (t : Nat) : (s.advance t).time = { s.time with dt := max s.time.dt t } := rfl
@[simp] theorem State.advance_sys (s : State) (t : Nat) : (s.advance t).sys = s.sys := rfl
@[simp] theorem State.advance_host (s : State) (t : Nat) : (s.advance t).host = s.host := rfl
@[simp] theorem State.advance_cp (s : State) (t : Nat) : (s.advance t).cp = s.cp := rfl
@[simp] theorem State.advance_evt (s : State) (t : Nat) : (s.advance t).evt = s.evt := rfl
@[simp] theorem State.advance_rcd (s : State) (t : Nat) : (s.advance t).rcd = s.rcd := rfl
@[simp] theorem State.advance_quotas (s : State) (t : Nat) : (s.advance t).quotas = s.quotas := rfl
@[simp] theorem State.advance_confs (s : State) (t : Nat) : (s.advance t).confs = s.confs := rfl
@[simp] theorem State.advance_legs (s : State) (t : Nat) : (s.advance t).legs = s.legs := rfl
@[simp] theorem State.advance_flows (s : State) (t : Nat) : (s.advance t).flows = s.flows := rfl
@[simp] theorem State.advance_net (s : State) (t : Nat) : (s.advance t).net = s.net := rfl
@[simp] theorem State.advance_cip (s : State) (t : Nat) : (s.advance t).cip = s.cip := rfl
@[simp] theorem State.advance_trust (s : State) (t : Nat) : (s.advance t).trust = s.trust := rfl
@[simp] theorem State.advance_aud (s : State) (t : Nat) : (s.advance t).aud = s.aud := rfl
@[simp] theorem State.advance_units (s : State) (t : Nat) : (s.advance t).units = s.units := rfl
@[simp] theorem State.advance_disp (s : State) (t : Nat) : (s.advance t).disp = s.disp := rfl
@[simp] theorem State.advance_mem (s : State) (t : Nat) : (s.advance t).mem = s.mem := rfl
@[simp] theorem State.advance_dma (s : State) (t : Nat) : (s.advance t).dma = s.dma := rfl
@[simp] theorem State.advance_vid (s : State) (t : Nat) : (s.advance t).vid = s.vid := rfl

/-! emit. -/

@[simp] theorem State.emit_pending (s : State) (o : Out) : (s.emit o).pending = s.pending := rfl
@[simp] theorem State.emit_out (s : State) (o : Out) : (s.emit o).out = o :: s.out := rfl
@[simp] theorem State.emit_fresh (s : State) (o : Out) : (s.emit o).fresh = s.fresh := rfl
@[simp] theorem State.emit_time (s : State) (o : Out) : (s.emit o).time = s.time := rfl
@[simp] theorem State.emit_sys (s : State) (o : Out) : (s.emit o).sys = s.sys := rfl
@[simp] theorem State.emit_host (s : State) (o : Out) : (s.emit o).host = s.host := rfl
@[simp] theorem State.emit_cp (s : State) (o : Out) : (s.emit o).cp = s.cp := rfl
@[simp] theorem State.emit_evt (s : State) (o : Out) : (s.emit o).evt = s.evt := rfl
@[simp] theorem State.emit_rcd (s : State) (o : Out) : (s.emit o).rcd = s.rcd := rfl
@[simp] theorem State.emit_quotas (s : State) (o : Out) : (s.emit o).quotas = s.quotas := rfl
@[simp] theorem State.emit_confs (s : State) (o : Out) : (s.emit o).confs = s.confs := rfl
@[simp] theorem State.emit_legs (s : State) (o : Out) : (s.emit o).legs = s.legs := rfl
@[simp] theorem State.emit_flows (s : State) (o : Out) : (s.emit o).flows = s.flows := rfl
@[simp] theorem State.emit_net (s : State) (o : Out) : (s.emit o).net = s.net := rfl
@[simp] theorem State.emit_cip (s : State) (o : Out) : (s.emit o).cip = s.cip := rfl
@[simp] theorem State.emit_trust (s : State) (o : Out) : (s.emit o).trust = s.trust := rfl
@[simp] theorem State.emit_aud (s : State) (o : Out) : (s.emit o).aud = s.aud := rfl
@[simp] theorem State.emit_units (s : State) (o : Out) : (s.emit o).units = s.units := rfl
@[simp] theorem State.emit_disp (s : State) (o : Out) : (s.emit o).disp = s.disp := rfl
@[simp] theorem State.emit_mem (s : State) (o : Out) : (s.emit o).mem = s.mem := rfl
@[simp] theorem State.emit_dma (s : State) (o : Out) : (s.emit o).dma = s.dma := rfl
@[simp] theorem State.emit_vid (s : State) (o : Out) : (s.emit o).vid = s.vid := rfl

/-! modFunc. -/

@[simp] theorem State.modFunc_pending (s : State) (fn : Nat) (f : Func → Func) : (s.modFunc fn f).pending = s.pending := rfl
@[simp] theorem State.modFunc_out (s : State) (fn : Nat) (f : Func → Func) : (s.modFunc fn f).out = s.out := rfl
@[simp] theorem State.modFunc_fresh (s : State) (fn : Nat) (f : Func → Func) : (s.modFunc fn f).fresh = s.fresh := rfl
@[simp] theorem State.modFunc_time (s : State) (fn : Nat) (f : Func → Func) : (s.modFunc fn f).time = s.time := rfl
@[simp] theorem State.modFunc_sys (s : State) (fn : Nat) (f : Func → Func) : (s.modFunc fn f).sys = s.sys := rfl
@[simp] theorem State.modFunc_host (s : State) (fn : Nat) (f : Func → Func) : (s.modFunc fn f).host = { s.host with funcs := modAt s.host.funcs fn f } := rfl
@[simp] theorem State.modFunc_cp (s : State) (fn : Nat) (f : Func → Func) : (s.modFunc fn f).cp = s.cp := rfl
@[simp] theorem State.modFunc_evt (s : State) (fn : Nat) (f : Func → Func) : (s.modFunc fn f).evt = s.evt := rfl
@[simp] theorem State.modFunc_rcd (s : State) (fn : Nat) (f : Func → Func) : (s.modFunc fn f).rcd = s.rcd := rfl
@[simp] theorem State.modFunc_quotas (s : State) (fn : Nat) (f : Func → Func) : (s.modFunc fn f).quotas = s.quotas := rfl
@[simp] theorem State.modFunc_confs (s : State) (fn : Nat) (f : Func → Func) : (s.modFunc fn f).confs = s.confs := rfl
@[simp] theorem State.modFunc_legs (s : State) (fn : Nat) (f : Func → Func) : (s.modFunc fn f).legs = s.legs := rfl
@[simp] theorem State.modFunc_flows (s : State) (fn : Nat) (f : Func → Func) : (s.modFunc fn f).flows = s.flows := rfl
@[simp] theorem State.modFunc_net (s : State) (fn : Nat) (f : Func → Func) : (s.modFunc fn f).net = s.net := rfl
@[simp] theorem State.modFunc_cip (s : State) (fn : Nat) (f : Func → Func) : (s.modFunc fn f).cip = s.cip := rfl
@[simp] theorem State.modFunc_trust (s : State) (fn : Nat) (f : Func → Func) : (s.modFunc fn f).trust = s.trust := rfl
@[simp] theorem State.modFunc_aud (s : State) (fn : Nat) (f : Func → Func) : (s.modFunc fn f).aud = s.aud := rfl
@[simp] theorem State.modFunc_units (s : State) (fn : Nat) (f : Func → Func) : (s.modFunc fn f).units = s.units := rfl
@[simp] theorem State.modFunc_disp (s : State) (fn : Nat) (f : Func → Func) : (s.modFunc fn f).disp = s.disp := rfl
@[simp] theorem State.modFunc_mem (s : State) (fn : Nat) (f : Func → Func) : (s.modFunc fn f).mem = s.mem := rfl
@[simp] theorem State.modFunc_dma (s : State) (fn : Nat) (f : Func → Func) : (s.modFunc fn f).dma = s.dma := rfl
@[simp] theorem State.modFunc_vid (s : State) (fn : Nat) (f : Func → Func) : (s.modFunc fn f).vid = s.vid := rfl

/-! modConf. -/

@[simp] theorem State.modConf_pending (s : State) (i : Nat) (f : Conf → Conf) : (s.modConf i f).pending = s.pending := rfl
@[simp] theorem State.modConf_out (s : State) (i : Nat) (f : Conf → Conf) : (s.modConf i f).out = s.out := rfl
@[simp] theorem State.modConf_fresh (s : State) (i : Nat) (f : Conf → Conf) : (s.modConf i f).fresh = s.fresh := rfl
@[simp] theorem State.modConf_time (s : State) (i : Nat) (f : Conf → Conf) : (s.modConf i f).time = s.time := rfl
@[simp] theorem State.modConf_sys (s : State) (i : Nat) (f : Conf → Conf) : (s.modConf i f).sys = s.sys := rfl
@[simp] theorem State.modConf_host (s : State) (i : Nat) (f : Conf → Conf) : (s.modConf i f).host = s.host := rfl
@[simp] theorem State.modConf_cp (s : State) (i : Nat) (f : Conf → Conf) : (s.modConf i f).cp = s.cp := rfl
@[simp] theorem State.modConf_evt (s : State) (i : Nat) (f : Conf → Conf) : (s.modConf i f).evt = s.evt := rfl
@[simp] theorem State.modConf_rcd (s : State) (i : Nat) (f : Conf → Conf) : (s.modConf i f).rcd = s.rcd := rfl
@[simp] theorem State.modConf_quotas (s : State) (i : Nat) (f : Conf → Conf) : (s.modConf i f).quotas = s.quotas := rfl
@[simp] theorem State.modConf_confs (s : State) (i : Nat) (f : Conf → Conf) : (s.modConf i f).confs = tmod s.confs i f := rfl
@[simp] theorem State.modConf_legs (s : State) (i : Nat) (f : Conf → Conf) : (s.modConf i f).legs = s.legs := rfl
@[simp] theorem State.modConf_flows (s : State) (i : Nat) (f : Conf → Conf) : (s.modConf i f).flows = s.flows := rfl
@[simp] theorem State.modConf_net (s : State) (i : Nat) (f : Conf → Conf) : (s.modConf i f).net = s.net := rfl
@[simp] theorem State.modConf_cip (s : State) (i : Nat) (f : Conf → Conf) : (s.modConf i f).cip = s.cip := rfl
@[simp] theorem State.modConf_trust (s : State) (i : Nat) (f : Conf → Conf) : (s.modConf i f).trust = s.trust := rfl
@[simp] theorem State.modConf_aud (s : State) (i : Nat) (f : Conf → Conf) : (s.modConf i f).aud = s.aud := rfl
@[simp] theorem State.modConf_units (s : State) (i : Nat) (f : Conf → Conf) : (s.modConf i f).units = s.units := rfl
@[simp] theorem State.modConf_disp (s : State) (i : Nat) (f : Conf → Conf) : (s.modConf i f).disp = s.disp := rfl
@[simp] theorem State.modConf_mem (s : State) (i : Nat) (f : Conf → Conf) : (s.modConf i f).mem = s.mem := rfl
@[simp] theorem State.modConf_dma (s : State) (i : Nat) (f : Conf → Conf) : (s.modConf i f).dma = s.dma := rfl
@[simp] theorem State.modConf_vid (s : State) (i : Nat) (f : Conf → Conf) : (s.modConf i f).vid = s.vid := rfl

/-! modLeg. -/

@[simp] theorem State.modLeg_pending (s : State) (i : Nat) (f : Leg → Leg) : (s.modLeg i f).pending = s.pending := rfl
@[simp] theorem State.modLeg_out (s : State) (i : Nat) (f : Leg → Leg) : (s.modLeg i f).out = s.out := rfl
@[simp] theorem State.modLeg_fresh (s : State) (i : Nat) (f : Leg → Leg) : (s.modLeg i f).fresh = s.fresh := rfl
@[simp] theorem State.modLeg_time (s : State) (i : Nat) (f : Leg → Leg) : (s.modLeg i f).time = s.time := rfl
@[simp] theorem State.modLeg_sys (s : State) (i : Nat) (f : Leg → Leg) : (s.modLeg i f).sys = s.sys := rfl
@[simp] theorem State.modLeg_host (s : State) (i : Nat) (f : Leg → Leg) : (s.modLeg i f).host = s.host := rfl
@[simp] theorem State.modLeg_cp (s : State) (i : Nat) (f : Leg → Leg) : (s.modLeg i f).cp = s.cp := rfl
@[simp] theorem State.modLeg_evt (s : State) (i : Nat) (f : Leg → Leg) : (s.modLeg i f).evt = s.evt := rfl
@[simp] theorem State.modLeg_rcd (s : State) (i : Nat) (f : Leg → Leg) : (s.modLeg i f).rcd = s.rcd := rfl
@[simp] theorem State.modLeg_quotas (s : State) (i : Nat) (f : Leg → Leg) : (s.modLeg i f).quotas = s.quotas := rfl
@[simp] theorem State.modLeg_confs (s : State) (i : Nat) (f : Leg → Leg) : (s.modLeg i f).confs = s.confs := rfl
@[simp] theorem State.modLeg_legs (s : State) (i : Nat) (f : Leg → Leg) : (s.modLeg i f).legs = tmod s.legs i f := rfl
@[simp] theorem State.modLeg_flows (s : State) (i : Nat) (f : Leg → Leg) : (s.modLeg i f).flows = s.flows := rfl
@[simp] theorem State.modLeg_net (s : State) (i : Nat) (f : Leg → Leg) : (s.modLeg i f).net = s.net := rfl
@[simp] theorem State.modLeg_cip (s : State) (i : Nat) (f : Leg → Leg) : (s.modLeg i f).cip = s.cip := rfl
@[simp] theorem State.modLeg_trust (s : State) (i : Nat) (f : Leg → Leg) : (s.modLeg i f).trust = s.trust := rfl
@[simp] theorem State.modLeg_aud (s : State) (i : Nat) (f : Leg → Leg) : (s.modLeg i f).aud = s.aud := rfl
@[simp] theorem State.modLeg_units (s : State) (i : Nat) (f : Leg → Leg) : (s.modLeg i f).units = s.units := rfl
@[simp] theorem State.modLeg_disp (s : State) (i : Nat) (f : Leg → Leg) : (s.modLeg i f).disp = s.disp := rfl
@[simp] theorem State.modLeg_mem (s : State) (i : Nat) (f : Leg → Leg) : (s.modLeg i f).mem = s.mem := rfl
@[simp] theorem State.modLeg_dma (s : State) (i : Nat) (f : Leg → Leg) : (s.modLeg i f).dma = s.dma := rfl
@[simp] theorem State.modLeg_vid (s : State) (i : Nat) (f : Leg → Leg) : (s.modLeg i f).vid = s.vid := rfl

/-! modFlow. -/

@[simp] theorem State.modFlow_pending (s : State) (i : Nat) (f : Flow → Flow) : (s.modFlow i f).pending = s.pending := rfl
@[simp] theorem State.modFlow_out (s : State) (i : Nat) (f : Flow → Flow) : (s.modFlow i f).out = s.out := rfl
@[simp] theorem State.modFlow_fresh (s : State) (i : Nat) (f : Flow → Flow) : (s.modFlow i f).fresh = s.fresh := rfl
@[simp] theorem State.modFlow_time (s : State) (i : Nat) (f : Flow → Flow) : (s.modFlow i f).time = s.time := rfl
@[simp] theorem State.modFlow_sys (s : State) (i : Nat) (f : Flow → Flow) : (s.modFlow i f).sys = s.sys := rfl
@[simp] theorem State.modFlow_host (s : State) (i : Nat) (f : Flow → Flow) : (s.modFlow i f).host = s.host := rfl
@[simp] theorem State.modFlow_cp (s : State) (i : Nat) (f : Flow → Flow) : (s.modFlow i f).cp = s.cp := rfl
@[simp] theorem State.modFlow_evt (s : State) (i : Nat) (f : Flow → Flow) : (s.modFlow i f).evt = s.evt := rfl
@[simp] theorem State.modFlow_rcd (s : State) (i : Nat) (f : Flow → Flow) : (s.modFlow i f).rcd = s.rcd := rfl
@[simp] theorem State.modFlow_quotas (s : State) (i : Nat) (f : Flow → Flow) : (s.modFlow i f).quotas = s.quotas := rfl
@[simp] theorem State.modFlow_confs (s : State) (i : Nat) (f : Flow → Flow) : (s.modFlow i f).confs = s.confs := rfl
@[simp] theorem State.modFlow_legs (s : State) (i : Nat) (f : Flow → Flow) : (s.modFlow i f).legs = s.legs := rfl
@[simp] theorem State.modFlow_flows (s : State) (i : Nat) (f : Flow → Flow) : (s.modFlow i f).flows = tmod s.flows i f := rfl
@[simp] theorem State.modFlow_net (s : State) (i : Nat) (f : Flow → Flow) : (s.modFlow i f).net = s.net := rfl
@[simp] theorem State.modFlow_cip (s : State) (i : Nat) (f : Flow → Flow) : (s.modFlow i f).cip = s.cip := rfl
@[simp] theorem State.modFlow_trust (s : State) (i : Nat) (f : Flow → Flow) : (s.modFlow i f).trust = s.trust := rfl
@[simp] theorem State.modFlow_aud (s : State) (i : Nat) (f : Flow → Flow) : (s.modFlow i f).aud = s.aud := rfl
@[simp] theorem State.modFlow_units (s : State) (i : Nat) (f : Flow → Flow) : (s.modFlow i f).units = s.units := rfl
@[simp] theorem State.modFlow_disp (s : State) (i : Nat) (f : Flow → Flow) : (s.modFlow i f).disp = s.disp := rfl
@[simp] theorem State.modFlow_mem (s : State) (i : Nat) (f : Flow → Flow) : (s.modFlow i f).mem = s.mem := rfl
@[simp] theorem State.modFlow_dma (s : State) (i : Nat) (f : Flow → Flow) : (s.modFlow i f).dma = s.dma := rfl
@[simp] theorem State.modFlow_vid (s : State) (i : Nat) (f : Flow → Flow) : (s.modFlow i f).vid = s.vid := rfl

/-! modIng. -/

@[simp] theorem State.modIng_pending (s : State) (i : Nat) (f : LegIngress → LegIngress) : (s.modIng i f).pending = s.pending := rfl
@[simp] theorem State.modIng_out (s : State) (i : Nat) (f : LegIngress → LegIngress) : (s.modIng i f).out = s.out := rfl
@[simp] theorem State.modIng_fresh (s : State) (i : Nat) (f : LegIngress → LegIngress) : (s.modIng i f).fresh = s.fresh := rfl
@[simp] theorem State.modIng_time (s : State) (i : Nat) (f : LegIngress → LegIngress) : (s.modIng i f).time = s.time := rfl
@[simp] theorem State.modIng_sys (s : State) (i : Nat) (f : LegIngress → LegIngress) : (s.modIng i f).sys = s.sys := rfl
@[simp] theorem State.modIng_host (s : State) (i : Nat) (f : LegIngress → LegIngress) : (s.modIng i f).host = s.host := rfl
@[simp] theorem State.modIng_cp (s : State) (i : Nat) (f : LegIngress → LegIngress) : (s.modIng i f).cp = s.cp := rfl
@[simp] theorem State.modIng_evt (s : State) (i : Nat) (f : LegIngress → LegIngress) : (s.modIng i f).evt = s.evt := rfl
@[simp] theorem State.modIng_rcd (s : State) (i : Nat) (f : LegIngress → LegIngress) : (s.modIng i f).rcd = s.rcd := rfl
@[simp] theorem State.modIng_quotas (s : State) (i : Nat) (f : LegIngress → LegIngress) : (s.modIng i f).quotas = s.quotas := rfl
@[simp] theorem State.modIng_confs (s : State) (i : Nat) (f : LegIngress → LegIngress) : (s.modIng i f).confs = s.confs := rfl
@[simp] theorem State.modIng_legs (s : State) (i : Nat) (f : LegIngress → LegIngress) : (s.modIng i f).legs = tmod s.legs i fun l => { l with ing := f l.ing } := rfl
@[simp] theorem State.modIng_flows (s : State) (i : Nat) (f : LegIngress → LegIngress) : (s.modIng i f).flows = s.flows := rfl
@[simp] theorem State.modIng_net (s : State) (i : Nat) (f : LegIngress → LegIngress) : (s.modIng i f).net = s.net := rfl
@[simp] theorem State.modIng_cip (s : State) (i : Nat) (f : LegIngress → LegIngress) : (s.modIng i f).cip = s.cip := rfl
@[simp] theorem State.modIng_trust (s : State) (i : Nat) (f : LegIngress → LegIngress) : (s.modIng i f).trust = s.trust := rfl
@[simp] theorem State.modIng_aud (s : State) (i : Nat) (f : LegIngress → LegIngress) : (s.modIng i f).aud = s.aud := rfl
@[simp] theorem State.modIng_units (s : State) (i : Nat) (f : LegIngress → LegIngress) : (s.modIng i f).units = s.units := rfl
@[simp] theorem State.modIng_disp (s : State) (i : Nat) (f : LegIngress → LegIngress) : (s.modIng i f).disp = s.disp := rfl
@[simp] theorem State.modIng_mem (s : State) (i : Nat) (f : LegIngress → LegIngress) : (s.modIng i f).mem = s.mem := rfl
@[simp] theorem State.modIng_dma (s : State) (i : Nat) (f : LegIngress → LegIngress) : (s.modIng i f).dma = s.dma := rfl
@[simp] theorem State.modIng_vid (s : State) (i : Nat) (f : LegIngress → LegIngress) : (s.modIng i f).vid = s.vid := rfl

/-! modSys. -/

@[simp] theorem State.modSys_pending (s : State) (f : SysState → SysState) : (s.modSys f).pending = s.pending := rfl
@[simp] theorem State.modSys_out (s : State) (f : SysState → SysState) : (s.modSys f).out = s.out := rfl
@[simp] theorem State.modSys_fresh (s : State) (f : SysState → SysState) : (s.modSys f).fresh = s.fresh := rfl
@[simp] theorem State.modSys_time (s : State) (f : SysState → SysState) : (s.modSys f).time = s.time := rfl
@[simp] theorem State.modSys_sys (s : State) (f : SysState → SysState) : (s.modSys f).sys = f s.sys := rfl
@[simp] theorem State.modSys_host (s : State) (f : SysState → SysState) : (s.modSys f).host = s.host := rfl
@[simp] theorem State.modSys_cp (s : State) (f : SysState → SysState) : (s.modSys f).cp = s.cp := rfl
@[simp] theorem State.modSys_evt (s : State) (f : SysState → SysState) : (s.modSys f).evt = s.evt := rfl
@[simp] theorem State.modSys_rcd (s : State) (f : SysState → SysState) : (s.modSys f).rcd = s.rcd := rfl
@[simp] theorem State.modSys_quotas (s : State) (f : SysState → SysState) : (s.modSys f).quotas = s.quotas := rfl
@[simp] theorem State.modSys_confs (s : State) (f : SysState → SysState) : (s.modSys f).confs = s.confs := rfl
@[simp] theorem State.modSys_legs (s : State) (f : SysState → SysState) : (s.modSys f).legs = s.legs := rfl
@[simp] theorem State.modSys_flows (s : State) (f : SysState → SysState) : (s.modSys f).flows = s.flows := rfl
@[simp] theorem State.modSys_net (s : State) (f : SysState → SysState) : (s.modSys f).net = s.net := rfl
@[simp] theorem State.modSys_cip (s : State) (f : SysState → SysState) : (s.modSys f).cip = s.cip := rfl
@[simp] theorem State.modSys_trust (s : State) (f : SysState → SysState) : (s.modSys f).trust = s.trust := rfl
@[simp] theorem State.modSys_aud (s : State) (f : SysState → SysState) : (s.modSys f).aud = s.aud := rfl
@[simp] theorem State.modSys_units (s : State) (f : SysState → SysState) : (s.modSys f).units = s.units := rfl
@[simp] theorem State.modSys_disp (s : State) (f : SysState → SysState) : (s.modSys f).disp = s.disp := rfl
@[simp] theorem State.modSys_mem (s : State) (f : SysState → SysState) : (s.modSys f).mem = s.mem := rfl
@[simp] theorem State.modSys_dma (s : State) (f : SysState → SysState) : (s.modSys f).dma = s.dma := rfl
@[simp] theorem State.modSys_vid (s : State) (f : SysState → SysState) : (s.modSys f).vid = s.vid := rfl

/-! modTrust. -/

@[simp] theorem State.modTrust_pending (s : State) (f : TrustState → TrustState) : (s.modTrust f).pending = s.pending := rfl
@[simp] theorem State.modTrust_out (s : State) (f : TrustState → TrustState) : (s.modTrust f).out = s.out := rfl
@[simp] theorem State.modTrust_fresh (s : State) (f : TrustState → TrustState) : (s.modTrust f).fresh = s.fresh := rfl
@[simp] theorem State.modTrust_time (s : State) (f : TrustState → TrustState) : (s.modTrust f).time = s.time := rfl
@[simp] theorem State.modTrust_sys (s : State) (f : TrustState → TrustState) : (s.modTrust f).sys = s.sys := rfl
@[simp] theorem State.modTrust_host (s : State) (f : TrustState → TrustState) : (s.modTrust f).host = s.host := rfl
@[simp] theorem State.modTrust_cp (s : State) (f : TrustState → TrustState) : (s.modTrust f).cp = s.cp := rfl
@[simp] theorem State.modTrust_evt (s : State) (f : TrustState → TrustState) : (s.modTrust f).evt = s.evt := rfl
@[simp] theorem State.modTrust_rcd (s : State) (f : TrustState → TrustState) : (s.modTrust f).rcd = s.rcd := rfl
@[simp] theorem State.modTrust_quotas (s : State) (f : TrustState → TrustState) : (s.modTrust f).quotas = s.quotas := rfl
@[simp] theorem State.modTrust_confs (s : State) (f : TrustState → TrustState) : (s.modTrust f).confs = s.confs := rfl
@[simp] theorem State.modTrust_legs (s : State) (f : TrustState → TrustState) : (s.modTrust f).legs = s.legs := rfl
@[simp] theorem State.modTrust_flows (s : State) (f : TrustState → TrustState) : (s.modTrust f).flows = s.flows := rfl
@[simp] theorem State.modTrust_net (s : State) (f : TrustState → TrustState) : (s.modTrust f).net = s.net := rfl
@[simp] theorem State.modTrust_cip (s : State) (f : TrustState → TrustState) : (s.modTrust f).cip = s.cip := rfl
@[simp] theorem State.modTrust_trust (s : State) (f : TrustState → TrustState) : (s.modTrust f).trust = f s.trust := rfl
@[simp] theorem State.modTrust_aud (s : State) (f : TrustState → TrustState) : (s.modTrust f).aud = s.aud := rfl
@[simp] theorem State.modTrust_units (s : State) (f : TrustState → TrustState) : (s.modTrust f).units = s.units := rfl
@[simp] theorem State.modTrust_disp (s : State) (f : TrustState → TrustState) : (s.modTrust f).disp = s.disp := rfl
@[simp] theorem State.modTrust_mem (s : State) (f : TrustState → TrustState) : (s.modTrust f).mem = s.mem := rfl
@[simp] theorem State.modTrust_dma (s : State) (f : TrustState → TrustState) : (s.modTrust f).dma = s.dma := rfl
@[simp] theorem State.modTrust_vid (s : State) (f : TrustState → TrustState) : (s.modTrust f).vid = s.vid := rfl

/-! modUnits. -/

@[simp] theorem State.modUnits_pending (s : State) (f : UnitsState → UnitsState) : (s.modUnits f).pending = s.pending := rfl
@[simp] theorem State.modUnits_out (s : State) (f : UnitsState → UnitsState) : (s.modUnits f).out = s.out := rfl
@[simp] theorem State.modUnits_fresh (s : State) (f : UnitsState → UnitsState) : (s.modUnits f).fresh = s.fresh := rfl
@[simp] theorem State.modUnits_time (s : State) (f : UnitsState → UnitsState) : (s.modUnits f).time = s.time := rfl
@[simp] theorem State.modUnits_sys (s : State) (f : UnitsState → UnitsState) : (s.modUnits f).sys = s.sys := rfl
@[simp] theorem State.modUnits_host (s : State) (f : UnitsState → UnitsState) : (s.modUnits f).host = s.host := rfl
@[simp] theorem State.modUnits_cp (s : State) (f : UnitsState → UnitsState) : (s.modUnits f).cp = s.cp := rfl
@[simp] theorem State.modUnits_evt (s : State) (f : UnitsState → UnitsState) : (s.modUnits f).evt = s.evt := rfl
@[simp] theorem State.modUnits_rcd (s : State) (f : UnitsState → UnitsState) : (s.modUnits f).rcd = s.rcd := rfl
@[simp] theorem State.modUnits_quotas (s : State) (f : UnitsState → UnitsState) : (s.modUnits f).quotas = s.quotas := rfl
@[simp] theorem State.modUnits_confs (s : State) (f : UnitsState → UnitsState) : (s.modUnits f).confs = s.confs := rfl
@[simp] theorem State.modUnits_legs (s : State) (f : UnitsState → UnitsState) : (s.modUnits f).legs = s.legs := rfl
@[simp] theorem State.modUnits_flows (s : State) (f : UnitsState → UnitsState) : (s.modUnits f).flows = s.flows := rfl
@[simp] theorem State.modUnits_net (s : State) (f : UnitsState → UnitsState) : (s.modUnits f).net = s.net := rfl
@[simp] theorem State.modUnits_cip (s : State) (f : UnitsState → UnitsState) : (s.modUnits f).cip = s.cip := rfl
@[simp] theorem State.modUnits_trust (s : State) (f : UnitsState → UnitsState) : (s.modUnits f).trust = s.trust := rfl
@[simp] theorem State.modUnits_aud (s : State) (f : UnitsState → UnitsState) : (s.modUnits f).aud = s.aud := rfl
@[simp] theorem State.modUnits_units (s : State) (f : UnitsState → UnitsState) : (s.modUnits f).units = f s.units := rfl
@[simp] theorem State.modUnits_disp (s : State) (f : UnitsState → UnitsState) : (s.modUnits f).disp = s.disp := rfl
@[simp] theorem State.modUnits_mem (s : State) (f : UnitsState → UnitsState) : (s.modUnits f).mem = s.mem := rfl
@[simp] theorem State.modUnits_dma (s : State) (f : UnitsState → UnitsState) : (s.modUnits f).dma = s.dma := rfl
@[simp] theorem State.modUnits_vid (s : State) (f : UnitsState → UnitsState) : (s.modUnits f).vid = s.vid := rfl

/-! modTime. -/

@[simp] theorem State.modTime_pending (s : State) (f : TimeUnit → TimeUnit) : (s.modTime f).pending = s.pending := rfl
@[simp] theorem State.modTime_out (s : State) (f : TimeUnit → TimeUnit) : (s.modTime f).out = s.out := rfl
@[simp] theorem State.modTime_fresh (s : State) (f : TimeUnit → TimeUnit) : (s.modTime f).fresh = s.fresh := rfl
@[simp] theorem State.modTime_time (s : State) (f : TimeUnit → TimeUnit) : (s.modTime f).time = f s.time := rfl
@[simp] theorem State.modTime_sys (s : State) (f : TimeUnit → TimeUnit) : (s.modTime f).sys = s.sys := rfl
@[simp] theorem State.modTime_host (s : State) (f : TimeUnit → TimeUnit) : (s.modTime f).host = s.host := rfl
@[simp] theorem State.modTime_cp (s : State) (f : TimeUnit → TimeUnit) : (s.modTime f).cp = s.cp := rfl
@[simp] theorem State.modTime_evt (s : State) (f : TimeUnit → TimeUnit) : (s.modTime f).evt = s.evt := rfl
@[simp] theorem State.modTime_rcd (s : State) (f : TimeUnit → TimeUnit) : (s.modTime f).rcd = s.rcd := rfl
@[simp] theorem State.modTime_quotas (s : State) (f : TimeUnit → TimeUnit) : (s.modTime f).quotas = s.quotas := rfl
@[simp] theorem State.modTime_confs (s : State) (f : TimeUnit → TimeUnit) : (s.modTime f).confs = s.confs := rfl
@[simp] theorem State.modTime_legs (s : State) (f : TimeUnit → TimeUnit) : (s.modTime f).legs = s.legs := rfl
@[simp] theorem State.modTime_flows (s : State) (f : TimeUnit → TimeUnit) : (s.modTime f).flows = s.flows := rfl
@[simp] theorem State.modTime_net (s : State) (f : TimeUnit → TimeUnit) : (s.modTime f).net = s.net := rfl
@[simp] theorem State.modTime_cip (s : State) (f : TimeUnit → TimeUnit) : (s.modTime f).cip = s.cip := rfl
@[simp] theorem State.modTime_trust (s : State) (f : TimeUnit → TimeUnit) : (s.modTime f).trust = s.trust := rfl
@[simp] theorem State.modTime_aud (s : State) (f : TimeUnit → TimeUnit) : (s.modTime f).aud = s.aud := rfl
@[simp] theorem State.modTime_units (s : State) (f : TimeUnit → TimeUnit) : (s.modTime f).units = s.units := rfl
@[simp] theorem State.modTime_disp (s : State) (f : TimeUnit → TimeUnit) : (s.modTime f).disp = s.disp := rfl
@[simp] theorem State.modTime_mem (s : State) (f : TimeUnit → TimeUnit) : (s.modTime f).mem = s.mem := rfl
@[simp] theorem State.modTime_dma (s : State) (f : TimeUnit → TimeUnit) : (s.modTime f).dma = s.dma := rfl
@[simp] theorem State.modTime_vid (s : State) (f : TimeUnit → TimeUnit) : (s.modTime f).vid = s.vid := rfl

/-! modMem. -/

@[simp] theorem State.modMem_pending (s : State) (f : MemState → MemState) : (s.modMem f).pending = s.pending := rfl
@[simp] theorem State.modMem_out (s : State) (f : MemState → MemState) : (s.modMem f).out = s.out := rfl
@[simp] theorem State.modMem_fresh (s : State) (f : MemState → MemState) : (s.modMem f).fresh = s.fresh := rfl
@[simp] theorem State.modMem_time (s : State) (f : MemState → MemState) : (s.modMem f).time = s.time := rfl
@[simp] theorem State.modMem_sys (s : State) (f : MemState → MemState) : (s.modMem f).sys = s.sys := rfl
@[simp] theorem State.modMem_host (s : State) (f : MemState → MemState) : (s.modMem f).host = s.host := rfl
@[simp] theorem State.modMem_cp (s : State) (f : MemState → MemState) : (s.modMem f).cp = s.cp := rfl
@[simp] theorem State.modMem_evt (s : State) (f : MemState → MemState) : (s.modMem f).evt = s.evt := rfl
@[simp] theorem State.modMem_rcd (s : State) (f : MemState → MemState) : (s.modMem f).rcd = s.rcd := rfl
@[simp] theorem State.modMem_quotas (s : State) (f : MemState → MemState) : (s.modMem f).quotas = s.quotas := rfl
@[simp] theorem State.modMem_confs (s : State) (f : MemState → MemState) : (s.modMem f).confs = s.confs := rfl
@[simp] theorem State.modMem_legs (s : State) (f : MemState → MemState) : (s.modMem f).legs = s.legs := rfl
@[simp] theorem State.modMem_flows (s : State) (f : MemState → MemState) : (s.modMem f).flows = s.flows := rfl
@[simp] theorem State.modMem_net (s : State) (f : MemState → MemState) : (s.modMem f).net = s.net := rfl
@[simp] theorem State.modMem_cip (s : State) (f : MemState → MemState) : (s.modMem f).cip = s.cip := rfl
@[simp] theorem State.modMem_trust (s : State) (f : MemState → MemState) : (s.modMem f).trust = s.trust := rfl
@[simp] theorem State.modMem_aud (s : State) (f : MemState → MemState) : (s.modMem f).aud = s.aud := rfl
@[simp] theorem State.modMem_units (s : State) (f : MemState → MemState) : (s.modMem f).units = s.units := rfl
@[simp] theorem State.modMem_disp (s : State) (f : MemState → MemState) : (s.modMem f).disp = s.disp := rfl
@[simp] theorem State.modMem_mem (s : State) (f : MemState → MemState) : (s.modMem f).mem = f s.mem := rfl
@[simp] theorem State.modMem_dma (s : State) (f : MemState → MemState) : (s.modMem f).dma = s.dma := rfl
@[simp] theorem State.modMem_vid (s : State) (f : MemState → MemState) : (s.modMem f).vid = s.vid := rfl

/-! modDma. -/

@[simp] theorem State.modDma_pending (s : State) (f : DmaState → DmaState) : (s.modDma f).pending = s.pending := rfl
@[simp] theorem State.modDma_out (s : State) (f : DmaState → DmaState) : (s.modDma f).out = s.out := rfl
@[simp] theorem State.modDma_fresh (s : State) (f : DmaState → DmaState) : (s.modDma f).fresh = s.fresh := rfl
@[simp] theorem State.modDma_time (s : State) (f : DmaState → DmaState) : (s.modDma f).time = s.time := rfl
@[simp] theorem State.modDma_sys (s : State) (f : DmaState → DmaState) : (s.modDma f).sys = s.sys := rfl
@[simp] theorem State.modDma_host (s : State) (f : DmaState → DmaState) : (s.modDma f).host = s.host := rfl
@[simp] theorem State.modDma_cp (s : State) (f : DmaState → DmaState) : (s.modDma f).cp = s.cp := rfl
@[simp] theorem State.modDma_evt (s : State) (f : DmaState → DmaState) : (s.modDma f).evt = s.evt := rfl
@[simp] theorem State.modDma_rcd (s : State) (f : DmaState → DmaState) : (s.modDma f).rcd = s.rcd := rfl
@[simp] theorem State.modDma_quotas (s : State) (f : DmaState → DmaState) : (s.modDma f).quotas = s.quotas := rfl
@[simp] theorem State.modDma_confs (s : State) (f : DmaState → DmaState) : (s.modDma f).confs = s.confs := rfl
@[simp] theorem State.modDma_legs (s : State) (f : DmaState → DmaState) : (s.modDma f).legs = s.legs := rfl
@[simp] theorem State.modDma_flows (s : State) (f : DmaState → DmaState) : (s.modDma f).flows = s.flows := rfl
@[simp] theorem State.modDma_net (s : State) (f : DmaState → DmaState) : (s.modDma f).net = s.net := rfl
@[simp] theorem State.modDma_cip (s : State) (f : DmaState → DmaState) : (s.modDma f).cip = s.cip := rfl
@[simp] theorem State.modDma_trust (s : State) (f : DmaState → DmaState) : (s.modDma f).trust = s.trust := rfl
@[simp] theorem State.modDma_aud (s : State) (f : DmaState → DmaState) : (s.modDma f).aud = s.aud := rfl
@[simp] theorem State.modDma_units (s : State) (f : DmaState → DmaState) : (s.modDma f).units = s.units := rfl
@[simp] theorem State.modDma_disp (s : State) (f : DmaState → DmaState) : (s.modDma f).disp = s.disp := rfl
@[simp] theorem State.modDma_mem (s : State) (f : DmaState → DmaState) : (s.modDma f).mem = s.mem := rfl
@[simp] theorem State.modDma_dma (s : State) (f : DmaState → DmaState) : (s.modDma f).dma = f s.dma := rfl
@[simp] theorem State.modDma_vid (s : State) (f : DmaState → DmaState) : (s.modDma f).vid = s.vid := rfl

/-! modVid. -/

@[simp] theorem State.modVid_pending (s : State) (f : VideoState → VideoState) : (s.modVid f).pending = s.pending := rfl
@[simp] theorem State.modVid_out (s : State) (f : VideoState → VideoState) : (s.modVid f).out = s.out := rfl
@[simp] theorem State.modVid_fresh (s : State) (f : VideoState → VideoState) : (s.modVid f).fresh = s.fresh := rfl
@[simp] theorem State.modVid_time (s : State) (f : VideoState → VideoState) : (s.modVid f).time = s.time := rfl
@[simp] theorem State.modVid_sys (s : State) (f : VideoState → VideoState) : (s.modVid f).sys = s.sys := rfl
@[simp] theorem State.modVid_host (s : State) (f : VideoState → VideoState) : (s.modVid f).host = s.host := rfl
@[simp] theorem State.modVid_cp (s : State) (f : VideoState → VideoState) : (s.modVid f).cp = s.cp := rfl
@[simp] theorem State.modVid_evt (s : State) (f : VideoState → VideoState) : (s.modVid f).evt = s.evt := rfl
@[simp] theorem State.modVid_rcd (s : State) (f : VideoState → VideoState) : (s.modVid f).rcd = s.rcd := rfl
@[simp] theorem State.modVid_quotas (s : State) (f : VideoState → VideoState) : (s.modVid f).quotas = s.quotas := rfl
@[simp] theorem State.modVid_confs (s : State) (f : VideoState → VideoState) : (s.modVid f).confs = s.confs := rfl
@[simp] theorem State.modVid_legs (s : State) (f : VideoState → VideoState) : (s.modVid f).legs = s.legs := rfl
@[simp] theorem State.modVid_flows (s : State) (f : VideoState → VideoState) : (s.modVid f).flows = s.flows := rfl
@[simp] theorem State.modVid_net (s : State) (f : VideoState → VideoState) : (s.modVid f).net = s.net := rfl
@[simp] theorem State.modVid_cip (s : State) (f : VideoState → VideoState) : (s.modVid f).cip = s.cip := rfl
@[simp] theorem State.modVid_trust (s : State) (f : VideoState → VideoState) : (s.modVid f).trust = s.trust := rfl
@[simp] theorem State.modVid_aud (s : State) (f : VideoState → VideoState) : (s.modVid f).aud = s.aud := rfl
@[simp] theorem State.modVid_units (s : State) (f : VideoState → VideoState) : (s.modVid f).units = s.units := rfl
@[simp] theorem State.modVid_disp (s : State) (f : VideoState → VideoState) : (s.modVid f).disp = s.disp := rfl
@[simp] theorem State.modVid_mem (s : State) (f : VideoState → VideoState) : (s.modVid f).mem = s.mem := rfl
@[simp] theorem State.modVid_dma (s : State) (f : VideoState → VideoState) : (s.modVid f).dma = s.dma := rfl
@[simp] theorem State.modVid_vid (s : State) (f : VideoState → VideoState) : (s.modVid f).vid = f s.vid := rfl

/-! modDisp. -/

@[simp] theorem State.modDisp_pending (s : State) (f : DispState → DispState) : (s.modDisp f).pending = s.pending := rfl
@[simp] theorem State.modDisp_out (s : State) (f : DispState → DispState) : (s.modDisp f).out = s.out := rfl
@[simp] theorem State.modDisp_fresh (s : State) (f : DispState → DispState) : (s.modDisp f).fresh = s.fresh := rfl
@[simp] theorem State.modDisp_time (s : State) (f : DispState → DispState) : (s.modDisp f).time = s.time := rfl
@[simp] theorem State.modDisp_sys (s : State) (f : DispState → DispState) : (s.modDisp f).sys = s.sys := rfl
@[simp] theorem State.modDisp_host (s : State) (f : DispState → DispState) : (s.modDisp f).host = s.host := rfl
@[simp] theorem State.modDisp_cp (s : State) (f : DispState → DispState) : (s.modDisp f).cp = s.cp := rfl
@[simp] theorem State.modDisp_evt (s : State) (f : DispState → DispState) : (s.modDisp f).evt = s.evt := rfl
@[simp] theorem State.modDisp_rcd (s : State) (f : DispState → DispState) : (s.modDisp f).rcd = s.rcd := rfl
@[simp] theorem State.modDisp_quotas (s : State) (f : DispState → DispState) : (s.modDisp f).quotas = s.quotas := rfl
@[simp] theorem State.modDisp_confs (s : State) (f : DispState → DispState) : (s.modDisp f).confs = s.confs := rfl
@[simp] theorem State.modDisp_legs (s : State) (f : DispState → DispState) : (s.modDisp f).legs = s.legs := rfl
@[simp] theorem State.modDisp_flows (s : State) (f : DispState → DispState) : (s.modDisp f).flows = s.flows := rfl
@[simp] theorem State.modDisp_net (s : State) (f : DispState → DispState) : (s.modDisp f).net = s.net := rfl
@[simp] theorem State.modDisp_cip (s : State) (f : DispState → DispState) : (s.modDisp f).cip = s.cip := rfl
@[simp] theorem State.modDisp_trust (s : State) (f : DispState → DispState) : (s.modDisp f).trust = s.trust := rfl
@[simp] theorem State.modDisp_aud (s : State) (f : DispState → DispState) : (s.modDisp f).aud = s.aud := rfl
@[simp] theorem State.modDisp_units (s : State) (f : DispState → DispState) : (s.modDisp f).units = s.units := rfl
@[simp] theorem State.modDisp_disp (s : State) (f : DispState → DispState) : (s.modDisp f).disp = f s.disp := rfl
@[simp] theorem State.modDisp_mem (s : State) (f : DispState → DispState) : (s.modDisp f).mem = s.mem := rfl
@[simp] theorem State.modDisp_dma (s : State) (f : DispState → DispState) : (s.modDisp f).dma = s.dma := rfl
@[simp] theorem State.modDisp_vid (s : State) (f : DispState → DispState) : (s.modDisp f).vid = s.vid := rfl

/-! modMgmt. -/

@[simp] theorem State.modMgmt_pending (s : State) (f : Mgmt → Mgmt) : (s.modMgmt f).pending = s.pending := rfl
@[simp] theorem State.modMgmt_out (s : State) (f : Mgmt → Mgmt) : (s.modMgmt f).out = s.out := rfl
@[simp] theorem State.modMgmt_fresh (s : State) (f : Mgmt → Mgmt) : (s.modMgmt f).fresh = s.fresh := rfl
@[simp] theorem State.modMgmt_time (s : State) (f : Mgmt → Mgmt) : (s.modMgmt f).time = s.time := rfl
@[simp] theorem State.modMgmt_sys (s : State) (f : Mgmt → Mgmt) : (s.modMgmt f).sys = s.sys := rfl
@[simp] theorem State.modMgmt_host (s : State) (f : Mgmt → Mgmt) : (s.modMgmt f).host = { s.host with mgmt := f s.host.mgmt } := rfl
@[simp] theorem State.modMgmt_cp (s : State) (f : Mgmt → Mgmt) : (s.modMgmt f).cp = s.cp := rfl
@[simp] theorem State.modMgmt_evt (s : State) (f : Mgmt → Mgmt) : (s.modMgmt f).evt = s.evt := rfl
@[simp] theorem State.modMgmt_rcd (s : State) (f : Mgmt → Mgmt) : (s.modMgmt f).rcd = s.rcd := rfl
@[simp] theorem State.modMgmt_quotas (s : State) (f : Mgmt → Mgmt) : (s.modMgmt f).quotas = s.quotas := rfl
@[simp] theorem State.modMgmt_confs (s : State) (f : Mgmt → Mgmt) : (s.modMgmt f).confs = s.confs := rfl
@[simp] theorem State.modMgmt_legs (s : State) (f : Mgmt → Mgmt) : (s.modMgmt f).legs = s.legs := rfl
@[simp] theorem State.modMgmt_flows (s : State) (f : Mgmt → Mgmt) : (s.modMgmt f).flows = s.flows := rfl
@[simp] theorem State.modMgmt_net (s : State) (f : Mgmt → Mgmt) : (s.modMgmt f).net = s.net := rfl
@[simp] theorem State.modMgmt_cip (s : State) (f : Mgmt → Mgmt) : (s.modMgmt f).cip = s.cip := rfl
@[simp] theorem State.modMgmt_trust (s : State) (f : Mgmt → Mgmt) : (s.modMgmt f).trust = s.trust := rfl
@[simp] theorem State.modMgmt_aud (s : State) (f : Mgmt → Mgmt) : (s.modMgmt f).aud = s.aud := rfl
@[simp] theorem State.modMgmt_units (s : State) (f : Mgmt → Mgmt) : (s.modMgmt f).units = s.units := rfl
@[simp] theorem State.modMgmt_disp (s : State) (f : Mgmt → Mgmt) : (s.modMgmt f).disp = s.disp := rfl
@[simp] theorem State.modMgmt_mem (s : State) (f : Mgmt → Mgmt) : (s.modMgmt f).mem = s.mem := rfl
@[simp] theorem State.modMgmt_dma (s : State) (f : Mgmt → Mgmt) : (s.modMgmt f).dma = s.dma := rfl
@[simp] theorem State.modMgmt_vid (s : State) (f : Mgmt → Mgmt) : (s.modMgmt f).vid = s.vid := rfl

/-! modPort. -/

@[simp] theorem State.modPort_pending (s : State) (p : Nat) (f : LPort → LPort) : (s.modPort p f).pending = s.pending := rfl
@[simp] theorem State.modPort_out (s : State) (p : Nat) (f : LPort → LPort) : (s.modPort p f).out = s.out := rfl
@[simp] theorem State.modPort_fresh (s : State) (p : Nat) (f : LPort → LPort) : (s.modPort p f).fresh = s.fresh := rfl
@[simp] theorem State.modPort_time (s : State) (p : Nat) (f : LPort → LPort) : (s.modPort p f).time = s.time := rfl
@[simp] theorem State.modPort_sys (s : State) (p : Nat) (f : LPort → LPort) : (s.modPort p f).sys = s.sys := rfl
@[simp] theorem State.modPort_host (s : State) (p : Nat) (f : LPort → LPort) : (s.modPort p f).host = s.host := rfl
@[simp] theorem State.modPort_cp (s : State) (p : Nat) (f : LPort → LPort) : (s.modPort p f).cp = s.cp := rfl
@[simp] theorem State.modPort_evt (s : State) (p : Nat) (f : LPort → LPort) : (s.modPort p f).evt = s.evt := rfl
@[simp] theorem State.modPort_rcd (s : State) (p : Nat) (f : LPort → LPort) : (s.modPort p f).rcd = s.rcd := rfl
@[simp] theorem State.modPort_quotas (s : State) (p : Nat) (f : LPort → LPort) : (s.modPort p f).quotas = s.quotas := rfl
@[simp] theorem State.modPort_confs (s : State) (p : Nat) (f : LPort → LPort) : (s.modPort p f).confs = s.confs := rfl
@[simp] theorem State.modPort_legs (s : State) (p : Nat) (f : LPort → LPort) : (s.modPort p f).legs = s.legs := rfl
@[simp] theorem State.modPort_flows (s : State) (p : Nat) (f : LPort → LPort) : (s.modPort p f).flows = s.flows := rfl
@[simp] theorem State.modPort_cip (s : State) (p : Nat) (f : LPort → LPort) : (s.modPort p f).cip = s.cip := rfl
@[simp] theorem State.modPort_trust (s : State) (p : Nat) (f : LPort → LPort) : (s.modPort p f).trust = s.trust := rfl
@[simp] theorem State.modPort_aud (s : State) (p : Nat) (f : LPort → LPort) : (s.modPort p f).aud = s.aud := rfl
@[simp] theorem State.modPort_units (s : State) (p : Nat) (f : LPort → LPort) : (s.modPort p f).units = s.units := rfl
@[simp] theorem State.modPort_disp (s : State) (p : Nat) (f : LPort → LPort) : (s.modPort p f).disp = s.disp := rfl
@[simp] theorem State.modPort_mem (s : State) (p : Nat) (f : LPort → LPort) : (s.modPort p f).mem = s.mem := rfl
@[simp] theorem State.modPort_dma (s : State) (p : Nat) (f : LPort → LPort) : (s.modPort p f).dma = s.dma := rfl
@[simp] theorem State.modPort_vid (s : State) (p : Nat) (f : LPort → LPort) : (s.modPort p f).vid = s.vid := rfl

/-! modPhys. -/

@[simp] theorem State.modPhys_pending (s : State) (p : Nat) (f : PhysPort → PhysPort) : (s.modPhys p f).pending = s.pending := rfl
@[simp] theorem State.modPhys_out (s : State) (p : Nat) (f : PhysPort → PhysPort) : (s.modPhys p f).out = s.out := rfl
@[simp] theorem State.modPhys_fresh (s : State) (p : Nat) (f : PhysPort → PhysPort) : (s.modPhys p f).fresh = s.fresh := rfl
@[simp] theorem State.modPhys_time (s : State) (p : Nat) (f : PhysPort → PhysPort) : (s.modPhys p f).time = s.time := rfl
@[simp] theorem State.modPhys_sys (s : State) (p : Nat) (f : PhysPort → PhysPort) : (s.modPhys p f).sys = s.sys := rfl
@[simp] theorem State.modPhys_host (s : State) (p : Nat) (f : PhysPort → PhysPort) : (s.modPhys p f).host = s.host := rfl
@[simp] theorem State.modPhys_cp (s : State) (p : Nat) (f : PhysPort → PhysPort) : (s.modPhys p f).cp = s.cp := rfl
@[simp] theorem State.modPhys_evt (s : State) (p : Nat) (f : PhysPort → PhysPort) : (s.modPhys p f).evt = s.evt := rfl
@[simp] theorem State.modPhys_rcd (s : State) (p : Nat) (f : PhysPort → PhysPort) : (s.modPhys p f).rcd = s.rcd := rfl
@[simp] theorem State.modPhys_quotas (s : State) (p : Nat) (f : PhysPort → PhysPort) : (s.modPhys p f).quotas = s.quotas := rfl
@[simp] theorem State.modPhys_confs (s : State) (p : Nat) (f : PhysPort → PhysPort) : (s.modPhys p f).confs = s.confs := rfl
@[simp] theorem State.modPhys_legs (s : State) (p : Nat) (f : PhysPort → PhysPort) : (s.modPhys p f).legs = s.legs := rfl
@[simp] theorem State.modPhys_flows (s : State) (p : Nat) (f : PhysPort → PhysPort) : (s.modPhys p f).flows = s.flows := rfl
@[simp] theorem State.modPhys_cip (s : State) (p : Nat) (f : PhysPort → PhysPort) : (s.modPhys p f).cip = s.cip := rfl
@[simp] theorem State.modPhys_trust (s : State) (p : Nat) (f : PhysPort → PhysPort) : (s.modPhys p f).trust = s.trust := rfl
@[simp] theorem State.modPhys_aud (s : State) (p : Nat) (f : PhysPort → PhysPort) : (s.modPhys p f).aud = s.aud := rfl
@[simp] theorem State.modPhys_units (s : State) (p : Nat) (f : PhysPort → PhysPort) : (s.modPhys p f).units = s.units := rfl
@[simp] theorem State.modPhys_disp (s : State) (p : Nat) (f : PhysPort → PhysPort) : (s.modPhys p f).disp = s.disp := rfl
@[simp] theorem State.modPhys_mem (s : State) (p : Nat) (f : PhysPort → PhysPort) : (s.modPhys p f).mem = s.mem := rfl
@[simp] theorem State.modPhys_dma (s : State) (p : Nat) (f : PhysPort → PhysPort) : (s.modPhys p f).dma = s.dma := rfl
@[simp] theorem State.modPhys_vid (s : State) (p : Nat) (f : PhysPort → PhysPort) : (s.modPhys p f).vid = s.vid := rfl

/-! modRing. -/

@[simp] theorem State.modRing_pending (s : State) (p c : Nat) (f : Ring → Ring) : (s.modRing p c f).pending = s.pending := rfl
@[simp] theorem State.modRing_out (s : State) (p c : Nat) (f : Ring → Ring) : (s.modRing p c f).out = s.out := rfl
@[simp] theorem State.modRing_fresh (s : State) (p c : Nat) (f : Ring → Ring) : (s.modRing p c f).fresh = s.fresh := rfl
@[simp] theorem State.modRing_time (s : State) (p c : Nat) (f : Ring → Ring) : (s.modRing p c f).time = s.time := rfl
@[simp] theorem State.modRing_sys (s : State) (p c : Nat) (f : Ring → Ring) : (s.modRing p c f).sys = s.sys := rfl
@[simp] theorem State.modRing_host (s : State) (p c : Nat) (f : Ring → Ring) : (s.modRing p c f).host = s.host := rfl
@[simp] theorem State.modRing_cp (s : State) (p c : Nat) (f : Ring → Ring) : (s.modRing p c f).cp = s.cp := rfl
@[simp] theorem State.modRing_evt (s : State) (p c : Nat) (f : Ring → Ring) : (s.modRing p c f).evt = s.evt := rfl
@[simp] theorem State.modRing_rcd (s : State) (p c : Nat) (f : Ring → Ring) : (s.modRing p c f).rcd = s.rcd := rfl
@[simp] theorem State.modRing_quotas (s : State) (p c : Nat) (f : Ring → Ring) : (s.modRing p c f).quotas = s.quotas := rfl
@[simp] theorem State.modRing_confs (s : State) (p c : Nat) (f : Ring → Ring) : (s.modRing p c f).confs = s.confs := rfl
@[simp] theorem State.modRing_legs (s : State) (p c : Nat) (f : Ring → Ring) : (s.modRing p c f).legs = s.legs := rfl
@[simp] theorem State.modRing_flows (s : State) (p c : Nat) (f : Ring → Ring) : (s.modRing p c f).flows = s.flows := rfl
@[simp] theorem State.modRing_cip (s : State) (p c : Nat) (f : Ring → Ring) : (s.modRing p c f).cip = s.cip := rfl
@[simp] theorem State.modRing_trust (s : State) (p c : Nat) (f : Ring → Ring) : (s.modRing p c f).trust = s.trust := rfl
@[simp] theorem State.modRing_aud (s : State) (p c : Nat) (f : Ring → Ring) : (s.modRing p c f).aud = s.aud := rfl
@[simp] theorem State.modRing_units (s : State) (p c : Nat) (f : Ring → Ring) : (s.modRing p c f).units = s.units := rfl
@[simp] theorem State.modRing_disp (s : State) (p c : Nat) (f : Ring → Ring) : (s.modRing p c f).disp = s.disp := rfl
@[simp] theorem State.modRing_mem (s : State) (p c : Nat) (f : Ring → Ring) : (s.modRing p c f).mem = s.mem := rfl
@[simp] theorem State.modRing_dma (s : State) (p c : Nat) (f : Ring → Ring) : (s.modRing p c f).dma = s.dma := rfl
@[simp] theorem State.modRing_vid (s : State) (p c : Nat) (f : Ring → Ring) : (s.modRing p c f).vid = s.vid := rfl

/-! modLink. -/

@[simp] theorem State.modLink_pending (s : State) (k : Nat) (f : DieLink → DieLink) : (s.modLink k f).pending = s.pending := rfl
@[simp] theorem State.modLink_out (s : State) (k : Nat) (f : DieLink → DieLink) : (s.modLink k f).out = s.out := rfl
@[simp] theorem State.modLink_fresh (s : State) (k : Nat) (f : DieLink → DieLink) : (s.modLink k f).fresh = s.fresh := rfl
@[simp] theorem State.modLink_time (s : State) (k : Nat) (f : DieLink → DieLink) : (s.modLink k f).time = s.time := rfl
@[simp] theorem State.modLink_sys (s : State) (k : Nat) (f : DieLink → DieLink) : (s.modLink k f).sys = s.sys := rfl
@[simp] theorem State.modLink_host (s : State) (k : Nat) (f : DieLink → DieLink) : (s.modLink k f).host = s.host := rfl
@[simp] theorem State.modLink_cp (s : State) (k : Nat) (f : DieLink → DieLink) : (s.modLink k f).cp = s.cp := rfl
@[simp] theorem State.modLink_evt (s : State) (k : Nat) (f : DieLink → DieLink) : (s.modLink k f).evt = s.evt := rfl
@[simp] theorem State.modLink_rcd (s : State) (k : Nat) (f : DieLink → DieLink) : (s.modLink k f).rcd = s.rcd := rfl
@[simp] theorem State.modLink_quotas (s : State) (k : Nat) (f : DieLink → DieLink) : (s.modLink k f).quotas = s.quotas := rfl
@[simp] theorem State.modLink_confs (s : State) (k : Nat) (f : DieLink → DieLink) : (s.modLink k f).confs = s.confs := rfl
@[simp] theorem State.modLink_legs (s : State) (k : Nat) (f : DieLink → DieLink) : (s.modLink k f).legs = s.legs := rfl
@[simp] theorem State.modLink_flows (s : State) (k : Nat) (f : DieLink → DieLink) : (s.modLink k f).flows = s.flows := rfl
@[simp] theorem State.modLink_net (s : State) (k : Nat) (f : DieLink → DieLink) : (s.modLink k f).net = s.net := rfl
@[simp] theorem State.modLink_cip (s : State) (k : Nat) (f : DieLink → DieLink) : (s.modLink k f).cip = s.cip := rfl
@[simp] theorem State.modLink_trust (s : State) (k : Nat) (f : DieLink → DieLink) : (s.modLink k f).trust = s.trust := rfl
@[simp] theorem State.modLink_aud (s : State) (k : Nat) (f : DieLink → DieLink) : (s.modLink k f).aud = s.aud := rfl
@[simp] theorem State.modLink_disp (s : State) (k : Nat) (f : DieLink → DieLink) : (s.modLink k f).disp = s.disp := rfl
@[simp] theorem State.modLink_mem (s : State) (k : Nat) (f : DieLink → DieLink) : (s.modLink k f).mem = s.mem := rfl
@[simp] theorem State.modLink_dma (s : State) (k : Nat) (f : DieLink → DieLink) : (s.modLink k f).dma = s.dma := rfl
@[simp] theorem State.modLink_vid (s : State) (k : Nat) (f : DieLink → DieLink) : (s.modLink k f).vid = s.vid := rfl

/-! modCluster. -/

@[simp] theorem State.modCluster_pending (s : State) (c : Nat) (f : Cluster → Cluster) : (s.modCluster c f).pending = s.pending := rfl
@[simp] theorem State.modCluster_out (s : State) (c : Nat) (f : Cluster → Cluster) : (s.modCluster c f).out = s.out := rfl
@[simp] theorem State.modCluster_fresh (s : State) (c : Nat) (f : Cluster → Cluster) : (s.modCluster c f).fresh = s.fresh := rfl
@[simp] theorem State.modCluster_time (s : State) (c : Nat) (f : Cluster → Cluster) : (s.modCluster c f).time = s.time := rfl
@[simp] theorem State.modCluster_sys (s : State) (c : Nat) (f : Cluster → Cluster) : (s.modCluster c f).sys = s.sys := rfl
@[simp] theorem State.modCluster_host (s : State) (c : Nat) (f : Cluster → Cluster) : (s.modCluster c f).host = s.host := rfl
@[simp] theorem State.modCluster_cp (s : State) (c : Nat) (f : Cluster → Cluster) : (s.modCluster c f).cp = s.cp := rfl
@[simp] theorem State.modCluster_evt (s : State) (c : Nat) (f : Cluster → Cluster) : (s.modCluster c f).evt = s.evt := rfl
@[simp] theorem State.modCluster_rcd (s : State) (c : Nat) (f : Cluster → Cluster) : (s.modCluster c f).rcd = s.rcd := rfl
@[simp] theorem State.modCluster_quotas (s : State) (c : Nat) (f : Cluster → Cluster) : (s.modCluster c f).quotas = s.quotas := rfl
@[simp] theorem State.modCluster_confs (s : State) (c : Nat) (f : Cluster → Cluster) : (s.modCluster c f).confs = s.confs := rfl
@[simp] theorem State.modCluster_legs (s : State) (c : Nat) (f : Cluster → Cluster) : (s.modCluster c f).legs = s.legs := rfl
@[simp] theorem State.modCluster_flows (s : State) (c : Nat) (f : Cluster → Cluster) : (s.modCluster c f).flows = s.flows := rfl
@[simp] theorem State.modCluster_net (s : State) (c : Nat) (f : Cluster → Cluster) : (s.modCluster c f).net = s.net := rfl
@[simp] theorem State.modCluster_cip (s : State) (c : Nat) (f : Cluster → Cluster) : (s.modCluster c f).cip = s.cip := rfl
@[simp] theorem State.modCluster_trust (s : State) (c : Nat) (f : Cluster → Cluster) : (s.modCluster c f).trust = s.trust := rfl
@[simp] theorem State.modCluster_aud (s : State) (c : Nat) (f : Cluster → Cluster) : (s.modCluster c f).aud = s.aud := rfl
@[simp] theorem State.modCluster_disp (s : State) (c : Nat) (f : Cluster → Cluster) : (s.modCluster c f).disp = s.disp := rfl
@[simp] theorem State.modCluster_mem (s : State) (c : Nat) (f : Cluster → Cluster) : (s.modCluster c f).mem = s.mem := rfl
@[simp] theorem State.modCluster_dma (s : State) (c : Nat) (f : Cluster → Cluster) : (s.modCluster c f).dma = s.dma := rfl
@[simp] theorem State.modCluster_vid (s : State) (c : Nat) (f : Cluster → Cluster) : (s.modCluster c f).vid = s.vid := rfl

/-! modSap. -/

@[simp] theorem State.modSap_pending (s : State) (p : Nat) (f : Sap → Sap) : (s.modSap p f).pending = s.pending := rfl
@[simp] theorem State.modSap_out (s : State) (p : Nat) (f : Sap → Sap) : (s.modSap p f).out = s.out := rfl
@[simp] theorem State.modSap_fresh (s : State) (p : Nat) (f : Sap → Sap) : (s.modSap p f).fresh = s.fresh := rfl
@[simp] theorem State.modSap_time (s : State) (p : Nat) (f : Sap → Sap) : (s.modSap p f).time = s.time := rfl
@[simp] theorem State.modSap_sys (s : State) (p : Nat) (f : Sap → Sap) : (s.modSap p f).sys = s.sys := rfl
@[simp] theorem State.modSap_host (s : State) (p : Nat) (f : Sap → Sap) : (s.modSap p f).host = s.host := rfl
@[simp] theorem State.modSap_cp (s : State) (p : Nat) (f : Sap → Sap) : (s.modSap p f).cp = s.cp := rfl
@[simp] theorem State.modSap_evt (s : State) (p : Nat) (f : Sap → Sap) : (s.modSap p f).evt = s.evt := rfl
@[simp] theorem State.modSap_rcd (s : State) (p : Nat) (f : Sap → Sap) : (s.modSap p f).rcd = s.rcd := rfl
@[simp] theorem State.modSap_quotas (s : State) (p : Nat) (f : Sap → Sap) : (s.modSap p f).quotas = s.quotas := rfl
@[simp] theorem State.modSap_confs (s : State) (p : Nat) (f : Sap → Sap) : (s.modSap p f).confs = s.confs := rfl
@[simp] theorem State.modSap_legs (s : State) (p : Nat) (f : Sap → Sap) : (s.modSap p f).legs = s.legs := rfl
@[simp] theorem State.modSap_flows (s : State) (p : Nat) (f : Sap → Sap) : (s.modSap p f).flows = s.flows := rfl
@[simp] theorem State.modSap_net (s : State) (p : Nat) (f : Sap → Sap) : (s.modSap p f).net = s.net := rfl
@[simp] theorem State.modSap_cip (s : State) (p : Nat) (f : Sap → Sap) : (s.modSap p f).cip = s.cip := rfl
@[simp] theorem State.modSap_trust (s : State) (p : Nat) (f : Sap → Sap) : (s.modSap p f).trust = s.trust := rfl
@[simp] theorem State.modSap_units (s : State) (p : Nat) (f : Sap → Sap) : (s.modSap p f).units = s.units := rfl
@[simp] theorem State.modSap_disp (s : State) (p : Nat) (f : Sap → Sap) : (s.modSap p f).disp = s.disp := rfl
@[simp] theorem State.modSap_mem (s : State) (p : Nat) (f : Sap → Sap) : (s.modSap p f).mem = s.mem := rfl
@[simp] theorem State.modSap_dma (s : State) (p : Nat) (f : Sap → Sap) : (s.modSap p f).dma = s.dma := rfl
@[simp] theorem State.modSap_vid (s : State) (p : Nat) (f : Sap → Sap) : (s.modSap p f).vid = s.vid := rfl

/-! setMix. -/

@[simp] theorem State.setMix_pending (s : State) (c : Nat) (m : ConfMix) : (s.setMix c m).pending = s.pending := rfl
@[simp] theorem State.setMix_out (s : State) (c : Nat) (m : ConfMix) : (s.setMix c m).out = s.out := rfl
@[simp] theorem State.setMix_fresh (s : State) (c : Nat) (m : ConfMix) : (s.setMix c m).fresh = s.fresh := rfl
@[simp] theorem State.setMix_time (s : State) (c : Nat) (m : ConfMix) : (s.setMix c m).time = s.time := rfl
@[simp] theorem State.setMix_sys (s : State) (c : Nat) (m : ConfMix) : (s.setMix c m).sys = s.sys := rfl
@[simp] theorem State.setMix_host (s : State) (c : Nat) (m : ConfMix) : (s.setMix c m).host = s.host := rfl
@[simp] theorem State.setMix_cp (s : State) (c : Nat) (m : ConfMix) : (s.setMix c m).cp = s.cp := rfl
@[simp] theorem State.setMix_evt (s : State) (c : Nat) (m : ConfMix) : (s.setMix c m).evt = s.evt := rfl
@[simp] theorem State.setMix_rcd (s : State) (c : Nat) (m : ConfMix) : (s.setMix c m).rcd = s.rcd := rfl
@[simp] theorem State.setMix_quotas (s : State) (c : Nat) (m : ConfMix) : (s.setMix c m).quotas = s.quotas := rfl
@[simp] theorem State.setMix_confs (s : State) (c : Nat) (m : ConfMix) : (s.setMix c m).confs = s.confs := rfl
@[simp] theorem State.setMix_legs (s : State) (c : Nat) (m : ConfMix) : (s.setMix c m).legs = s.legs := rfl
@[simp] theorem State.setMix_flows (s : State) (c : Nat) (m : ConfMix) : (s.setMix c m).flows = s.flows := rfl
@[simp] theorem State.setMix_net (s : State) (c : Nat) (m : ConfMix) : (s.setMix c m).net = s.net := rfl
@[simp] theorem State.setMix_cip (s : State) (c : Nat) (m : ConfMix) : (s.setMix c m).cip = s.cip := rfl
@[simp] theorem State.setMix_trust (s : State) (c : Nat) (m : ConfMix) : (s.setMix c m).trust = s.trust := rfl
@[simp] theorem State.setMix_units (s : State) (c : Nat) (m : ConfMix) : (s.setMix c m).units = s.units := rfl
@[simp] theorem State.setMix_disp (s : State) (c : Nat) (m : ConfMix) : (s.setMix c m).disp = s.disp := rfl
@[simp] theorem State.setMix_mem (s : State) (c : Nat) (m : ConfMix) : (s.setMix c m).mem = s.mem := rfl
@[simp] theorem State.setMix_dma (s : State) (c : Nat) (m : ConfMix) : (s.setMix c m).dma = s.dma := rfl
@[simp] theorem State.setMix_vid (s : State) (c : Nat) (m : ConfMix) : (s.setMix c m).vid = s.vid := rfl

/-! modMix. -/

@[simp] theorem State.modMix_pending (s : State) (c : Nat) (f : ConfMix → ConfMix) : (s.modMix c f).pending = s.pending := rfl
@[simp] theorem State.modMix_out (s : State) (c : Nat) (f : ConfMix → ConfMix) : (s.modMix c f).out = s.out := rfl
@[simp] theorem State.modMix_fresh (s : State) (c : Nat) (f : ConfMix → ConfMix) : (s.modMix c f).fresh = s.fresh := rfl
@[simp] theorem State.modMix_time (s : State) (c : Nat) (f : ConfMix → ConfMix) : (s.modMix c f).time = s.time := rfl
@[simp] theorem State.modMix_sys (s : State) (c : Nat) (f : ConfMix → ConfMix) : (s.modMix c f).sys = s.sys := rfl
@[simp] theorem State.modMix_host (s : State) (c : Nat) (f : ConfMix → ConfMix) : (s.modMix c f).host = s.host := rfl
@[simp] theorem State.modMix_cp (s : State) (c : Nat) (f : ConfMix → ConfMix) : (s.modMix c f).cp = s.cp := rfl
@[simp] theorem State.modMix_evt (s : State) (c : Nat) (f : ConfMix → ConfMix) : (s.modMix c f).evt = s.evt := rfl
@[simp] theorem State.modMix_rcd (s : State) (c : Nat) (f : ConfMix → ConfMix) : (s.modMix c f).rcd = s.rcd := rfl
@[simp] theorem State.modMix_quotas (s : State) (c : Nat) (f : ConfMix → ConfMix) : (s.modMix c f).quotas = s.quotas := rfl
@[simp] theorem State.modMix_confs (s : State) (c : Nat) (f : ConfMix → ConfMix) : (s.modMix c f).confs = s.confs := rfl
@[simp] theorem State.modMix_legs (s : State) (c : Nat) (f : ConfMix → ConfMix) : (s.modMix c f).legs = s.legs := rfl
@[simp] theorem State.modMix_flows (s : State) (c : Nat) (f : ConfMix → ConfMix) : (s.modMix c f).flows = s.flows := rfl
@[simp] theorem State.modMix_net (s : State) (c : Nat) (f : ConfMix → ConfMix) : (s.modMix c f).net = s.net := rfl
@[simp] theorem State.modMix_cip (s : State) (c : Nat) (f : ConfMix → ConfMix) : (s.modMix c f).cip = s.cip := rfl
@[simp] theorem State.modMix_trust (s : State) (c : Nat) (f : ConfMix → ConfMix) : (s.modMix c f).trust = s.trust := rfl
@[simp] theorem State.modMix_units (s : State) (c : Nat) (f : ConfMix → ConfMix) : (s.modMix c f).units = s.units := rfl
@[simp] theorem State.modMix_disp (s : State) (c : Nat) (f : ConfMix → ConfMix) : (s.modMix c f).disp = s.disp := rfl
@[simp] theorem State.modMix_mem (s : State) (c : Nat) (f : ConfMix → ConfMix) : (s.modMix c f).mem = s.mem := rfl
@[simp] theorem State.modMix_dma (s : State) (c : Nat) (f : ConfMix → ConfMix) : (s.modMix c f).dma = s.dma := rfl
@[simp] theorem State.modMix_vid (s : State) (c : Nat) (f : ConfMix → ConfMix) : (s.modMix c f).vid = s.vid := rfl

/-! modGroup. -/

@[simp] theorem State.modGroup_pending (s : State) (g : Nat) (f : MixGroup → MixGroup) : (s.modGroup g f).pending = s.pending := rfl
@[simp] theorem State.modGroup_out (s : State) (g : Nat) (f : MixGroup → MixGroup) : (s.modGroup g f).out = s.out := rfl
@[simp] theorem State.modGroup_fresh (s : State) (g : Nat) (f : MixGroup → MixGroup) : (s.modGroup g f).fresh = s.fresh := rfl
@[simp] theorem State.modGroup_time (s : State) (g : Nat) (f : MixGroup → MixGroup) : (s.modGroup g f).time = s.time := rfl
@[simp] theorem State.modGroup_sys (s : State) (g : Nat) (f : MixGroup → MixGroup) : (s.modGroup g f).sys = s.sys := rfl
@[simp] theorem State.modGroup_host (s : State) (g : Nat) (f : MixGroup → MixGroup) : (s.modGroup g f).host = s.host := rfl
@[simp] theorem State.modGroup_cp (s : State) (g : Nat) (f : MixGroup → MixGroup) : (s.modGroup g f).cp = s.cp := rfl
@[simp] theorem State.modGroup_evt (s : State) (g : Nat) (f : MixGroup → MixGroup) : (s.modGroup g f).evt = s.evt := rfl
@[simp] theorem State.modGroup_rcd (s : State) (g : Nat) (f : MixGroup → MixGroup) : (s.modGroup g f).rcd = s.rcd := rfl
@[simp] theorem State.modGroup_quotas (s : State) (g : Nat) (f : MixGroup → MixGroup) : (s.modGroup g f).quotas = s.quotas := rfl
@[simp] theorem State.modGroup_confs (s : State) (g : Nat) (f : MixGroup → MixGroup) : (s.modGroup g f).confs = s.confs := rfl
@[simp] theorem State.modGroup_legs (s : State) (g : Nat) (f : MixGroup → MixGroup) : (s.modGroup g f).legs = s.legs := rfl
@[simp] theorem State.modGroup_flows (s : State) (g : Nat) (f : MixGroup → MixGroup) : (s.modGroup g f).flows = s.flows := rfl
@[simp] theorem State.modGroup_net (s : State) (g : Nat) (f : MixGroup → MixGroup) : (s.modGroup g f).net = s.net := rfl
@[simp] theorem State.modGroup_cip (s : State) (g : Nat) (f : MixGroup → MixGroup) : (s.modGroup g f).cip = s.cip := rfl
@[simp] theorem State.modGroup_trust (s : State) (g : Nat) (f : MixGroup → MixGroup) : (s.modGroup g f).trust = s.trust := rfl
@[simp] theorem State.modGroup_units (s : State) (g : Nat) (f : MixGroup → MixGroup) : (s.modGroup g f).units = s.units := rfl
@[simp] theorem State.modGroup_disp (s : State) (g : Nat) (f : MixGroup → MixGroup) : (s.modGroup g f).disp = s.disp := rfl
@[simp] theorem State.modGroup_mem (s : State) (g : Nat) (f : MixGroup → MixGroup) : (s.modGroup g f).mem = s.mem := rfl
@[simp] theorem State.modGroup_dma (s : State) (g : Nat) (f : MixGroup → MixGroup) : (s.modGroup g f).dma = s.dma := rfl
@[simp] theorem State.modGroup_vid (s : State) (g : Nat) (f : MixGroup → MixGroup) : (s.modGroup g f).vid = s.vid := rfl

/-! setCore. -/

@[simp] theorem State.setCore_pending (s : State) (c : Nat) (k : DspCore) : (s.setCore c k).pending = s.pending := rfl
@[simp] theorem State.setCore_out (s : State) (c : Nat) (k : DspCore) : (s.setCore c k).out = s.out := rfl
@[simp] theorem State.setCore_fresh (s : State) (c : Nat) (k : DspCore) : (s.setCore c k).fresh = s.fresh := rfl
@[simp] theorem State.setCore_time (s : State) (c : Nat) (k : DspCore) : (s.setCore c k).time = s.time := rfl
@[simp] theorem State.setCore_sys (s : State) (c : Nat) (k : DspCore) : (s.setCore c k).sys = s.sys := rfl
@[simp] theorem State.setCore_host (s : State) (c : Nat) (k : DspCore) : (s.setCore c k).host = s.host := rfl
@[simp] theorem State.setCore_cp (s : State) (c : Nat) (k : DspCore) : (s.setCore c k).cp = s.cp := rfl
@[simp] theorem State.setCore_evt (s : State) (c : Nat) (k : DspCore) : (s.setCore c k).evt = s.evt := rfl
@[simp] theorem State.setCore_rcd (s : State) (c : Nat) (k : DspCore) : (s.setCore c k).rcd = s.rcd := rfl
@[simp] theorem State.setCore_quotas (s : State) (c : Nat) (k : DspCore) : (s.setCore c k).quotas = s.quotas := rfl
@[simp] theorem State.setCore_confs (s : State) (c : Nat) (k : DspCore) : (s.setCore c k).confs = s.confs := rfl
@[simp] theorem State.setCore_legs (s : State) (c : Nat) (k : DspCore) : (s.setCore c k).legs = s.legs := rfl
@[simp] theorem State.setCore_flows (s : State) (c : Nat) (k : DspCore) : (s.setCore c k).flows = s.flows := rfl
@[simp] theorem State.setCore_net (s : State) (c : Nat) (k : DspCore) : (s.setCore c k).net = s.net := rfl
@[simp] theorem State.setCore_cip (s : State) (c : Nat) (k : DspCore) : (s.setCore c k).cip = s.cip := rfl
@[simp] theorem State.setCore_trust (s : State) (c : Nat) (k : DspCore) : (s.setCore c k).trust = s.trust := rfl
@[simp] theorem State.setCore_units (s : State) (c : Nat) (k : DspCore) : (s.setCore c k).units = s.units := rfl
@[simp] theorem State.setCore_disp (s : State) (c : Nat) (k : DspCore) : (s.setCore c k).disp = s.disp := rfl
@[simp] theorem State.setCore_mem (s : State) (c : Nat) (k : DspCore) : (s.setCore c k).mem = s.mem := rfl
@[simp] theorem State.setCore_dma (s : State) (c : Nat) (k : DspCore) : (s.setCore c k).dma = s.dma := rfl
@[simp] theorem State.setCore_vid (s : State) (c : Nat) (k : DspCore) : (s.setCore c k).vid = s.vid := rfl

/-! modDec. -/

@[simp] theorem State.modDec_pending (s : State) (i : Nat) (f : DecCtx → DecCtx) : (s.modDec i f).pending = s.pending := rfl
@[simp] theorem State.modDec_out (s : State) (i : Nat) (f : DecCtx → DecCtx) : (s.modDec i f).out = s.out := rfl
@[simp] theorem State.modDec_fresh (s : State) (i : Nat) (f : DecCtx → DecCtx) : (s.modDec i f).fresh = s.fresh := rfl
@[simp] theorem State.modDec_time (s : State) (i : Nat) (f : DecCtx → DecCtx) : (s.modDec i f).time = s.time := rfl
@[simp] theorem State.modDec_sys (s : State) (i : Nat) (f : DecCtx → DecCtx) : (s.modDec i f).sys = s.sys := rfl
@[simp] theorem State.modDec_host (s : State) (i : Nat) (f : DecCtx → DecCtx) : (s.modDec i f).host = s.host := rfl
@[simp] theorem State.modDec_cp (s : State) (i : Nat) (f : DecCtx → DecCtx) : (s.modDec i f).cp = s.cp := rfl
@[simp] theorem State.modDec_evt (s : State) (i : Nat) (f : DecCtx → DecCtx) : (s.modDec i f).evt = s.evt := rfl
@[simp] theorem State.modDec_rcd (s : State) (i : Nat) (f : DecCtx → DecCtx) : (s.modDec i f).rcd = s.rcd := rfl
@[simp] theorem State.modDec_quotas (s : State) (i : Nat) (f : DecCtx → DecCtx) : (s.modDec i f).quotas = s.quotas := rfl
@[simp] theorem State.modDec_confs (s : State) (i : Nat) (f : DecCtx → DecCtx) : (s.modDec i f).confs = s.confs := rfl
@[simp] theorem State.modDec_legs (s : State) (i : Nat) (f : DecCtx → DecCtx) : (s.modDec i f).legs = s.legs := rfl
@[simp] theorem State.modDec_flows (s : State) (i : Nat) (f : DecCtx → DecCtx) : (s.modDec i f).flows = s.flows := rfl
@[simp] theorem State.modDec_net (s : State) (i : Nat) (f : DecCtx → DecCtx) : (s.modDec i f).net = s.net := rfl
@[simp] theorem State.modDec_cip (s : State) (i : Nat) (f : DecCtx → DecCtx) : (s.modDec i f).cip = s.cip := rfl
@[simp] theorem State.modDec_trust (s : State) (i : Nat) (f : DecCtx → DecCtx) : (s.modDec i f).trust = s.trust := rfl
@[simp] theorem State.modDec_aud (s : State) (i : Nat) (f : DecCtx → DecCtx) : (s.modDec i f).aud = s.aud := rfl
@[simp] theorem State.modDec_units (s : State) (i : Nat) (f : DecCtx → DecCtx) : (s.modDec i f).units = s.units := rfl
@[simp] theorem State.modDec_disp (s : State) (i : Nat) (f : DecCtx → DecCtx) : (s.modDec i f).disp = s.disp := rfl
@[simp] theorem State.modDec_mem (s : State) (i : Nat) (f : DecCtx → DecCtx) : (s.modDec i f).mem = s.mem := rfl
@[simp] theorem State.modDec_dma (s : State) (i : Nat) (f : DecCtx → DecCtx) : (s.modDec i f).dma = s.dma := rfl

/-! modCanvas. -/

@[simp] theorem State.modCanvas_pending (s : State) (i : Nat) (f : Canvas → Canvas) : (s.modCanvas i f).pending = s.pending := rfl
@[simp] theorem State.modCanvas_out (s : State) (i : Nat) (f : Canvas → Canvas) : (s.modCanvas i f).out = s.out := rfl
@[simp] theorem State.modCanvas_fresh (s : State) (i : Nat) (f : Canvas → Canvas) : (s.modCanvas i f).fresh = s.fresh := rfl
@[simp] theorem State.modCanvas_time (s : State) (i : Nat) (f : Canvas → Canvas) : (s.modCanvas i f).time = s.time := rfl
@[simp] theorem State.modCanvas_sys (s : State) (i : Nat) (f : Canvas → Canvas) : (s.modCanvas i f).sys = s.sys := rfl
@[simp] theorem State.modCanvas_host (s : State) (i : Nat) (f : Canvas → Canvas) : (s.modCanvas i f).host = s.host := rfl
@[simp] theorem State.modCanvas_cp (s : State) (i : Nat) (f : Canvas → Canvas) : (s.modCanvas i f).cp = s.cp := rfl
@[simp] theorem State.modCanvas_evt (s : State) (i : Nat) (f : Canvas → Canvas) : (s.modCanvas i f).evt = s.evt := rfl
@[simp] theorem State.modCanvas_rcd (s : State) (i : Nat) (f : Canvas → Canvas) : (s.modCanvas i f).rcd = s.rcd := rfl
@[simp] theorem State.modCanvas_quotas (s : State) (i : Nat) (f : Canvas → Canvas) : (s.modCanvas i f).quotas = s.quotas := rfl
@[simp] theorem State.modCanvas_confs (s : State) (i : Nat) (f : Canvas → Canvas) : (s.modCanvas i f).confs = s.confs := rfl
@[simp] theorem State.modCanvas_legs (s : State) (i : Nat) (f : Canvas → Canvas) : (s.modCanvas i f).legs = s.legs := rfl
@[simp] theorem State.modCanvas_flows (s : State) (i : Nat) (f : Canvas → Canvas) : (s.modCanvas i f).flows = s.flows := rfl
@[simp] theorem State.modCanvas_net (s : State) (i : Nat) (f : Canvas → Canvas) : (s.modCanvas i f).net = s.net := rfl
@[simp] theorem State.modCanvas_cip (s : State) (i : Nat) (f : Canvas → Canvas) : (s.modCanvas i f).cip = s.cip := rfl
@[simp] theorem State.modCanvas_trust (s : State) (i : Nat) (f : Canvas → Canvas) : (s.modCanvas i f).trust = s.trust := rfl
@[simp] theorem State.modCanvas_aud (s : State) (i : Nat) (f : Canvas → Canvas) : (s.modCanvas i f).aud = s.aud := rfl
@[simp] theorem State.modCanvas_units (s : State) (i : Nat) (f : Canvas → Canvas) : (s.modCanvas i f).units = s.units := rfl
@[simp] theorem State.modCanvas_disp (s : State) (i : Nat) (f : Canvas → Canvas) : (s.modCanvas i f).disp = s.disp := rfl
@[simp] theorem State.modCanvas_mem (s : State) (i : Nat) (f : Canvas → Canvas) : (s.modCanvas i f).mem = s.mem := rfl
@[simp] theorem State.modCanvas_dma (s : State) (i : Nat) (f : Canvas → Canvas) : (s.modCanvas i f).dma = s.dma := rfl

/-! modEnc. -/

@[simp] theorem State.modEnc_pending (s : State) (i : Nat) (f : EncCtx → EncCtx) : (s.modEnc i f).pending = s.pending := rfl
@[simp] theorem State.modEnc_out (s : State) (i : Nat) (f : EncCtx → EncCtx) : (s.modEnc i f).out = s.out := rfl
@[simp] theorem State.modEnc_fresh (s : State) (i : Nat) (f : EncCtx → EncCtx) : (s.modEnc i f).fresh = s.fresh := rfl
@[simp] theorem State.modEnc_time (s : State) (i : Nat) (f : EncCtx → EncCtx) : (s.modEnc i f).time = s.time := rfl
@[simp] theorem State.modEnc_sys (s : State) (i : Nat) (f : EncCtx → EncCtx) : (s.modEnc i f).sys = s.sys := rfl
@[simp] theorem State.modEnc_host (s : State) (i : Nat) (f : EncCtx → EncCtx) : (s.modEnc i f).host = s.host := rfl
@[simp] theorem State.modEnc_cp (s : State) (i : Nat) (f : EncCtx → EncCtx) : (s.modEnc i f).cp = s.cp := rfl
@[simp] theorem State.modEnc_evt (s : State) (i : Nat) (f : EncCtx → EncCtx) : (s.modEnc i f).evt = s.evt := rfl
@[simp] theorem State.modEnc_rcd (s : State) (i : Nat) (f : EncCtx → EncCtx) : (s.modEnc i f).rcd = s.rcd := rfl
@[simp] theorem State.modEnc_quotas (s : State) (i : Nat) (f : EncCtx → EncCtx) : (s.modEnc i f).quotas = s.quotas := rfl
@[simp] theorem State.modEnc_confs (s : State) (i : Nat) (f : EncCtx → EncCtx) : (s.modEnc i f).confs = s.confs := rfl
@[simp] theorem State.modEnc_legs (s : State) (i : Nat) (f : EncCtx → EncCtx) : (s.modEnc i f).legs = s.legs := rfl
@[simp] theorem State.modEnc_flows (s : State) (i : Nat) (f : EncCtx → EncCtx) : (s.modEnc i f).flows = s.flows := rfl
@[simp] theorem State.modEnc_net (s : State) (i : Nat) (f : EncCtx → EncCtx) : (s.modEnc i f).net = s.net := rfl
@[simp] theorem State.modEnc_cip (s : State) (i : Nat) (f : EncCtx → EncCtx) : (s.modEnc i f).cip = s.cip := rfl
@[simp] theorem State.modEnc_trust (s : State) (i : Nat) (f : EncCtx → EncCtx) : (s.modEnc i f).trust = s.trust := rfl
@[simp] theorem State.modEnc_aud (s : State) (i : Nat) (f : EncCtx → EncCtx) : (s.modEnc i f).aud = s.aud := rfl
@[simp] theorem State.modEnc_units (s : State) (i : Nat) (f : EncCtx → EncCtx) : (s.modEnc i f).units = s.units := rfl
@[simp] theorem State.modEnc_disp (s : State) (i : Nat) (f : EncCtx → EncCtx) : (s.modEnc i f).disp = s.disp := rfl
@[simp] theorem State.modEnc_mem (s : State) (i : Nat) (f : EncCtx → EncCtx) : (s.modEnc i f).mem = s.mem := rfl
@[simp] theorem State.modEnc_dma (s : State) (i : Nat) (f : EncCtx → EncCtx) : (s.modEnc i f).dma = s.dma := rfl

/-! modTile. -/

@[simp] theorem State.modTile_pending (s : State) (i : Nat) (f : Tile → Tile) : (s.modTile i f).pending = s.pending := rfl
@[simp] theorem State.modTile_out (s : State) (i : Nat) (f : Tile → Tile) : (s.modTile i f).out = s.out := rfl
@[simp] theorem State.modTile_fresh (s : State) (i : Nat) (f : Tile → Tile) : (s.modTile i f).fresh = s.fresh := rfl
@[simp] theorem State.modTile_time (s : State) (i : Nat) (f : Tile → Tile) : (s.modTile i f).time = s.time := rfl
@[simp] theorem State.modTile_sys (s : State) (i : Nat) (f : Tile → Tile) : (s.modTile i f).sys = s.sys := rfl
@[simp] theorem State.modTile_host (s : State) (i : Nat) (f : Tile → Tile) : (s.modTile i f).host = s.host := rfl
@[simp] theorem State.modTile_cp (s : State) (i : Nat) (f : Tile → Tile) : (s.modTile i f).cp = s.cp := rfl
@[simp] theorem State.modTile_evt (s : State) (i : Nat) (f : Tile → Tile) : (s.modTile i f).evt = s.evt := rfl
@[simp] theorem State.modTile_rcd (s : State) (i : Nat) (f : Tile → Tile) : (s.modTile i f).rcd = s.rcd := rfl
@[simp] theorem State.modTile_quotas (s : State) (i : Nat) (f : Tile → Tile) : (s.modTile i f).quotas = s.quotas := rfl
@[simp] theorem State.modTile_confs (s : State) (i : Nat) (f : Tile → Tile) : (s.modTile i f).confs = s.confs := rfl
@[simp] theorem State.modTile_legs (s : State) (i : Nat) (f : Tile → Tile) : (s.modTile i f).legs = s.legs := rfl
@[simp] theorem State.modTile_flows (s : State) (i : Nat) (f : Tile → Tile) : (s.modTile i f).flows = s.flows := rfl
@[simp] theorem State.modTile_net (s : State) (i : Nat) (f : Tile → Tile) : (s.modTile i f).net = s.net := rfl
@[simp] theorem State.modTile_cip (s : State) (i : Nat) (f : Tile → Tile) : (s.modTile i f).cip = s.cip := rfl
@[simp] theorem State.modTile_trust (s : State) (i : Nat) (f : Tile → Tile) : (s.modTile i f).trust = s.trust := rfl
@[simp] theorem State.modTile_aud (s : State) (i : Nat) (f : Tile → Tile) : (s.modTile i f).aud = s.aud := rfl
@[simp] theorem State.modTile_units (s : State) (i : Nat) (f : Tile → Tile) : (s.modTile i f).units = s.units := rfl
@[simp] theorem State.modTile_disp (s : State) (i : Nat) (f : Tile → Tile) : (s.modTile i f).disp = s.disp := rfl
@[simp] theorem State.modTile_mem (s : State) (i : Nat) (f : Tile → Tile) : (s.modTile i f).mem = s.mem := rfl
@[simp] theorem State.modTile_dma (s : State) (i : Nat) (f : Tile → Tile) : (s.modTile i f).dma = s.dma := rfl

/-! modSplice. -/

@[simp] theorem State.modSplice_pending (s : State) (i : Nat) (f : Splice → Splice) : (s.modSplice i f).pending = s.pending := rfl
@[simp] theorem State.modSplice_out (s : State) (i : Nat) (f : Splice → Splice) : (s.modSplice i f).out = s.out := rfl
@[simp] theorem State.modSplice_fresh (s : State) (i : Nat) (f : Splice → Splice) : (s.modSplice i f).fresh = s.fresh := rfl
@[simp] theorem State.modSplice_time (s : State) (i : Nat) (f : Splice → Splice) : (s.modSplice i f).time = s.time := rfl
@[simp] theorem State.modSplice_sys (s : State) (i : Nat) (f : Splice → Splice) : (s.modSplice i f).sys = s.sys := rfl
@[simp] theorem State.modSplice_host (s : State) (i : Nat) (f : Splice → Splice) : (s.modSplice i f).host = s.host := rfl
@[simp] theorem State.modSplice_cp (s : State) (i : Nat) (f : Splice → Splice) : (s.modSplice i f).cp = s.cp := rfl
@[simp] theorem State.modSplice_evt (s : State) (i : Nat) (f : Splice → Splice) : (s.modSplice i f).evt = s.evt := rfl
@[simp] theorem State.modSplice_rcd (s : State) (i : Nat) (f : Splice → Splice) : (s.modSplice i f).rcd = s.rcd := rfl
@[simp] theorem State.modSplice_quotas (s : State) (i : Nat) (f : Splice → Splice) : (s.modSplice i f).quotas = s.quotas := rfl
@[simp] theorem State.modSplice_confs (s : State) (i : Nat) (f : Splice → Splice) : (s.modSplice i f).confs = s.confs := rfl
@[simp] theorem State.modSplice_legs (s : State) (i : Nat) (f : Splice → Splice) : (s.modSplice i f).legs = s.legs := rfl
@[simp] theorem State.modSplice_flows (s : State) (i : Nat) (f : Splice → Splice) : (s.modSplice i f).flows = s.flows := rfl
@[simp] theorem State.modSplice_net (s : State) (i : Nat) (f : Splice → Splice) : (s.modSplice i f).net = s.net := rfl
@[simp] theorem State.modSplice_cip (s : State) (i : Nat) (f : Splice → Splice) : (s.modSplice i f).cip = s.cip := rfl
@[simp] theorem State.modSplice_trust (s : State) (i : Nat) (f : Splice → Splice) : (s.modSplice i f).trust = s.trust := rfl
@[simp] theorem State.modSplice_aud (s : State) (i : Nat) (f : Splice → Splice) : (s.modSplice i f).aud = s.aud := rfl
@[simp] theorem State.modSplice_units (s : State) (i : Nat) (f : Splice → Splice) : (s.modSplice i f).units = s.units := rfl
@[simp] theorem State.modSplice_disp (s : State) (i : Nat) (f : Splice → Splice) : (s.modSplice i f).disp = s.disp := rfl
@[simp] theorem State.modSplice_mem (s : State) (i : Nat) (f : Splice → Splice) : (s.modSplice i f).mem = s.mem := rfl
@[simp] theorem State.modSplice_dma (s : State) (i : Nat) (f : Splice → Splice) : (s.modSplice i f).dma = s.dma := rfl

/-! modTask. -/

@[simp] theorem State.modTask_pending (s : State) (i : Nat) (f : Task → Task) : (s.modTask i f).pending = s.pending := rfl
@[simp] theorem State.modTask_out (s : State) (i : Nat) (f : Task → Task) : (s.modTask i f).out = s.out := rfl
@[simp] theorem State.modTask_fresh (s : State) (i : Nat) (f : Task → Task) : (s.modTask i f).fresh = s.fresh := rfl
@[simp] theorem State.modTask_time (s : State) (i : Nat) (f : Task → Task) : (s.modTask i f).time = s.time := rfl
@[simp] theorem State.modTask_sys (s : State) (i : Nat) (f : Task → Task) : (s.modTask i f).sys = s.sys := rfl
@[simp] theorem State.modTask_host (s : State) (i : Nat) (f : Task → Task) : (s.modTask i f).host = s.host := rfl
@[simp] theorem State.modTask_cp (s : State) (i : Nat) (f : Task → Task) : (s.modTask i f).cp = s.cp := rfl
@[simp] theorem State.modTask_evt (s : State) (i : Nat) (f : Task → Task) : (s.modTask i f).evt = s.evt := rfl
@[simp] theorem State.modTask_rcd (s : State) (i : Nat) (f : Task → Task) : (s.modTask i f).rcd = s.rcd := rfl
@[simp] theorem State.modTask_quotas (s : State) (i : Nat) (f : Task → Task) : (s.modTask i f).quotas = s.quotas := rfl
@[simp] theorem State.modTask_confs (s : State) (i : Nat) (f : Task → Task) : (s.modTask i f).confs = s.confs := rfl
@[simp] theorem State.modTask_legs (s : State) (i : Nat) (f : Task → Task) : (s.modTask i f).legs = s.legs := rfl
@[simp] theorem State.modTask_flows (s : State) (i : Nat) (f : Task → Task) : (s.modTask i f).flows = s.flows := rfl
@[simp] theorem State.modTask_net (s : State) (i : Nat) (f : Task → Task) : (s.modTask i f).net = s.net := rfl
@[simp] theorem State.modTask_cip (s : State) (i : Nat) (f : Task → Task) : (s.modTask i f).cip = s.cip := rfl
@[simp] theorem State.modTask_trust (s : State) (i : Nat) (f : Task → Task) : (s.modTask i f).trust = s.trust := rfl
@[simp] theorem State.modTask_aud (s : State) (i : Nat) (f : Task → Task) : (s.modTask i f).aud = s.aud := rfl
@[simp] theorem State.modTask_units (s : State) (i : Nat) (f : Task → Task) : (s.modTask i f).units = s.units := rfl
@[simp] theorem State.modTask_mem (s : State) (i : Nat) (f : Task → Task) : (s.modTask i f).mem = s.mem := rfl
@[simp] theorem State.modTask_dma (s : State) (i : Nat) (f : Task → Task) : (s.modTask i f).dma = s.dma := rfl
@[simp] theorem State.modTask_vid (s : State) (i : Nat) (f : Task → Task) : (s.modTask i f).vid = s.vid := rfl

/-! modChan. -/

@[simp] theorem State.modChan_pending (s : State) (e c : Nat) (f : DmaCh → DmaCh) : (s.modChan e c f).pending = s.pending := rfl
@[simp] theorem State.modChan_out (s : State) (e c : Nat) (f : DmaCh → DmaCh) : (s.modChan e c f).out = s.out := rfl
@[simp] theorem State.modChan_fresh (s : State) (e c : Nat) (f : DmaCh → DmaCh) : (s.modChan e c f).fresh = s.fresh := rfl
@[simp] theorem State.modChan_time (s : State) (e c : Nat) (f : DmaCh → DmaCh) : (s.modChan e c f).time = s.time := rfl
@[simp] theorem State.modChan_sys (s : State) (e c : Nat) (f : DmaCh → DmaCh) : (s.modChan e c f).sys = s.sys := rfl
@[simp] theorem State.modChan_host (s : State) (e c : Nat) (f : DmaCh → DmaCh) : (s.modChan e c f).host = s.host := rfl
@[simp] theorem State.modChan_cp (s : State) (e c : Nat) (f : DmaCh → DmaCh) : (s.modChan e c f).cp = s.cp := rfl
@[simp] theorem State.modChan_evt (s : State) (e c : Nat) (f : DmaCh → DmaCh) : (s.modChan e c f).evt = s.evt := rfl
@[simp] theorem State.modChan_rcd (s : State) (e c : Nat) (f : DmaCh → DmaCh) : (s.modChan e c f).rcd = s.rcd := rfl
@[simp] theorem State.modChan_quotas (s : State) (e c : Nat) (f : DmaCh → DmaCh) : (s.modChan e c f).quotas = s.quotas := rfl
@[simp] theorem State.modChan_confs (s : State) (e c : Nat) (f : DmaCh → DmaCh) : (s.modChan e c f).confs = s.confs := rfl
@[simp] theorem State.modChan_legs (s : State) (e c : Nat) (f : DmaCh → DmaCh) : (s.modChan e c f).legs = s.legs := rfl
@[simp] theorem State.modChan_flows (s : State) (e c : Nat) (f : DmaCh → DmaCh) : (s.modChan e c f).flows = s.flows := rfl
@[simp] theorem State.modChan_net (s : State) (e c : Nat) (f : DmaCh → DmaCh) : (s.modChan e c f).net = s.net := rfl
@[simp] theorem State.modChan_cip (s : State) (e c : Nat) (f : DmaCh → DmaCh) : (s.modChan e c f).cip = s.cip := rfl
@[simp] theorem State.modChan_trust (s : State) (e c : Nat) (f : DmaCh → DmaCh) : (s.modChan e c f).trust = s.trust := rfl
@[simp] theorem State.modChan_aud (s : State) (e c : Nat) (f : DmaCh → DmaCh) : (s.modChan e c f).aud = s.aud := rfl
@[simp] theorem State.modChan_units (s : State) (e c : Nat) (f : DmaCh → DmaCh) : (s.modChan e c f).units = s.units := rfl
@[simp] theorem State.modChan_disp (s : State) (e c : Nat) (f : DmaCh → DmaCh) : (s.modChan e c f).disp = s.disp := rfl
@[simp] theorem State.modChan_mem (s : State) (e c : Nat) (f : DmaCh → DmaCh) : (s.modChan e c f).mem = s.mem := rfl
@[simp] theorem State.modChan_vid (s : State) (e c : Nat) (f : DmaCh → DmaCh) : (s.modChan e c f).vid = s.vid := rfl

/-! setFifo. -/

@[simp] theorem State.setFifo_pending (s : State) (a : Nat) (l : List (List Byte)) : (s.setFifo a l).pending = s.pending := rfl
@[simp] theorem State.setFifo_out (s : State) (a : Nat) (l : List (List Byte)) : (s.setFifo a l).out = s.out := rfl
@[simp] theorem State.setFifo_fresh (s : State) (a : Nat) (l : List (List Byte)) : (s.setFifo a l).fresh = s.fresh := rfl
@[simp] theorem State.setFifo_time (s : State) (a : Nat) (l : List (List Byte)) : (s.setFifo a l).time = s.time := rfl
@[simp] theorem State.setFifo_sys (s : State) (a : Nat) (l : List (List Byte)) : (s.setFifo a l).sys = s.sys := rfl
@[simp] theorem State.setFifo_host (s : State) (a : Nat) (l : List (List Byte)) : (s.setFifo a l).host = s.host := rfl
@[simp] theorem State.setFifo_cp (s : State) (a : Nat) (l : List (List Byte)) : (s.setFifo a l).cp = s.cp := rfl
@[simp] theorem State.setFifo_evt (s : State) (a : Nat) (l : List (List Byte)) : (s.setFifo a l).evt = s.evt := rfl
@[simp] theorem State.setFifo_rcd (s : State) (a : Nat) (l : List (List Byte)) : (s.setFifo a l).rcd = s.rcd := rfl
@[simp] theorem State.setFifo_quotas (s : State) (a : Nat) (l : List (List Byte)) : (s.setFifo a l).quotas = s.quotas := rfl
@[simp] theorem State.setFifo_confs (s : State) (a : Nat) (l : List (List Byte)) : (s.setFifo a l).confs = s.confs := rfl
@[simp] theorem State.setFifo_legs (s : State) (a : Nat) (l : List (List Byte)) : (s.setFifo a l).legs = s.legs := rfl
@[simp] theorem State.setFifo_flows (s : State) (a : Nat) (l : List (List Byte)) : (s.setFifo a l).flows = s.flows := rfl
@[simp] theorem State.setFifo_net (s : State) (a : Nat) (l : List (List Byte)) : (s.setFifo a l).net = s.net := rfl
@[simp] theorem State.setFifo_cip (s : State) (a : Nat) (l : List (List Byte)) : (s.setFifo a l).cip = s.cip := rfl
@[simp] theorem State.setFifo_trust (s : State) (a : Nat) (l : List (List Byte)) : (s.setFifo a l).trust = s.trust := rfl
@[simp] theorem State.setFifo_aud (s : State) (a : Nat) (l : List (List Byte)) : (s.setFifo a l).aud = s.aud := rfl
@[simp] theorem State.setFifo_units (s : State) (a : Nat) (l : List (List Byte)) : (s.setFifo a l).units = s.units := rfl
@[simp] theorem State.setFifo_disp (s : State) (a : Nat) (l : List (List Byte)) : (s.setFifo a l).disp = s.disp := rfl
@[simp] theorem State.setFifo_mem (s : State) (a : Nat) (l : List (List Byte)) : (s.setFifo a l).mem = s.mem := rfl
@[simp] theorem State.setFifo_vid (s : State) (a : Nat) (l : List (List Byte)) : (s.setFifo a l).vid = s.vid := rfl

/-! setCrossQ. -/

@[simp] theorem State.setCrossQ_pending (s : State) (k : Nat) (x : CrossQ) : (s.setCrossQ k x).pending = s.pending := rfl
@[simp] theorem State.setCrossQ_out (s : State) (k : Nat) (x : CrossQ) : (s.setCrossQ k x).out = s.out := rfl
@[simp] theorem State.setCrossQ_fresh (s : State) (k : Nat) (x : CrossQ) : (s.setCrossQ k x).fresh = s.fresh := rfl
@[simp] theorem State.setCrossQ_time (s : State) (k : Nat) (x : CrossQ) : (s.setCrossQ k x).time = s.time := rfl
@[simp] theorem State.setCrossQ_sys (s : State) (k : Nat) (x : CrossQ) : (s.setCrossQ k x).sys = s.sys := rfl
@[simp] theorem State.setCrossQ_host (s : State) (k : Nat) (x : CrossQ) : (s.setCrossQ k x).host = s.host := rfl
@[simp] theorem State.setCrossQ_cp (s : State) (k : Nat) (x : CrossQ) : (s.setCrossQ k x).cp = s.cp := rfl
@[simp] theorem State.setCrossQ_evt (s : State) (k : Nat) (x : CrossQ) : (s.setCrossQ k x).evt = s.evt := rfl
@[simp] theorem State.setCrossQ_rcd (s : State) (k : Nat) (x : CrossQ) : (s.setCrossQ k x).rcd = s.rcd := rfl
@[simp] theorem State.setCrossQ_quotas (s : State) (k : Nat) (x : CrossQ) : (s.setCrossQ k x).quotas = s.quotas := rfl
@[simp] theorem State.setCrossQ_confs (s : State) (k : Nat) (x : CrossQ) : (s.setCrossQ k x).confs = s.confs := rfl
@[simp] theorem State.setCrossQ_legs (s : State) (k : Nat) (x : CrossQ) : (s.setCrossQ k x).legs = s.legs := rfl
@[simp] theorem State.setCrossQ_flows (s : State) (k : Nat) (x : CrossQ) : (s.setCrossQ k x).flows = s.flows := rfl
@[simp] theorem State.setCrossQ_net (s : State) (k : Nat) (x : CrossQ) : (s.setCrossQ k x).net = s.net := rfl
@[simp] theorem State.setCrossQ_cip (s : State) (k : Nat) (x : CrossQ) : (s.setCrossQ k x).cip = s.cip := rfl
@[simp] theorem State.setCrossQ_trust (s : State) (k : Nat) (x : CrossQ) : (s.setCrossQ k x).trust = s.trust := rfl
@[simp] theorem State.setCrossQ_aud (s : State) (k : Nat) (x : CrossQ) : (s.setCrossQ k x).aud = s.aud := rfl
@[simp] theorem State.setCrossQ_units (s : State) (k : Nat) (x : CrossQ) : (s.setCrossQ k x).units = s.units := rfl
@[simp] theorem State.setCrossQ_disp (s : State) (k : Nat) (x : CrossQ) : (s.setCrossQ k x).disp = s.disp := rfl
@[simp] theorem State.setCrossQ_mem (s : State) (k : Nat) (x : CrossQ) : (s.setCrossQ k x).mem = s.mem := rfl
@[simp] theorem State.setCrossQ_vid (s : State) (k : Nat) (x : CrossQ) : (s.setCrossQ k x).vid = s.vid := rfl

/-! modStack. -/

@[simp] theorem State.modStack_pending (s : State) (k : Nat) (f : Stack → Stack) : (s.modStack k f).pending = s.pending := rfl
@[simp] theorem State.modStack_out (s : State) (k : Nat) (f : Stack → Stack) : (s.modStack k f).out = s.out := rfl
@[simp] theorem State.modStack_fresh (s : State) (k : Nat) (f : Stack → Stack) : (s.modStack k f).fresh = s.fresh := rfl
@[simp] theorem State.modStack_time (s : State) (k : Nat) (f : Stack → Stack) : (s.modStack k f).time = s.time := rfl
@[simp] theorem State.modStack_sys (s : State) (k : Nat) (f : Stack → Stack) : (s.modStack k f).sys = s.sys := rfl
@[simp] theorem State.modStack_host (s : State) (k : Nat) (f : Stack → Stack) : (s.modStack k f).host = s.host := rfl
@[simp] theorem State.modStack_cp (s : State) (k : Nat) (f : Stack → Stack) : (s.modStack k f).cp = s.cp := rfl
@[simp] theorem State.modStack_evt (s : State) (k : Nat) (f : Stack → Stack) : (s.modStack k f).evt = s.evt := rfl
@[simp] theorem State.modStack_rcd (s : State) (k : Nat) (f : Stack → Stack) : (s.modStack k f).rcd = s.rcd := rfl
@[simp] theorem State.modStack_quotas (s : State) (k : Nat) (f : Stack → Stack) : (s.modStack k f).quotas = s.quotas := rfl
@[simp] theorem State.modStack_confs (s : State) (k : Nat) (f : Stack → Stack) : (s.modStack k f).confs = s.confs := rfl
@[simp] theorem State.modStack_legs (s : State) (k : Nat) (f : Stack → Stack) : (s.modStack k f).legs = s.legs := rfl
@[simp] theorem State.modStack_flows (s : State) (k : Nat) (f : Stack → Stack) : (s.modStack k f).flows = s.flows := rfl
@[simp] theorem State.modStack_net (s : State) (k : Nat) (f : Stack → Stack) : (s.modStack k f).net = s.net := rfl
@[simp] theorem State.modStack_cip (s : State) (k : Nat) (f : Stack → Stack) : (s.modStack k f).cip = s.cip := rfl
@[simp] theorem State.modStack_trust (s : State) (k : Nat) (f : Stack → Stack) : (s.modStack k f).trust = s.trust := rfl
@[simp] theorem State.modStack_aud (s : State) (k : Nat) (f : Stack → Stack) : (s.modStack k f).aud = s.aud := rfl
@[simp] theorem State.modStack_units (s : State) (k : Nat) (f : Stack → Stack) : (s.modStack k f).units = s.units := rfl
@[simp] theorem State.modStack_disp (s : State) (k : Nat) (f : Stack → Stack) : (s.modStack k f).disp = s.disp := rfl
@[simp] theorem State.modStack_dma (s : State) (k : Nat) (f : Stack → Stack) : (s.modStack k f).dma = s.dma := rfl
@[simp] theorem State.modStack_vid (s : State) (k : Nat) (f : Stack → Stack) : (s.modStack k f).vid = s.vid := rfl

/-! modDspStats. -/

@[simp] theorem State.modDspStats_pending (s : State) (c : Nat) (f : DspStats → DspStats) : (s.modDspStats c f).pending = s.pending := rfl
@[simp] theorem State.modDspStats_out (s : State) (c : Nat) (f : DspStats → DspStats) : (s.modDspStats c f).out = s.out := rfl
@[simp] theorem State.modDspStats_fresh (s : State) (c : Nat) (f : DspStats → DspStats) : (s.modDspStats c f).fresh = s.fresh := rfl
@[simp] theorem State.modDspStats_time (s : State) (c : Nat) (f : DspStats → DspStats) : (s.modDspStats c f).time = s.time := rfl
@[simp] theorem State.modDspStats_sys (s : State) (c : Nat) (f : DspStats → DspStats) : (s.modDspStats c f).sys = s.sys := rfl
@[simp] theorem State.modDspStats_host (s : State) (c : Nat) (f : DspStats → DspStats) : (s.modDspStats c f).host = s.host := rfl
@[simp] theorem State.modDspStats_cp (s : State) (c : Nat) (f : DspStats → DspStats) : (s.modDspStats c f).cp = s.cp := rfl
@[simp] theorem State.modDspStats_evt (s : State) (c : Nat) (f : DspStats → DspStats) : (s.modDspStats c f).evt = s.evt := rfl
@[simp] theorem State.modDspStats_rcd (s : State) (c : Nat) (f : DspStats → DspStats) : (s.modDspStats c f).rcd = s.rcd := rfl
@[simp] theorem State.modDspStats_quotas (s : State) (c : Nat) (f : DspStats → DspStats) : (s.modDspStats c f).quotas = s.quotas := rfl
@[simp] theorem State.modDspStats_confs (s : State) (c : Nat) (f : DspStats → DspStats) : (s.modDspStats c f).confs = s.confs := rfl
@[simp] theorem State.modDspStats_legs (s : State) (c : Nat) (f : DspStats → DspStats) : (s.modDspStats c f).legs = s.legs := rfl
@[simp] theorem State.modDspStats_flows (s : State) (c : Nat) (f : DspStats → DspStats) : (s.modDspStats c f).flows = s.flows := rfl
@[simp] theorem State.modDspStats_net (s : State) (c : Nat) (f : DspStats → DspStats) : (s.modDspStats c f).net = s.net := rfl
@[simp] theorem State.modDspStats_cip (s : State) (c : Nat) (f : DspStats → DspStats) : (s.modDspStats c f).cip = s.cip := rfl
@[simp] theorem State.modDspStats_trust (s : State) (c : Nat) (f : DspStats → DspStats) : (s.modDspStats c f).trust = s.trust := rfl
@[simp] theorem State.modDspStats_units (s : State) (c : Nat) (f : DspStats → DspStats) : (s.modDspStats c f).units = s.units := rfl
@[simp] theorem State.modDspStats_disp (s : State) (c : Nat) (f : DspStats → DspStats) : (s.modDspStats c f).disp = s.disp := rfl
@[simp] theorem State.modDspStats_mem (s : State) (c : Nat) (f : DspStats → DspStats) : (s.modDspStats c f).mem = s.mem := rfl
@[simp] theorem State.modDspStats_dma (s : State) (c : Nat) (f : DspStats → DspStats) : (s.modDspStats c f).dma = s.dma := rfl
@[simp] theorem State.modDspStats_vid (s : State) (c : Nat) (f : DspStats → DspStats) : (s.modDspStats c f).vid = s.vid := rfl

/-! What an advance of Device Time leaves readable as before. -/

@[simp] theorem State.advance_get_conf (s : State) (t i : Nat) : (s.advance t).conf i = s.conf i := rfl
@[simp] theorem State.advance_get_leg (s : State) (t i : Nat) : (s.advance t).leg i = s.leg i := rfl
@[simp] theorem State.advance_get_flow (s : State) (t i : Nat) : (s.advance t).flow i = s.flow i := rfl
@[simp] theorem State.advance_get_func (s : State) (t i : Nat) : (s.advance t).func i = s.func i := rfl
@[simp] theorem State.advance_get_legsOf (s : State) (t i : Nat) : (s.advance t).legsOf i = s.legsOf i := rfl
@[simp] theorem State.advance_get_flowsOf (s : State) (t i : Nat) : (s.advance t).flowsOf i = s.flowsOf i := rfl
@[simp] theorem State.advance_get_confOf (s : State) (t i : Nat) : (s.advance t).confOf i = s.confOf i := rfl
@[simp] theorem State.advance_get_isClosing (s : State) (t i : Nat) : (s.advance t).isClosing i = s.isClosing i := rfl
@[simp] theorem State.advance_get_mix (s : State) (t i : Nat) : (s.advance t).mix i = s.mix i := rfl
@[simp] theorem State.advance_get_fnExists (s : State) (t i : Nat) : (s.advance t).fnExists i = s.fnExists i := rfl
@[simp] theorem State.advance_get_fnMasters (s : State) (t i : Nat) : (s.advance t).fnMasters i = s.fnMasters i := rfl
@[simp] theorem State.advance_get_windowOpen (s : State) (t i : Nat) : (s.advance t).windowOpen i = s.windowOpen i := rfl
@[simp] theorem State.advance_get_dec (s : State) (t i : Nat) : (s.advance t).dec i = s.dec i := rfl
@[simp] theorem State.advance_get_enc (s : State) (t i : Nat) : (s.advance t).enc i = s.enc i := rfl
@[simp] theorem State.advance_get_splice (s : State) (t i : Nat) : (s.advance t).splice i = s.splice i := rfl
@[simp] theorem State.advance_get_cluster (s : State) (t i : Nat) : (s.advance t).cluster i = s.cluster i := rfl
@[simp] theorem State.advance_get_stack (s : State) (t i : Nat) : (s.advance t).stack i = s.stack i := rfl
@[simp] theorem State.advance_get_core (s : State) (t i : Nat) : (s.advance t).core i = s.core i := rfl
@[simp] theorem State.advance_get_sourceSet (s : State) (t i : Nat) : (s.advance t).sourceSet i = s.sourceSet i := rfl
@[simp] theorem State.advance_get_tile (s : State) (t i : Nat) : (s.advance t).tile i = s.tile i := rfl
@[simp] theorem State.advance_get_unitOf (s : State) (t i : Nat) : (s.advance t).unitOf i = s.unitOf i := rfl
@[simp] theorem State.advance_get_spliceLive (s : State) (t i : Nat) : (s.advance t).spliceLive i = s.spliceLive i := rfl
@[simp] theorem State.advance_get_spliceObj (s : State) (t i : Nat) : (s.advance t).spliceObj i = s.spliceObj i := rfl
@[simp] theorem State.advance_get_sapPort (s : State) (t i : Nat) : (s.advance t).sapPort i = s.sapPort i := rfl
@[simp] theorem State.advance_owner (s : State) (t ty i : Nat) : (s.advance t).owner ty i = s.owner ty i := rfl
@[simp] theorem State.advance_dramLive (s : State) (t : Nat) : (s.advance t).dramLive = s.dramLive := rfl

/-- DT after an advance: never earlier than before (R660). -/
theorem State.now_le_advance (s : State) (t : Nat) : s.now ≤ (s.advance t).now := Nat.le_max_left ..

end Sys2Proof.Machine
end

