-- ==== Sys2Proof/WellFormed.lean ====
section
/-! DEFINITION. Well-formed commands: every field of a command lies within its width or names something the package has
places for. Whether a command may be carried out, and what it then does, is its meaning's to say. -/

namespace Sys2Proof

/-- A Belex command as it can be fetched: every header field in its width (Table 03-2), from one of 64 functions and 8
queues, with exactly the parameters that LEN counts, unless the fetch failed or LEN is beyond what a fetch brings (R100). -/
def Cmd.wf (c : Cmd) : Bool :=
  decide (c.fn < 64) && decide (c.sq < 8) && decide (c.tag < 65536) && decide (c.pri < 256) && decide (c.flg < 256) &&
  decide (c.obj < 2 ^ 32) && decide (c.aux < 2 ^ 32) && decide (c.resultAddr < 2 ^ 64) && decide (c.paramAddr < 2 ^ 64) &&
  decide (c.len < 65536) && (c.fetchErr || decide (4080 < c.len) || c.params.length == c.len)

/-- A submission entry has 64 bytes (Table 03-1), its parameters as many as LEN can name. -/
def SqEntry.wf (e : SqEntry) : Bool := decide (e.bytes.length = 64) && decide (e.params.length < 65536)

/-- A move field: D in 5 bits, P in 4, MOD in 3 (Table 08-5). -/
def DspMove.wf (m : DspMove) : Bool := decide (m.d < 32) && decide (m.p < 16) && decide (m.mod < 8)

/-- A slot field: its operation in 4 bits, its accumulator in 3, its operands in 4 each (Table 08-4). -/
def DspSlot.wf (o : DspSlot) : Bool := decide (o.op < 16) && decide (o.acc < 8) && decide (o.a < 16) && decide (o.b < 16)

/-- The reserved bits of an instruction fit its word. -/
def DspMem.wf (f : DspMem) : Bool := decide (f.rsv < 2 ^ 64)

/-- Every field of a command lies within its range. -/
def Instr.wf : Instr → Bool
  | .modeSet c | .modeQuery c | .powerSet c | .thermalQuery c | .devReset c | .confCreate c | .confDelete c
  | .confQuery c | .legCreate c | .legDelete c | .legMove c | .legSetState c | .legStats c | .flowCreate c
  | .flowDelete c | .flowQuery c | .tenantSetQuota c | .tenantQuery c | .portSetMode c | .addrSet c
  | .iceSetCredentials c | .policerSet c | .jbSet c | .reorderSet c | .fecSet c | .ingressStats c | .portStats c
  | .remoteQuery c | .fwdBind c | .fwdUnbind c | .fwdQuery c | .flowProfileSet c | .rtcpSet c | .keyframeRequest c
  | .adaptSet c | .adaptOverride c | .adaptQuery c | .cascadeSet c | .egressLegSet c | .egressClassSet c
  | .portEgressSet c | .gclSet c | .gclQuery c | .fecGenSet c | .fcSet c | .egressStats c | .egressPortStats c
  | .mixGroupCreate c | .mixGroupDelete c | .mixContribute c | .mixListen c | .mixUnlisten c | .mixGraphLoad c
  | .mixSet c | .mixPanSet c | .mixQuery c | .mixStats c | .kernelLoad c | .kernelUnload c | .kernelQuery c
  | .kernelReset c | .dspSet c | .dspStats c | .sapConfig c | .sapMclkSet c | .sapQuery c | .sapFilterQuery c
  | .routeSet c | .routeQuery c | .portLegMaskSet c | .sapStats c | .beaconModAttach c | .beaconModSet c
  | .beaconModDetach c | .beaconModQuery c | .beaconRxSet c | .beaconWatch c | .beaconModemSet c | .beaconLegQuery c
  | .beaconStats c | .decCreate c | .decDelete c | .decBind c | .decSet c | .decQuery c | .decStats c
  | .canvasCreate c | .canvasDelete c | .canvasLayoutSet c | .overlayLoad c | .guardSet c | .canvasQuery c
  | .compStats c | .encCreate c | .encDelete c | .encSet c | .encAttach c | .encDetach c | .encRefresh c
  | .encQuery c | .encStats c | .tileCreate c | .tileDelete c | .tileSet c | .tileQuery c | .spliceCreate c
  | .spliceDelete c | .spliceLayoutSet c | .spliceSet c | .spliceQuery c | .spliceStats c | .dispSet c
  | .dispTenantSet c | .dispQuery c | .dispTenantQuery c | .dispKeyQuery c | .dispKeyReset c | .memQuery c
  | .memLogRead c | .memSet c | .memTenantSet c | .memTenantQuery c | .dmaQuery c | .dmaStats c | .pfcGenSet c
  | .attestReport c | .idCertRead c | .provisionSet c | .provisionDone c | .trustReprovision c | .peerMeasSet c
  | .dtlsKeyCreate c | .dtlsCertRead c | .dtlsLegSet c | .keyImport c | .keyDelete c | .trunkKeySet c | .tamperSet c
  | .tamperQuery c | .imageCommit c | .cipherFlowQuery c | .cipherPin c | .cipherStats c | .timeRefSet c
  | .timeAllowStep c | .timePpsSeconds c | .ppsOutSet c | .timeUtcSet c | .timeQuery c | .castle c | .clusterBench c
  | .clusterSetState c | .clusterQuery c | .repairSet c | .imageWrite c | .imageActivate c | .confHomeSet c
  | .evtMaskSet c | .evtMaskQuery c | .recordSet c | .recordQuery c | .recordRead c | .recordExport c | .recordSeal c
  | .returnChallenge c | .returnArm c | .returnEnter c | .returnExit c | .tenantHostSet c | .tenantHostQuery c
  | .hostLinkQuery c | .diagLoopback c | .mgmtSet c => c.wf
  | .dspAdd core dst srcA srcB sh acc x f | .dspSub core dst srcA srcB sh acc x f
  | .dspAnd core dst srcA srcB sh acc x f | .dspOr core dst srcA srcB sh acc x f
  | .dspXor core dst srcA srcB sh acc x f | .dspAsr core dst srcA srcB sh acc x f
  | .dspLsr core dst srcA srcB sh acc x f | .dspLsl core dst srcA srcB sh acc x f
  | .dspAbs core dst srcA srcB sh acc x f | .dspMin core dst srcA srcB sh acc x f
  | .dspMax core dst srcA srcB sh acc x f | .dspCmp core dst srcA srcB sh acc x f
  | .dspNeg core dst srcA srcB sh acc x f | .dspSat24 core dst srcA srcB sh acc x f
  | .dspAdda core dst srcA srcB sh acc x f | .dspShla core dst srcA srcB sh acc x f
  | .dspShra core dst srcA srcB sh acc x f | .dspMova core dst srcA srcB sh acc x f
  | .dspMovas core dst srcA srcB sh acc x f | .dspMovda core dst srcA srcB sh acc x f
  | .dspClraov core dst srcA srcB sh acc x f =>
    decide (core < 288) && decide (dst < 32) && decide (srcA < 32) && decide (srcB < 32) && decide (sh < 64) && decide (acc < 8) && x.wf && f.wf
  | .dspMac core _ acc a b other x y f | .dspMsu core _ acc a b other x y f
  | .dspMpy core _ acc a b other x y f | .dspMpyn core _ acc a b other x y f
  | .dspClra core _ acc a b other x y f =>
    decide (core < 288) && decide (acc < 8) && decide (a < 16) && decide (b < 16) && other.wf && x.wf && y.wf && f.wf
  | .dspMoveLoad core _ d p mod a b other f _ | .dspMoveStore core _ d p mod a b other f _ =>
    decide (core < 288) && decide (d < 32) && decide (p < 16) && decide (mod < 8) && a.wf && b.wf && other.wf && f.wf
  | .dspLdiD core dst src imm f | .dspLdiP core dst src imm f | .dspLdiM core dst src imm f
  | .dspLdiLc core dst src imm f | .dspAddiD core dst src imm f | .dspAddiP core dst src imm f
  | .dspMovsTo core dst src imm f | .dspMovsFrom core dst src imm f | .dspRot core dst src imm f =>
    decide (core < 288) && decide (dst < 32) && decide (src < 32) && decide (imm < 2 ^ 32) && f.wf
  | .dspNop core cond cnt addr f | .dspBr core cond cnt addr f | .dspBrc core cond cnt addr f
  | .dspCall core cond cnt addr f | .dspRet core cond cnt addr f | .dspLoop core cond cnt addr f
  | .dspLoopr core cond cnt addr f | .dspRep core cond cnt addr f | .dspBreak core cond cnt addr f
  | .dspHalt core cond cnt addr f =>
    decide (core < 288) && decide (cond < 16) && decide (cnt < 65536) && decide (addr < 2 ^ 32) && f.wf
  | .kernelWatchdog _ core => decide (core < 288)
  | .sqDoorbellWrite _ fn n value | .cqHeadWrite _ fn n value | .sqEnable _ fn n value | .sqDisable _ fn n value
  | .cqEnable _ fn n value | .cqDisable _ fn n value => decide (fn < 64) && decide (n < 8) && decide (value < 2 ^ 32)
  | .eqHeadWrite _ fn value | .evtSummaryClear _ fn value | .timeCapture _ fn value | .eqEnable _ fn value
  | .eqDisable _ fn value | .bootGo _ fn value => decide (fn < 64) && decide (value < 2 ^ 32)
  | .qStatusReadClear _ fn q => decide (fn < 64) && decide (q < 17)
  | .registerWrite _ fn bar offset _ value =>
    decide (fn < 64) && decide (bar < 8) && decide (offset < 2 ^ 16) && decide (value < 2 ^ 64)
  | .msixVectorUnmask _ fn v | .msixCoalesceExpiry _ fn v => decide (fn < 64) && decide (v < 16)
  | .commandFetch _ fn sq e => decide (fn < 64) && decide (sq < 8) && e.wf
  | .commandExecuteStart _ _ | .commandTimeout _ _ | .kernelLoaded _ _ _ _ | .overlayLoaded _ _ _ _
  | .imageWritten _ _ _ | .hubPause _ _ _ | .updateDone _ | .recordExported _ _ _ _ | .vbatApplied _ | .vbatRemoved _
  | .pwrgdRise _ _ | .pwrgdFall _ _ _ _ | .resetNAssert _ | .resetNRelease _ _ | .initDone _ _ _ _ _
  | .bootDone _ _ _ _ _ | .pfwNAssert _ | .rideStage _ | .pfwNRelease _ | .rideMaxExpired _ | .pcieLinkReset _
  | .pcieLinkUp _ _ _ | .mbRead _ _ | .mbAlertResponse _ | .mbSnapshotRefresh _ _ | .egressEnqueue _ | .queueSample _
  | .dispatcherTick _ _ _ _ _ _ _ | .grainOpen _ _ _ | .timerFire _ _ | .promotion _ _ | .stalemateCheck _
  | .sapRealign _ | .selfRefreshEnter _ | .bushelZeroFill _ | .rngHealthTest _ _ | .cipherSelftest _ _
  | .recordCommit _ | .referenceLost _ | .ppsInEdge _ | .dtStepApply _ | .leapSecond _ | .ptpSyncSend _
  | .ppsOutEdge _ | .devResetInitEntry _ _ => true
  | .completionWrite _ fn cq => decide (fn < 64) && decide (cq < 8)
  | .eventWrite _ fn _ | .pcieFlr _ fn | .busMasterChange _ fn _ _ _ => decide (fn < 64)
  | .castleHandover _ r _ | .castleDone _ r | .castleWakeDone _ r _ => decide (r < 8)
  | .autoCastleStart _ c | .benchDone _ c _ | .clusterPowerGate _ c => decide (c < 56)
  | .loopbackDone _ phys _ _ => decide (phys < 2)
  | .unitReload _ c u => decide (c < 56) && decide (u < 16)
  | .tamperDetect _ sensor _ _ | .tamperWhileOff _ sensor => decide (sensor < 8)
  | .jtagInstructionSelect _ ins => decide (ins < 16)
  | .thermalSample _ die _ _ => decide (die < 3)
  | .powerEstimate _ w => decide (w < 65536)
  | .linkReplay _ k _ | .linkRetrain _ k | .linkRetrainDone _ k _ => decide (k < 3)
  | .vfConfigChange _ _ num => decide (num < 65536)
  | .mbPointerWrite _ p => decide (p < 256)
  | .mbBusStuck _ line => decide (line < 2)
  | .frameReceive _ port _ _ | .egressSelect _ port | .gateEntryChange _ port | .gclStart _ port
  | .pfcPauseExpiry _ port | .pfcPauseRepeat _ port | .linkUp _ port | .linkDown _ port | .sapStart _ port =>
    decide (port < 8)
  | .flowCacheFill _ flow | .mediaTimeout _ flow | .nackTimer _ flow | .reorderAbandon _ flow | .switchTimeout _ flow
  | .pliTimeout _ flow | .fecBlockFlush _ flow | .splicePictureAssemble _ flow _ => decide (flow < 1048576)
  | .clearContextLoad _ h _ | .encodeRowDone _ h _ _ | .encodeFrameDone _ h _ | .encoderHang _ h _ =>
    decide (h < 2 ^ 32)
  | .cipherVerdict _ _ _ _ ecc | .cipherEncryptDone _ _ ecc => decide (ecc < 3)
  | .ringRead _ pipe _ => decide (pipe < 2)
  | .dtlsRecordProcess _ leg _ | .dtlsFlightRetransmit _ leg | .connectLimitExpiry _ leg | .consentLost _ leg
  | .estimatorRun _ leg | .rtcpInterval _ leg | .twccFeedbackSend _ leg | .beaconPeriodEnd _ leg
  | .shaperBucketZero _ leg | .legFreed _ leg => decide (leg < 65536)
  | .periodBoundary _ idx | .taskDispatch _ idx _ | .taskComplete _ idx _ _ => decide (idx < 1048576)
  | .completionPulse _ idx inst kind => decide (idx < 1048576) && decide (inst < 65536) && decide (kind < 8)
  | .mixGrainComplete _ conf _ _ | .confPark _ conf => decide (conf < 8192)
  | .headerParse _ ctx _ | .decodeFrameDone _ ctx _ _ | .decodeLate _ ctx | .decoderHang _ ctx
  | .refreshDeferExpiry _ ctx | .keySExpiry _ ctx => decide (ctx < 4096)
  | .canvasPassReady _ canvas | .composePassDone _ canvas | .compositorHang _ canvas | .guardReadbackDone _ canvas _ =>
    decide (canvas < 2048)
  | .refreshAllocate _ fps => decide (fps < 61)
  | .refreshVariantDone _ tile _ _ => decide (tile < 16384)
  | .beaconPeak _ ch _ _ _ _ _ _ | .beaconSync _ ch _ _ _ | .beaconSearchTimeout _ ch | .beaconFrameEnd _ ch _ =>
    decide (ch < 768)
  | .dramCommandIssue _ stack pc _ _ | .refreshDue _ stack pc => decide (stack < 4) && decide (pc < 32)
  | .dramTempSample _ k _ => decide (k < 4)
  | .scrubWriteback _ log _ | .patrolScrub _ log _ _ _ => decide (log < 7)
  | .dmaBurst _ e ch _ | .dmaDescriptorDone _ e ch | .dmaStopRequest _ e ch | .dmaResume _ e ch _ =>
    decide (e < 57) && decide (ch < 128)
  | .queueWrite _ reader writer q _ | .queueRead _ reader writer q =>
    decide (reader < 71) && decide (writer < 71) && decide (q < 256)
  | .certReissue _ tenant | .certRenewal _ tenant _ | .certificateExpiry _ tenant _ => decide (tenant < 64)
  | .railAlarm _ rail mv | .railCleared _ rail mv => decide (rail < 11) && decide (mv < 65536)

end Sys2Proof
end

