-- ==== Sys2Proof/Tests/Slice0.lean ====
section
/-! SUPPORT. Witnesses: for each statement with hypotheses, small states and operands that meet them; and tests of single
commands. The states are built from reset by the helpers below. -/

namespace Sys2Proof.Tests

open Sys2Proof.Machine

set_option Elab.async false

/-- Ten seconds, 4,000 grains, after the epoch. -/
def t0 : Nat := 10 * secU

/-- A block of `len` bytes with little-endian fields (offset, size, value), and zeros. -/
def blk (len : Nat) (fs : List (Nat × Nat × Nat)) : List Byte :=
  (List.range len).map fun i => match fs.find? fun f => decide (f.1 ≤ i) && decide (i < f.1 + f.2.1) with
    | some f => BitVec.ofNat 8 (f.2.2 / 256 ^ (i - f.1))
    | none => 0

/-- A command of the operator on an object, with parameters. -/
def cmd (len obj : Nat) (fs : List (Nat × Nat × Nat)) : Cmd :=
  { at_ := t0, obj, len, resultAddr := 4096, paramAddr := if len ≤ 32 then 0 else 8192, params := blk len fs }

/-- The package in a mode, ten seconds on. -/
def up (m : Mode) : State :=
  let s := State.reset
  { s with time := { s.time with dt := t0, lastGrain := 3999 }
           sys := { s.sys with mode := m, macs := true } }

/-- A conference, a leg of it and a flow of a leg. -/
def conf0 : Conf :=
  { tenant := 0, maxLegs := 100, media := 3, connectLimit := 30, home := 0, state := .active, failedJoins := 0, reply := []
    homePend := [] }
def leg0 (ty : LegType) (st : LegState) : Leg :=
  { tenant := 0, conf := 0, typ := ty, state := st, created := 0, localUdp := 5000, remoteUdp := 6000, connectFrom := 0 }
def flow0 (leg kind dir ssrc codec : Nat) : Flow :=
  { tenant := 0, leg, ssrc, kind, dir, pt := 100, flags := 0, clockRate := 48000, assoc := 0, mid := [], rid := [], sink := 0
    state := .live, order := ssrc, prof := { codec } }

/-- A service-mode package with conferences, legs of each type and flows of each kind and direction. -/
def lab : State :=
  { up .service with
    confs := [(0, conf0), (1, conf0), (2, { conf0 with state := .closing })]
    legs := [(0, leg0 .endpoint .active), (1, { leg0 .port .active with typeObj := mkHandle 10 0, slotMask := 1 }),
      (2, { leg0 .cascade .active with localUdp := 5002 }), (3, { leg0 .trunk .active with localUdp := 5003 }),
      (4, { leg0 .stream .active with localUdp := 5004 }), (5, { leg0 .endpoint .connecting with localUdp := 5005 }),
      (6, { leg0 .endpoint .closing with localUdp := 5006 }), (7, { leg0 .endpoint .active with localUdp := 5007 })]
    flows := [(0, flow0 0 1 1 10 1), (1, flow0 0 1 2 11 1), (2, flow0 0 2 1 12 16), (3, flow0 7 2 2 13 16),
      (4, flow0 0 3 1 14 0), (5, flow0 0 3 2 15 0), (6, { flow0 0 1 1 16 1 with flags := 4 }),
      (7, { flow0 7 1 2 17 1 with flags := 4 })] }

/-- An object of the laboratory by type and index. -/
def obj (ty i : Nat) : Nat := mkHandle ty i

/-- Mode and power: each command of `ModeCommandsComplete` is taken somewhere. -/
theorem test_ModeCommandsComplete_hyps :
    (takes 0x0000 (cmd 4 0 [(0, 1, 6)]) (up .standby) && modeOf (cmd 4 0 [(0, 1, 6)]) (up .standby) == some .service &&
    takes 0x0001 (cmd 0 0 []) lab &&
    canPowerSet (cmd 8 0 [(0, 2, 20), (2, 2, 100), (4, 2, 235)]) lab &&
    takes 0x0011 (cmd 0 0 []) lab &&
    canDevReset (cmd 4 0 [(0, 4, 0x52534554)]) (up .standby)) = true := by decide +kernel

/-- The operator's queues hold an IPv4 address at port 0. -/
def addressed (s : State) : State := s.modPort 0 fun p => { p with addrs := setAt p.addrs 0 ⟨false, true, 1⟩, up := true }

theorem test_ConferenceCommandsComplete_hyps :
    (canConfCreate (cmd 12 0 [(0, 2, 4096), (2, 1, 3), (4, 1, 15)]) lab &&
    canConfDelete (cmd 4 (obj 1 0) [(0, 4, 1)]) lab && canConfDelete (cmd 4 (obj 1 1) []) lab &&
    takes 0x0102 (cmd 0 (obj 1 2) []) lab &&
    canLegCreate (cmd 48 (obj 1 0) [(0, 1, 0), (6, 2, 7000), (36, 4, 64)]) (addressed lab) conf0 .endpoint || canLegCreate (cmd 48 (obj 1 0) [(0, 1, 1), (6, 2, 7000), (36, 4, 64)]) (addressed lab) conf0 .endpoint &&
    takes 0x0111 (cmd 0 (obj 2 0) []) lab &&
    canLegMove (cmd 8 (obj 2 0) [(0, 4, obj 1 1)]) lab (leg0 .endpoint .active) conf0 &&
    staysPut (cmd 8 (obj 2 0) [(0, 4, obj 1 0)]) lab (leg0 .endpoint .active) conf0 && (lab.flow 0).isSome &&
    canLegSetState (cmd 4 (obj 2 0) [(0, 4, 3)]) lab && canLegSetState (cmd 4 (obj 2 5) [(0, 4, 0)]) lab &&
    takes 0x0114 (cmd 0 (obj 2 0) []) lab && decide (0 < windowOf t0) &&
    canFlowCreate (cmd 40 (obj 2 0) [(0, 4, 99), (4, 1, 1), (5, 1, 1), (8, 4, 48000)]) lab (leg0 .endpoint .active) &&
    takes 0x0121 (cmd 0 (obj 3 0) []) lab &&
    takes 0x0122 (cmd 0 (obj 3 0) []) lab &&
    canTenantSetQuota (cmd 28 0 [(0, 1, 63), (4, 2, 8192), (24, 4, 3)]) lab &&
    canTenantQuery (cmd 4 0 [(0, 1, 63)]) lab) = true := by decide +kernel

theorem test_IngressCommandsComplete_hyps :
    (canPortSetMode (cmd 28 0 [(0, 1, 1), (1, 1, 2)]) lab &&
    canAddrSet (cmd 24 0 [(0, 1, 7), (1, 1, 31), (2, 2, 3)]) lab && canAddrSet (cmd 24 0 []) (up .standby) &&
    canIceSet (cmd 136 (obj 2 0) [(0, 1, 4), (1, 1, 32), (2, 1, 22), (4, 2, 120), (8, 4, 0x41414141)]) lab (leg0 .endpoint .active) &&
    canPolicerSet (cmd 16 (obj 2 0) [(4, 4, 9216), (8, 2, 1), (10, 2, 1024)]) lab &&
    canJbSet (cmd 8 (obj 3 0) [(0, 2, 1000), (2, 2, 1000)]) lab (flow0 0 1 1 10 1) &&
    canReorderSet (cmd 8 (obj 3 2) [(0, 1, 2), (1, 1, 15), (4, 2, 10)]) lab (flow0 0 2 1 12 16) &&
    canFecSet (cmd 8 (obj 3 4) [(0, 1, 1), (2, 2, 20)]) lab (flow0 0 3 1 14 0) &&
    takes 0x0230 (cmd 0 (obj 2 0) []) lab &&
    canPortStats (cmd 4 0 [(0, 1, 7)]) (up .standby) &&
    takes 0x0232 (cmd 0 (obj 2 0) []) lab) = true := by decide +kernel

/-- An end-to-end encrypted audio send flow, and bound flows. -/
def sealedFlow : Flow := { flow0 7 1 2 17 1 with flags := 4 }
def boundFlow : Flow := { flow0 7 2 2 13 16 with fwd := { bound := true, source := 2, started := true } }
def binding (f : Flow) : State := { lab with flows := tset lab.flows 3 f }

theorem test_AdaptationCommandsComplete_hyps :
    (canFwdSlot (cmd 16 (obj 3 7) [(4, 1, 3), (5, 1, 7), (6, 1, 3)]) lab sealedFlow &&
    canFwdSource (cmd 16 (obj 3 3) [(0, 4, obj 3 2), (8, 1, 3)]) lab (flow0 7 2 2 13 16) (flow0 0 2 1 12 16) &&
    canFwdSource (cmd 16 (obj 3 3) [(0, 4, obj 3 2)]) (binding boundFlow) boundFlow (flow0 0 2 1 12 16) && fwdGoing (binding boundFlow) boundFlow &&
    canFwdUnbind (cmd 0 (obj 3 3) []) (binding boundFlow) boundFlow &&
    canFwdQuery (cmd 0 (obj 3 3) []) lab (flow0 7 2 2 13 16) &&
    canProfileSet (cmd 16 (obj 3 2) [(0, 1, 20)]) lab (flow0 0 2 1 12 16) &&
    canRtcpSet (cmd 40 (obj 2 0) [(0, 2, 5000), (2, 2, 3), (4, 1, 1), (8, 1, 65)]) lab &&
    canKeyframeRequest (cmd 4 (obj 3 2) [(0, 4, 1)]) lab (flow0 0 2 1 12 16) && canKeyframeRequest (cmd 4 (obj 3 2) []) lab (flow0 0 2 1 12 16) &&
    canAdaptSet (cmd 16 (obj 2 0) [(4, 1, 50), (5, 1, 50), (6, 1, 3)]) lab &&
    canAdaptOverride (cmd 16 (obj 2 0) [(0, 1, 3), (1, 1, 50), (8, 4, 800000)]) lab (leg0 .endpoint .active) &&
    takes 0x0322 (cmd 0 (obj 2 0) []) lab &&
    canCascadeSet (cmd 8 (obj 2 2) [(0, 1, 40), (1, 1, 1)]) lab { leg0 .cascade .active with localUdp := 5002 }) = true := by decide +kernel

theorem test_EgressCommandsComplete_hyps :
    (canEgressLegSet (cmd 16 (obj 2 0) [(0, 2, 4096), (4, 4, 1536), (8, 4, 16384), (12, 2, 10), (14, 2, 5000)]) lab &&
    canEgressClassSet (cmd 4 (obj 3 1) [(0, 1, 6)]) lab (flow0 0 1 2 11 1) && !laneBusy lab 1 (flow0 0 1 2 11 1) &&
    canPortEgressSet (cmd 20 0 [(0, 1, 7), (1, 1, 64), (4, 8, 0x0706050403020100), (12, 1, 63)]) (up .standby) &&
    canGclSet (cmd 32 0 [(1, 1, 1), (2, 2, 1), (8, 8, 20), (20, 4, 1000), (24, 1, 255), (28, 4, 32)]) lab && decide (t0 ≤ (gateListOf (cmd 32 0 [(1, 1, 1), (2, 2, 1), (8, 8, 20), (20, 4, 1000), (24, 1, 255), (28, 4, 32)]) t0).base) &&
    canGclQuery (cmd 4 0 [(0, 1, 7)]) lab &&
    canFecGenSet (cmd 4 (obj 3 5) [(0, 1, 1), (1, 1, 100)]) lab (flow0 0 3 2 15 0) &&
    canFcSet (cmd 16 0 [(0, 1, 3), (1, 1, 3), (2, 1, 7), (4, 4, 2), (8, 4, 1)]) lab && canFcSet (cmd 16 0 [(4, 4, 1)]) lab &&
    takes 0x0440 (cmd 0 (obj 2 0) []) lab &&
    canEgressPortStats (cmd 4 0 [(0, 1, 7)]) lab) = true := by decide +kernel

/-- The laboratory with a mix group of conference 0 on the engine of cluster 10, and a second, unused one. -/
def mixLab : State :=
  { lab with aud := { lab.aud with
    groups := [(0, { conf := 0, channels := 2 }), (1, { conf := 0, channels := 1 })]
    mixes := [(0, { cluster := some 10 })] } }
/-- A graph of one contribution to a group: bytes, with their CRC. -/
def graphFs : List (Nat × Nat × Nat) :=
  [(0, 4, 0x4E44534F), (4, 2, 1), (6, 2, 2), (8, 2, 1), (32, 1, 1), (36, 4, obj 3 0), (48, 1, 4), (52, 4, obj 8 0),
   (65, 1, 1), (66, 2, 0x8000), (68, 1, 255)]
def graphCmd : Cmd := cmd 72 (obj 1 0) ((12, 4, crc32c (blk 72 graphFs)) :: graphFs)
def graph0 : Graph := ⟨[⟨1, 0, obj 3 0, 0⟩, ⟨4, 0, obj 8 0, 0⟩], [⟨0, 1, 0x8000, 255, false⟩], false⟩

theorem test_MixCommandsComplete_hyps :
    (canGroupCreate (cmd 8 (obj 1 0) [(0, 1, 2)]) mixLab 10 && canGroupCreate (cmd 8 (obj 1 1) [(0, 1, 1)]) lab 10 &&
    canGroupDelete (cmd 0 (obj 8 1) []) mixLab { conf := 0, channels := 1 } &&
    canContribute (cmd 8 (obj 3 0) [(0, 4, obj 8 0), (4, 2, 0x8000), (6, 1, 8)]) mixLab (flow0 0 1 1 10 1) &&
    canContribute (cmd 8 (obj 3 0) [(6, 1, 255)]) mixLab (flow0 0 1 1 10 1) &&
    canListen (cmd 16 (obj 3 1) [(0, 4, obj 8 0), (4, 4, 6000), (8, 1, 24), (10, 1, 10), (11, 1, 127)]) mixLab (flow0 0 1 2 11 1) (leg0 .endpoint .active) &&
    canUnlisten (cmd 0 (obj 3 1) []) mixLab (flow0 0 1 2 11 1) &&
    canGraphLoad graphCmd mixLab graph0 [] &&
    !(((mixLab.advance t0).loadGraph 0 (obj 1 0) graph0 []).2.heardBack (graphSet graph0 [] (mixLab.mix 0).latest)) &&
    canMixSet (cmd 16 (obj 1 0) [(0, 1, 16), (1, 1, 3), (2, 2, 800), (8, 1, 255)]) mixLab &&
    canPanSet (cmd 8 (obj 1 0) [(0, 1, 1), (1, 1, 1)]) mixLab &&
    takes 0x0520 (cmd 0 (obj 1 0) []) mixLab &&
    takes 0x0521 (cmd 0 (obj 8 0) []) mixLab) = true := by decide +kernel

/-- A kernel that no graph names, in the laboratory of a package with a kernel key. -/
def kern : Kernel := { code := [0], cycMax := 100, stateX := 0, stateY := 0, entry := 0, id := 1, ver := 1, codeHash := [], mask := 1 }
def kernLab : State :=
  { mixLab with trust := { lab.trust with kernelKey := some [1] }
                aud := { mixLab.aud with dsp := { mixLab.aud.dsp with kernels := [(16, kern)] } } }

theorem test_KernelCommandsComplete_hyps :
    (canKernelLoad (cmd 24 0 [(0, 8, 8), (8, 4, 16512)]) kernLab && canKernelLoad (cmd 24 0 [(8, 4, 136), (16, 8, 1)]) kernLab &&
    canKernelUnload (cmd 0 (obj 9 16) []) kernLab &&
    canKernelQuery (cmd 0 (obj 9 16) []) kernLab kern &&
    canKernelReset (cmd 4 (obj 9 16) [(0, 4, obj 1 0)]) kernLab && canKernelReset (cmd 4 (obj 9 16) []) kernLab &&
    canDspSet (cmd 8 0 [(0, 4, 640000)]) kernLab &&
    takes 0x0611 (cmd 0 (obj 12 10) []) lab) = true := by decide +kernel

/-- Serial port 1 enabled, its first grain come; serial port 2 to realign. -/
def sapLab : State :=
  (lab.modSap 1 fun q => { q with enabled := true, start := 4000 }).modSap 2 fun q => { q with enabled := true, realign := some 4000 }

theorem test_SerialPortCommandsComplete_hyps :
    (canSapConfig (cmd 8 (obj 10 7) [(0, 1, 2), (1, 1, 1), (2, 1, 16), (3, 1, 32), (4, 2, 0x1F), (6, 1, 63)]) (up .standby) &&
    canMclk (cmd 4 0 [(0, 1, 3)]) lab &&
    takes 0x0702 (cmd 0 (obj 10 0) []) lab && asksPort (cmd 0 (obj 10 0) []) lab &&
    takes 0x0703 (cmd 0 0 []) lab &&
    canRouteSet (cmd 16 (obj 10 1) [(0, 1, 1), (8, 1, 1), (9, 1, 2), (10, 1, 7), (11, 1, 1), (12, 2, 0x8000)]) lab &&
    takes 0x0711 (cmd 0 (obj 10 0) []) lab &&
    canPortMask (cmd 8 (obj 2 1) [(0, 4, 3), (4, 1, 1)]) lab { leg0 .port .active with typeObj := mkHandle 10 0, slotMask := 1 } &&
    takes 0x0730 (cmd 0 (obj 10 7) []) lab && asksPort (cmd 0 (obj 10 7) []) lab &&
    sapDue t0 1 sapLab &&
    sapRealigning t0 sapLab == [2]) = true := by decide +kernel

/-- A modulator on leg 0, at a leg whose conference scans. -/
def mod0 : BeaconMod := { leg := 0, tag := 7, run := ⟨60, 0, 0⟩, pend := [], frame := none, detach := none, from_ := 0 }
def bcnLab : State := { lab with aud := { lab.aud with bcn := { lab.aud.bcn with mods := [(512, mod0)] } } }

theorem test_BeaconCommandsComplete_hyps :
    (canModAttach (cmd 8 (obj 2 0) [(0, 1, 140), (1, 1, 15), (2, 2, 799)]) lab (leg0 .endpoint .active) &&
    takes 0x0801 (cmd 8 (obj 11 512) [(0, 1, 40), (2, 2, 0xFFFF)]) bcnLab && modSetOk (cmd 8 (obj 11 512) [(0, 1, 40), (2, 2, 0xFFFF)]) &&
    takes 0x0802 (cmd 0 (obj 11 512) []) bcnLab &&
    takes 0x0803 (cmd 0 (obj 11 512) []) bcnLab &&
    canRxSet (cmd 8 (obj 1 0) [(0, 1, 1), (1, 1, 95), (2, 1, 20)]) lab &&
    canWatch (cmd 4 (obj 2 0) [(0, 4, 1)]) lab (leg0 .endpoint .active) && canWatch (cmd 4 (obj 2 0) []) lab (leg0 .endpoint .active) &&
    canModemSet (cmd 8 0 [(0, 2, 512), (2, 2, 300), (4, 1, 100)]) lab &&
    takes 0x0820 (cmd 0 (obj 2 0) []) lab &&
    takes 0x0821 (cmd 0 0 []) lab) = true := by decide +kernel

/-- A dispatched task of an owner, on unit 1 since the epoch. -/
def runs (w : Work) : Task := { st := .dispatched, unit := 1, work := w }
def shown (n : Nat) : DecFrame := { info := { num := n, w := 64, h := 64 }, stamp := 0, at_ := 0, complete := true, task := 1 }
def dec0 : DecCtx :=
  { tenant := 0, conf := 0, source := none, codec := 16, prio := 1, freeze := false, ten := false, refSlots := 8, maxW := 640
    maxH := 360, fps := 30, maxE := 3, maxS := 3, maxT := 3, st := .decoding, key := 5, frames := [shown 1] }
def canvas0 : Canvas :=
  { tenant := 0, conf := 0, w := 640, h := 360, fps := 30, flags := 0, bushels := 1, key := 6, last := some 299 }
/-- The laboratory with a decode context at work on a frame, one with a frame ready, and one without a source. -/
def decLab : State :=
  { lab with
    vid := { lab.vid with decs := [(0, dec0), (1, { dec0 with frames := [], ready := [⟨0, 0, true⟩] }),
      (2, { dec0 with frames := [], st := .noSource })] }
    disp := { lab.disp with tasks := [(1, runs (.decode 0))] } }

theorem test_DecoderRowsComplete_hyps :
    (canDecCreate (cmd 24 (obj 1 0) [(0, 4, obj 3 2), (4, 1, 16), (5, 1, 2), (8, 2, 4096), (10, 2, 2304), (12, 1, 30)]) lab conf0 &&
    takes 0x0901 (cmd 0 (obj 4 0) []) decLab && !decLab.decNamed 0 &&
    canDecBind (cmd 4 (obj 4 2) [(0, 4, obj 3 2)]) decLab { dec0 with frames := [], st := .noSource } && canDecBind (cmd 4 (obj 4 0) []) decLab dec0 &&
    canDecSet (cmd 8 (obj 4 0) [(0, 1, 2), (1, 1, 1), (2, 1, 3)]) decLab dec0 &&
    takes 0x0904 (cmd 0 (obj 4 0) []) decLab &&
    takes 0x0910 (cmd 0 0 []) decLab &&
    ((decLab.advance t0).decNext 1 []).dec 1 != none &&
    decoding 0 decLab dec0 (shown 1) [] 1 &&
    decLab.dec 0 == some dec0 && lateMs 1 != none &&
    decHung t0 0 1 decLab dec0 (shown 1) [] (runs (.decode 0))) = true := by decide +kernel

/-- An opaque overlay, shown whole under a guard; a pass being composed, and one that waits for its guards. -/
def ovl0 : Overlay := { w := 8, h := 8, premul := false, pix := {}, a := List.replicate 64 256, ac := [], bushels := 1 }
def base0 : Layer12 := ⟨3, 0, 256, 0, 0, 0, 640, 360, 0, 0, 0, 0, 0⟩
def top0 : Layer12 := ⟨2, 0, 256, 0, 0, 0, 8, 8, 0, 0, 0, 0, 0⟩
def frame0 : CanvasFrame := ⟨299, {}, false, false⟩
def pass0 : Pass := ⟨300, 1, [], [], false, false, none⟩
def job0 : OverlayJob := ⟨9, 0, 2, 2, false, 8, 0, 1⟩
def canvas1 : Canvas := { canvas0 with layout := [base0, top0], slots := [(0, ovl0)] }
def canvas2 : Canvas := { canvas0 with passes := [pass0] }
def canvas3 : Canvas := { canvas0 with passes := [{ pass0 with made := some frame0 }], loading := [job0] }
def compLab : State :=
  { lab with
    vid := { lab.vid with canvases := [(0, canvas0), (1, canvas1), (2, canvas2), (3, canvas3)] }
    disp := { lab.disp with tasks := [(1, runs (.pass 2))] } }

theorem test_CanvasRowsComplete_hyps :
    (canCanvasCreate (cmd 8 (obj 1 0) [(0, 2, 4096), (2, 2, 2304), (4, 1, 30), (5, 1, 3)]) lab conf0 &&
    takes 0x0A01 (cmd 0 (obj 6 0) []) compLab && !compLab.canvasNamed 0 &&
    canLayoutSet (cmd 72 (obj 6 1) [(0, 1, 2), (8, 1, 3), (10, 2, 256), (20, 2, 640), (22, 2, 360), (40, 1, 2), (42, 2, 256), (52, 2, 8), (54, 2, 8)]) compLab canvas1 &&
    canOverlayLoad (cmd 24 (obj 6 0) [(0, 8, 8), (8, 2, 2), (10, 2, 2304), (12, 1, 7), (13, 1, 1)]) compLab canvas0 &&
    canGuardSet (cmd 16 (obj 6 1) [(0, 1, 3), (1, 1, 7), (2, 1, 1), (8, 2, 8), (10, 2, 2)]) compLab canvas1 &&
    takes 0x0A05 (cmd 0 (obj 6 0) []) compLab &&
    takes 0x0A10 (cmd 0 0 []) compLab &&
    canvasDue t0 0 300 compLab canvas0 &&
    composing 2 compLab canvas2 pass0 &&
    compHung t0 2 1 compLab canvas2 pass0 (runs (.pass 2)) &&
    guarding 3 compLab canvas3 { pass0 with made := some frame0 } frame0 &&
    overlayLoading 9 3 compLab canvas3 job0) = true := by decide +kernel

/-- The rows of a frame of one row, coded. -/
def row0 : RowFrame :=
  { k := 1, isKey := false, budget := 1, cap := 1, applied := 0, qf := 32, q := 32, rows := [1], flat := 0, blocks := 1, lastQ := 32, r := 1 }
def rc0 : RateCtl := { codec := 17, w := 640, h := 360, fps := 30, kbps := 1000, qMin := 10, qMax := 51, frame := some row0 }
def enc0 : EncCtx :=
  { tenant := 0, conf := 0, input := 0, codec := 17, profile := 0, prio := 1, mode1 := false, div := 1, tlayers := 1, sliceRows := 0
    keyS := 1, mtu := 1200, sweep := 10, rc := rc0, bushels := 1, key := 7, st := .encoding, flows := [(8, true)] }
def enc1 : EncCtx := { enc0 with run := some (1, false, 1, 0, 0) }
def enc2 : EncCtx := { enc0 with deferred := [(3, true)], lastRefresh := some 0 }
def tileFrame0 : TileFrame := ⟨1, 0, 2, 1, {}⟩
def tile0 : Tile := { tenant := 0, conf := 0, source := 0, cls := 0, rung := 0, rc := { rc0 with frame := none }, bushels := 1, key := 8 }
def tile1 : Tile := { tile0 with cls := 1, rc := rc0, run := some tileFrame0 }
def encLab : State :=
  { compLab with
    flows := tset (tset lab.flows 8 { flow0 7 2 2 18 17 with outCtx := encH 0 }) 9 (flow0 7 2 2 19 17)
    vid := { compLab.vid with encs := [(0, enc0), (1, enc1), (2, enc2)], tiles := [(1, tile1)] }
    disp := { lab.disp with tasks := [(0, runs (.encode 1)), (2, runs (.tile 1))] } }

theorem test_EncoderRowsComplete_hyps :
    (canEncCreate (cmd 32 (obj 1 0) [(0, 4, obj 6 0), (4, 1, 16), (6, 1, 1), (8, 1, 4), (12, 4, 50000), (20, 2, 3600)]) encLab conf0 canvas0 &&
    takes 0x0B01 (cmd 0 (obj 5 0) []) encLab && takes 0x0B01 (cmd 0 (obj 5 1) []) encLab &&
    canEncSet (cmd 16 (obj 5 0) [(0, 4, 50000), (5, 1, 2), (8, 2, 3600), (12, 2, 400)]) encLab enc0 &&
    canEncAttach (cmd 8 (obj 5 0) [(0, 4, obj 3 9)]) encLab enc0 (flow0 7 2 2 19 17) &&
    canEncDetach (cmd 8 (obj 5 0) [(0, 4, obj 3 8)]) encLab enc0 &&
    takes 0x0B05 (cmd 4 (obj 5 0) [(0, 4, 1)]) encLab &&
    takes 0x0B06 (cmd 0 (obj 5 0) []) encLab &&
    takes 0x0B10 (cmd 0 0 []) encLab &&
    encoding 1 encLab enc1 && enc1.rc.rowsDone &&
    tileCoding 1 1 encLab tile1 tileFrame0 && tile1.rc.rowsDone &&
    encHung t0 (encH 1) 0 1 0 230400 encLab (runs (.encode 1)) &&
    deferDue t0 2 0 encLab enc2 &&
    keyDue t0 0 encLab enc0) = true := by decide +kernel

/-- A tile that takes a source, a variant of it being made, and a spliced output whose picture is settled. -/
def var0 : Variant := { k := 1, form := 0, task := 3 }
def splice0 : Splice := { tenant := 0, codec := 17, fps := 30, mtu := 1200, engine := 0, next := some 300 }
def spliceLab : State :=
  { decLab with
    flows := [(8, { flow0 7 2 2 18 17 with outCtx := flowH 8 }), (9, flow0 7 2 2 19 17)]
    vid := { decLab.vid with tiles := [(0, tile0), (1, { tile1 with variants := [var0] })], splices := [(8, splice0)], alloc := [(30, 300)] }
    disp := { lab.disp with tasks := [(3, runs (.variant 1 0))] } }

theorem test_SpliceRowsComplete_hyps :
    (canTileCreate (cmd 16 (obj 1 0) [(0, 4, obj 4 0), (4, 1, 3), (5, 1, 17), (6, 1, 60), (7, 1, 2), (8, 4, 50000)]) spliceLab conf0 &&
    takes 0x0C01 (cmd 0 (obj 7 0) []) spliceLab && !spliceLab.tileNamed 0 &&
    canTileSet (cmd 8 (obj 7 0) [(0, 4, 30)]) spliceLab tile0 &&
    takes 0x0C03 (cmd 0 (obj 7 0) []) spliceLab &&
    canSpliceCreate (cmd 8 (obj 3 9) [(0, 1, 17), (1, 1, 60), (2, 2, 8800)]) spliceLab (flow0 7 2 2 19 17) &&
    onSplice 0x0C11 (cmd 0 (obj 3 8) []) spliceLab splice0 &&
    canGridSet (cmd 52 (obj 3 8) [(0, 1, 1), (1, 1, 1), (16, 1, 64), (32, 1, 36)]) spliceLab splice0 &&
    canSpliceSet (cmd 4 (obj 3 8) [(0, 1, 2), (1, 1, 2)]) spliceLab splice0 &&
    onSplice 0x0C14 (cmd 0 (obj 3 8) []) spliceLab splice0 &&
    takes 0x0C20 (cmd 0 0 []) spliceLab &&
    allocDue t0 60 600 spliceLab &&
    variantRuns 1 0 spliceLab { tile1 with variants := [var0] } var0 &&
    assembling t0 8 300 spliceLab splice0) = true := by decide +kernel

/-- READY and dispatched tasks, a timer due, and a command that has waited; cluster 0 and its region agree on their epoch. -/
def task1 : Task := { st := .ready, target := 4, key := some 5 }
def timer0 : Timer := ⟨0, 0, 1⟩
def entry0 : CmdEntry :=
  { whom := ⟨1, 0, 0, 1, false, 0, 3, 0⟩, cmd := cmd 0 0 [], level := 2, accepted := 0, limit := 0, fence := false, chained := false
    pred := none, predSts := none, begun := false, ready := some 0 }
def dispLab : State :=
  { (lab.modCluster 0 fun k => { k with epochs := List.replicate 16 1 }) with
    disp := { lab.disp with
      tasks := [(1, task1), (2, { st := .dispatched, unit := 0x8000, grain := false }), (4, { st := .ready, cls := 3, level := 2 })], timers := [(7, timer0)], keys := [(5, {})] }
    cp := { lab.cp with cmds := [(3, entry0)] } }

theorem test_DispatcherRowsComplete_hyps :
    (canDispSet (cmd 16 0 [(0, 2, 1000), (2, 2, 10)]) lab &&
    canDispTenantSet (cmd 4 0 [(0, 1, 63), (1, 1, 16)]) lab &&
    takes 0x0D02 (cmd 0 0 []) lab &&
    canDispTenantQuery (cmd 4 0 [(0, 1, 63)]) lab &&
    takes 0x0D04 (cmd 4 0 [(0, 4, 1048575)]) lab &&
    canKeyReset (cmd 4 0 [(0, 4, 5)]) dispLab &&
    (List.range 16).any fun u => dispatchable t0 1 u dispLab task1 &&
    completes 2 dispLab { st := .dispatched, unit := 0x8000, grain := false } &&
    tget dispLab.disp.tasks 2 == some { st := .dispatched, unit := 0x8000, grain := false } &&
    tget dispLab.disp.timers 7 == some timer0 && dispLab.timerDue 7 timer0 &&
    decide (dispLab.time.lastTick < tickOf dispLab.now) &&
    promotable t0 3 0 dispLab entry0 &&
    promotableTask t0 4 dispLab ⟨0, 2, 0, none⟩) = true := by decide +kernel

/-- Controllers with keys, a word to be written back, and idle since the epoch. -/
def memLab (m : Mode) : State :=
  let s := up m
  { s with mem := { s.mem with keys := [1, 2, 3, 4], dramStacks := [{ log := [{ addr := 0, count := 4 }] }, {}, {}, {}] } }

theorem test_MemoryRowsComplete_hyps :
    (takes 0x0E00 (cmd 4 0 [(0, 1, 3)]) lab &&
    takes 0x0E01 (cmd 4 0 [(0, 1, 6)]) lab &&
    canMemSet (cmd 8 0 [(0, 2, 16384), (2, 2, 10)]) lab &&
    canMemTenantSet (cmd 8 0 [(0, 1, 63), (4, 4, 1048576)]) lab &&
    canMemTenantQuery (cmd 4 0 [(0, 1, 63)]) lab &&
    (memLab .service).dramLive && !(woken (memLab .service) (arriving 3 31 [{ addr := 0 }])).mem.selfRefresh &&
    ((memLab .service).advance t0).refreshIsDue 3 31 &&
    writebackDue t0 0 0 (memLab .service) { addr := 0, count := 4 } &&
    twf (memLab .service).mem.versions && (memLab .service).storedByte 64 != none &&
    (memLab .service).scrubIdle 0 0 &&
    (memLab .standby).memIdle) = true := by decide +kernel

/-- A channel that runs, one whose descriptor's last burst has gone, and a paused one. -/
def dmaLab : State :=
  ((({ lab with mem := { lab.mem with keys := [1, 2, 3, 4] } }.modChan 0 8 fun c => { c with st := 1, residue := 64, len := 64 }).modChan 1 0 fun c => { c with st := 1, len := 64 }).modChan
    56 127 fun c => { c with st := 3 }).modChan 2 0 fun c => { c with st := 5 }

theorem test_DmaRowsComplete_hyps :
    (takes 0x0F00 (cmd 4 0 [(0, 1, 56), (1, 1, 127)]) lab &&
    takes 0x0F01 (cmd 4 0 [(0, 1, 56)]) lab &&
    canPfcGenSet (cmd 12 0 [(0, 1, 1), (1, 1, 1), (2, 1, 255), (4, 4, 2097152), (8, 4, 1)]) lab &&
    engineLive 0 8 dmaLab && (dmaLab.dmaIn 0 {}).burstReady 0 8 false &&
    descEnds 1 0 dmaLab &&
    (dmaLab.chan 0 8).st == 1 && (dmaLab.chan 1 0).st == 1 &&
    (dmaLab.haltLong.chan 56 127).st == 3 && (dmaLab.haltLong.chan 2 0).st == 5 &&
    isQueue 70 0 255 && isQueue 0 70 0) = true := by decide +kernel

/-- A vault with a certificate a year old, a host key, and trunk and endpoint legs. -/
def gen0 : CertGen := { gen := 1, issued := 0, renewed := false, cert := [] }
def dtls0 : DtlsKey := { alg := 1, nextGen := 2, gens := [gen0], spki := [], measured := [], bits := 0 }
def key0 : KeyEntry := ⟨0, 1, [], []⟩
def year : Nat := 366 * daySecs * secU
def vaultLab : State :=
  { lab with
    trust := { lab.trust with provisioned := true, dtls := [(0, dtls0)], keys := [(0, key0)] }
    quotas := modAt lab.quotas 0 fun q => { q with policy := 3 }
    legs := tset lab.legs 5 { leg0 .endpoint .connecting with dtls := { running := true } } }

theorem test_TrustRowsComplete_hyps :
    (asksTenant 0x1000 (cmd 36 0 [(0, 1, 63)]) lab &&
    takes 0x1001 (cmd 0 0 []) lab &&
    takes 0x1010 (cmd 84 0 [(0, 1, 1)]) (up .provision) && provisionFields (cmd 84 0 [(0, 1, 1)]) &&
    takes 0x1011 (cmd 0 0 []) (up .provision) &&
    takes 0x1012 (cmd 4 0 [(0, 4, 0x50524F56)]) (up .lockdown) && !(up .lockdown).trust.meshLatch &&
    canPeerMeas (cmd 8 0 []) lab && canPeerMeas (cmd 392 0 [(0, 1, 8)]) lab &&
    canDtlsKey (cmd 4 0 [(0, 1, 2)]) vaultLab &&
    canCertRead (cmd 4 0 []) vaultLab dtls0 gen0 && canCertRead (cmd 4 0 [(2, 2, 1)]) vaultLab dtls0 gen0 &&
    canDtlsLeg (cmd 40 (obj 2 0) [(0, 1, 1), (1, 1, 3), (2, 1, 15)]) vaultLab (leg0 .endpoint .active) gen0 &&
    canKeyImport (cmd 104 0 [(0, 1, 5)]) vaultLab &&
    canKeyDelete (cmd 0 (obj 13 0) []) vaultLab &&
    canTrunkKey (cmd 4 (obj 2 3) [(0, 4, obj 13 0)]) vaultLab { leg0 .trunk .active with localUdp := 5003 } key0 &&
    canTamperSet (cmd 4 0 [(0, 1, 0), (1, 1, 2)]) lab && canTamperSet (cmd 4 0 [(0, 1, 7)]) lab &&
    takes 0x1041 (cmd 0 0 []) lab &&
    takes 0x1050 (cmd 4 0 [(0, 1, 2)]) lab &&
    tget vaultLab.trust.dtls 0 == some dtls0 && dtls0.measured.length != vaultLab.measurements.length && !vaultLab.trust.rngFailed &&
    renewalDue year 0 1 vaultLab gen0 &&
    expiryDue year 0 1 vaultLab gen0 &&
    flightDue t0 5 vaultLab { leg0 .endpoint .connecting with dtls := { running := true } }) = true := by decide +kernel

/-- Flow 0 and leg 0's RTCP context with keys, a packet of the first in each queue and its clear context loaded. -/
def cipJob (id : Nat) : CipherJob :=
  { id, pipe := 0, flow := some 0, leg := 0, cls := 0, stamp := 0, len := 100, body := .other, fcsOk := true, port := 0, index := none }
def cipLab : State :=
  { lab with
    flows := tmod lab.flows 0 fun f => { f with cip := { f.cip with profile := 1, gen := 1 } }
    cip := { lab.cip with slots := [(0, ⟨flowH 0, 0, false, []⟩)], inQ := [cipJob 1], outQ := [cipJob 2] } }

theorem test_CipherRowsComplete_hyps :
    (takes 0x1100 (cmd 0 (obj 3 0) []) lab && takes 0x1100 (cmd 0 (obj 2 0) []) lab &&
    canCipherPin (cmd 4 (obj 3 0) [(0, 4, 1)]) lab && canCipherPin (cmd 4 (obj 3 0) []) lab &&
    takes 0x1110 (cmd 0 0 []) lab &&
    loadDue (flowH 0) { cipLab with cip := { cipLab.cip with slots := [] } } &&
    jobReady cipLab.cipWindow.cipRun.cip.inQ 1 0 cipLab.cipWindow.cipRun { cipJob 1 with phase := .running } &&
    jobReady cipLab.cipWindow.cipRun.cip.outQ 2 1 cipLab.cipWindow.cipRun { cipJob 2 with phase := .running } &&
    decide (4 ≤ lab.sys.mode.code) && !lab.sys.inReset) = true := by decide +kernel

/-- Time under a reference, or with a step or a leap second due. -/
def timed (u : TimeUnit) : State := { lab with time := { u with dt := t0 } }

theorem test_TimeRowsComplete_hyps :
    (canTimeRef (cmd 16 0 [(1, 1, 7), (2, 1, 31), (4, 1, 255)]) lab &&
    takes 0x1201 (cmd 0 0 []) (timed { pendingStep := some 1, offsets := List.replicate 4 (1, t0) }) && (timed { pendingStep := some 1, offsets := List.replicate 4 (1, t0) }).stepAllowed &&
    takes 0x1202 (cmd 8 0 [(0, 8, 11)]) lab &&
    canPpsOut (cmd 4 0 [(0, 1, 2), (2, 2, 500)]) lab &&
    canUtc (cmd 4 0 [(0, 2, 255)]) lab &&
    takes 0x1205 (cmd 0 0 []) lab &&
    gmSilent t0 (timed { ref := 1 }) &&
    ppsSilent t0 0 (timed { ref := 2, ppsLast := some 0 }) &&
    (timed { stepAt := some (t0, 5) }).time.stepAt == some (t0, 5) &&
    (timed { leap := some (0, 10) }).time.leap == some (0, 10) && decide (10 ≤ dtSec t0) &&
    syncDue t0 (timed { ref := 2, master := true }) &&
    t0 % secU == 0) = true := by decide +kernel

/-- Cluster 0 of the laboratory in a state, with an epoch behind its region's. -/
def clusterLab (k : Cluster) : State := lab.modCluster 0 fun _ => k
def castling0 (phase source target : Nat) : Castling :=
  { source, target, id := 0, phase, deferrals := 0, update := false }
def casting (phase source target : Nat) : State := lab.setCastling (regionOf source) (some (castling0 phase source target))
def image0 : Image := ⟨1, 1, 1, 0, true, true, 100⟩
def imageJob (typ : Nat) (paused : Bool) : ImageJob := { id := 1, dest := 0, typ, todo := [], skipped := [], paused }
def late0 : Nat := 4000 * grainU + 2400 * usU

theorem test_RepairRowsComplete_hyps :
    (canCastle (cmd 0 (obj 12 0) []) lab 4 &&
    canBench (cmd 0 (obj 12 0) []) (clusterLab { state := .bench }) &&
    canRetire (cmd 4 (obj 12 0) [(0, 1, 3)]) (clusterLab { state := .bench }) &&
    canSpare (cmd 4 (obj 12 4) [(0, 1, 1)]) (lab.modCluster 4 fun _ => { state := .bench }) &&
    takes 0x1303 (cmd 0 (obj 12 55) []) lab &&
    takes 0x1310 (cmd 4 0 [(0, 1, 3)]) lab &&
    canImageWrite (cmd 16 0 [(0, 8, 8), (8, 4, 224), (12, 1, 2)]) lab &&
    canImageActivate (cmd 4 0 [(0, 1, 2), (1, 1, 2)]) (lab.modUnits fun u => { u with held := [(5, image0)] }) image0 &&
    canHomeSet (cmd 16 (obj 1 0) [(0, 1, 15), (8, 8, 5000)]) lab &&
    autoReady 0 4 (lab.modUnits fun u => { u with waiting := [(0, 1)] }) &&
    castlingPhase 0 1 (casting 1 0 4) (castling0 1 0 4) &&
    castlingPhase 0 2 (casting 2 0 4) (castling0 2 0 4) && !isAudioCluster 0 && !lab.sys.inReset &&
    castlingPhase 2 2 (casting 2 10 18) (castling0 2 10 18) && audioPoint late0 (casting 2 10 18) (castling0 2 10 18) &&
    castlingPhase 0 4 (casting 4 0 4) (castling0 4 0 4) && !(lab.disp.tasks.any fun p => p.2.st == .dispatched && p.2.unit / 16 == 0) &&
    ((clusterLab { state := .bench, benching := some 1 }).cluster 0).benching == some 1 &&
    reloadable 0 15 lab &&
    (lab.modUnits fun u => { u with writing := some (imageJob 0 false) }).units.writing == some (imageJob 0 false) &&
    pausable 50000 (lab.modUnits fun u => { u with activating := some (imageJob 1 false) }) (imageJob 1 false) &&
    (lab.modUnits fun u => { u with activating := some (imageJob 2 false) }).units.activating == some (imageJob 2 false) &&
    ({ lab with cp := { lab.cp with pausedTill := some t0 } }).pauseOver && (imageJob 1 true).paused) = true := by decide +kernel

/-- A record of one entry. -/
def recLab : State := { lab with rcd := { lab.rcd with slots := [(0, ⟨1, 0, 0, [], true⟩)], newest := some 1, firstFault := 1 } }
def export0 : ExportJob := ⟨1, 1, 1, 0, 64, []⟩

theorem test_RecordRowsComplete_hyps :
    (canEvtMask (cmd 8 0 [(0, 1, 9), (4, 4, 0xFFFFFFFF)]) lab &&
    takes 0x1401 (cmd 0 0 []) lab &&
    canRecordSet (cmd 48 0 [(0, 4, 0xFFFFFFFF), (40, 2, 0xFFFF)]) lab && canRecordSet (cmd 48 0 [(28, 4, 0xFFFFFF), (40, 2, 1000)]) lab &&
    takes 0x1411 (cmd 0 0 []) lab &&
    canRecordRead (cmd 8 0 [(0, 4, 1), (4, 2, 63)]) recLab &&
    canExport (cmd 48 0 [(0, 8, 64), (8, 4, 0x80000040)]) recLab 1 1 &&
    takes 0x1414 (cmd 0 0 []) lab &&
    ({ recLab with rcd := { recLab.rcd with exporting := some export0 } }).rcd.exporting == some export0 &&
    takes 0x1420 (cmd 0 0 []) lab && !lab.trust.rngFailed &&
    takes 0x1421 (cmd 104 0 [(0, 4, 0x3D)]) lab && scopeOk (cmd 104 0 [(0, 4, 0x3D)]) &&
    takes 0x1422 (cmd 4 0 [(0, 4, 0x4E525452)]) (up .standby) && (up .standby).confs == [] &&
    takes 0x1423 (cmd 104 0 [(0, 4, 8)]) (up .fieldReturn) && scopeOk (cmd 104 0 [(0, 4, 8)])) = true := by decide +kernel

theorem test_HostCommandsComplete_hyps :
    (canHostSet (cmd 8 0 [(0, 1, 63), (1, 1, 7), (4, 4, 60000)]) lab &&
    canHostQuery (cmd 4 0 [(0, 1, 63)]) lab &&
    takes 0x1510 (cmd 0 0 []) lab &&
    canLoopback (cmd 8 0 [(0, 1, 1), (1, 1, 2), (2, 2, 10000)]) (up .diagnostic) &&
    takes 0x1530 (cmd 4 0 [(0, 1, 255)]) lab && (cmd 4 0 [(0, 1, 255)]).zero 1 3 &&
    loopEnds t0 1 { lab with host := { lab.host with pcie := { lab.host.pcie with loopback := [(1, 4, 2, t0)] } } } 4 2 t0) = true := by decide +kernel

/-- Function 0 with its window open and mastering the bus, commands announced at SQ 0, a completion waiting at CQ 1 and an
event held. -/
def ev0 : Event := ⟨24, 0, 0, []⟩
def done0 : Completion := ⟨⟨0, 1, 0, 1, false, 0, 0, 0⟩, 0, [], 0⟩
def hostLab : State := lab.modFunc 0 fun f =>
  { f with memSpace := true, busMaster := true
           sqs := setAt f.sqs 0 { enable := true, tail := 1 }
           cqs := setAt (setAt f.cqs 1 { enable := true, waiting := [done0] }) 0 { enable := true }
           eq := { f.eq with enable := true, held := [ev0], comps := [ev0] }
           msix := setAt f.msix 15 { fireAt := some t0, covers := [(0, 0)] } }

theorem test_WindowRowsComplete_hyps :
    (queueOpen 0 7 hostLab && decide (2 ^ ((hostLab.func 0).sqs.getD 7 {}).sizeLog2 ≤ indexOf 4095) &&
    queueOpen 0 0 hostLab && hostLab.windowOpen 0 &&
    aligned 0 0x0400 4 hostLab && aligned 0 0x0618 8 hostLab && aligned 0 0x0900 4 hostLab &&
    vectorFires t0 0 15 hostLab) = true := by decide +kernel

theorem test_LinkRowsComplete_hyps :
    (lab.fnExists 0 &&
    !(lab.host.pcie.vfEnable == true && lab.host.pcie.numVfs == 63) &&
    lab.sys.pwrgd && (lab.advance t0).mgmtAnswers) = true := by decide +kernel

theorem test_CommandProcessorRowsComplete_hyps :
    (fetchable t0 0 0 hostLab &&
    tget dispLab.cp.cmds 3 == some entry0 && !entry0.begun && decide (entry0.limit ≤ (dispLab.advance t0).now) &&
    writable t0 0 1 hostLab done0 [] &&
    eventReady t0 0 false hostLab ev0 [] && eventReady t0 0 true hostLab ev0 []) = true := by decide +kernel

/-- The laboratory with its pins at other levels. -/
def pins (f : SysState → SysState) : State := lab.modSys f

theorem test_SupplyRowsComplete_hyps :
    (!(pins fun y => { y with pwrgd := false, mode := .off }).sys.pwrgd &&
    lab.sys.pwrgd && lab.sys.resetN &&
    !(pins fun y => { y with resetN := false, inReset := true }).sys.resetN &&
    devResetDue t0 (pins fun y => { y with devReset := some (t0 - 10 * msU) })) = true := by decide +kernel

theorem test_StartUpRowsComplete_hyps :
    (startsUp .init State.reset &&
    bootReady [image0] (up .boot) &&
    startsUp .boot ((up .boot).modSys fun y => { y with bootSrc := 3 })) = true := by decide +kernel

def ride0 : Ride := ⟨t0 - 40 * msU, 200, 20, 2, false⟩
def riding (x : Ride) : State := lab.modSys fun y => { y with mode := .ridethrough, pfwN := false, ride := some x }

theorem test_RideRowsComplete_hyps :
    (rideStarts lab &&
    (up .standby).sys.pfwN && !(up .standby).sys.inReset && decide (2 ≤ (up .standby).sys.mode.code) &&
    stageDue t0 ride0 (riding ride0) &&
    rideEnds t0 ride0 (riding ride0) &&
    rideExpires t0 { ride0 with entry := t0 - 200 * msU } (riding { ride0 with entry := t0 - 200 * msU })) = true := by decide +kernel

theorem test_MeasurementRowsComplete_hyps :
    (powered t0 lab && lab.sys.mode.code != 2 &&
    railFails t0 10 lab &&
    railBack 10 (lab.modSys fun y => { y with railAlarm := setAt y.railAlarm 10 true }) &&
    flitStuck 2 { flitFails := 8 } (lab.modLink 2 fun _ => { flitFails := 8 }) &&
    linkTraining 2 { training := true, trainFails := 2 } (lab.modLink 2 fun _ => { training := true, trainFails := 2 })) = true := by decide +kernel

theorem test_TamperRowsComplete_hyps :
    (decide (2 ≤ lab.sys.mode.code) &&
    offDetection 4 (up .keepalive)) = true := by decide +kernel

/-- Core 0 with registers of its own, and the last core of the package. -/
def dspLab : State := (lab.setCore 0 { d := List.replicate 32 5, p := List.replicate 16 0 }).setCore 287 {}
def nested : State := lab.setCore 2 { stack := [3], loops := [⟨0, 9, 2, false⟩] }

/-- The DSP rows: every operation issues and completes on a core of the laboratory. -/
theorem test_DspRowsComplete_hyps :
    (([0, 1, 2, 3, 4, 9, 10].all fun op => dspRuns 0 (.alu op 31 1 2 0 0 {}) dspLab && dspRuns 287 (.alu op 3 31 2 0 0 {}) dspLab) &&
    ([5, 6, 7].all fun op => dspRuns 0 (.alu op 31 1 0 63 0 {}) dspLab && dspRuns 0 (.alu op 1 1 0 0 0 {}) dspLab) &&
    ([8, 12, 13].all fun op => dspRuns 0 (.alu op 31 1 0 0 0 {}) dspLab) &&
    dspRuns 0 (.alu 0x0B 0 1 2 0 0 {}) dspLab && dspRuns 0 (.alu 0x10 0 7 0 0 1 {}) dspLab &&
    ([0x11, 0x12].all fun op => dspRuns 0 (.alu op 0 0 0 63 7 {}) dspLab) &&
    ([0x13, 0x14].all fun op => dspRuns 0 (.alu op 3 0 0 0 7 {}) dspLab) &&
    dspRuns 0 (.alu 0x15 0 1 0 0 7 {}) dspLab && dspRuns 0 (.alu 0x16 0 0 0 0 7 {}) dspLab &&
    ([1, 2, 3, 4].all fun op => dspRuns 0 (dualWith op true 7 15 15 {} {} {}) dspLab && dspRuns 0 (dualWith op false 0 1 2 {} {} {}) dspLab) &&
    dspRuns 0 (dualWith 5 true 7 0 0 {} {} {}) dspLab &&
    dspRuns 0 (.dual {} {} ⟨false, 31, 15, 0⟩ {}) dspLab && dspRuns 0 (.dual {} {} {} ⟨true, 0, 0, 3⟩) dspLab &&
    dspRuns 0 (.dual {} {} ⟨false, 31, 15, 0⟩ {}) (dspLab.dspCorrected 0 1 60 3) && dspRuns 0 (.dual {} {} {} ⟨false, 1, 0, 3⟩) dspLab &&
    ([(0, 31, 0, 4294967295), (1, 15, 0, 1), (2, 7, 0, 1), (3, 1, 0, 65535), (4, 1, 31, 1), (5, 1, 15, 1), (6, 0, 31, 0), (7, 31, 0, 0), (8, 0, 0, 0)].all fun x => dspRuns 0 (.imm x.1 x.2.1 x.2.2.1 x.2.2.2) dspLab) &&
    ([(0, 0, 0, 0), (1, 0, 0, 9), (2, 11, 0, 9), (3, 0, 0, 9), (5, 1, 3, 9), (6, 3, 0, 9), (7, 0, 4095, 0)].all fun x => dspRuns 0 (.ctrl x.1 x.2.1 x.2.2.1 x.2.2.2) dspLab) &&
    dspRuns 2 (.ctrl 4 0 0 0) nested && dspRuns 2 (.ctrl 8 0 0 0) nested &&
    decide (coreCluster 0 / 28 < dspLab.mem.sramLogs.length) && decide (coreCluster 287 / 28 < dspLab.mem.sramLogs.length)) = true := by decide +kernel

def inv0 : Invocation := { conf := 0, node := 0, grain := 1, kernel := 0, code := 8, xs := [], ys := [], cycMax := 9, output := 0, cycles := 9, watch := false }
/-- A state whose core 1 has instructions in PMEM as kernel 0. -/
def prog (l : List DspIns) (s : State) : State := s.setCore 1 { s.core 1 with pmem := [(0, l.map DspIns.word)] }
def haltLab : State := prog [.ctrl 9 0 0 0] (lab.setCore 1 { inv := some inv0 })

theorem test_DspHalt_hyps :
    (dspIssues 1 (.ctrl 9 0 0 0) haltLab && invOn 1 haltLab == some inv0 &&
    dspIssues 287 (.ctrl 9 0 0 0) dspLab && invOn 287 dspLab == none) = true := by decide +kernel

theorem test_KernelRowsComplete_hyps :
    (loadingKernel 3 ⟨3, 0, 136, 1⟩ { lab with aud := { lab.aud with dsp := { lab.aud.dsp with loading := [⟨3, 0, 136, 1⟩] } } } &&
    overrun t0 1 inv0 haltLab) = true := by decide +kernel

/-- Port 0 up, a packet in a miss queue, ring entries of a media packet and a DTLS record, and a gap of a flow. -/
def ring0 (id : Nat) (b : UdpBody) : RingEntry :=
  { id, size := 128, committed := true, flow := none, leg := 0, stamp := 0, len := 100, body := b, ext := 0 }
def pipe0 : Pipeline :=
  { miss := [⟨0, 0, 0, 100, .other, 0⟩], rings := [⟨262144, [ring0 1 (.dtls []), ring0 2 .other]⟩, ⟨1048576, []⟩, ⟨2097152, []⟩, ⟨786432, []⟩] }
def gapFlow : Flow :=
  { flow0 0 2 1 12 16 with ro := { gaps := [⟨70000, 0, some 0, 0, 0⟩] }, keyReq := { wanted := true, lastPli := some 0 }, packets := 1 }
def netLab : State :=
  { (addressed lab) with
    net := { (addressed lab).net with pipes := [pipe0, {}] }
    flows := tset lab.flows 2 gapFlow }

theorem test_IngressRowsComplete_hyps :
    (netLab.receives 0 &&
    !(netLab.missOf 0).isEmpty &&
    presents t0 0 0 (ring0 2 .other) netLab &&
    dtlsFirst t0 0 0 1 netLab &&
    nackDue t0 2 gapFlow netLab &&
    gapOver t0 2 gapFlow netLab &&
    pliOver t0 2 0 gapFlow netLab &&
    mediaSilent t0 2 gapFlow netLab) = true := by decide +kernel

/-- Legs whose limits have passed, and one with feedback to send. -/
def oldLeg : Leg := { leg0 .endpoint .connecting with localUdp := 5005, connectFrom := 0 }
def lostLeg : Leg := { leg0 .endpoint .active with ice := { consentS := 10, lastValid := 0 } }
def gone : Leg := { leg0 .endpoint .closing with localUdp := 5006 }
def twccLeg : Leg := { leg0 .endpoint .active with localUdp := 5007, rtcp := { flags := 2, twccSeen := [(1, 0)] } }
def pendFlow : Flow := { flow0 7 2 2 13 16 with fwd := { bound := true, source := 2, state := .pending, since := t0 - 500 * msU } }
def timerLab : State :=
  { lab with
    confs := [(0, { conf0 with connectLimit := 10 })]
    legs := [(0, lostLeg), (5, oldLeg), (6, gone), (7, twccLeg)]
    flows := tset lab.flows 3 pendFlow }

theorem test_LegTimerRowsComplete_hyps :
    (connectOver t0 5 oldLeg timerLab &&
    consentOver t0 0 lostLeg timerLab &&
    legEnds t0 6 gone timerLab &&
    switchOver t0 3 pendFlow timerLab &&
    estDue t0 7 twccLeg timerLab &&
    reportDue t0 0 lostLeg timerLab &&
    feedbackDue t0 7 twccLeg timerLab) = true := by decide +kernel

/-- A gate list whose start has come, a pause sent, an open parity block. -/
def list0 : GateList := ⟨0, t0, nsU * 1000, [(255, nsU * 1000)]⟩
def blockFlow : Flow := { flow0 0 3 2 15 0 with fgen := { blkFirst := some (t0 - 30 * msU), blkFlush := 30 } }
def ready0 : ReadyFrame := { port := 0, leg := some 0, flow := none, cls := 7, len := 64, media := false, body := .other }
def outLab : State :=
  let s := (addressed lab).modPort 0 fun p => { p with pending := some list0 }
  let s := s.modPhys 0 fun p => { p with genOn := true, pausing := true, macBuf := 1048577 }
  { s with flows := tset s.flows 5 blockFlow, net := { s.net with ready := [ready0] } }

theorem test_EgressRowsComplete_hyps :
    (outLab.net.ready == [ready0] &&
    outLab.leg 0 == some (leg0 .endpoint .active) &&
    decide ((outLab.advance t0).now % msU = 0) &&
    listStarts t0 0 list0 outLab &&
    (outLab.advance t0).pauseDue 0 &&
    blockOver t0 5 (t0 - 30 * msU) blockFlow outLab &&
    linkRises 4 outLab) = true := by decide +kernel

/-- An audio cluster idle for 200 ms, and a conference silent for 30 s. -/
def quietLab : State :=
  { lab with aud := { lab.aud with mixes := [(0, { cluster := some 10, quiet := 12000 })] } }
/-- An engine of the present epoch with a grain to mix, which lags by the D of the cascade leg. -/
def mixingLab : State :=
  let s := mixLab.modCluster 10 fun k => { k with epochs := List.replicate 16 1 }
  s.setMix 0 { s.mix 0 with now := some { n := 3995 } }

theorem test_GrainRowsComplete_hyps :
    (grainStarts t0 4000 lab &&
    (mixingLab.advance t0).mixDue 0 != none &&
    quietLab.parkDue 0 &&
    ((lab.modCluster 54 fun k => { k with idleSince := some (t0 - 200 * msU) }).advance t0).gateDue 54) = true := by decide +kernel

/-- A demodulator in a state, at leg 0. -/
def rx0 (st : RxState) : Demod := { leg := 0, assign := 1, det := 55, captureDb := 6, sync := 75, state := st, peakAt := t0 - 40 * msU, period := 3200 }
def rxLab (st : RxState) : State := { lab with aud := { lab.aud with bcn := { lab.aud.bcn with demods := [(0, rx0 st)] } } }

theorem test_BeaconRowsComplete_hyps :
    (peakSeen 0 550000 0 550000 (rx0 .armed) (rxLab .armed) &&
    syncSeen 0 (t0 - 1) 750000 (rx0 .search) (rxLab .search) &&
    searchOver t0 0 (rx0 .search) (rxLab .search) &&
    frameLocked 0 (rx0 .locked) (rxLab .locked) &&
    periodOver t0 0 0 (rx0 .armed) (leg0 .endpoint .active) (rxLab .armed)) = true := by decide +kernel

/-- What `exec` answers, where it is a next state. -/
def next? (i : Instr) (s : State) : Option State := match exec i s with | .next t => some t | _ => none
/-- A property of the state that `exec` answers. -/
def leads (i : Instr) (s : State) (p : State → Bool) : Bool := match next? i s with | some t => p t | none => false

theorem test_StepTakesTheFront_hyps :
    (({ lab with pending := [.modeQuery (cmd 0 0 []), .pfwNAssert t0] }).pending == .modeQuery (cmd 0 0 []) :: [.pfwNAssert t0] && lab.pending == []) = true := by decide +kernel

/-- A status of acceptance or of the start of execution. -/
def refusal (opc : Nat) (c : Cmd) (s : State) : Option Nat × Option Nat :=
  match opInfo opc with | some o => (acceptCheck o c s, startCheck o c s) | none => (none, none)

theorem test_RefusedCommandsHaveNoEffect_hyps :
    (commandOf (.legDelete (cmd 0 (obj 2 9) [])) == some (0x0111, cmd 0 (obj 2 9) []) && !(State.reset.advance t0).serving &&
    (lab.advance t0).serving && refusal 0x0111 (cmd 8 (obj 2 0) []) lab == (some stBadLength, none) &&
    refusal 0x0111 (cmd 0 (obj 2 9) []) lab == (none, some stNoObject)) = true := by decide +kernel

def tenantCmd : Cmd := { cmd 8 0 [] with fn := 1 }

theorem test_GatedCommandsHaveNoEffect_hyps :
    ((lab.advance t0).serving && (opInfo 0x0010).any (fun o => o.operator) && commandOf (.powerSet tenantCmd) == some (0x0010, tenantCmd) &&
    (opInfo 0x1520).any fun o => !o.accepts lab.sys.mode) = true := by decide +kernel

/-- Whatever command completes with DONE meets the hypothesis: `MODE_QUERY` does, by `ModeCommandsComplete`. -/
theorem test_RepliesTouchOnlyTheirQueue_hyps :
    (takes 0x0001 (cmd 0 0 []) lab) = true := by decide +kernel

theorem test_QueriesChangeNothing_hyps :
    (commandOf (.modeQuery (cmd 0 0 [])) == some (0x0001, cmd 0 0 []) && queryOps.contains 0x0001 && (next? (.modeQuery (cmd 0 0 [])) lab).isSome) = true := by decide +kernel

theorem test_StandbyNeedsNoConference_hyps :
    (takes 0x0000 (cmd 4 0 [(0, 1, 5)]) lab && !lab.confs.isEmpty && takes 0x0000 (cmd 4 0 [(0, 1, 5)]) (up .degraded) && (up .degraded).confs.isEmpty) = true := by decide +kernel

theorem test_ExtestNeedsReset_hyps :
    (lab.sys.resetN && !(pins fun y => { y with resetN := false }).sys.resetN) = true := by decide +kernel

theorem test_SecondClassTamperErases_hyps :
    (lab.trust.classes.getD 0 0 == 2 && lab.trust.response == none && leads (.tamperDetect t0 0 [] 1) lab fun u => u.sys.mode == .lockdown) = true := by decide +kernel

theorem test_WindowsAreSeparate_hyps :
    ((next? (.sqDoorbellWrite t0 0 0 1) hostLab).isSome && (next? (.eqHeadWrite t0 63 1) hostLab).isSome) = true := by decide +kernel

/-- A core whose registers 16 to 31 are renamed by 15. -/
def rotLab : State := lab.setCore 0 { rrb := 15 }

theorem test_RegistersRenameByBase_hyps :
    (dspRuns 0 (.imm 0 31 0 7) rotLab && dspRuns 0 (.imm 0 0 0 7) rotLab && (issuer 0 rotLab).d.length == 32 && (issuer 0 rotLab).late == [] &&
    leads (.dspLdiD 0 31 0 7 {}) rotLab fun t => (t.core 0).d.getD 30 0 == 7 && (t.core 0).d.getD 31 0 == 0 &&
    dspRuns 0 (.alu 0x03 31 16 15 0 0 {}) rotLab && dspRuns 0 (.alu 0x03 0 31 31 0 0 {}) rotLab) = true := by decide +kernel

theorem test_AluResultsAndFlags_hyps :
    (dspRuns 0 (.alu 0x00 31 0 0 0 0 {}) dspLab && dspRuns 0 (.alu 0x05 0 31 0 31 0 {}) dspLab &&
    leads (.dspAdd 0 31 0 0 0 0 {} {}) dspLab fun t => (t.core 0).d.getD 31 0 == 10 && !(t.core 0).z) = true := by decide +kernel

def accLab : State := lab.setCore 0 { acc := List.replicate 8 (BitVec.ofNat 72 (2 ^ 70)) }

theorem test_AccumulatorResults_hyps :
    (dspRuns 0 (.alu 0x10 0 7 0 0 7 {}) accLab && dspRuns 0 (.alu 0x11 0 0 0 63 0 {}) accLab && dspRuns 0 (.dual ⟨1, 7, 15, 15⟩ {} {} {}) accLab &&
    leads (.dspAdda 0 0 7 0 0 7 {} {}) accLab fun t => (t.core 0).aov == 128 && (t.core 0).acc.getD 7 0 == BitVec.ofNat 72 (2 ^ 71)) = true := by decide +kernel

/-- Core 1 in an invocation whose windows are its first 16 words. -/
def inv1 : Invocation := { inv0 with xs := [(0, 64)], ys := [(0, 64)], cycles := 0 }
def runLab : State := lab.setCore 1 { inv := some inv1, xmem := Mem.write [] 0 9 }
def loadLab : State := prog [.dual {} {} ⟨false, 31, 15, 0⟩ {}, .ctrl 0 0 0 0] runLab

theorem test_LoadsAreSeenFromTheSecond_hyps :
    (dspRuns 1 (.dual {} {} ⟨false, 31, 15, 0⟩ {}) loadLab && (issuer 1 loadLab).inv.isSome && (issuer 1 loadLab).late == [] &&
    leads (.dspMoveLoad 1 false 31 15 0 {} {} {} {} .good) loadLab fun t => dspRuns 1 (.ctrl 0 0 0 0) t && (t.core 1).d.getD 31 0 == 0 && leads (.dspNop 1 0 0 0 {}) t fun u => (u.core 1).d.getD 31 0 == 9) = true := by decide +kernel

theorem test_StoresWriteOneWord_hyps :
    ((issuer 1 runLab).xmem.wf && (issuer 1 runLab).ymem.wf && dspRuns 1 (.dual {} {} ⟨true, 31, 15, 0⟩ {}) (prog [.dual {} {} ⟨true, 31, 15, 0⟩ {}] runLab) && dspRuns 1 (.dual {} {} {} ⟨true, 0, 0, 4⟩) (prog [.dual {} {} {} ⟨true, 0, 0, 4⟩] runLab)) = true := by decide +kernel

def full (loops stack : Nat) : State :=
  lab.setCore 1 { inv := some inv1, loops := List.replicate loops ⟨0, 7, 2, false⟩, stack := List.replicate stack 1 }
/-- A branch and what stands in its delay slots. -/
def branchLab : State := prog [.ctrl 1 0 0 7, .imm 0 0 0 7, .imm 0 0 0 7] runLab

theorem test_ControlFollowsItsRules_hyps :
    (dspRuns 1 (.ctrl 1 0 0 7) branchLab && leads (.dspBr 1 0 0 7 {}) branchLab fun t => dspRuns 1 (.imm 0 0 0 7) t && leads (.dspLdiD 1 0 0 7 {}) t fun u => dspRuns 1 (.imm 0 0 0 7) u && leads (.dspLdiD 1 0 0 7 {}) u fun w => (w.core 1).pc == 7 &&
    dspRuns 1 (.ctrl 5 1 0 7) (prog [.ctrl 5 1 0 7] runLab) && (issuer 1 runLab).loops.isEmpty &&
    dspIssues 1 (.ctrl 5 0 1 7) (prog [.ctrl 5 0 1 7] (full 2 0)) && (issuer 1 (full 2 0)).loops.length == 2 &&
    dspIssues 1 (.ctrl 3 0 0 7) (prog [.ctrl 3 0 0 7] (full 0 8)) && (issuer 1 (full 0 8)).stack.length == 8 &&
    dspIssues 1 (.ctrl 4 0 0 0) (prog [.ctrl 4 0 0 0] runLab) && (issuer 1 runLab).stack == []) = true := by decide +kernel

theorem test_KernelFaultsSpareTheCore_hyps :
    ((runLab.core 1).inv == some inv1 && invOn 1 runLab == some inv1 && decide ((issuer 1 runLab).pc < inv1.code) &&
    dspOf (.dspNop 1 0 0 0 { rsv := 1 }) == some (1, .ctrl 0 0 0 0, 1) && dspOf (.dspNop 1 9 0 0 {}) == some (1, .ctrl 0 9 0 0, 0) && !(DspIns.ctrl 0 9 0 0).legal &&
    (({ issuer 1 runLab with pmem := [(0, [(DspIns.ctrl 0 0 0 0).word + 2 ^ 48])] } : DspCore).fetches (.ctrl 0 0 0 0) 1) &&
    (issuer 1 (prog [.ctrl 0 9 0 0] runLab)).fetches (.ctrl 0 9 0 0) 0 &&
    (({ issuer 1 (prog [.ctrl 0 0 0 0] runLab) with rep := some 1 } : DspCore).misplaced (.ctrl 0 0 0 0)) &&
    leads (.dspNop 1 9 0 0 {}) (prog [.ctrl 0 9 0 0] runLab) fun t => (t.core 1).inv == none) = true := by decide +kernel

theorem test_DspInstructionsStayOnTheirCore_hyps :
    (dspOf (.dspNop 1 0 0 0 {}) == some (1, .ctrl 0 0 0 0, 0) && dspRuns 1 (.ctrl 0 0 0 0) (prog [.ctrl 0 0 0 0] runLab)) = true := by decide +kernel

theorem test_DspWordsDecode_hyps :
    ((DspIns.dual ⟨4, 7, 15, 15⟩ ⟨5, 0, 0, 0⟩ ⟨true, 31, 7, 4⟩ {}).legal && (DspIns.alu 0x11 0 0 0 63 7 {}).legal) = true := by decide +kernel

theorem test_StepsKeepCoresShaped_hyps :
    (({ prog [.ctrl 0 0 0 0] runLab with pending := [.dspNop 1 0 0 0 {}] }).coresShaped && (match step { prog [.ctrl 0 0 0 0] runLab with pending := [.dspNop 1 0 0 0 {}] } with | .next t => t.coresShaped && (t.core 1).pc == 1 | _ => false)) = true := by decide +kernel

/-- Each check of `Instr.wf`, by a term that only it refuses, and `Cmd.wf` and the fields of DSP instructions by theirs. -/
theorem test_IllFormedTermsAreRefused :
    (([.modeSet { fn := 64 }, .dspAdd 288 0 0 0 0 0 {} {}, .dspAdd 0 32 0 0 0 0 {} {}, .dspAdd 0 0 32 0 0 0 {} {}, .dspAdd 0 0 0 32 0 0 {} {}, .dspAdd 0 0 0 0 64 0 {} {}] : List Instr).all (fun i => !i.wf) &&
    ([.dspAdd 0 0 0 0 0 8 {} {}, .dspAdd 0 0 0 0 0 0 { mod := 8 } {}, .dspAdd 0 0 0 0 0 0 {} { rsv := 2 ^ 64 }, .dspMac 288 false 0 0 0 {} {} {} {}, .dspMac 0 false 8 0 0 {} {} {} {}, .dspMac 0 false 0 16 0 {} {} {} {}] : List Instr).all (fun i => !i.wf) &&
    ([.dspMac 0 false 0 0 16 {} {} {} {}, .dspMac 0 false 0 0 0 { acc := 8 } {} {} {}, .dspMac 0 false 0 0 0 {} { mod := 8 } {} {}, .dspMac 0 false 0 0 0 {} {} { mod := 8 } {}, .dspMac 0 false 0 0 0 {} {} {} { rsv := 2 ^ 64 }, .dspMoveLoad 288 false 0 0 0 {} {} {} {} .good] : List Instr).all (fun i => !i.wf) &&
    ([.dspMoveLoad 0 false 32 0 0 {} {} {} {} .good, .dspMoveLoad 0 false 0 16 0 {} {} {} {} .good, .dspMoveLoad 0 false 0 0 8 {} {} {} {} .good, .dspMoveLoad 0 false 0 0 0 { acc := 8 } {} {} {} .good, .dspMoveLoad 0 false 0 0 0 {} { acc := 8 } {} {} .good, .dspMoveLoad 0 false 0 0 0 {} {} { mod := 8 } {} .good] : List Instr).all (fun i => !i.wf) &&
    ([.dspMoveLoad 0 false 0 0 0 {} {} {} { rsv := 2 ^ 64 } .good, .dspMoveStore 0 false 0 0 0 {} {} {} { rsv := 2 ^ 64 } .good, .dspLdiD 288 0 0 0 {}, .dspLdiD 0 32 0 0 {}, .dspLdiD 0 0 32 0 {}, .dspLdiD 0 0 0 (2 ^ 32) {}] : List Instr).all (fun i => !i.wf) &&
    ([.dspLdiD 0 0 0 0 { rsv := 2 ^ 64 }, .dspNop 288 0 0 0 {}, .dspNop 0 16 0 0 {}, .dspNop 0 0 65536 0 {}, .dspNop 0 0 0 (2 ^ 32) {}, .dspNop 0 0 0 0 { rsv := 2 ^ 64 }] : List Instr).all (fun i => !i.wf) &&
    ([.kernelWatchdog 0 288, .sqDoorbellWrite 0 64 0 0, .sqDoorbellWrite 0 0 8 0, .sqDoorbellWrite 0 0 0 (2 ^ 32), .eqHeadWrite 0 64 0, .eqHeadWrite 0 0 (2 ^ 32)] : List Instr).all (fun i => !i.wf) &&
    ([.qStatusReadClear 0 64 0, .qStatusReadClear 0 0 17, .registerWrite 0 64 0 0 0 0, .registerWrite 0 0 8 0 0 0, .registerWrite 0 0 0 (2 ^ 16) 0 0, .registerWrite 0 0 0 0 0 (2 ^ 64)] : List Instr).all (fun i => !i.wf) &&
    ([.msixVectorUnmask 0 64 0, .msixVectorUnmask 0 0 16, .commandFetch 0 64 0 {}, .commandFetch 0 0 8 {}, .commandFetch 0 0 0 { bytes := [0] }, .completionWrite 0 64 0] : List Instr).all (fun i => !i.wf) &&
    ([.completionWrite 0 0 8, .eventWrite 0 64 false, .castleHandover 0 8 none, .autoCastleStart 0 56, .loopbackDone 0 2 0 0, .unitReload 0 56 0] : List Instr).all (fun i => !i.wf) &&
    ([.unitReload 0 0 16, .tamperDetect 0 8 [] 0, .jtagInstructionSelect 0 16, .thermalSample 0 3 0 [], .powerEstimate 0 65536, .linkReplay 0 3 false] : List Instr).all (fun i => !i.wf) &&
    ([.vfConfigChange 0 false 65536, .mbPointerWrite 0 256, .mbBusStuck 0 2, .frameReceive 0 8 {} 0, .flowCacheFill 0 1048576, .clearContextLoad 0 (2 ^ 32) false] : List Instr).all (fun i => !i.wf) &&
    ([.cipherVerdict 0 0 false false 3, .ringRead 0 2 [], .periodBoundary 0 1048576, .completionPulse 0 1048576 0 0, .completionPulse 0 0 65536 0, .completionPulse 0 0 0 8] : List Instr).all (fun i => !i.wf) &&
    ([.mixGrainComplete 0 8192 false [], .headerParse 0 4096 {}, .canvasPassReady 0 2048, .refreshAllocate 0 61, .refreshVariantDone 0 16384 0 {}, .beaconPeak 0 768 0 0 0 0 0 false] : List Instr).all (fun i => !i.wf) &&
    ([.dramCommandIssue 0 4 0 [] .good, .dramCommandIssue 0 0 32 [] .good, .dramTempSample 0 4 0, .scrubWriteback 0 7 0, .dmaBurst 0 57 0 {}, .dmaBurst 0 0 128 {}] : List Instr).all (fun i => !i.wf) &&
    ([.queueWrite 0 71 0 0 0, .queueWrite 0 0 71 0 0, .queueWrite 0 0 0 256 0, .certReissue 0 64, .railAlarm 0 11 0, .railAlarm 0 0 65536] : List Instr).all (fun i => !i.wf) &&
    ([{ fn := 64 }, { sq := 8 }, { tag := 65536 }, { pri := 256 }, { flg := 256 }, { obj := 2 ^ 32 }, { aux := 2 ^ 32 }, { resultAddr := 2 ^ 64 }, { paramAddr := 2 ^ 64 }, { len := 65536 }, { len := 1 }, { params := [0] }] : List Cmd).all (fun c => !c.wf) &&
    !({ bytes := zeros 64, params := zeros 65536 } : SqEntry).wf && !({ d := 32 } : DspMove).wf && !({ p := 16 } : DspMove).wf && !({ op := 16 } : DspSlot).wf && !({ a := 16 } : DspSlot).wf && !({ b := 16 } : DspSlot).wf) = true := by decide +kernel

/-- The same commands with every bounded field at the end of its range. -/
theorem test_WellFormedTermsAreAccepted :
    (([.modeSet {}, .dspAdd (288 - 1) (32 - 1) (32 - 1) (32 - 1) (64 - 1) (8 - 1) {} { rsv := 2 ^ 64 - 1 }, .dspMac (288 - 1) false (8 - 1) (16 - 1) (16 - 1) {} {} {} { rsv := 2 ^ 64 - 1 }, .dspMoveLoad (288 - 1) false (32 - 1) (16 - 1) (8 - 1) {} {} {} { rsv := 2 ^ 64 - 1 } .good, .dspLdiD (288 - 1) (32 - 1) (32 - 1) (2 ^ 32 - 1) { rsv := 2 ^ 64 - 1 }, .dspNop (288 - 1) (16 - 1) (65536 - 1) (2 ^ 32 - 1) { rsv := 2 ^ 64 - 1 }] : List Instr).all (fun i => i.wf) &&
    ([.kernelWatchdog 0 (288 - 1), .sqDoorbellWrite 0 (64 - 1) (8 - 1) (2 ^ 32 - 1), .eqHeadWrite 0 (64 - 1) (2 ^ 32 - 1), .qStatusReadClear 0 (64 - 1) (17 - 1), .registerWrite 0 (64 - 1) (8 - 1) (2 ^ 16 - 1) 0 (2 ^ 64 - 1), .msixVectorUnmask 0 (64 - 1) (16 - 1)] : List Instr).all (fun i => i.wf) &&
    ([.commandFetch 0 (64 - 1) (8 - 1) {}, .completionWrite 0 (64 - 1) (8 - 1), .eventWrite 0 (64 - 1) false, .castleHandover 0 (8 - 1) none, .autoCastleStart 0 (56 - 1), .loopbackDone 0 (2 - 1) 0 0] : List Instr).all (fun i => i.wf) &&
    ([.unitReload 0 (56 - 1) (16 - 1), .tamperDetect 0 (8 - 1) [] 0, .jtagInstructionSelect 0 (16 - 1), .thermalSample 0 (3 - 1) 0 [], .powerEstimate 0 (65536 - 1), .linkReplay 0 (3 - 1) false] : List Instr).all (fun i => i.wf) &&
    ([.vfConfigChange 0 false (65536 - 1), .mbPointerWrite 0 (256 - 1), .mbBusStuck 0 (2 - 1), .frameReceive 0 (8 - 1) {} 0, .flowCacheFill 0 (1048576 - 1), .clearContextLoad 0 (2 ^ 32 - 1) false] : List Instr).all (fun i => i.wf) &&
    ([.cipherVerdict 0 0 false false (3 - 1), .ringRead 0 (2 - 1) [], .periodBoundary 0 (1048576 - 1), .completionPulse 0 (1048576 - 1) (65536 - 1) (8 - 1), .mixGrainComplete 0 (8192 - 1) true [], .headerParse 0 (4096 - 1) {}] : List Instr).all (fun i => i.wf) &&
    ([.canvasPassReady 0 (2048 - 1), .refreshAllocate 0 (61 - 1), .refreshVariantDone 0 (16384 - 1) 0 {}, .beaconPeak 0 (768 - 1) 0 0 0 0 0 false, .dramCommandIssue 0 (4 - 1) (32 - 1) [] .good, .dramTempSample 0 (4 - 1) 0] : List Instr).all (fun i => i.wf) &&
    ([.scrubWriteback 0 (7 - 1) 0, .dmaBurst 0 (57 - 1) (128 - 1) {}, .queueWrite 0 (71 - 1) (71 - 1) (256 - 1) 0, .certReissue 0 (64 - 1), .railAlarm 0 (11 - 1) (65536 - 1)] : List Instr).all (fun i => i.wf) &&
    ({} : Cmd).wf && ({ len := 4081 } : Cmd).wf && ({ len := 8, fetchErr := true } : Cmd).wf && (cmd 8 0 []).wf) = true := by decide +kernel

/-- CRC-32C of the nine digits, the check value by which the polynomial is known (R450). -/
theorem test_Crc32c :
    (crc32c [0x31, 0x32, 0x33, 0x34, 0x35, 0x36, 0x37, 0x38, 0x39] == 0xE3069283) = true := by decide +kernel

/-- The example after R40: cluster 19 is the first of global region 3, the second audio region of media die 0. -/
theorem test_Regions :
    (regionOf 19 == 3 && isAudioCluster 19 && (regionClusters 3).head? == some 19 && 19 * 16 + 5 == 0x135) = true := by decide +kernel

/-- The example of file 11: an AV1 context of 1280 by 720 with eight reference slots and FREEZE has a pool of 264 bushels. -/
theorem test_DecoderPool :
    (({ dec0 with maxW := 1280, maxH := 720, refSlots := 8, freeze := true } : DecCtx).poolBushels == 264 &&
    ({ dec0 with maxW := 1280, maxH := 720 } : DecCtx).rate == 27648000) = true := by decide +kernel

/-- The example of file 12: a straight overlay pixel and the same stored premultiplied. -/
theorem test_Blending :
    (blendStraight 60 200 (alphaExt 128) 192 == 147 && blendStraight (-38) 12 (alphaExt 128) 192 == -7 &&
    blendPremul 30 200 (alphaExt 128) 192 == 146 && blendPremul (-19) 12 (alphaExt 128) 192 == -7) = true := by decide +kernel

def rc1 : RateCtl :=
  { codec := 17, w := 640, h := 384, fps := 30, kbps := 600, qMin := 10, qMax := 51, wInter := [2000, 3000, 4000, 5000, 3000, 3000] }
def coded (n : Nat) : RateCtl := ([2700, 4900, 6800, 6000, 3100, 2200].take n).foldl (fun (c : RateCtl) b => c.row b 38) (rc1.start 1 false none 0 0)

/-- The example of file 13: six rows, the fourth exhausting the budget, the sixth replaced by a skip row of 38 bits. -/
theorem test_RowRateControl :
    ((List.range 4).map (fun n => (coded n).frame.map fun f => f.q) == [some 32, some 33, some 35, some 37] &&
    (coded 4).frame.map (fun f => f.exhausted) == some (some 4) && (coded 5).frame.map (fun f => f.q) == some 51 &&
    (coded 6).frame.map (fun f => (f.sum, f.replaced, f.cap)) == some (23538, some 5, 25000)) = true := by decide +kernel

def tileEx (codec : Nat) : Tile :=
  tileOf (cmd 16 (obj 1 0) [(4, 1, 1), (5, 1, codec), (6, 1, 30), (8, 4, 600)]) 0 0

/-- The example of file 14: an HEVC tile of CLASS 1 holds 30 bushels, the same in AV1 38. -/
theorem test_TileMemory :
    ((tileEx 17).need == 30 && (tileEx 16).need == 38) = true := by decide +kernel

/-- The example of file 17: of six lines from 0x2_0000_1F00 the first four lie in stack 3, the last two in stack 0. -/
theorem test_Interleaving :
    ((List.range 6).map (fun i => dramStack (0x200001F00 + 64 * i)) == [3, 3, 3, 3, 0, 0]) = true := by decide +kernel

/-- The example of file 19: indices estimated over a rollover. -/
theorem test_SrtpIndex :
    (({ sL := 65530, roc := 7, started := true } : Crypto).estimate 65534 == 524286 &&
    ({ sL := 65534, roc := 7, started := true } : Crypto).estimate 2 == 524290 &&
    ({ sL := 2, roc := 8, started := true } : Crypto).estimate 65533 == 524285) = true := by decide +kernel

/-- The example of file 04: 140 bytes of plaintext and a descriptor take 256 bytes of a ring. -/
theorem test_RingEntrySize :
    (ringSize 140 == 256) = true := by decide +kernel

/-- The example of file 15: READY at 10.003004 s, promoted at 10.023010 s and 20 ms after that. -/
theorem test_PromotionInstants :
    (lab.promoDue (10003004000 * nsU) == 10023010000 * nsU && lab.promoDue (10023010000 * nsU) == 10043010000 * nsU) = true := by decide +kernel

/-- A conference is made ACTIVE, and one with legs is not deleted without FORCE (R88, R90). -/
theorem test_ConfCreateAndDelete :
    (leads (.confCreate (cmd 12 0 [(0, 2, 4)])) (up .service) fun t => t.confs.length == 1 &&
    leads (.confDelete (cmd 4 (obj 1 0) [])) lab fun t => t.confs == lab.confs) = true := by decide +kernel

/-- The absolute value of the most negative number saturates and sets V (Table 08-16). -/
theorem test_AbsOfLeast :
    (leads (.dspAbs 0 1 0 0 0 0 {} {}) (lab.setCore 0 { d := setAt (List.replicate 32 0) 0 (BitVec.ofNat 32 0x80000000) }) fun t => (t.core 0).d.getD 1 0 == BitVec.ofNat 32 0x7FFFFFFF && (t.core 0).v) = true := by decide +kernel

/-- The one fault: a DSP row that names a core of none of the clusters. -/
theorem test_CoreBeyondThePackage :
    ((match exec (.dspNop 288 0 0 0 {}) lab with | .fault .noSuchCore => true | _ => false)) = true := by decide +kernel

/-- A doorbell index beyond the ring is an error and moves nothing (R104). -/
theorem test_QueueReset :
    (leads (.sqDoorbellWrite t0 0 0 16) hostLab fun t => ((t.func 0).sqs.getD 0 {}).dbErr == 1 && ((t.func 0).sqs.getD 0 {}).tail == 1) = true := by decide +kernel

end Sys2Proof.Tests
end

section
/-! PROOFS. The acceptance of a Belex command, whatever its row (R110): what has passed it, what has failed it, and that a
refused command never reaches its body. -/

namespace Sys2Proof.Machine

/-- Every arm of `exec` that carries a command is `runBelex` with that command's opcode and some body. -/
theorem exec_eq_runBelex {i : Instr} {opc : Nat} {c : Cmd} (h : commandOf i = some (opc, c)) :
    ∃ body, ∀ s, exec i s = runBelex opc body c s := by
  cases i <;> cases h <;> exact ⟨_, fun _ => rfl⟩

/-- A command refused at acceptance completes with the failed check's status, and its body does not run (R110). -/
theorem runBelex_refused {opc : Nat} {c : Cmd} {s : State} {o : OpInfo} {sts : Nat} (body : Body)
    (hserving : (s.advance c.at_).serving = true) (ho : opInfo opc = some o)
    (hsts : acceptCheck o c (s.advance c.at_) = some sts) :
    runBelex opc body c s = .next ((s.advance c.at_).complete (replyTo (s.advance c.at_) opc c 0) sts []) := by
  simp [runBelex, hserving, ho, hsts]

/-- Whichever check of acceptance fails, its status is a failure (R136). -/
theorem acceptCheck_failure {o : OpInfo} {c : Cmd} {s : State} {sts : Nat} (h : acceptCheck o c s = some sts) :
    0x100 ≤ sts := by
  unfold acceptCheck at h
  split_ifs at h <;> cases h <;> decide

/-- An accepted command is function 0's where it is an operator command, and the mode accepts it: the order of the checks
of R110 only decides the status. -/
theorem gates_of_acceptCheck_none {o : OpInfo} {c : Cmd} {s : State} (h : acceptCheck o c s = none) :
    (o.operator = true → c.fn = 0) ∧ o.accepts s.sys.mode = true := by
  unfold acceptCheck at h
  split_ifs at h
  simp_all

/-- Settles O43: a command that a gate stops is not accepted, and what is not accepted only replies with a failure. -/
theorem gatedCommandsHaveNoEffect : Obligations.GatedCommandsHaveNoEffect := by
  intro i opc c s o hi s' hserving ho hgate
  obtain ⟨body, hexec⟩ := exec_eq_runBelex hi
  cases hcheck : acceptCheck o c s' with
  | none =>
    obtain ⟨hoperator, hmode⟩ := gates_of_acceptCheck_none hcheck
    obtain ⟨hop, hfn⟩ | hmode' := hgate
    · exact absurd (hoperator hop) hfn
    · exact absurd hmode' (ne_false_of_eq_true hmode)
  | some sts => exact ⟨sts, acceptCheck_failure hcheck, (hexec s).trans (runBelex_refused body hserving ho hcheck)⟩

end Sys2Proof.Machine
end

section
/-! PROOFS. The machine after reset: where its spare clusters stand (R29), and that nothing is created, begun or waiting. -/

namespace Sys2Proof.Machine

/-- Each region's clusters are those that `regionOf` counts to it (Table 01-4). -/
theorem regionOf_of_mem_regionClusters : ∀ r < 8, ∀ c ∈ regionClusters r, regionOf c = r := by decide

/-- A number beyond the package's 56 clusters names a retired cluster after reset. -/
theorem reset_cluster_of_ge {c : Nat} (hc : 56 ≤ c) : State.reset.cluster c = { state := .retired } :=
  have hlength : State.reset.units.clusters.length = 56 := rfl
  List.getD_eq_default _ _ (hlength.trans_le hc)

/-- The spare clusters after reset are the last ones of their regions, and no others (R29). -/
theorem reset_cluster_spare_iff (c : Nat) :
    (State.reset.cluster c).state = .spare ↔ (regionClusters (regionOf c)).getLast? = some c := by
  obtain hc | hc := lt_or_ge c 56
  · have inPackage : ∀ c < 56,
        (State.reset.cluster c).state = .spare ↔ (regionClusters (regionOf c)).getLast? = some c := by decide
    exact inPackage c hc
  · have hregion : regionOf c = 7 := by unfold regionOf; split_ifs <;> omega
    have hlast : 55 ≠ c := by omega
    simp [reset_cluster_of_ge hc, hregion, regionClusters, hlast]

/-- In a list without repetition only the last place holds the last element. -/
theorem map_decide_getLast?_eq {α : Type} [DecidableEq α] {l : List α} (hne : l ≠ []) (hnodup : l.Nodup) :
    l.map (fun a => decide (l.getLast? = some a)) = List.replicate (l.length - 1) false ++ [true] := by
  obtain ⟨front, last, rfl⟩ := l.eq_nil_or_concat'.resolve_left hne
  obtain ⟨-, -, hdistinct⟩ := List.nodup_append.mp hnodup
  have hfront : ∀ a ∈ front, last ≠ a := fun a ha => (hdistinct a ha last (List.mem_singleton_self last)).symm
  simpa [List.map_eq_replicate_iff] using hfront

/-- Settles O41: the fields of the reset state are as they are written, and in each region only the last cluster is a
spare. -/
theorem resetIsIdle : Obligations.ResetIsIdle := by
  refine ⟨rfl, rfl, rfl, rfl, rfl, rfl, rfl, rfl, rfl, rfl, rfl, rfl, rfl, fun r hr => ?_⟩
  have hshape : ∀ r < 8, regionClusters r ≠ [] ∧ (regionClusters r).Nodup := by decide
  obtain ⟨hne, hnodup⟩ := hshape r hr
  rw [← map_decide_getLast?_eq hne hnodup]
  refine List.map_congr_left fun c hc => ?_
  rw [decide_eq_decide, reset_cluster_spare_iff, regionOf_of_mem_regionClusters r hr c hc]

end Sys2Proof.Machine
end

section
/-! PROOFS. The windows of the functions are separate: a write to one function's window reaches another function's queues
only through the events it raises, and an event leaves every submission and completion queue as it is (R746, R748, R750). -/

namespace Sys2Proof.Machine

/-- What the host sets up of a function's queues: the submission and completion queues, and ENABLE of the event queue. -/
def Func.queues (f : Func) : List Sq × List Cq × Bool := (f.sqs, f.cqs, f.eq.enable)

/-- A change of one element that keeps a part of it keeps that part of every element. -/
theorem getD_modAt_part {α β : Type} (part : α → β) {f : α → α} (hf : ∀ a, part (f a) = part a) (l : List α) (i j : Nat)
    (d : α) : part ((modAt l i f).getD j d) = part (l.getD j d) := by
  induction l generalizing i j with
  | nil => rfl
  | cons a r ih => cases i <;> cases j <;> simp only [modAt, List.getD_cons_zero, List.getD_cons_succ, hf, ih]

/-- A change of a function that keeps its queues keeps the queues of every function. -/
theorem queues_modFunc (s : State) (fn i : Nat) (f : Func → Func) (hf : ∀ x, (f x).queues = x.queues) :
    ((s.modFunc fn f).func i).queues = (s.func i).queues :=
  getD_modAt_part Func.queues hf s.host.funcs fn i {}

/-! What an event keeps. -/

@[simp] theorem queues_pushEvent (s : State) (fn i : Nat) (e : Event) :
    ((s.pushEvent fn e).1.func i).queues = (s.func i).queues := by
  unfold State.pushEvent
  dsimp only
  split_ifs
  · rfl
  · exact queues_modFunc s fn i _ fun _ => rfl
  · exact queues_modFunc s fn i _ fun _ => rfl

@[simp] theorem func_countIn (s : State) (src obj n i : Nat) : (s.countIn src obj n).2.func i = s.func i := rfl

@[simp] theorem func_firstIn (s : State) (src obj i : Nat) : (s.firstIn src obj).2.func i = s.func i := by
  unfold State.firstIn
  dsimp only
  split_ifs <;> rfl

@[simp] theorem func_recordPut (s : State) (e : RecEntry) (i : Nat) : (s.recordPut e).func i = s.func i := by
  unfold State.recordPut
  dsimp only
  split_ifs <;> rfl

@[simp] theorem queues_dropped (s : State) (fn n i : Nat) : ((s.dropped fn n).func i).queues = (s.func i).queues := by
  unfold State.dropped
  dsimp only
  split_ifs <;> simp

@[simp] theorem queues_recordOptional (s : State) (src h tn i : Nat) (d : List Byte) :
    ((s.recordOptional src h tn d).func i).queues = (s.func i).queues := by
  have hrecord (r : RecordState) : ({ s with rcd := r } : State).func i = s.func i := rfl
  unfold State.recordOptional
  dsimp only
  generalize (if s.rcd.rateWin.1 = windowOf s.now then s.rcd.rateWin.2 else 0) = spent
  split_ifs <;> simp [hrecord]

@[simp] theorem queues_deliver (s : State) (src h i : Nat) (d : List Byte) :
    ((s.deliver src h d).func i).queues = (s.func i).queues := by
  unfold State.deliver
  generalize s.evtTenants h = tenants
  induction tenants generalizing s with
  | nil => rfl
  | cons fn tenants ih =>
    rw [List.foldl_cons, ih]
    dsimp only
    split_ifs <;> simp

@[simp] theorem queues_raise (s : State) (src h i : Nat) (d : List Byte) :
    ((s.raise src h d).func i).queues = (s.func i).queues := by
  simp [State.raise]

@[simp] theorem queues_raiseWK (s : State) (src k h i : Nat) (d : List Byte) :
    ((s.raiseWK src k h d).func i).queues = (s.func i).queues := by
  unfold State.raiseWK
  dsimp only
  split_ifs <;> simp

/-! What a write to a window does. -/

/-- The error of a doorbell or head write is counted at its own function, and its event changes no queue (R104). -/
@[simp] theorem queues_doorbellError (s : State) (fn q i : Nat) :
    ((s.doorbellError fn q).func i).queues = (s.func i).queues :=
  (queues_raiseWK _ _ _ _ _ _).trans (queues_modFunc s fn i _ fun _ => rfl)

/-- The effects an access to `fn`'s window may have: none, or that of the register it names (files 03 and 24). -/
inductive WindowEffect (fn : Nat) (s : State) : State → Prop
  | ignored : WindowEffect fn s s
  | sqDoorbell (n v : Nat) : WindowEffect fn s (s.writeSqDb fn n v)
  | cqHead (n v : Nat) : WindowEffect fn s (s.writeCqHd fn n v)
  | eqHead (v : Nat) : WindowEffect fn s (s.writeEqHd fn v)
  | summary (v : Nat) : WindowEffect fn s (s.clearSummary fn v)
  | capture (v : Nat) : WindowEffect fn s (s.captureTime fn v)
  | queueControl (q v : Nat) : WindowEffect fn s (s.writeQCtl fn q v)
  | statusRead (q : Nat) : WindowEffect fn s
      ((s.emit (.regRead (s.barRead fn 0 (0x040C + 32 * q) 4))).modFunc fn (Func.clearDbErr q))

theorem WindowEffect.ite {fn : Nat} {s t u : State} {p : Prop} [Decidable p] (ht : WindowEffect fn s t)
    (hu : WindowEffect fn s u) : WindowEffect fn s (if p then t else u) := by
  split_ifs
  · exact ht
  · exact hu

/-- An access to the window of one function keeps the queues of every other. -/
theorem WindowEffect.queues_of_ne {fn i : Nat} {s u : State} (h : WindowEffect fn s u) (hne : i ≠ fn) :
    (u.func i).queues = (s.func i).queues := by
  have hother (t : State) (f : Func → Func) : (t.modFunc fn f).func i = t.func i := func_modFunc_ne t fn i f hne
  cases h with
  | ignored => rfl
  | sqDoorbell n v =>
    unfold State.writeSqDb
    dsimp only
    split_ifs <;> simp only [queues_doorbellError, hother]
  | cqHead n v =>
    unfold State.writeCqHd State.uncover
    dsimp only
    split_ifs <;> simp only [queues_doorbellError, hother]
  | eqHead v =>
    unfold State.writeEqHd State.uncover
    dsimp only
    split_ifs <;> simp only [queues_doorbellError, hother]
  | summary v => exact congrArg Func.queues (hother s _)
  | capture v =>
    unfold State.captureTime
    split_ifs <;> simp only [hother]
  | queueControl q v =>
    unfold State.writeQCtl
    dsimp only
    split_ifs <;> simp only [hother]
  | statusRead q => exact congrArg Func.queues (hother (s.emit _) _)

/-- The rows that write to a function's window have the effect of the register they name, or none where the window does
not take the write (R744). -/
theorem windowEffect_of_exec {t fn n v : Nat} {s u : State}
    (h : exec (.sqDoorbellWrite t fn n v) s = .next u ∨ exec (.cqHeadWrite t fn n v) s = .next u ∨
      exec (.eqHeadWrite t fn v) s = .next u ∨ exec (.sqEnable t fn n v) s = .next u ∨ exec (.sqDisable t fn n v) s = .next u ∨
      exec (.cqEnable t fn n v) s = .next u ∨ exec (.cqDisable t fn n v) s = .next u ∨ exec (.eqEnable t fn v) s = .next u ∨
      exec (.eqDisable t fn v) s = .next u ∨ exec (.qStatusReadClear t fn n) s = .next u ∨
      exec (.evtSummaryClear t fn v) s = .next u ∨ exec (.timeCapture t fn v) s = .next u) :
    WindowEffect fn (s.advance t) u := by
  obtain h | h | h | h | h | h | h | h | h | h | h | h := h
  · cases h; exact .ite .ignored (.sqDoorbell n v)
  · cases h; exact .ite .ignored (.cqHead n v)
  · cases h; exact .ite .ignored (.eqHead v)
  · cases h; exact .ite (.queueControl _ _) .ignored
  · cases h; exact .ite (.queueControl _ _) .ignored
  · cases h; exact .ite (.queueControl _ _) .ignored
  · cases h; exact .ite (.queueControl _ _) .ignored
  · cases h; exact .ite (.queueControl _ _) .ignored
  · cases h; exact .ite (.queueControl _ _) .ignored
  · change execQStatusReadClear t fn n s = .next u at h
    unfold execQStatusReadClear at h
    dsimp only at h
    split_ifs at h
    · cases h; exact .ignored
    · cases h; exact .statusRead n
  · cases h; exact .ite .ignored (.summary v)
  · cases h; exact .ite .ignored (.capture v)

/-- Settles O49: a window's write changes its own function, and the event of a doorbell error, which may go to another,
changes only what the event queue holds. -/
theorem windowsAreSeparate : Obligations.WindowsAreSeparate := by
  intro t fn n v s u f' hne hwrite
  have hqueues : (u.func f').queues = (s.func f').queues := (windowEffect_of_exec hwrite).queues_of_ne hne
  simpa [Func.queues] using hqueues

end Sys2Proof.Machine
end

section
/-! PROOFS. A Belex command that the checks stop: while the queues are not served, and at the start of its execution
(R98, R111, R136). -/

namespace Sys2Proof.Machine

/-- While the queues are not served a command only brings its instant (R98). -/
theorem runBelex_unserved {opc : Nat} {c : Cmd} {s : State} (body : Body)
    (hserving : (s.advance c.at_).serving = false) : runBelex opc body c s = .next (s.advance c.at_) := by
  simp [runBelex, hserving]

/-- A command stopped at the start of its execution completes with the failed check's status, and its body does not run
(R111). -/
theorem runBelex_stopped {opc : Nat} {c : Cmd} {s : State} {o : OpInfo} {sts : Nat} (body : Body)
    (hserving : (s.advance c.at_).serving = true) (ho : opInfo opc = some o)
    (haccept : acceptCheck o c (s.advance c.at_) = none) (hsts : startCheck o c (s.advance c.at_) = some sts) :
    runBelex opc body c s = .next ((s.advance c.at_).complete (replyTo (s.advance c.at_) opc c 0) sts []) := by
  simp [runBelex, executeCmd, hserving, ho, haccept, hsts]

/-- The handle checks of R13 either pass or answer with a failure. -/
theorem checkHandle_eq_zero_or_failure (s : State) (fn : Nat) (anyTenant : Bool) (types : List Nat) (h : Nat) :
    checkHandle s fn anyTenant types h = 0 ∨ 0x100 ≤ checkHandle s fn anyTenant types h := by
  have hparam : 0x100 ≤ stBadParam := by decide
  have hobject : 0x100 ≤ stNoObject := by decide
  unfold checkHandle
  dsimp only
  split_ifs
  · exact .inr hparam
  · split
    · exact .inr hobject
    · exact .inl rfl
    · split_ifs
      · exact .inl rfl
      · exact .inr hobject

/-- Whichever check at the start of execution fails, its status is a failure (R136). -/
theorem startCheck_failure {o : OpInfo} {c : Cmd} {s : State} {sts : Nat} (h : startCheck o c s = some sts) :
    0x100 ≤ sts := by
  have hhandle := checkHandle_eq_zero_or_failure s c.fn (anyTenantOp o) o.objs c.obj
  unfold startCheck at h
  dsimp only at h
  split_ifs at h with hmode hkernel hne hclosing <;> cases h
  · decide
  · decide
  · exact hhandle.resolve_left hne
  · decide

/-- Settles O42: whichever of the two lots of checks stops a command, its body does not run and its reply carries the
check's failure; where the queues are not served no check is made at all. -/
theorem refusedCommandsHaveNoEffect : Obligations.RefusedCommandsHaveNoEffect := by
  intro i opc c s hi s'
  obtain ⟨body, hexec⟩ := exec_eq_runBelex hi
  refine ⟨fun hserving => (hexec s).trans (runBelex_unserved body hserving), fun o sts hserving ho hcheck => ?_⟩
  obtain haccept | ⟨haccept, hstart⟩ := hcheck
  · exact ⟨acceptCheck_failure haccept, (hexec s).trans (runBelex_refused body hserving ho haccept)⟩
  · exact ⟨startCheck_failure hstart, (hexec s).trans (runBelex_stopped body hserving ho haccept hstart)⟩

end Sys2Proof.Machine
end

section
/-! PROOFS. What the DSP's accounting leaves: events, counters and the end of an invocation change one core's use and
invocation at most (R335, R338, R340). -/

namespace Sys2Proof.Machine

/-- `t` has the cores, the waiting commands and the units of `s`. -/
structure SparesCores (s t : State) : Prop where
  pending : t.pending = s.pending
  units : t.units = s.units
  cores : t.aud.dsp.cores = s.aud.dsp.cores

theorem SparesCores.refl (s : State) : SparesCores s s := ⟨rfl, rfl, rfl⟩

theorem SparesCores.trans {s t u : State} (h : SparesCores s t) (h' : SparesCores t u) : SparesCores s u :=
  ⟨h'.pending.trans h.pending, h'.units.trans h.units, h'.cores.trans h.cores⟩

theorem SparesCores.ite {s t u : State} {p : Prop} [Decidable p] (ht : SparesCores s t) (hu : SparesCores s u) :
    SparesCores s (if p then t else u) := by
  split_ifs
  · exact ht
  · exact hu

theorem SparesCores.core_eq {s t : State} (h : SparesCores s t) (core : Nat) : t.core core = s.core core := by
  unfold State.core
  rw [h.cores]

theorem EventsOnly.sparesCores {s t : State} (h : EventsOnly s t) : SparesCores s t := by
  obtain ⟨e, fs, r, rfl⟩ := h
  exact ⟨rfl, rfl, rfl⟩

/-- The same change of one core on both sides. -/
theorem SparesCores.setCore {s t : State} (h : SparesCores s t) (core : Nat) (k : DspCore) :
    SparesCores (s.setCore core k) (t.setCore core k) :=
  ⟨h.pending, h.units, congrArg (tset · core k) h.cores⟩

theorem sparesCores_free (s : State) : SparesCores s s.free.2 := ⟨rfl, rfl, rfl⟩

theorem sparesCores_modKernel (s : State) (i : Nat) (f : Kernel → Kernel) : SparesCores s (s.modKernel i f) :=
  ⟨rfl, rfl, rfl⟩

theorem sparesCores_modInst (s : State) (key : Nat) (f : KInst → KInst) : SparesCores s (s.modInst key f) :=
  ⟨rfl, rfl, rfl⟩

theorem sparesCores_modDspStats (s : State) (cluster : Nat) (f : DspStats → DspStats) :
    SparesCores s (s.modDspStats cluster f) :=
  ⟨rfl, rfl, rfl⟩

/-- A core that was set reads as it was set. -/
@[simp] theorem State.core_setCore_self (s : State) (core : Nat) (k : DspCore) : (s.setCore core k).core core = k := by
  simp [State.core, State.setCore]

/-- Ending an invocation takes it from its core. -/
theorem endInvocation_spares (s : State) (core : Nat) (v : Invocation) (out : List Int) :
    SparesCores (s.setCore core { s.core core with inv := none }) (s.endInvocation core v out) := by
  unfold State.endInvocation
  dsimp only
  split
  · exact .refl _
  · next i _ =>
    have hkernel := (sparesCores_modInst (s.setCore core { s.core core with inv := none }) (v.conf * 256 + v.node)
      fun i => { i with out := some (v.grain, out) }).trans
        (sparesCores_modKernel _ i.kernel fun q => { q with cycPeak := max q.cycPeak v.cycles })
    exact .ite (hkernel.trans (raiseW_only _ _ _ _).sparesCores) hkernel

/-- So does the failure of a kernel, whether or not it disables what failed (R341). -/
theorem kernelFailed_spares (s : State) (core : Nat) (v : Invocation) :
    SparesCores (s.setCore core { s.core core with inv := none }) (s.kernelFailed core v) := by
  have hend := endInvocation_spares s core v (List.replicate 120 0)
  unfold State.kernelFailed
  dsimp only
  split
  · exact hend
  · have hinst (f : KInst → KInst) := hend.trans (sparesCores_modInst _ (v.conf * 256 + v.node) f)
    exact .ite ((hinst _).trans (raise_only _ _ _ _).sparesCores) (hinst _)

/-- A kernel fault ends the invocation of its core (R335). -/
theorem kernelFault_spares {s : State} {core : Nat} {v : Invocation} (cause : Nat) (hinv : (s.core core).inv = some v) :
    SparesCores (s.setCore core { s.core core with inv := none }) (s.kernelFault core cause) := by
  have hfailed {u : State} (h : SparesCores s u) :
      SparesCores (s.setCore core { s.core core with inv := none }) (u.kernelFailed core v) :=
    .trans (h.core_eq core ▸ h.setCore core _) (kernelFailed_spares u core v)
  unfold State.kernelFault
  simp only [hinv]
  split
  · exact hfailed (sparesCores_modDspStats s _ _)
  · exact hfailed (((sparesCores_modDspStats s _ _).trans (sparesCores_modKernel _ _ _)).trans
      (raiseW_only _ _ _ _).sparesCores)

/-- Outside an invocation a kernel fault leaves everything. -/
theorem kernelFault_outside {s : State} {core : Nat} (cause : Nat) (hinv : (s.core core).inv = none) :
    s.kernelFault core cause = s := by
  simp [State.kernelFault, hinv]

/-- Cycles are accounted to the core's use in the grain and to its invocation. -/
theorem dspCycles_spares (s : State) (core n : Nat) : ∃ used, SparesCores
    (s.setCore core { s.core core with
      used := used, inv := (s.core core).inv.map fun v => { v with cycles := v.cycles + n } }) (s.dspCycles core n) := by
  unfold State.dspCycles
  dsimp only
  have hstats := sparesCores_modDspStats
  exact ⟨(_, _), .ite ((hstats _ _ _).trans (raiseWK_only _ _ _ _ _).sparesCores) (hstats _ _ _)⟩

theorem core_dspCycles (s : State) (core n : Nat) : ∃ used, (s.dspCycles core n).core core =
    { s.core core with used := used, inv := (s.core core).inv.map fun v => { v with cycles := v.cycles + n } } := by
  obtain ⟨used, h⟩ := dspCycles_spares s core n
  exact ⟨used, (h.core_eq core).trans (s.core_setCore_self core _)⟩

/-- The watchdog's abort accounts its cycles and ends the invocation (R340). -/
theorem watchdogAbort_spares (s : State) (core : Nat) (v : Invocation) :
    SparesCores ((s.dspCycles core 8).setCore core { (s.dspCycles core 8).core core with inv := none })
      (s.watchdogAbort core v) := by
  generalize hu : s.dspCycles core 8 = u
  have hfailed {t : State} (h : SparesCores u t) (w : Invocation) :
      SparesCores (u.setCore core { u.core core with inv := none }) (t.kernelFailed core w) :=
    .trans (h.core_eq core ▸ h.setCore core _) (kernelFailed_spares t core w)
  unfold State.watchdogAbort
  simp only [hu]
  split
  · exact hfailed (sparesCores_modDspStats u _ _) _
  · exact hfailed (((sparesCores_modDspStats u _ _).trans (sparesCores_modKernel _ _ _)).trans
      (raiseW_only _ _ _ _).sparesCores) _

/-- Entering leaves everything, or puts a core in its place whose waiting instances or registers are new. -/
theorem enterInvocation_spares (s : State) (core : Nat) :
    s.enterInvocation core = s ∨ ∃ k, SparesCores (s.setCore core k) (s.enterInvocation core) := by
  unfold State.enterInvocation
  dsimp only
  split
  · split
    · exact .inr ⟨_, .refl _⟩
    · split
      · exact .inr ⟨_, .refl _⟩
      · exact .inr ⟨_, sparesCores_modKernel _ _ _⟩
  · exact .inl rfl

/-- A core with an invocation takes in no other. -/
theorem enterInvocation_running {s : State} {core : Nat} {v : Invocation} (hinv : (s.core core).inv = some v) :
    s.enterInvocation core = s := by
  simp [State.enterInvocation, hinv]

theorem issuer_running {s : State} {core : Nat} (hinv : (s.core core).inv.isSome = true) :
    issuer core s = s.core core := by
  obtain ⟨v, hv⟩ := Option.isSome_iff_exists.mp hinv
  rw [issuer, enterInvocation_running hv]

theorem enterInvocation_units (s : State) (core : Nat) : (s.enterInvocation core).units = s.units := by
  obtain h | ⟨k, h⟩ := enterInvocation_spares s core
  · rw [h]
  · exact h.units

end Sys2Proof.Machine
end

section
/-! PROOFS. What an instruction makes of a core: its data operations and its control operations, and what each of them leaves
(R317, R324, R325, R327). -/

namespace Sys2Proof.Machine

/-! Data and control state. -/

/-- The registers are all there and the memories canonical: the part of a core's shape that control leaves. -/
structure DspCore.Whole (k : DspCore) : Prop where
  d : k.d.length = 32
  acc : k.acc.length = 8
  p : k.p.length = 16
  m : k.m.length = 8
  lc : k.lc.length = 2
  xmem : k.xmem.wf = true
  ymem : k.ymem.wf = true

/-- The bounds of the register base, the return stack, the loops and the repeats: the part of a core's shape that data
operations leave. -/
structure DspCore.Bounded (k : DspCore) : Prop where
  rrb : k.rrb < 16
  stack : k.stack.length ≤ 8
  loops : k.loops.length ≤ 2
  rep : ∀ n, k.rep = some n → 1 ≤ n ∧ n ≤ 4096

theorem DspCore.shaped_iff (k : DspCore) : k.shaped = true ↔ k.Whole ∧ k.Bounded := by
  have hrep : (match k.rep with | some n => decide (1 ≤ n) && decide (n ≤ 4096) | none => true) = true ↔
      ∀ n, k.rep = some n → 1 ≤ n ∧ n ≤ 4096 := by
    cases k.rep <;> simp
  unfold DspCore.shaped
  simp only [Bool.and_eq_true, beq_iff_eq, decide_eq_true_eq, and_assoc]
  constructor
  · rintro ⟨hd, hacc, hp, hm, hlc, hrrb, hstack, hloops, hbound, hx, hy⟩
    exact ⟨⟨hd, hacc, hp, hm, hlc, hx, hy⟩, ⟨hrrb, hstack, hloops, hrep.mp hbound⟩⟩
  · rintro ⟨⟨hd, hacc, hp, hm, hlc, hx, hy⟩, ⟨hrrb, hstack, hloops, hbound⟩⟩
    exact ⟨hd, hacc, hp, hm, hlc, hrrb, hstack, hloops, hrep.mpr hbound, hx, hy⟩

/-- `r'` is `r` with another control state: where it stands, its loops, repeats, delay slots and return stack, and the
register base, which the end of a loop rotates; within bounds where `k` and `r` are. -/
structure DspCore.Steers (k r r' : DspCore) : Prop where
  only : ∃ rrb pc stack loops rep delay hold,
    r' = { r with rrb := rrb, pc := pc, stack := stack, loops := loops, rep := rep, delay := delay, hold := hold }
  bounded : k.Bounded → r.Bounded → r'.Bounded

theorem DspCore.Steers.refl (k r : DspCore) : k.Steers r r := ⟨⟨_, _, _, _, _, _, _, rfl⟩, fun _ h => h⟩

theorem DspCore.Steers.trans {k r r' r'' : DspCore} (h : k.Steers r r') (h' : k.Steers r' r'') : k.Steers r r'' := by
  obtain ⟨⟨_, _, _, _, _, _, _, rfl⟩, hb⟩ := h
  obtain ⟨⟨_, _, _, _, _, _, _, rfl⟩, hb'⟩ := h'
  exact ⟨⟨_, _, _, _, _, _, _, rfl⟩, fun hk hr => hb' hk (hb hk hr)⟩

theorem DspCore.Steers.whole {k r r' : DspCore} (h : k.Steers r r') (hr : r.Whole) : r'.Whole := by
  obtain ⟨⟨_, _, _, _, _, _, _, rfl⟩, _⟩ := h
  exact ⟨hr.d, hr.acc, hr.p, hr.m, hr.lc, hr.xmem, hr.ymem⟩

theorem DspCore.Steers.inv_eq {k r r' : DspCore} (h : k.Steers r r') : r'.inv = r.inv := by
  obtain ⟨⟨_, _, _, _, _, _, _, rfl⟩, _⟩ := h
  rfl

theorem DspCore.rotate_steers (k r : DspCore) : k.Steers r r.rotate :=
  ⟨⟨_, _, _, _, _, _, _, rfl⟩, fun _ h => ⟨Nat.mod_lt _ (by decide), h.stack, h.loops, h.rep⟩⟩

/-- A loop entered, left or counted down steers, as long as no loop more than there may be comes of it. -/
theorem DspCore.steers_loops (k r : DspCore) (loops : List LoopEntry)
    (h : k.Bounded → r.Bounded → loops.length ≤ 2) : k.Steers r { r with loops := loops } :=
  ⟨⟨_, _, _, _, _, _, _, rfl⟩, fun hk hr => ⟨hr.rrb, hr.stack, h hk hr, hr.rep⟩⟩

theorem DspCore.steers_rep (k r : DspCore) (rep : Option Nat)
    (h : k.Bounded → ∀ n, rep = some n → 1 ≤ n ∧ n ≤ 4096) : k.Steers r { r with rep := rep } :=
  ⟨⟨_, _, _, _, _, _, _, rfl⟩, fun hk hr => ⟨hr.rrb, hr.stack, hr.loops, h hk⟩⟩

theorem DspCore.steers_stack (k r : DspCore) (stack : List Nat) (h : k.Bounded → stack.length ≤ 8) :
    k.Steers r { r with stack := stack } :=
  ⟨⟨_, _, _, _, _, _, _, rfl⟩, fun hk hr => ⟨hr.rrb, h hk, hr.loops, hr.rep⟩⟩

/-- Where a core stands has no bounds. -/
theorem DspCore.steers_place (k r : DspCore) (pc : Nat) (delay : Option (Nat × Option Nat)) (hold : Bool) :
    k.Steers r { r with pc := pc, delay := delay, hold := hold } :=
  ⟨⟨_, _, _, _, _, _, _, rfl⟩, fun _ hr => ⟨hr.rrb, hr.stack, hr.loops, hr.rep⟩⟩

/-- The end of an iteration leaves a loop, or counts it down, and rotates with it (R318, R325). -/
theorem DspCore.loopEnd_steers (at_ fuel : Nat) (k r : DspCore) : k.Steers r (DspCore.loopEnd at_ fuel r).1 := by
  induction fuel generalizing r with
  | zero => exact .refl k r
  | succ fuel ih =>
    unfold DspCore.loopEnd
    split
    · exact .refl k r
    · next l rest hloops =>
      have hrot : k.Steers r (if l.rot then r.rotate else r) := by
        split
        · exact rotate_steers k r
        · exact .refl k r
      have hlen (hr : (if l.rot then r.rotate else r).Bounded) : rest.length + 1 ≤ 2 := by
        have := hr.loops
        split at this <;> simpa [DspCore.rotate, hloops] using this
      dsimp only
      split
      · exact .refl k r
      · split
        · exact hrot.trans (steers_loops k _ _ fun _ hr => hlen hr)
        · exact hrot.trans (.trans (steers_loops k _ rest fun _ hr => by have := hlen hr; omega) (ih _))

/-- The going on after an instruction steers (R324, R325, R327). -/
theorem DspCore.advancePc_steers (k r : DspCore) (jump : Option Nat) : k.Steers r (k.advancePc r jump).1 := by
  have hloop (at_ : Nat) (q : DspCore) :
      k.Steers q { (loopEnd at_ 2 q).1 with pc := (loopEnd at_ 2 q).2.1 } :=
    (loopEnd_steers at_ 2 k q).trans (steers_place k _ _ _ _)
  unfold DspCore.advancePc
  extract_lets onward held
  have hheld : k.Steers r held := steers_place k r r.pc r.delay _
  clear_value held
  split
  · next n hrep =>
    refine hheld.trans (.trans (steers_rep k _ (some (n + 1)) fun hk m hm => ?_) (steers_place k _ _ _ _))
    have := hk.rep _ hrep
    cases hm
    omega
  · extract_lets counted taken
    have hcounted : k.Steers held counted := by
      unfold counted
      split
      · exact steers_rep k _ none fun _ _ h => nomatch h
      · exact .refl k _
    clear_value counted
    refine (hheld.trans hcounted).trans ?_
    split
    · exact steers_place k counted _ _ _
    · extract_lets out
      refine .trans (steers_loops k counted (if out then counted.loops.drop 1 else counted.loops) fun _ hq => ?_)
        (steers_place k _ _ _ _)
      have := hq.loops
      split <;> simp <;> omega
    · exact .trans (steers_place k counted counted.pc _ counted.hold) (hloop k.pc _)
    · split
      · exact hloop _ counted
      · split
        · exact steers_place k counted _ _ _
        · exact hloop k.pc counted

/-- A legal control operation steers; REP's count is within its field (R324, R325, R327). -/
theorem DspCore.ctrlIns_steers (k r : DspCore) (op cond cnt addr : Nat) (hlegal : ctrlLegal op cond cnt addr = true)
    (hloops : r.loops = k.loops) (hstack : r.stack = k.stack) : k.Steers r (k.ctrlIns r op cond cnt addr).1 := by
  have hbranch (q : DspCore) (delay : Option (Nat × Option Nat)) : k.Steers q { q with delay := delay } :=
    steers_place k q q.pc delay q.hold
  have hloop (count : Nat) : k.Steers r
      (if 2 ≤ k.loops.length then (r, none, DspEnd.fault 3)
        else if count = 0 then (r, some (addr + 1), .on)
        else ({ r with loops := ⟨k.pc + 1, addr, count, bit cond 0⟩ :: r.loops }, none, .on)).1 := by
    split_ifs
    · exact .refl k r
    · exact .refl k r
    · exact steers_loops k r _ fun _ _ => by rw [List.length_cons, hloops]; omega
  have hrep (hcnt : cnt < 4096) : k.Steers r { r with rep := some (cnt + 1) } :=
    steers_rep k r _ fun _ n hn => by cases hn; omega
  unfold DspCore.ctrlIns
  dsimp only
  split
  · exact hbranch r _
  · split <;> exact hbranch r _
  · split
    · exact .refl k r
    · refine .trans (steers_stack k r ((k.pc + 3) :: r.stack) fun _ => ?_) (hbranch _ _)
      rw [List.length_cons, hstack]
      omega
  · split
    · exact .refl k r
    · next a rest hstack =>
      refine .trans (steers_stack k r rest fun hk => ?_) (hbranch _ _)
      have := hk.stack
      simp only [hstack, List.length_cons] at this
      omega
  · exact hloop cnt
  · exact hloop _
  · have hcnt : cnt < 4096 := by simp [ctrlLegal] at hlegal; omega
    split
    · split
      · exact .refl k r
      · exact hrep hcnt
    · exact hrep hcnt
  · exact steers_loops k r _ fun _ hr => by have := hr.loops; simp; omega
  · exact .refl k r
  · exact .refl k r

/-! Data operations. -/

/-- `r'` is `r` after a data operation with operands of `k`: loops, repeats, return stack and invocation are as before, and
registers and memories keep their form. -/
structure DspCore.Works (k r r' : DspCore) : Prop where
  inv_eq : r'.inv = r.inv
  stack_eq : r'.stack = r.stack
  loops_eq : r'.loops = r.loops
  rep_eq : r'.rep = r.rep
  rrb : r.rrb < 16 → r'.rrb < 16
  whole : k.Whole → r.Whole → r'.Whole

theorem DspCore.Works.refl (k r : DspCore) : k.Works r r := ⟨rfl, rfl, rfl, rfl, id, fun _ h => h⟩

theorem DspCore.Works.trans {k r r' r'' : DspCore} (h : k.Works r r') (h' : k.Works r' r'') : k.Works r r'' where
  inv_eq := h'.inv_eq.trans h.inv_eq
  stack_eq := h'.stack_eq.trans h.stack_eq
  loops_eq := h'.loops_eq.trans h.loops_eq
  rep_eq := h'.rep_eq.trans h.rep_eq
  rrb hr := h'.rrb (h.rrb hr)
  whole hk hr := h'.whole hk (h.whole hk hr)

theorem DspCore.Works.ite {k r q q' : DspCore} {p : Prop} [Decidable p] (h : k.Works r q) (h' : k.Works r q') :
    k.Works r (if p then q else q') := by
  split_ifs
  · exact h
  · exact h'

theorem DspCore.Works.bounded {k r r' : DspCore} (h : k.Works r r') (hr : r.Bounded) : r'.Bounded where
  rrb := h.rrb hr.rrb
  stack := h.stack_eq ▸ hr.stack
  loops := h.loops_eq ▸ hr.loops
  rep := h.rep_eq ▸ hr.rep

theorem DspCore.works_setD (k r : DspCore) (i : Nat) (v : BitVec 32) : k.Works r { r with d := setAt r.d i v } :=
  ⟨rfl, rfl, rfl, rfl, id, fun _ h => { h with d := (length_setAt _ _ _).trans h.d }⟩

theorem DspCore.works_setP (k r : DspCore) (i : Nat) (v : BitVec 32) : k.Works r { r with p := setAt r.p i v } :=
  ⟨rfl, rfl, rfl, rfl, id, fun _ h => { h with p := (length_setAt _ _ _).trans h.p }⟩

theorem DspCore.works_writeAcc (k r : DspCore) (i : Nat) (v : Int) : k.Works r (r.writeAcc i v) :=
  ⟨rfl, rfl, rfl, rfl, id, fun _ h => { h with acc := (length_setAt _ _ _).trans h.acc }⟩

/-- Writes that land later, and what the next instruction still sees, are no part of the registers. -/
theorem DspCore.works_late (k r : DspCore) (late : List (Nat × BitVec 32)) (accOld : List (Nat × BitVec 72))
    (pOld : List (Nat × BitVec 32)) : k.Works r { r with late := late, accOld := accOld, pOld := pOld } :=
  ⟨rfl, rfl, rfl, rfl, id, fun _ h => { h with }⟩

theorem DspCore.works_flags (k r : DspCore) (n z v c : Bool) (aov : BitVec 8) :
    k.Works r { r with n := n, z := z, v := v, c := c, aov := aov } :=
  ⟨rfl, rfl, rfl, rfl, id, fun _ h => { h with }⟩

theorem DspCore.slotOp_works (k r : DspCore) (o : DspSlot) : k.Works r (k.slotOp r o) := by
  unfold DspCore.slotOp
  extract_lets a b old put
  have hput (v : Int) : k.Works r (put v) :=
    (works_writeAcc k r o.acc v).trans (works_late k _ _ (tset _ o.acc old) _)
  split
  · exact hput _
  · exact hput _
  · exact hput _
  · exact hput _
  · exact hput _
  · exact .refl k r

theorem DspCore.aluIns_works (k r : DspCore) (op dst a b sh acc free : Nat) :
    k.Works r (k.aluIns r op dst a b sh acc free) := by
  unfold DspCore.aluIns
  extract_lets av q flagged
  split
  · exact works_writeAcc k r _ _
  · exact works_writeAcc k r _ _
  · exact works_writeAcc k r _ _
  · exact works_late k r _ _ _
  · exact works_late k r _ _ _
  · exact works_writeAcc k r _ _
  · exact works_flags k r _ _ _ _ _
  · have hflagged : k.Works r flagged := works_flags k r _ _ _ _ _
    exact .ite hflagged (hflagged.trans (works_setD k _ _ _))

theorem DspCore.immIns_works (k r : DspCore) (op dst src imm : Nat) : k.Works r (k.immIns r op dst src imm) := by
  unfold DspCore.immIns
  extract_lets w putP
  have hputP (v : BitVec 32) : k.Works r (putP v) :=
    (works_setP k r dst v).trans (works_late k _ _ _ (tset _ dst (k.p.getD dst 0)))
  have hrotated (rrb : Nat) (h : rrb < 16) : k.Works r { r with rrb := rrb } :=
    ⟨rfl, rfl, rfl, rfl, fun _ => h, fun _ h => { h with }⟩
  split
  · exact works_setD k r _ _
  · exact hputP _
  · exact ⟨rfl, rfl, rfl, rfl, id, fun _ h => { h with m := (length_setAt _ _ _).trans h.m }⟩
  · exact ⟨rfl, rfl, rfl, rfl, id, fun _ h => { h with lc := (length_setAt _ _ _).trans h.lc }⟩
  · exact works_setD k r _ _
  · exact hputP _
  · exact (hrotated _ (Nat.mod_lt _ (by decide))).trans (works_flags k _ _ _ _ _ _)
  · exact works_setD k r _ _
  · exact hrotated _ (Nat.mod_lt _ (by decide))
  · exact .refl k r

theorem DspCore.moves_works (k r : DspCore) (x y : DspMove) (free : Nat) : k.Works r (k.moves r x y free) := by
  unfold DspCore.moves
  extract_lets ax ay storedX storedY loadedX loadedY upd steppedX
  have hstoredX : k.Works r storedX :=
    .ite ⟨rfl, rfl, rfl, rfl, id, fun hk h => { h with xmem := Mem.wf_write32 _ _ _ hk.xmem }⟩ (.refl k r)
  have hstoredY : k.Works storedX storedY :=
    .ite ⟨rfl, rfl, rfl, rfl, id, fun hk h => { h with ymem := Mem.wf_write32 _ _ _ hk.ymem }⟩ (.refl k _)
  have hloadedX : k.Works storedY loadedX := .ite (works_late k _ _ _ _) (.refl k _)
  have hloadedY : k.Works loadedX loadedY := .ite (works_late k _ _ _ _) (.refl k _)
  have hsteppedX : k.Works loadedY steppedX := .ite (works_setP k _ _ _) (.refl k _)
  have hstepped : k.Works r steppedX := hstoredX.trans (hstoredY.trans (hloadedX.trans (hloadedY.trans hsteppedX)))
  exact .ite hstepped (.ite (hstepped.trans (works_setP k _ _ _)) (hstepped.trans (works_setP k _ _ _)))

/-! One instruction. -/

/-- The core as an instruction finds it: what the instruction before loaded or moved has landed (R322). -/
def DspCore.landed (k : DspCore) : DspCore := { k with d := k.settled, late := [], accOld := [], pOld := [] }

@[simp] theorem DspCore.length_settled (k : DspCore) : k.settled.length = k.d.length := by
  unfold DspCore.settled
  generalize k.d = d
  induction k.late generalizing d with
  | nil => rfl
  | cons w late ih => rw [List.foldl_cons, ih, length_setAt]

theorem DspCore.settled_of_late_nil {k : DspCore} (h : k.late = []) : k.settled = k.d := by
  rw [DspCore.settled, h, List.foldl_nil]

theorem DspCore.landed_works (k : DspCore) : k.Works k k.landed :=
  ⟨rfl, rfl, rfl, rfl, id, fun _ h => { h with d := k.length_settled.trans h.d }⟩

/-- What an instruction that completes comes to: the going on from the core that its operations left. -/
def DspCore.goesOn (k r : DspCore) (jump : Option Nat) : DspCore × DspEnd × Nat :=
  ((k.advancePc r jump).1, .on, 1 + (k.advancePc r jump).2)

theorem DspCore.execIns_dual (k : DspCore) (a b : DspSlot) (x y : DspMove) (free : Nat) :
    k.execIns (.dual a b x y) free = if !k.movesOk x y then (k, .fault 2, 1)
      else k.goesOn (k.moves (k.slotOp (k.slotOp k.landed a) b) x y free) none := rfl

theorem DspCore.execIns_alu (k : DspCore) (op dst a b sh acc : Nat) (x : DspMove) (free : Nat) :
    k.execIns (.alu op dst a b sh acc x) free = if !k.movesOk x {} then (k, .fault 2, 1)
      else k.goesOn (k.moves (k.aluIns k.landed op dst a b sh acc free) x {} free) none := rfl

theorem DspCore.execIns_imm (k : DspCore) (op dst src imm free : Nat) :
    k.execIns (.imm op dst src imm) free = k.goesOn (k.immIns k.landed op dst src imm) none := rfl

theorem DspCore.execIns_ctrl (k : DspCore) (op cond cnt addr free : Nat) :
    k.execIns (.ctrl op cond cnt addr) free =
      if (k.ctrlIns k.landed op cond cnt addr).2.2 = .on
      then k.goesOn (k.ctrlIns k.landed op cond cnt addr).1 (k.ctrlIns k.landed op cond cnt addr).2.1
      else ((k.ctrlIns k.landed op cond cnt addr).1, (k.ctrlIns k.landed op cond cnt addr).2.2, 1) := by
  change (match (k.ctrlIns k.landed op cond cnt addr).2.2 with
    | .on => k.goesOn (k.ctrlIns k.landed op cond cnt addr).1 (k.ctrlIns k.landed op cond cnt addr).2.1
    | e => ((k.ctrlIns k.landed op cond cnt addr).1, e, 1)) = _
  split
  · next hend => exact (if_pos hend).symm
  · next hend => exact (if_neg hend).symm

/-- A legal instruction works on its core's data and then steers it. -/
theorem DspCore.execIns_works_steers (k : DspCore) {i : DspIns} (free : Nat) (hlegal : i.legal = true) :
    ∃ r, k.Works k r ∧ k.Steers r (k.execIns i free).1 := by
  cases i with
  | dual a b x y =>
    rw [execIns_dual]
    split
    · exact ⟨k, .refl k k, .refl k k⟩
    · exact ⟨_, k.landed_works.trans (((k.slotOp_works _ a).trans (k.slotOp_works _ b)).trans (k.moves_works _ x y free)),
        k.advancePc_steers _ none⟩
  | imm op dst src v => exact ⟨_, k.landed_works.trans (k.immIns_works _ op dst src v), k.advancePc_steers _ none⟩
  | ctrl op cond cnt addr =>
    have hctrl := k.ctrlIns_steers k.landed op cond cnt addr hlegal rfl rfl
    refine ⟨k.landed, k.landed_works, ?_⟩
    rw [execIns_ctrl]
    split
    · exact hctrl.trans (k.advancePc_steers _ _)
    · exact hctrl
  | alu op dst a b sh acc x =>
    rw [execIns_alu]
    split
    · exact ⟨k, .refl k k, .refl k k⟩
    · exact ⟨_, k.landed_works.trans ((k.aluIns_works _ op dst a b sh acc free).trans (k.moves_works _ x {} free)),
        k.advancePc_steers _ none⟩

/-- A legal instruction keeps the shape of its core. -/
theorem DspCore.execIns_shaped {k : DspCore} {i : DspIns} (free : Nat) (hlegal : i.legal = true) (hk : k.shaped = true) :
    (k.execIns i free).1.shaped = true := by
  obtain ⟨r, hworks, hsteers⟩ := k.execIns_works_steers free hlegal
  rw [shaped_iff] at hk ⊢
  obtain ⟨hwhole, hbounded⟩ := hk
  exact ⟨hsteers.whole (hworks.whole hwhole hwhole), hsteers.bounded hbounded (hworks.bounded hbounded)⟩

/-- An instruction leaves the invocation; what it comes to may end it. -/
theorem DspCore.execIns_inv (k : DspCore) {i : DspIns} (free : Nat) (hlegal : i.legal = true) :
    (k.execIns i free).1.inv = k.inv := by
  obtain ⟨r, hworks, hsteers⟩ := k.execIns_works_steers free hlegal
  exact hsteers.inv_eq.trans hworks.inv_eq

/-- What an instruction comes to is no matter of the free value. -/
theorem DspCore.execIns_end_eq (k : DspCore) (i : DspIns) (free free' : Nat) :
    (k.execIns i free).2.1 = (k.execIns i free').2.1 := by
  cases i with
  | dual a b x y => rw [execIns_dual, execIns_dual]; split <;> rfl
  | alu op dst a b sh acc x => rw [execIns_alu, execIns_alu]; split <;> rfl
  | imm op dst src v => rfl
  | ctrl op cond cnt addr => rfl

/-! An instruction that completes. -/

/-- `r'` has the registers and memories of `r`, and the writes that have still to land. -/
structure DspCore.SameData (r' r : DspCore) : Prop where
  d : r'.d = r.d
  acc : r'.acc = r.acc
  p : r'.p = r.p
  m : r'.m = r.m
  lc : r'.lc = r.lc
  aov : r'.aov = r.aov
  n : r'.n = r.n
  z : r'.z = r.z
  v : r'.v = r.v
  c : r'.c = r.c
  late : r'.late = r.late
  pmem : r'.pmem = r.pmem
  xmem : r'.xmem = r.xmem
  ymem : r'.ymem = r.ymem

theorem DspCore.SameData.refl (r : DspCore) : r.SameData r :=
  ⟨rfl, rfl, rfl, rfl, rfl, rfl, rfl, rfl, rfl, rfl, rfl, rfl, rfl, rfl⟩

theorem DspCore.SameData.trans {r r' r'' : DspCore} (h : r''.SameData r') (h' : r'.SameData r) : r''.SameData r where
  d := h.d.trans h'.d
  acc := h.acc.trans h'.acc
  p := h.p.trans h'.p
  m := h.m.trans h'.m
  lc := h.lc.trans h'.lc
  aov := h.aov.trans h'.aov
  n := h.n.trans h'.n
  z := h.z.trans h'.z
  v := h.v.trans h'.v
  c := h.c.trans h'.c
  late := h.late.trans h'.late
  pmem := h.pmem.trans h'.pmem
  xmem := h.xmem.trans h'.xmem
  ymem := h.ymem.trans h'.ymem

theorem DspCore.Steers.sameData {k r r' : DspCore} (h : k.Steers r r') : r'.SameData r := by
  obtain ⟨⟨_, _, _, _, _, _, _, rfl⟩, _⟩ := h
  exact { DspCore.SameData.refl r with }

/-- The core that the operations of an instruction leave, before it goes on. -/
def DspCore.worked (k : DspCore) (free : Nat) : DspIns → DspCore
  | .dual a b x y => k.moves (k.slotOp (k.slotOp k.landed a) b) x y free
  | .imm op dst src v => k.immIns k.landed op dst src v
  | .ctrl op cond cnt addr => (k.ctrlIns k.landed op cond cnt addr).1
  | .alu op dst a b sh acc x => k.moves (k.aluIns k.landed op dst a b sh acc free) x {} free

/-- An instruction that completes goes on from what its operations left. -/
theorem DspCore.execIns_of_on {k : DspCore} {i : DspIns} {free : Nat} (h : (k.execIns i free).2.1 = .on) :
    ∃ jump, k.execIns i free = k.goesOn (k.worked free i) jump := by
  cases i with
  | dual a b x y =>
    rw [execIns_dual] at h ⊢
    split_ifs at h ⊢
    exact ⟨none, rfl⟩
  | imm op dst src v => exact ⟨none, rfl⟩
  | ctrl op cond cnt addr =>
    rw [execIns_ctrl] at h ⊢
    split_ifs at h ⊢ with hend
    · exact ⟨_, rfl⟩
    · exact absurd h hend
  | alu op dst a b sh acc x =>
    rw [execIns_alu] at h ⊢
    split_ifs at h ⊢
    exact ⟨none, rfl⟩

theorem DspCore.execIns_sameData {k : DspCore} {i : DspIns} {free : Nat} (h : (k.execIns i free).2.1 = .on) :
    (k.execIns i free).1.SameData (k.worked free i) := by
  obtain ⟨jump, hgo⟩ := execIns_of_on h
  rw [hgo]
  exact (k.advancePc_steers _ jump).sameData

/-- No move changes nothing. -/
@[simp] theorem DspCore.moves_none (k r : DspCore) (free : Nat) : k.moves r {} {} free = r := rfl

end Sys2Proof.Machine
end

section
/-! PROOFS. How a row of the DSP runs: its instruction issues on its core, and where it completes it leaves that core as the
instruction makes it, with its cycles accounted (R319, R321, R335, R345). -/

namespace Sys2Proof.Machine

/-- A DSP row whose memory reads are good issues its instruction on its core. -/
theorem exec_of_dspOf {row : Instr} {core rsv : Nat} {i : DspIns} (h : dspOf row = some (core, i, rsv)) (s : State) :
    exec row s = s.dspIssue core i ⟨rsv, .good, .good, .good⟩ := by
  cases row
  case dspMoveLoad core inY d p mod a b other f ecc =>
    obtain ⟨_, _ | _, _ | _, _ | _⟩ := f <;> cases ecc <;> cases h
    cases inY <;> rfl
  case dspMoveStore core inY d p mod a b other f ecc =>
    obtain ⟨_, _ | _, _ | _, _ | _⟩ := f <;> cases ecc <;> cases h
    cases inY <;> rfl
  -- Rows of no DSP instruction, then those that carry what the memories bring last.
  all_goals try contradiction
  all_goals
    rename_i f
    obtain ⟨_, _ | _, _ | _, _ | _⟩ := f <;> cases h
    rfl

/-- Good check bits change nothing and stop nothing. -/
theorem dspMoveChecks_good (s : State) (core : Nat) (i : DspIns) (rsv : Nat) :
    s.dspMoveChecks core i ⟨rsv, .good, .good, .good⟩ = (s, false) := by
  cases i <;> simp [State.dspMoveChecks, DspIns.moves]

/-- What an instruction with good reads can do: it is not the one fetched and does nothing, or is a kernel fault, or is legal
and runs. -/
theorem dspIssue_cases {s t : State} {core rsv : Nat} {i : DspIns}
    (h : s.dspIssue core i ⟨rsv, .good, .good, .good⟩ = .next t) :
    core < 288 ∧ (t = s ∨ (∃ cause, t = (s.enterInvocation core).kernelFault core cause) ∨
      (i.legal = true ∧ t = (s.enterInvocation core).dspRun core i)) := by
  unfold State.dspIssue at h
  split at h
  · cases h
  · next hcore =>
    refine ⟨not_le.mp hcore, ?_⟩
    extract_lets u k outside at h
    split_ifs at h with houtside hfetch hbad
    · cases h; exact .inr (.inl ⟨_, rfl⟩)
    · cases h; exact .inl rfl
    · cases h; exact .inr (.inl ⟨_, rfl⟩)
    · simp only [dspMoveChecks_good] at h
      cases h
      exact .inr (.inr ⟨by simp_all, rfl⟩)

/-- The instruction that a core fetches, with good reads, runs where it is legal as it is and where it stands, and is a kernel
fault of cause 1 elsewhere (R319, R335). -/
theorem dspIssue_fetched {s : State} {core rsv : Nat} {i : DspIns} (hcore : core < 288)
    (hcode : ∀ v, invOn core s = some v → (issuer core s).pc < v.code) (hfetched : (issuer core s).fetches i rsv = true) :
    s.dspIssue core i ⟨rsv, .good, .good, .good⟩ = .next
      (if (rsv ≠ 0 || !i.legal || (issuer core s).misplaced i) = true then (s.enterInvocation core).kernelFault core 1
        else (s.enterInvocation core).dspRun core i) := by
  unfold State.dspIssue
  rw [if_neg (not_le.mpr hcore)]
  extract_lets u k outside
  have hinside : outside = false := by
    unfold outside
    split
    · next v hv => exact decide_eq_false (not_le.mpr (hcode v hv))
    · rfl
  have hfetched : k.fetches i rsv = true := hfetched
  simp only [hinside, hfetched, dspMoveChecks_good]
  exact (apply_ite Host.Outcome.next _ _ _).symm

/-- What it takes that a core issues an instruction. -/
structure Issues (core : Nat) (i : DspIns) (s : State) : Prop where
  inPackage : core < 288
  legal : i.legal = true
  placed : (issuer core s).misplaced i = false
  fetched : (issuer core s).fetches i 0 = true
  inCode : ∀ v, (issuer core s).inv = some v → (issuer core s).pc < v.code
  unwatched : ∀ v, (issuer core s).inv = some v → v.watch = false

theorem issues_of_dspIssues {core : Nat} {i : DspIns} {s : State} (h : dspIssues core i s = true) : Issues core i s := by
  unfold dspIssues at h
  simp only [Bool.and_eq_true, Bool.not_eq_true', decide_eq_true_eq] at h
  obtain ⟨⟨⟨⟨hcore, hlegal⟩, hplaced⟩, hfetched⟩, hinv⟩ := h
  have hrunning {v : Invocation} (hv : (issuer core s).inv = some v) : (issuer core s).pc < v.code ∧ v.watch = false := by
    change ((s.enterInvocation core).core core).inv = some v at hv
    rw [hv, Bool.and_eq_true, decide_eq_true_eq, Bool.not_eq_true'] at hinv
    exact hinv
  exact ⟨hcore, hlegal, hplaced, hfetched, fun v hv => (hrunning hv).1, fun v hv => (hrunning hv).2⟩

/-- An instruction issued runs. -/
theorem Issues.dspIssue_eq {core : Nat} {i : DspIns} {s : State} (h : Issues core i s) :
    s.dspIssue core i {} = .next ((s.enterInvocation core).dspRun core i) := by
  rw [dspIssue_fetched h.inPackage h.inCode h.fetched, if_neg]
  simp [h.legal, h.placed]

/-- An instruction that completes leaves its core as it makes it, with its cycles accounted; the watchdog is quiet where none
waits. -/
theorem dspRun_of_on {u : State} {core : Nat} {i : DspIns} (hlegal : i.legal = true)
    (hend : ((u.core core).execIns i u.free.1).2.1 = .on) (hwatch : ∀ v, (u.core core).inv = some v → v.watch = false) :
    u.dspRun core i = (u.free.2.setCore core ((u.core core).execIns i u.free.1).1).dspCycles core
      ((u.core core).execIns i u.free.1).2.2 := by
  generalize hresult : (u.core core).execIns i u.free.1 = result at hend ⊢
  have hinv : result.1.inv = (u.core core).inv := hresult ▸ (u.core core).execIns_inv u.free.1 hlegal
  obtain ⟨used, hcore⟩ := core_dspCycles (u.free.2.setCore core result.1) core result.2.2
  rw [State.core_setCore_self] at hcore
  have hquiet : ∀ v, (((u.free.2.setCore core result.1).dspCycles core result.2.2).core core).inv = some v →
      v.watch = false := by
    simp only [hcore, hinv, Option.map_eq_some_iff]
    rintro _ ⟨v, hv, rfl⟩
    exact hwatch v hv
  unfold State.dspRun
  simp only [show (u.core core).execIns i u.free.1 = result from hresult, hend]
  split
  · next v hv => simp [hquiet v hv]
  · rfl

/-- What it takes that an instruction completes. -/
theorem issues_and_on_of_dspRuns {core : Nat} {i : DspIns} {s : State} (h : dspRuns core i s = true) :
    Issues core i s ∧ ∀ free, ((issuer core s).execIns i free).2.1 = .on := by
  unfold dspRuns at h
  rw [Bool.and_eq_true, beq_iff_eq] at h
  obtain ⟨hissues, hend⟩ := h
  exact ⟨issues_of_dspIssues hissues, fun free => (DspCore.execIns_end_eq _ i free 0).trans hend⟩

/-- A row whose instruction completes leaves the state in which its core is as the instruction makes it. -/
theorem exec_of_dspRuns {row : Instr} {core : Nat} {i : DspIns} {s : State} (hrow : dspOf row = some (core, i, 0))
    (h : dspRuns core i s = true) : exec row s = .next (dspNext core i s) := by
  obtain ⟨hissues, hend⟩ := issues_and_on_of_dspRuns h
  rw [exec_of_dspOf hrow, hissues.dspIssue_eq, dspRun_of_on hissues.legal (hend _) hissues.unwatched]
  rfl

/-- After a row whose instruction completes its core is as the instruction makes it, but for its use and its invocation, which
goes on where there was one. -/
theorem core_of_exec {row : Instr} {core : Nat} {i : DspIns} {s t : State} (hrow : dspOf row = some (core, i, 0))
    (h : dspRuns core i s = true) (hexec : exec row s = .next t) :
    ∃ free used inv, inv.isSome = (issuer core s).inv.isSome ∧
      t.core core = { ((issuer core s).execIns i free).1 with used := used, inv := inv } := by
  obtain ⟨hissues, -⟩ := issues_and_on_of_dspRuns h
  obtain ⟨used, hcore⟩ := core_dspCycles ((s.enterInvocation core).free.2.setCore core (dspResult core i s).1) core
    (dspResult core i s).2.2
  rw [State.core_setCore_self] at hcore
  rw [exec_of_dspRuns hrow h] at hexec
  cases hexec
  refine ⟨_, used, _, ?_, hcore⟩
  rw [Option.isSome_map]
  exact congrArg _ (DspCore.execIns_inv _ _ hissues.legal)

/-- A row whose instruction completes leaves its core with the registers and memories that the operations of the instruction
left. -/
theorem exec_worked {row : Instr} {core : Nat} {i : DspIns} {s : State} (hrow : dspOf row = some (core, i, 0))
    (h : dspRuns core i s = true) :
    ∃ t free, exec row s = .next t ∧ (t.core core).SameData ((issuer core s).worked free i) := by
  obtain ⟨-, hend⟩ := issues_and_on_of_dspRuns h
  have hexec := exec_of_dspRuns hrow h
  obtain ⟨free, used, inv, -, hcore⟩ := core_of_exec hrow h hexec
  have hdata := DspCore.execIns_sameData (hend free)
  refine ⟨_, free, hexec, ?_⟩
  rw [hcore]
  exact { hdata with }

/-- An invocation goes on through an instruction that completes. -/
theorem running_of_exec {row : Instr} {core : Nat} {i : DspIns} {s t : State} (hrow : dspOf row = some (core, i, 0))
    (h : dspRuns core i s = true) (hexec : exec row s = .next t) (hinv : (issuer core s).inv.isSome = true) :
    (t.core core).inv.isSome = true := by
  obtain ⟨free, used, inv, hrunning, hcore⟩ := core_of_exec hrow h hexec
  rw [hcore]
  exact hrunning.trans hinv

end Sys2Proof.Machine
end

section
/-! PROOFS. The invariant of the DSP cores: it holds after reset, and every step of a DSP instruction keeps it (R317, R324,
R325, R327). -/

namespace Sys2Proof.Machine

/-- An entry of a table in which one was set is that one, or stood there before. -/
theorem mem_of_mem_tset {α : Type} {t : Tbl α} {key : Nat} {a : α} {p : Nat × α} (h : p ∈ tset t key a) :
    p = (key, a) ∨ p ∈ t := by
  induction t with
  | nil => exact .inl (List.mem_singleton.mp h)
  | cons q r ih =>
    unfold tset at h
    split_ifs at h
    · exact List.mem_cons.mp h
    · obtain h | h := List.mem_cons.mp h
      · exact .inl h
      · exact .inr (List.mem_cons_of_mem q h)
    · obtain h | h := List.mem_cons.mp h
      · exact .inr (h ▸ List.mem_cons_self)
      · exact (ih h).imp_right (List.mem_cons_of_mem q)

/-- What a table answers for a key stands in it. -/
theorem mem_of_tget {α : Type} {t : Tbl α} {key : Nat} {a : α} (h : tget t key = some a) : (key, a) ∈ t := by
  induction t with
  | nil => cases h
  | cons q r ih =>
    unfold tget at h
    split_ifs at h with hkey
    · cases h
      exact hkey ▸ List.mem_cons_self
    · exact List.mem_cons_of_mem q (ih h)

/-- Every core that the state holds is one of the package's and has its shape. -/
def State.ShapedCores (s : State) : Prop := ∀ p ∈ s.aud.dsp.cores, p.1 < 288 ∧ p.2.shaped = true

theorem State.coresShaped_iff (s : State) :
    s.coresShaped = true ↔ (∀ i ∈ s.pending, (dspOf i).isSome = true) ∧ s.ShapedCores := by
  simp [State.coresShaped, State.ShapedCores]

theorem State.ShapedCores.core {s : State} (h : s.ShapedCores) (core : Nat) : (s.core core).shaped = true := by
  unfold State.core
  cases hcore : tget s.aud.dsp.cores core with
  | none => rfl
  | some k => exact (h _ (mem_of_tget hcore)).2

theorem State.ShapedCores.setCore {s : State} {core : Nat} {k : DspCore} (h : s.ShapedCores) (hcore : core < 288)
    (hk : k.shaped = true) : (s.setCore core k).ShapedCores := by
  intro p hp
  obtain rfl | hp := mem_of_mem_tset hp
  · exact ⟨hcore, hk⟩
  · exact h p hp

theorem SparesCores.shapedCores {s t : State} (h : SparesCores s t) (hs : s.ShapedCores) : t.ShapedCores := by
  unfold State.ShapedCores
  rw [h.cores]
  exact hs

/-- `t` has the commands of `s` waiting, and its cores keep their shape. -/
structure KeepsShape (s t : State) : Prop where
  pending : t.pending = s.pending
  shaped : s.ShapedCores → t.ShapedCores

theorem KeepsShape.refl (s : State) : KeepsShape s s := ⟨rfl, id⟩

theorem KeepsShape.trans {s t u : State} (h : KeepsShape s t) (h' : KeepsShape t u) : KeepsShape s u :=
  ⟨h'.pending.trans h.pending, fun hs => h'.shaped (h.shaped hs)⟩

theorem SparesCores.keepsShape {s t : State} (h : SparesCores s t) : KeepsShape s t := ⟨h.pending, h.shapedCores⟩

/-- A core put in its place keeps the shapes where it has its own. -/
theorem SparesCores.keepsShape_setCore {s t : State} {core : Nat} {k : DspCore} (h : SparesCores (s.setCore core k) t)
    (hcore : core < 288) (hk : s.ShapedCores → k.shaped = true) : KeepsShape s t :=
  ⟨h.pending, fun hs => h.shapedCores (hs.setCore hcore (hk hs))⟩

section
variable {core : Nat} (hcore : core < 288)
include hcore

theorem dspCycles_keepsShape (s : State) (n : Nat) : KeepsShape s (s.dspCycles core n) := by
  obtain ⟨used, h⟩ := dspCycles_spares s core n
  exact h.keepsShape_setCore hcore fun hs => hs.core core

theorem endInvocation_keepsShape (s : State) (v : Invocation) (out : List Int) :
    KeepsShape s (s.endInvocation core v out) :=
  (endInvocation_spares s core v out).keepsShape_setCore hcore fun hs => hs.core core

theorem kernelFault_keepsShape (s : State) (cause : Nat) : KeepsShape s (s.kernelFault core cause) := by
  cases hinv : (s.core core).inv with
  | none =>
    rw [kernelFault_outside cause hinv]
    exact .refl s
  | some v => exact (kernelFault_spares cause hinv).keepsShape_setCore hcore fun hs => hs.core core

theorem watchdogAbort_keepsShape (s : State) (v : Invocation) : KeepsShape s (s.watchdogAbort core v) :=
  (dspCycles_keepsShape hcore s 8).trans
    ((watchdogAbort_spares s core v).keepsShape_setCore hcore fun hs => hs.core core)

end

theorem wf_writeWords (m : Mem) (a : Nat) (words : List (BitVec 32)) (h : m.wf = true) :
    (writeWords m a words).wf = true := by
  induction words generalizing m a with
  | nil => exact h
  | cons w words ih => exact ih _ _ (Mem.wf_write32 m a w h)

/-- An invocation enters with registers as many as before, its loops, stack and repeats empty, and its input in canonical
memories (R336). -/
theorem enterInvocation_keepsShape {core : Nat} (hcore : core < 288) (s : State) :
    KeepsShape s (s.enterInvocation core) := by
  unfold State.enterInvocation
  dsimp only
  split
  · split
    · exact (SparesCores.refl _).keepsShape_setCore hcore fun hs => hs.core core
    · split
      · exact (SparesCores.refl _).keepsShape_setCore hcore fun hs => hs.core core
      · refine (sparesCores_modKernel _ _ _).keepsShape_setCore hcore fun hs => ?_
        obtain ⟨hwhole, _⟩ := (DspCore.shaped_iff _).mp (hs.core core)
        rw [DspCore.shaped_iff]
        exact ⟨⟨rfl, rfl, rfl, rfl, rfl, wf_writeWords _ _ _ (Mem.wf_clear _ _ _ hwhole.xmem),
          Mem.wf_clear _ _ _ hwhole.ymem⟩, ⟨Nat.zero_lt_succ 15, Nat.zero_le 8, Nat.zero_le 2,
            fun _ h => nomatch h⟩⟩
  · exact .refl s

/-- A legal instruction that runs keeps the shapes, however it ends. -/
theorem dspRun_keepsShape {core : Nat} (hcore : core < 288) (s : State) {i : DspIns} (hlegal : i.legal = true) :
    KeepsShape s (s.dspRun core i) := by
  have hfree : KeepsShape s s.free.2 := (sparesCores_free s).keepsShape
  have hrun : KeepsShape s ((s.free.2.setCore core ((s.core core).execIns i s.free.1).1).dspCycles core
      ((s.core core).execIns i s.free.1).2.2) :=
    .trans (((sparesCores_free s).setCore core _).keepsShape_setCore hcore
      fun hs => DspCore.execIns_shaped _ hlegal (hs.core core)) (dspCycles_keepsShape hcore _ _)
  unfold State.dspRun
  dsimp only
  split
  · exact hfree.trans ((dspCycles_keepsShape hcore _ _).trans (kernelFault_keepsShape hcore _ _))
  · split
    · split
      · exact hrun.trans (endInvocation_keepsShape hcore _ _ _)
      · exact hrun.trans (kernelFault_keepsShape hcore _ _)
    · exact hrun
  · split
    · split
      · exact hrun.trans (watchdogAbort_keepsShape hcore _ _)
      · exact hrun
    · exact hrun

/-- A DSP row with good reads, whatever its instruction, keeps the shapes and the commands that wait. -/
theorem exec_keepsShape {row : Instr} (hrow : (dspOf row).isSome = true) {s t : State} (h : exec row s = .next t) :
    KeepsShape s t := by
  obtain ⟨⟨core, i, rsv⟩, hrow⟩ := Option.isSome_iff_exists.mp hrow
  rw [exec_of_dspOf hrow] at h
  obtain ⟨hcore, rfl | ⟨cause, rfl⟩ | ⟨hlegal, rfl⟩⟩ := dspIssue_cases h
  · exact .refl t
  · exact (enterInvocation_keepsShape hcore s).trans (kernelFault_keepsShape hcore _ cause)
  · exact (enterInvocation_keepsShape hcore s).trans (dspRun_keepsShape hcore _ hlegal)

/-- Settles O60: each shared operation of an instruction keeps the shapes, so its row does; the commands left waiting are
those that waited behind it. -/
theorem stepsKeepCoresShaped : Obligations.StepsKeepCoresShaped := by
  intro s t hs hstep
  obtain ⟨hpending, hcores⟩ := s.coresShaped_iff.mp hs
  unfold step at hstep
  split at hstep
  · cases hstep
    exact hs
  · next row rest hfront =>
    rw [hfront] at hpending
    have hkeeps := exec_keepsShape (hpending row List.mem_cons_self) hstep
    rw [State.coresShaped_iff, hkeeps.pending]
    exact ⟨fun i hi => hpending i (List.mem_cons_of_mem row hi), hkeeps.shaped hcores⟩

/-- Settles O59: after reset no command waits, and every core has the registers of its reset value. -/
theorem resetHasShapedCores : Obligations.ResetHasShapedCores := by
  have hpending : State.reset.pending = [] := rfl
  have hcores : State.reset.aud.dsp.cores = [] := rfl
  simp [Obligations.ResetHasShapedCores, State.coresShaped_iff, State.ShapedCores, hpending, hcores]

end Sys2Proof.Machine
end

section
/-! PROOFS. What the instructions of the register file give: immediates, the register ALU and the accumulators (Tables 08-4 and
08-16, R317, R331). -/

namespace Sys2Proof.Machine

/-- A register number reaches one of the 32 physical registers (R317). -/
theorem physD_lt {rrb n : Nat} (h : n < 32) : physD rrb n < 32 := by
  unfold physD
  split_ifs <;> omega

/-- Where the operations of a row's instruction leave the registers and memories of `r`, whatever the free value, so does the
row. -/
theorem exec_sameData {row : Instr} {core : Nat} {i : DspIns} {s : State} {r : DspCore}
    (hrow : dspOf row = some (core, i, 0)) (hworked : ∀ free, ((issuer core s).worked free i).SameData r)
    (h : dspRuns core i s = true) : ∃ t, exec row s = .next t ∧ (t.core core).SameData r := by
  obtain ⟨t, free, hexec, hdata⟩ := exec_worked hrow h
  exact ⟨t, hexec, hdata.trans (hworked free)⟩

/-! The register ALU. -/

/-- An operation 0x00 to 0x0D beside no move sets the flags, and DST unless it only compares. -/
theorem DspCore.worked_alu {k : DspCore} {op a b sh free : Nat} {val : BitVec 32} {n z v c : Bool} (dst : Nat)
    (hop : op < 0x10) (hresult : k.aluOp op a b sh free = (val, { k with n := n, z := z, v := v, c := c })) :
    k.worked free (.alu op dst a b sh 0 {}) =
      { k.landed with
        n := n, z := z, v := v, c := c, d := if op = 0x0B then k.settled else setAt k.settled (physD k.rrb dst) val } := by
  rw [DspCore.worked, DspCore.moves_none]
  unfold DspCore.aluIns
  split
  case h_8 =>
    rw [hresult]
    split_ifs <;> rfl
  all_goals omega

/-- The row of an ALU operation gives its result and flags, where the operation gives them whatever the free value, which only
a carry that is not given takes. -/
theorem aluDoes_of_aluOp {core op dst a b sh : Nat} {row : Instr} {s : State} {val : Option (BitVec 32)} {nz : BitVec 32}
    {v : Bool} {c : Option Bool} (hrow : dspOf row = some (core, .alu op dst a b sh 0 {}, 0)) (hop : op < 0x10)
    (hval : val = if op = 0x0B then none else some nz)
    (hresult : ∀ free, (issuer core s).aluOp op a b sh free =
      (nz, { issuer core s with n := nz.msb, z := nz == 0, v := v, c := c.getD (bit free 0) })) :
    AluDoes core op dst a b sh row s val nz v c := by
  intro h
  obtain ⟨t, free, hexec, hdata⟩ := exec_worked hrow h
  rw [DspCore.worked_alu dst hop (hresult free)] at hdata
  refine ⟨t, hexec, hdata.d.trans ?_, hdata.n, hdata.z, hdata.v, fun x hx => hdata.c.trans (by rw [hx]; rfl),
    hdata.acc, hdata.aov, hdata.p, hdata.m, hdata.lc, hdata.xmem, hdata.ymem, hdata.pmem⟩
  subst hval
  by_cases hcmp : op = 0x0B <;> simp [hcmp]

/-- A shift by at most 31 places gives the shifted value and the last bit lost. -/
theorem DspCore.aluOp_shift (k : DspCore) (a b : Nat) {sh : Nat} (free : Nat) (h : sh < 32) :
    let x := k.readD a
    let lost (n : Nat) : Bool := decide (0 < sh) && x.getLsbD n
    let shifted (val : BitVec 32) (last : Bool) := (val, { k with n := val.msb, z := val == 0, v := k.v, c := last })
    k.aluOp 0x05 a b sh free = shifted (x.sshiftRight sh) (lost (sh - 1)) ∧
    k.aluOp 0x06 a b sh free = shifted (x >>> sh) (lost (sh - 1)) ∧
    k.aluOp 0x07 a b sh free = shifted (x <<< sh) (lost (32 - sh)) :=
  ⟨if_pos h, if_pos h, if_pos h⟩

/-- Settles O51: the operations' equations, each put through the row that carries it. -/
theorem aluResultsAndFlags : Obligations.AluResultsAndFlags := by
  intro core dst a b sh s k x y low lost clip small large size
  refine ⟨?_, ?_, ?_, ?_, ?_, fun hsh => ?_, ?_, ?_, ?_, ?_, ?_, ?_⟩
  case refine_6 =>
    have hshift (free : Nat) := k.aluOp_shift a 0 free hsh
    exact ⟨aluDoes_of_aluOp rfl (by decide) rfl fun free => (hshift free).1,
      aluDoes_of_aluOp rfl (by decide) rfl fun free => (hshift free).2.1,
      aluDoes_of_aluOp rfl (by decide) rfl fun free => (hshift free).2.2⟩
  all_goals exact aluDoes_of_aluOp rfl (by decide) rfl fun _ => rfl

/-- Settles O50: LDI.D and OR name their registers through `physD`, which is the formula of R317. -/
theorem registersRenameByBase : Obligations.RegistersRenameByBase := by
  unfold Obligations.RegistersRenameByBase
  intro phys
  refine ⟨fun core n v s h hlength hlate => ?_, fun core n a b s h hlength hlate => ?_⟩
  · obtain ⟨hissues, -⟩ := issues_and_on_of_dspRuns h
    obtain ⟨t, hexec, hdata⟩ := exec_sameData (row := .dspLdiD core n 0 v {}) rfl (fun _ => .refl _) h
    have hn : n < 32 := by
      have hlegal := hissues.legal
      simp [DspIns.legal, immLegal] at hlegal
      omega
    have hd : (t.core core).d = setAt (issuer core s).d (physD (issuer core s).rrb n) (BitVec.ofNat 32 v) := by
      rw [← DspCore.settled_of_late_nil hlate]
      exact hdata.d
    refine ⟨t, hexec, ?_, fun q hq => ?_, hdata.acc, hdata.p, hdata.m, hdata.lc, hdata.aov, hdata.n, hdata.z, hdata.v,
      hdata.c, hdata.xmem, hdata.ymem⟩
    · rw [hd]
      exact getD_modAt_self _ _ _ _ ((physD_lt hn).trans_eq hlength.symm)
    · rw [hd]
      exact getD_modAt_ne _ _ _ _ _ hq
  · obtain ⟨t, free, hexec, hdata⟩ := exec_worked (row := .dspOr core n a b 0 0 {} {}) rfl h
    rw [DspCore.worked_alu n (by decide) rfl] at hdata
    refine ⟨t, hexec, hdata.d.trans ?_⟩
    rw [DspCore.settled_of_late_nil hlate]
    rfl

/-! Accumulators. -/

/-- The row of an accumulator operation gives its value, where that is all its operations write. -/
theorem accDoes_of_writeAcc {core acc : Nat} {i : DspIns} {row : Instr} {s : State} {val : Int}
    (hrow : dspOf row = some (core, i, 0))
    (hworked : ∀ free, ((issuer core s).worked free i).SameData ((issuer core s).landed.writeAcc acc val)) :
    AccDoes core acc i row s val := by
  intro h
  obtain ⟨t, hexec, hdata⟩ := exec_sameData hrow hworked h
  exact ⟨t, hexec, hdata.acc, hdata.aov, hdata.d, hdata.n, hdata.z, hdata.v, hdata.c, hdata.p, hdata.m, hdata.lc, hdata.xmem,
    hdata.ymem, hdata.pmem⟩

/-- What MOVA still sees of an accumulator is none of its registers. -/
theorem DspCore.sameData_accOld (k : DspCore) (accOld : List (Nat × BitVec 72)) :
    ({ k with accOld := accOld } : DspCore).SameData k := { DspCore.SameData.refl k with }

/-- Settles O52: an operation of format ALU is its accumulator write; one of a slot keeps, beside it, what MOVA still sees. -/
theorem accumulatorResults : Obligations.AccumulatorResults := by
  intro core acc a b sh s hacc k v m i slot
  refine ⟨?_, ?_, ?_, ?_, ?_, ?_, ?_, ?_, ?_⟩
  case refine_1 => exact accDoes_of_writeAcc rfl fun _ => .refl _
  case refine_2 => exact accDoes_of_writeAcc rfl fun _ => .refl _
  case refine_3 => exact accDoes_of_writeAcc rfl fun _ => .refl _
  case refine_4 => exact accDoes_of_writeAcc rfl fun _ => .refl _
  all_goals exact accDoes_of_writeAcc rfl fun _ => DspCore.sameData_accOld _ _

end Sys2Proof.Machine
end

section
/-! PROOFS. The moves of the DSP: a load lands behind the next instruction, a store writes its word and no other byte (R322,
R323, Table 08-5). -/

namespace Sys2Proof.Machine

/-! Words in memory. -/

theorem length_le (n v : Nat) : (le n v).length = n := by
  induction n generalizing v with
  | zero => rfl
  | succ n ih => simp [le, ih]

/-- Bytes that spell a number read back as it, but for what is beyond them (R7). -/
theorem ofLe_le (n v : Nat) : ofLe (le n v) = v % 256 ^ n := by
  induction n generalizing v with
  | zero => simp [le, ofLe, Nat.mod_one]
  | succ n ih => simp [le, ofLe, ih, Nat.pow_succ', Nat.mod_mul]

/-- A byte string written reads back whole. -/
theorem Mem.readN_writeN (m : Mem) (a : Nat) (l : List Byte) (h : m.wf = true) : (m.writeN a l).readN a l.length = l := by
  refine List.ext_getElem (by simp [Mem.readN]) fun i _ hi => ?_
  simp [Mem.readN, Mem.read_writeN_in m a i l h hi, hi]

/-- A word written reads back. -/
theorem Mem.read32_write32 (m : Mem) (a : Nat) (v : BitVec 32) (h : m.wf = true) : (m.write32 a v).read32 a = v := by
  have hbytes : (m.write32 a v).readN a 4 = le 4 v.toNat := by
    exact m.readN_writeN a (le 4 v.toNat) h
  rw [Mem.read32, hbytes, ofLe_le]
  exact BitVec.eq_of_toNat_eq (by simp [v.isLt])

/-- A memory in which a word was written holds it, and every byte outside it as before. -/
theorem Mem.holds_write32 {m m' : Mem} {a : Nat} {v : BitVec 32} (h : m.wf = true) (hm' : m' = m.write32 a v) :
    m'.read32 a = v ∧ ∀ x, x < a ∨ a + 4 ≤ x → m'.read x = m.read x := by
  subst hm'
  exact ⟨m.read32_write32 a v h, fun x hx => m.read_writeN_out a x (le 4 v.toNat) h (by rwa [length_le])⟩

/-! Moves. -/

/-- Moves write XMEM by a store of move X only. -/
theorem DspCore.moves_xmem (k r : DspCore) (x y : DspMove) (free : Nat) : (k.moves r x y free).xmem =
    if x.mod != 7 && x.store then k.xmem.write32 (k.addrP x.p).toNat (k.readD x.d) else r.xmem := by
  simp [DspCore.moves, apply_ite DspCore.xmem]

/-- Moves write YMEM by a store of move Y only. -/
theorem DspCore.moves_ymem (k r : DspCore) (x y : DspMove) (free : Nat) : (k.moves r x y free).ymem =
    if y.mod != 7 && y.store then k.ymem.write32 (k.addrP y.p).toNat (k.readD y.d) else r.ymem := by
  simp [DspCore.moves, apply_ite DspCore.ymem]

/-- Settles O53: what a load leaves to land is all that the core finds landed after the next instruction. -/
theorem loadsAreSeenFromTheSecond : Obligations.LoadsAreSeenFromTheSecond := by
  intro core d p s i k hruns hinv hlate
  obtain ⟨t, free, hexec, hdata⟩ := exec_worked (row := .dspMoveLoad core false d p 0 {} {} {} {} .good) rfl hruns
  have hrunning : (t.core core).inv.isSome = true := running_of_exec rfl hruns hexec hinv
  have hd : (t.core core).d = k.d := hdata.d.trans (DspCore.settled_of_late_nil hlate)
  have hlateNext : (t.core core).late = [(physD k.rrb d, k.xmem.read32 (k.addrP p).toNat)] := hdata.late
  refine ⟨t, hexec, hd, fun hnop => ?_⟩
  obtain ⟨u, hexecNop, hdataNop⟩ := exec_sameData (row := .dspNop core 0 0 0 {}) rfl (fun _ => .refl _) hnop
  have hsettled : (u.core core).d = (issuer core t).settled := hdataNop.d
  refine ⟨u, hexecNop, ?_⟩
  rw [hsettled, issuer_running hrunning, DspCore.settled, hlateNext, hd]
  rfl

/-- Settles O54: the memory of the move is written at its one word, the other memory by no move. -/
theorem storesWriteOneWord : Obligations.StoresWriteOneWord := by
  intro core d p mod s k a hx hy
  refine ⟨fun hruns hmod => ?_, fun hruns hmod => ?_⟩
  · obtain ⟨t, free, hexec, hdata⟩ := exec_worked (row := .dspMoveStore core false d p mod {} {} {} {} .good) rfl hruns
    have hxmem : (t.core core).xmem = k.xmem.write32 a (k.readD d) :=
      (hdata.xmem.trans (k.moves_xmem _ _ _ _)).trans (if_pos (by simpa using hmod))
    have hymem : (t.core core).ymem = k.ymem := hdata.ymem.trans (k.moves_ymem _ _ _ _)
    obtain ⟨hword, hout⟩ := Mem.holds_write32 hx hxmem
    exact ⟨t, hexec, hword, hout, fun x => by rw [hymem]⟩
  · obtain ⟨t, free, hexec, hdata⟩ := exec_worked (row := .dspMoveStore core true d p mod {} {} {} {} .good) rfl hruns
    have hymem : (t.core core).ymem = k.ymem.write32 a (k.readD d) :=
      (hdata.ymem.trans (k.moves_ymem _ _ _ _)).trans (if_pos (by simpa using hmod))
    have hxmem : (t.core core).xmem = k.xmem := hdata.xmem.trans (k.moves_xmem _ _ _ _)
    obtain ⟨hword, hout⟩ := Mem.holds_write32 hy hymem
    exact ⟨t, hexec, hword, hout, fun x => by rw [hxmem]⟩

end Sys2Proof.Machine
end

section
/-! PROOFS. Control on the DSP, and kernel faults: delay slots, empty loops, the bounds of loops and stack (R324, R325), and
that a fault ends the invocation and nothing else (R319, R335). -/

namespace Sys2Proof.Machine

/-! Where control goes. -/

/-- The instruction of a branch is followed by the next one, the first delay slot. -/
theorem DspCore.advancePc_branch {k r : DspCore} {target : Nat} (hrep : k.rep = none) (hdelay : k.delay = none)
    (hbranch : r.delay = some (2, some target)) : (k.advancePc r none).1 = { r with hold := false, pc := k.pc + 1 } := by
  simp [DspCore.advancePc, hrep, hdelay, hbranch]

/-- The first delay slot is followed by the second. -/
theorem DspCore.advancePc_firstSlot {k r : DspCore} {target : Nat} (jump : Option Nat) (hrep : k.rep = none)
    (hdelay : k.delay = some (2, some target)) :
    (k.advancePc r jump).1 = { r with hold := false, delay := some (1, some target), pc := k.pc + 1 } := by
  simp [DspCore.advancePc, hrep, hdelay]

/-- The second delay slot is followed by the target. -/
theorem DspCore.advancePc_lastSlot {k r : DspCore} {target : Nat} (jump : Option Nat) (hrep : k.rep = none)
    (hdelay : k.delay = some (1, some target)) : (k.advancePc r jump).1.pc = target := by
  simp [DspCore.advancePc, hrep, hdelay]

/-- A jump outside every loop goes to its index. -/
theorem DspCore.advancePc_jump {k r : DspCore} {target : Nat} (hrep : k.rep = none) (hdelay : k.delay = none)
    (hloops : r.loops = []) :
    (k.advancePc r (some (target + 1))).1 = { r with hold := false, pc := target + 1 } := by
  simp [DspCore.advancePc, DspCore.loopEnd, hrep, hdelay, hloops]

/-- A control instruction stands in no delay slot and under no repeat (R324, R327). -/
theorem Issues.ctrl_free {core op cond cnt addr : Nat} {s : State} (h : Issues core (.ctrl op cond cnt addr) s) :
    (issuer core s).delay = none ∧ (issuer core s).rep = none := by
  simpa [DspCore.misplaced] using h.placed

/-- An immediate instruction stands under no repeat (R327). -/
theorem Issues.imm_free {core op dst src v : Nat} {s : State} (h : Issues core (.imm op dst src v) s) :
    (issuer core s).rep = none := by
  simpa [DspCore.misplaced] using h.placed

/-- A kernel fault of an instruction that a core issues, with the one cycle it took. -/
theorem exec_of_fault {row : Instr} {core cause : Nat} {i : DspIns} {s : State} (hrow : dspOf row = some (core, i, 0))
    (hissues : dspIssues core i s = true) (hfault : ∀ free, ((issuer core s).execIns i free).2 = (.fault cause, 1)) :
    exec row s = .next (((s.enterInvocation core).free.2.dspCycles core 1).kernelFault core cause) := by
  rw [exec_of_dspOf hrow, (issues_of_dspIssues hissues).dspIssue_eq]
  unfold State.dspRun
  have hend : (((s.enterInvocation core).core core).execIns i (s.enterInvocation core).free.1).2 = (.fault cause, 1) :=
    hfault _
  simp only [hend]

/-- BR puts its target behind two delay slots and goes on to the first. -/
theorem DspCore.execIns_br {k : DspCore} (a free : Nat) (hrep : k.rep = none) (hdelay : k.delay = none) :
    (k.execIns (.ctrl 1 0 0 a) free).1 =
      { k.landed with delay := some (2, some a), hold := false, pc := k.pc + 1 } :=
  advancePc_branch hrep hdelay rfl

/-- Outside every loop a LOOP of count 0 goes past its end. -/
theorem DspCore.execIns_emptyLoop {k : DspCore} (cond a free : Nat) (hrep : k.rep = none) (hdelay : k.delay = none)
    (hloops : k.loops = []) :
    (k.execIns (.ctrl 5 cond 0 a) free).1 = { k.landed with hold := false, pc := a + 1 } := by
  have hloop : k.ctrlIns k.landed 5 cond 0 a = (k.landed, some (a + 1), .on) := by simp [DspCore.ctrlIns, hloops]
  rw [execIns_ctrl, hloop, if_pos rfl]
  exact advancePc_jump hrep hdelay hloops

/-- BR executes its two delay slots, which LDI.D may stand in, and then its target (R324). -/
theorem branch_delaySlots {core a v : Nat} {s t u w : State} (hinv : (issuer core s).inv.isSome = true)
    (hbr : dspRuns core (.ctrl 1 0 0 a) s = true) (hexecBr : exec (.dspBr core 0 0 a {}) s = .next t)
    (hfirst : dspRuns core (.imm 0 0 0 v) t = true) (hexecFirst : exec (.dspLdiD core 0 0 v {}) t = .next u)
    (hlast : dspRuns core (.imm 0 0 0 v) u = true) (hexecLast : exec (.dspLdiD core 0 0 v {}) u = .next w) :
    (t.core core).pc = (issuer core s).pc + 1 ∧ (u.core core).pc = (issuer core s).pc + 2 ∧ (w.core core).pc = a := by
  obtain ⟨hdelay, hrep⟩ := (issues_and_on_of_dspRuns hbr).1.ctrl_free
  have hrunT := running_of_exec rfl hbr hexecBr hinv
  have hrunU := running_of_exec rfl hfirst hexecFirst (by rwa [issuer_running hrunT])
  have hrepT := (issues_and_on_of_dspRuns hfirst).1.imm_free
  have hrepU := (issues_and_on_of_dspRuns hlast).1.imm_free
  obtain ⟨_, _, _, -, hcoreT⟩ := core_of_exec rfl hbr hexecBr
  obtain ⟨_, _, _, -, hcoreU⟩ := core_of_exec rfl hfirst hexecFirst
  obtain ⟨_, _, _, -, hcoreW⟩ := core_of_exec rfl hlast hexecLast
  rw [DspCore.execIns_br a _ hrep hdelay] at hcoreT
  have hdelayT : (issuer core t).delay = some (2, some a) := by rw [issuer_running hrunT, hcoreT]
  rw [DspCore.execIns_imm, DspCore.goesOn, DspCore.advancePc_firstSlot none hrepT hdelayT] at hcoreU
  have hdelayU : (issuer core u).delay = some (1, some a) := by rw [issuer_running hrunU, hcoreU]
  refine ⟨by rw [hcoreT], ?_, ?_⟩
  · rw [hcoreU, issuer_running hrunT, hcoreT]
  · rw [hcoreW]
    exact DspCore.advancePc_lastSlot none hrepU hdelayU

/-- Settles O55: each rule is an equation of the core's control, for an instruction that stands where it may. -/
theorem controlFollowsItsRules : Obligations.ControlFollowsItsRules := by
  refine ⟨fun core a v s t u w hinv hbr hexecBr hfirst hexecFirst hlast hexecLast =>
    branch_delaySlots hinv hbr hexecBr hfirst hexecFirst hlast hexecLast, fun core cond a s hruns hloops => ?_,
    fun core cond cnt a s => ⟨fun hissues hfull => ?_, fun hissues hfull => ?_, fun hissues hempty => ?_⟩⟩
  · obtain ⟨hdelay, hrep⟩ := (issues_and_on_of_dspRuns hruns).1.ctrl_free
    have hexec := exec_of_dspRuns (row := .dspLoop core cond 0 a {}) rfl hruns
    obtain ⟨_, _, _, -, hcore⟩ := core_of_exec rfl hruns hexec
    rw [DspCore.execIns_emptyLoop cond a _ hrep hdelay hloops] at hcore
    exact ⟨_, hexec, by rw [hcore], by rw [hcore]; exact hloops⟩
  · refine exec_of_fault rfl hissues fun free => ?_
    simp [DspCore.execIns_ctrl, DspCore.ctrlIns, hfull]
  · refine exec_of_fault rfl hissues fun free => ?_
    simp [DspCore.execIns_ctrl, DspCore.ctrlIns, hfull]
  · refine exec_of_fault rfl hissues fun free => ?_
    simp [DspCore.execIns_ctrl, DspCore.ctrlIns, hempty]

/-! Kernel faults. -/

/-- A kernel fault leaves its core without its invocation and otherwise as it was. -/
theorem core_kernelFault {s : State} {core : Nat} {v : Invocation} (cause : Nat) (hinv : (s.core core).inv = some v) :
    (s.kernelFault core cause).core core = { s.core core with inv := none } :=
  ((kernelFault_spares cause hinv).core_eq core).trans (s.core_setCore_self core _)

/-- Settles O56: a fault only ends the invocation, and the instruction that a core fetches and may not run is a fault of
cause 1. -/
theorem kernelFaultsSpareTheCore : Obligations.KernelFaultsSpareTheCore := by
  refine ⟨fun core cause v s hinv => ⟨?_, (kernelFault_spares cause hinv).units⟩,
    fun row core i rsv v s hrow hcore hinv hpc hfetched hbad => ?_⟩
  · rw [core_kernelFault cause hinv]
  · have hcode : ∀ w, invOn core s = some w → (issuer core s).pc < w.code := fun w hw => by
      cases hinv.symm.trans hw
      exact hpc
    have hfault : (rsv ≠ 0 || !i.legal || (issuer core s).misplaced i) = true := by
      simpa [or_assoc] using hbad
    have hexec : exec row s = .next ((s.enterInvocation core).kernelFault core 1) := by
      rw [exec_of_dspOf hrow, dspIssue_fetched hcore hcode hfetched, if_pos hfault]
    have hafter := core_kernelFault 1 hinv
    exact ⟨_, hexec, congrArg DspCore.inv hafter,
      (kernelFault_spares 1 hinv).units.trans (enterInvocation_units s core), (congrArg DspCore.xmem hafter :),
      (congrArg DspCore.ymem hafter :), (congrArg DspCore.d hafter :)⟩

end Sys2Proof.Machine
end

section
/-! PROOFS. The way from the serving modes to STANDBY: open only while no conference of any tenant exists (R686,
Table 21-2). -/

namespace Sys2Proof.Machine

/-- A taken command whose body fails completes with the status of the failure (R136). -/
theorem runBelex_fail {opc : Nat} {body : Body} {c : Cmd} {s u : State} {sts : Nat} (h : takes opc c s = true)
    (hne : sts ≠ stAccepted)
    (hb : body (replyTo (s.advance c.at_) opc c 0) c (s.advance c.at_) = .fail u sts) :
    runBelex opc body c s = .next (u.complete (replyTo (s.advance c.at_) opc c 0) sts []) := by
  rw [runBelex_takes h]
  simp [hb, Res.fail, hne]

/-- From SERVICE or DEGRADED the request for STANDBY turns on the conferences alone (R686). -/
theorem State.modeTarget_standby {s : State} {c : Cmd} (hmode : s.sys.mode = .service ∨ s.sys.mode = .degraded)
    (htarget : c.u 0 1 = 5) (hzero : c.zero 1 3 = true) :
    s.modeTarget c = if s.confs.isEmpty then .ok .standby else .error stModeBusy := by
  obtain hservice | hdegraded := hmode
  · simp [State.modeTarget, htarget, hzero, hservice]
  · simp [State.modeTarget, htarget, hzero, hdegraded]

/-- A MODE_SET that may enter its mode completes with DONE in that mode (Table 21-2). -/
theorem modeSet_enters {c : Cmd} {s : State} {m : Mode} (h : takes 0x0000 c s = true)
    (hok : (s.advance c.at_).modeTarget c = .ok m) :
    Does 0x0000 (.modeSet c) c s ((s.advance c.at_).setMode m 0 0) [] :=
  runBelex_ok (body := bodyModeSet) h (by simp [bodyModeSet, hok])

/-- A MODE_SET that is refused raises event 9 and completes with the status of the refusal (R700). -/
theorem modeSet_refused {c : Cmd} {s : State} {sts : Nat} (h : takes 0x0000 c s = true) (hne : sts ≠ stAccepted)
    (herror : (s.advance c.at_).modeTarget c = .error sts) :
    exec (.modeSet c) s = .next (((s.advance c.at_).raise 9 0 (le 1 (c.u 0 1) ++ le 2 sts)).complete
      (replyTo (s.advance c.at_) 0x0000 c 0) sts []) :=
  runBelex_fail (body := bodyModeSet) h hne (by simp [bodyModeSet, herror])

/-- Settles O46: the conferences decide between the two ends that Table 21-2 leaves to this request. -/
theorem standbyNeedsNoConference : Obligations.StandbyNeedsNoConference := by
  intro c s htakes htarget hzero hmode s'
  have hdecided : s'.modeTarget c = if s.confs.isEmpty then .ok .standby else .error stModeBusy :=
    State.modeTarget_standby hmode htarget hzero
  refine ⟨fun hconfs => ?_, fun hnone => ?_⟩
  · have hbusy : s'.modeTarget c = .error stModeBusy := by simpa [hconfs] using hdecided
    simpa only [htarget] using modeSet_refused htakes (by decide) hbusy
  · have hopen : s'.modeTarget c = .ok .standby := by simpa [hnone] using hdecided
    exact modeSet_enters htakes hopen

end Sys2Proof.Machine
end

section
/-! PROOFS. The JTAG port: which of its instructions are in force while RESET_N is high and while it is low (R760, R761). -/

namespace Sys2Proof.Machine

/-- The state with another JTAG instruction in force. -/
def State.setJtag (s : State) (ins : Nat) : State :=
  { s with host := { s.host with mgmt := { s.host.mgmt with jtag := ins } } }

/-- An instruction that the port has comes into force, EXTEST as BYPASS while RESET_N is high; it is no detection (R760). -/
theorem jtagInstructionSelect_permitted (t : Nat) {ins : Nat} (s : State) (hhas : ins < 4) :
    exec (.jtagInstructionSelect t ins) s =
      .next ((s.advance t).setJtag (if ins = 3 ∧ s.sys.resetN = true then 0 else ins)) := by
  change execJtagInstructionSelect t ins s = _
  simp [execJtagInstructionSelect, State.setJtag, hhas]

/-- Settles O47: EXTEST and BYPASS are instructions of the port, and the level of RESET_N decides which EXTEST is. -/
theorem extestNeedsReset : Obligations.ExtestNeedsReset := by
  intro t s s' with_
  have hextest := jtagInstructionSelect_permitted t (ins := 3) s (by decide)
  have hbypass := jtagInstructionSelect_permitted t (ins := 0) s (by decide)
  refine ⟨fun hlow => ?_, fun hhigh => ⟨?_, ?_⟩⟩
  · rwa [if_neg (by simp [hlow])] at hextest
  · rwa [if_pos ⟨rfl, hhigh⟩] at hextest
  · rwa [if_neg (by simp)] at hbypass

end Sys2Proof.Machine
end

section
/-! PROOFS. The encoding of DSP instructions: what a legal field fits into, and that its place in the word gives it back
(Tables 08-3 to 08-5). -/

namespace Sys2Proof.Machine

/-- A field of a word, as a quotient and a remainder. -/
theorem bits_eq_div_mod (x hi lo : Nat) : bits x hi lo = x / 2 ^ lo % 2 ^ (hi + 1 - lo) := by
  rw [bits, Nat.shiftRight_eq_div_pow]

theorem bit_eq_div_mod (x i : Nat) : bit x i = (x / 2 ^ i % 2 == 1) := by
  rw [bit, Nat.shiftRight_eq_div_pow]

/-- The fields of a legal slot fit their places (Table 08-4). -/
theorem slotLegal_bounds {o : DspSlot} (h : slotLegal o = true) : o.op < 16 ∧ o.acc < 8 ∧ o.a < 16 ∧ o.b < 16 := by
  unfold slotLegal at h
  simp only [Bool.and_eq_true, decide_eq_true_eq] at h
  obtain ⟨⟨⟨hacc, ha⟩, hb⟩, hop⟩ := h
  refine ⟨?_, hacc, ha, hb⟩
  split at hop <;> grind

/-- The fields of a legal move fit their places (Table 08-5). -/
theorem moveLegal_bounds {m : DspMove} (h : moveLegal m = true) : m.d < 32 ∧ m.p < 16 ∧ m.mod < 8 := by
  unfold moveLegal at h
  simp only [Bool.and_eq_true, decide_eq_true_eq] at h
  obtain ⟨⟨hd, hp⟩, hmod⟩ := h
  refine ⟨hd, hp, ?_⟩
  split at hmod <;> grind

theorem slotWord_lt {o : DspSlot} (h : slotLegal o = true) : slotWord o < 2 ^ 15 := by
  obtain ⟨hop, hacc, ha, hb⟩ := slotLegal_bounds h
  unfold slotWord
  omega

theorem moveWord_lt {m : DspMove} (h : moveLegal m = true) : moveWord m < 2 ^ 15 := by
  obtain ⟨hd, hp, hmod⟩ := moveLegal_bounds h
  have hstore : b2n m.store < 2 := by cases m.store <;> decide
  unfold moveWord
  omega

/-- The bits of a slot's word are its fields. -/
theorem slotOfBits_slotWord {o : DspSlot} (h : slotLegal o = true) : slotOfBits (slotWord o) = o := by
  obtain ⟨hop, hacc, ha, hb⟩ := slotLegal_bounds h
  obtain ⟨op, acc, a, b⟩ := o
  simp only [slotOfBits, slotWord, bits_eq_div_mod, DspSlot.mk.injEq] at *
  omega

/-- The top bit of a word is the flag stored there. -/
theorem bit_b2n_mul_add (f : Bool) {n i : Nat} (h : n < 2 ^ i) : bit (b2n f * 2 ^ i + n) i = f := by
  have hquotient : (b2n f * 2 ^ i + n) / 2 ^ i = b2n f := by
    rw [Nat.mul_comm, Nat.mul_add_div (by positivity), Nat.div_eq_of_lt h, Nat.add_zero]
  rw [bit_eq_div_mod, hquotient]
  cases f <;> rfl

/-- The bits of a move's word are its fields. -/
theorem moveOfBits_moveWord {m : DspMove} (h : moveLegal m = true) : moveOfBits (moveWord m) = m := by
  obtain ⟨hd, hp, hmod⟩ := moveLegal_bounds h
  obtain ⟨store, d, p, mod⟩ := m
  have hstore : bit (moveWord ⟨store, d, p, mod⟩) 14 = store := by
    have hrest : d * 512 + p * 32 + mod * 4 < 2 ^ 14 := by dsimp only at hd hp hmod; omega
    rw [moveWord, Nat.add_assoc, Nat.add_assoc]
    exact bit_b2n_mul_add (i := 14) store (by rwa [← Nat.add_assoc])
  simp only [moveOfBits, hstore, moveWord, bits_eq_div_mod, DspMove.mk.injEq, true_and] at *
  omega

/-- The reserved bits of a move field are 0 in a move's word. -/
theorem moveWord_mod_four (m : DspMove) : moveWord m % 4 = 0 := by
  unfold moveWord
  omega

/-- The fields of a DUAL word, as numbers. -/
theorem bits_dualWord {w p q r t : Nat} (hw : w = p * 2 ^ 46 + q * 2 ^ 31 + r * 2 ^ 16 + t * 2) (hp : p < 2 ^ 15)
    (hq : q < 2 ^ 15) (hr : r < 2 ^ 15) (ht : t < 2 ^ 15) (hr4 : r % 4 = 0) (ht4 : t % 4 = 0) :
    bits w 63 61 = 0 ∧ bit w 0 = false ∧ bits w 17 16 = 0 ∧ bits w 2 1 = 0 ∧
      bits w 60 46 = p ∧ bits w 45 31 = q ∧ bits w 30 16 = r ∧ bits w 15 1 = t := by
  simp only [hw, bits_eq_div_mod, bit_eq_div_mod, beq_eq_false_iff_ne]
  omega

/-- A DUAL word decodes to its two slots and its two moves. -/
theorem dspDecode_dual {a b : DspSlot} {x y : DspMove} (ha : slotLegal a = true) (hb : slotLegal b = true)
    (hx : moveLegal x = true) (hy : moveLegal y = true) :
    dspDecode (DspIns.dual a b x y).word = some (.dual a b x y) := by
  obtain ⟨hformat, hbit, hreserved, hreserved', hfields⟩ := bits_dualWord (w := (DspIns.dual a b x y).word) rfl
    (slotWord_lt ha) (slotWord_lt hb) (moveWord_lt hx) (moveWord_lt hy) (moveWord_mod_four x) (moveWord_mod_four y)
  simp [dspDecode, hformat, hbit, hreserved, hreserved', hfields, slotOfBits_slotWord ha,
    slotOfBits_slotWord hb, moveOfBits_moveWord hx, moveOfBits_moveWord hy]

theorem immLegal_bounds {op dst src v : Nat} (h : immLegal op dst src v = true) :
    op < 64 ∧ dst < 32 ∧ src < 32 ∧ v < 2 ^ 32 := by
  unfold immLegal at h
  simp only [Bool.and_eq_true, decide_eq_true_eq] at h
  obtain ⟨⟨⟨hdst, hsrc⟩, hv⟩, hop⟩ := h
  refine ⟨?_, hdst, hsrc, hv⟩
  split at hop <;> grind

/-- An immediate word decodes to its operation, its registers and its value. -/
theorem dspDecode_imm {op dst src v : Nat} (h : immLegal op dst src v = true) :
    dspDecode (DspIns.imm op dst src v).word = some (.imm op dst src v) := by
  obtain ⟨hop, hdst, hsrc, hv⟩ := immLegal_bounds h
  obtain ⟨hformat, hzero, hops⟩ : bits (DspIns.imm op dst src v).word 63 61 = 1 ∧
      bits (DspIns.imm op dst src v).word 44 32 = 0 ∧
      (bits (DspIns.imm op dst src v).word 60 55 = op ∧ bits (DspIns.imm op dst src v).word 54 50 = dst ∧
        bits (DspIns.imm op dst src v).word 49 45 = src ∧ bits (DspIns.imm op dst src v).word 31 0 = v) := by
    simp only [DspIns.word, bits_eq_div_mod]
    omega
  simp [dspDecode, hformat, hzero, hops]

theorem ctrlLegal_bounds {op cond cnt addr : Nat} (h : ctrlLegal op cond cnt addr = true) :
    op < 32 ∧ cond < 16 ∧ cnt < 2 ^ 16 ∧ addr < 2 ^ 32 := by
  unfold ctrlLegal at h
  simp only [Bool.and_eq_true, decide_eq_true_eq] at h
  obtain ⟨⟨⟨hcond, hcnt⟩, haddr⟩, hop⟩ := h
  refine ⟨?_, hcond, hcnt, haddr⟩
  split at hop <;> grind

/-- A control word decodes to its operation, its condition, its count and its address. -/
theorem dspDecode_ctrl {op cond cnt addr : Nat} (h : ctrlLegal op cond cnt addr = true) :
    dspDecode (DspIns.ctrl op cond cnt addr).word = some (.ctrl op cond cnt addr) := by
  obtain ⟨hop, hcond, hcnt, haddr⟩ := ctrlLegal_bounds h
  obtain ⟨hformat, hzero, hops⟩ : bits (DspIns.ctrl op cond cnt addr).word 63 61 = 2 ∧
      bits (DspIns.ctrl op cond cnt addr).word 51 48 = 0 ∧
      (bits (DspIns.ctrl op cond cnt addr).word 60 56 = op ∧ bits (DspIns.ctrl op cond cnt addr).word 55 52 = cond ∧
        bits (DspIns.ctrl op cond cnt addr).word 47 32 = cnt ∧
          bits (DspIns.ctrl op cond cnt addr).word 31 0 = addr) := by
    simp only [DspIns.word, bits_eq_div_mod]
    omega
  simp [dspDecode, hformat, hzero, hops]

theorem aluLegal_bounds {op dst a b sh acc : Nat} (h : aluLegal op dst a b sh acc = true) :
    op < 64 ∧ dst < 32 ∧ a < 32 ∧ b < 32 ∧ sh < 64 ∧ acc < 8 := by
  unfold aluLegal at h
  simp only [Bool.and_eq_true, decide_eq_true_eq] at h
  obtain ⟨⟨⟨⟨⟨hdst, ha⟩, hb⟩, hsh⟩, hacc⟩, hop⟩ := h
  refine ⟨?_, hdst, ha, hb, hsh, hacc⟩
  split at hop <;> grind

/-- The fields of an ALU word, with its move field as a number. -/
theorem bits_aluWord {w op dst a b sh acc m : Nat}
    (hw : w = 3 * 2 ^ 61 + op * 2 ^ 55 + dst * 2 ^ 50 + a * 2 ^ 45 + b * 2 ^ 40 + sh * 2 ^ 34 + acc * 2 ^ 31 +
      m * 2 ^ 16)
    (hop : op < 64) (hdst : dst < 32) (ha : a < 32) (hb : b < 32) (hsh : sh < 64) (hacc : acc < 8) (hm : m < 2 ^ 15)
    (hm4 : m % 4 = 0) :
    bits w 63 61 = 3 ∧ bits w 15 0 = 0 ∧ bits w 17 16 = 0 ∧ bits w 60 55 = op ∧ bits w 54 50 = dst ∧
      bits w 49 45 = a ∧ bits w 44 40 = b ∧ bits w 39 34 = sh ∧ bits w 33 31 = acc ∧ bits w 30 16 = m := by
  simp only [hw, bits_eq_div_mod]
  omega

/-- An ALU word decodes to its operation, its fields and its move. -/
theorem dspDecode_alu {op dst a b sh acc : Nat} {x : DspMove} (h : aluLegal op dst a b sh acc = true)
    (hx : moveLegal x = true) :
    dspDecode (DspIns.alu op dst a b sh acc x).word = some (.alu op dst a b sh acc x) := by
  obtain ⟨hop, hdst, ha, hb, hsh, hacc⟩ := aluLegal_bounds h
  obtain ⟨hformat, hlow, hreserved, hfields⟩ :=
    bits_aluWord (w := (DspIns.alu op dst a b sh acc x).word) rfl hop hdst ha hb hsh hacc (moveWord_lt hx)
      (moveWord_mod_four x)
  simp [dspDecode, hformat, hlow, hreserved, hfields, moveOfBits_moveWord hx]

/-- Settles O58: format by format, each field of a legal instruction fits its place in the word and is read back from
it. -/
theorem dspWordsDecode : Obligations.DspWordsDecode := by
  intro i hlegal
  cases i with
  | dual a b x y =>
    simp only [DspIns.legal, Bool.and_eq_true] at hlegal
    obtain ⟨⟨⟨⟨⟨ha, hb⟩, hx⟩, hy⟩, -⟩, -⟩ := hlegal
    exact dspDecode_dual ha hb hx hy
  | imm op dst src v => exact dspDecode_imm hlegal
  | ctrl op cond cnt addr => exact dspDecode_ctrl hlegal
  | alu op dst a b sh acc x =>
    simp only [DspIns.legal, Bool.and_eq_true] at hlegal
    obtain ⟨⟨halu, hx⟩, -⟩ := hlegal
    exact dspDecode_alu halu hx

end Sys2Proof.Machine
end

section
/-! PROOFS. What the completions of Belex commands share: the lengths of their payloads, that an object named exists,
and that the instant of a command moves Device Time alone. -/

namespace Sys2Proof.Machine

@[simp] theorem length_zeros (n : Nat) : (zeros n).length = n := List.length_replicate

@[simp] theorem length_leI (n : Nat) (v : Int) : (leI n v).length = n := length_le n _

@[simp] theorem length_be (n v : Nat) : (be n v).length = n := by simp [be, length_le]

@[simp] theorem length_padTo (n : Nat) (l : List Byte) : (padTo n l).length = n := by
  simp [padTo, zeros]
  omega

/-- Table 03-1: a list of integers takes the width of each for every entry. -/
theorem length_flatMap_le (n : Nat) (l : List Nat) : (l.flatMap (le n)).length = n * l.length := by
  simp [List.length_flatMap, length_le, Nat.mul_comm]

/-- A mix group named by a taken command exists (R13). -/
theorem takes_group {opc : Nat} {c : Cmd} {s : State} {o : OpInfo} (h : takes opc c s = true) (ho : opInfo opc = some o)
    (hobjs : o.objs = [8]) : ∃ x, s.group (hIdx c.obj) = some x := by
  obtain ⟨-, howner⟩ := takes_object o ho hobjs h
  cases hgroup : tget s.aud.groups (hIdx c.obj) with
  | none => simp [State.owner, hgroup] at howner
  | some x => exact ⟨x, hgroup⟩

/-- A guard whose condition holds lets the command through. -/
theorem guard_passes {α : Type} {b : Bool} {x y : α} (h : b = true) : (if (!b) = true then x else y) = y := by simp [h]

/-! Objects named by a taken command exist (R13). -/

variable {opc : Nat} {c : Cmd} {s : State} {o : OpInfo}

theorem takes_conf (h : takes opc c s = true) (ho : opInfo opc = some o) (hobjs : o.objs = [1]) :
    ∃ k, s.conf (hIdx c.obj) = some k := by
  obtain ⟨-, howner⟩ := takes_object o ho hobjs h
  simpa [State.owner, Option.isSome_iff_exists] using howner

theorem takes_leg (h : takes opc c s = true) (ho : opInfo opc = some o) (hobjs : o.objs = [2]) :
    ∃ l, s.leg (hIdx c.obj) = some l := by
  obtain ⟨-, howner⟩ := takes_object o ho hobjs h
  simpa [State.owner, Option.isSome_iff_exists] using howner

theorem takes_flow (h : takes opc c s = true) (ho : opInfo opc = some o) (hobjs : o.objs = [3]) :
    ∃ f, s.flow (hIdx c.obj) = some f := by
  obtain ⟨-, howner⟩ := takes_object o ho hobjs h
  simpa [State.owner, Option.isSome_iff_exists] using howner

/-! The instant of a command reaches none of the tables (log entry 7). -/

@[simp] theorem State.conf_advance (s : State) (t i : Nat) : (s.advance t).conf i = s.conf i := rfl
@[simp] theorem State.leg_advance (s : State) (t i : Nat) : (s.advance t).leg i = s.leg i := rfl
@[simp] theorem State.flow_advance (s : State) (t i : Nat) : (s.advance t).flow i = s.flow i := rfl
@[simp] theorem State.legsOf_advance (s : State) (t i : Nat) : (s.advance t).legsOf i = s.legsOf i := rfl
@[simp] theorem State.reservesWith_advance (s : State) (t p i : Nat) (q : Quota) :
    (s.advance t).reservesWith p i q = s.reservesWith p i q := rfl
@[simp] theorem State.flowConf_advance (s : State) (t i : Nat) : (s.advance t).flowConf i = s.flowConf i := rfl
@[simp] theorem State.isClosing_advance (s : State) (t h : Nat) : (s.advance t).isClosing h = s.isClosing h := rfl
@[simp] theorem State.confOf_advance (s : State) (t h : Nat) : (s.advance t).confOf h = s.confOf h := rfl
@[simp] theorem State.group_advance (s : State) (t i : Nat) : (s.advance t).group i = s.group i := rfl
@[simp] theorem State.groupsOf_advance (s : State) (t i : Nat) : (s.advance t).groupsOf i = s.groupsOf i := rfl
@[simp] theorem State.mix_advance (s : State) (t i : Nat) : (s.advance t).mix i = s.mix i := rfl
@[simp] theorem State.mixPlace_advance (s : State) (t i : Nat) : (s.advance t).mixPlace i = s.mixPlace i := rfl
@[simp] theorem State.engineFull_advance (s : State) (t i k : Nat) :
    (s.advance t).engineFull i k = s.engineFull i k := rfl
@[simp] theorem State.kernelNamed_advance (s : State) (t i : Nat) : (s.advance t).kernelNamed i = s.kernelNamed i := rfl
@[simp] theorem State.reserved_advance (s : State) (t i : Nat) : (s.advance t).reserved i = s.reserved i := rfl
@[simp] theorem State.sapInUse_advance (s : State) (t p : Nat) : (s.advance t).sapInUse p = s.sapInUse p := rfl
@[simp] theorem State.sapPort_advance (s : State) (t p : Nat) : (s.advance t).sapPort p = s.sapPort p := rfl
@[simp] theorem State.legMask_advance (s : State) (t p : Nat) (e : Option Nat) :
    (s.advance t).legMask p e = s.legMask p e := rfl
@[simp] theorem State.routeMask_advance (s : State) (t p : Nat) : (s.advance t).routeMask p = s.routeMask p := rfl
@[simp] theorem State.bushelsFit_advance (s : State) (t k n : Nat) :
    (s.advance t).bushelsFit k n = s.bushelsFit k n := rfl

@[simp] theorem State.decRates_advance (s : State) (t : Nat) : (s.advance t).decRates = s.decRates := rfl

@[simp] theorem State.capacity_advance (s : State) (t kind per : Nat) :
    (s.advance t).capacity kind per = s.capacity kind per := rfl

@[simp] theorem State.canvas_advance (s : State) (i : Nat) (t : Nat) : (s.advance t).canvas i = s.canvas i := rfl

@[simp] theorem State.compAdmits_advance (s : State) (except : Option Nat) (r2 : Nat) (t : Nat) :
    (s.advance t).compAdmits except r2 = s.compAdmits except r2 := rfl

@[simp] theorem State.rate2_advance (s : State) (c : Canvas) (layout : List Layer12) (t : Nat) :
    (s.advance t).rate2 c layout = s.rate2 c layout := rfl

@[simp] theorem layoutSts_advance (c : Cmd) (s : State) (v : Canvas) (t : Nat) :
    layoutSts c (s.advance t) v = layoutSts c s v := rfl

@[simp] theorem overlaySts_advance (c : Cmd) (s : State) (v : Canvas) (t : Nat) :
    overlaySts c (s.advance t) v = overlaySts c s v := rfl

@[simp] theorem State.canvasNamed_advance (s : State) (i : Nat) (t : Nat) :
    (s.advance t).canvasNamed i = s.canvasNamed i := rfl

@[simp] theorem encCreateSts_advance (c : Cmd) (s : State) (k : Conf) (v : Canvas) (t : Nat) :
    encCreateSts c (s.advance t) k v = encCreateSts c s k v := rfl

@[simp] theorem encAttachSts_advance (s : State) (e : EncCtx) (f : Flow) (t : Nat) :
    encAttachSts (s.advance t) e f = encAttachSts s e f := rfl

@[simp] theorem State.outputFlow_advance (s : State) (fn conf h : Nat) (t : Nat) :
    (s.advance t).outputFlow fn conf h = s.outputFlow fn conf h := rfl

@[simp] theorem State.encAdmits_advance (s : State) (r12 : Nat) (t : Nat) :
    (s.advance t).encAdmits r12 = s.encAdmits r12 := rfl

@[simp] theorem State.encTask_advance (s : State) (h bits : Nat) (t : Nat) :
    (s.advance t).encTask h bits = s.encTask h bits := rfl

@[simp] theorem decCreateSts_advance (c : Cmd) (s : State) (t : Nat) :
    decCreateSts c (s.advance t) = decCreateSts c s := rfl

@[simp] theorem decBindSts_advance (c : Cmd) (s : State) (d : DecCtx) (t : Nat) :
    decBindSts c (s.advance t) d = decBindSts c s d := rfl

@[simp] theorem State.decNamed_advance (s : State) (i : Nat) (t : Nat) : (s.advance t).decNamed i = s.decNamed i := rfl

@[simp] theorem State.tileNamed_advance (s : State) (i : Nat) (t : Nat) :
    (s.advance t).tileNamed i = s.tileNamed i := rfl

@[simp] theorem State.ladderOk_advance (s : State) (i : Option Nat) (x : Tile) (kbps : Nat) (t : Nat) :
    (s.advance t).ladderOk i x kbps = s.ladderOk i x kbps := rfl

@[simp] theorem gridSts_advance (c : Cmd) (s : State) (n : Nat) (o : Splice) (t : Nat) :
    gridSts c (s.advance t) n o = gridSts c s n o := rfl

@[simp] theorem spliceCreateSts_advance (c : Cmd) (s : State) (f : Flow) (t : Nat) :
    spliceCreateSts c (s.advance t) f = spliceCreateSts c s f := rfl

@[simp] theorem State.bindings_advance (s : State) (t : Nat) : (s.advance t).bindings = s.bindings := rfl

@[simp] theorem State.keyTasks_advance (s : State) (k : Nat) (p : TaskSt → Bool) (t : Nat) :
    (s.advance t).keyTasks k p = s.keyTasks k p := rfl

@[simp] theorem State.entryOf_advance (s : State) (log addr : Nat) (t : Nat) :
    (s.advance t).entryOf log addr = s.entryOf log addr := rfl

@[simp] theorem State.dtlsKeyOf_advance (s : State) (tenant : Nat) (t : Nat) :
    (s.advance t).dtlsKeyOf tenant = s.dtlsKeyOf tenant := rfl

@[simp] theorem checkHandle_advance (s : State) (fn : Nat) (anyTenant : Bool) (types : List Nat) (h : Nat) (t : Nat) :
    checkHandle (s.advance t) fn anyTenant types h = checkHandle s fn anyTenant types h := rfl

@[simp] theorem State.certGen_advance (s : State) (tenant gen : Nat) (t : Nat) :
    (s.advance t).certGen tenant gen = s.certGen tenant gen := rfl

@[simp] theorem State.ownerOf_advance (s : State) (h : Nat) (t : Nat) : (s.advance t).ownerOf h = s.ownerOf h := rfl

@[simp] theorem State.hasJobs_advance (s : State) (h : Nat) (t : Nat) : (s.advance t).hasJobs h = s.hasJobs h := rfl

@[simp] theorem State.slotOf_advance (s : State) (h : Nat) (t : Nat) : (s.advance t).slotOf h = s.slotOf h := rfl

@[simp] theorem State.crypto_advance (s : State) (leg : Nat) (flow : Option Nat) (t : Nat) :
    (s.advance t).crypto leg flow = s.crypto leg flow := rfl

@[simp] theorem State.portProvided_advance (s : State) (n : Nat) (t : Nat) :
    (s.advance t).portProvided n = s.portProvided n := rfl

@[simp] theorem State.castlingIn_advance (s : State) (r : Nat) (t : Nat) :
    (s.advance t).castlingIn r = s.castlingIn r := rfl

@[simp] theorem State.regionUpdating_advance (s : State) (r : Nat) (t : Nat) :
    (s.advance t).regionUpdating r = s.regionUpdating r := rfl

@[simp] theorem State.hubWaits_advance (s : State) (t : Nat) : (s.advance t).hubWaits = s.hubWaits := rfl

@[simp] theorem State.spareOf_advance (s : State) (r : Nat) (t : Nat) : (s.advance t).spareOf r = s.spareOf r := rfl

@[simp] theorem State.inCastling_advance (s : State) (c : Nat) (t : Nat) :
    (s.advance t).inCastling c = s.inCastling c := rfl

@[simp] theorem State.exportFirst_advance (s : State) (c : Cmd) (t : Nat) :
    (s.advance t).exportFirst c = s.exportFirst c := rfl

@[simp] theorem State.slotsOk_advance (s : State) (t p m : Nat) : (s.advance t).slotsOk p m = s.slotsOk p m := rfl
@[simp] theorem State.maskNeeds_advance (s : State) (t i l : Nat) : (s.advance t).maskNeeds i l = s.maskNeeds i l := rfl
@[simp] theorem State.holds_advance (s : State) (t : Nat) : (s.advance t).holds = s.holds := rfl
@[simp] theorem routesOk_advance (s : State) (t p : Nat) (c : Cmd) : routesOk (s.advance t) c p = routesOk s c p := rfl
@[simp] theorem routeEntries_advance (s : State) (t p : Nat) (c : Cmd) :
    routeEntries (s.advance t) c p = routeEntries s c p := rfl

end Sys2Proof.Machine
end

section
/-! PROOFS. What an access to DRAM leaves unchanged: the versions of the other lines (file 16). -/

namespace Sys2Proof.Machine

/-- Steps that each keep what `g` reads keep it together. -/
theorem foldl_keeps {α β : Type} (g : State → β) (f : State → α → State) (h : ∀ s a, g (f s a) = g s) (l : List α)
    (s : State) : g (l.foldl f s) = g s := by
  induction l generalizing s with
  | nil => rfl
  | cons a l ih => exact (ih (f s a)).trans (h s a)

theorem EventsOnly.mem {s t : State} (h : EventsOnly s t) : t.mem = s.mem := by
  obtain ⟨e, fs, r, rfl⟩ := h
  rfl

theorem RepliesOnly.mem {s t : State} (h : RepliesOnly s t) : t.mem = s.mem := by
  obtain ⟨fs, p, rfl⟩ := h
  rfl

@[simp] theorem State.raise_mem (s : State) (src h : Nat) (d : List Byte) : (s.raise src h d).mem = s.mem :=
  (raise_only s src h d).mem

@[simp] theorem State.raiseRec_mem (s : State) (src h : Nat) (d : List Byte) (f t : Bool) :
    (s.raiseRec src h d f t).mem = s.mem :=
  (raiseRec_only s src h d f t).mem

@[simp] theorem State.raiseW_mem (s : State) (src h : Nat) (d : List Byte) : (s.raiseW src h d).mem = s.mem :=
  (raiseW_only s src h d).mem

@[simp] theorem State.raiseWK_mem (s : State) (src k h : Nat) (d : List Byte) : (s.raiseWK src k h d).mem = s.mem :=
  (raiseWK_only s src k h d).mem

@[simp] theorem State.countIn_mem (s : State) (src obj n : Nat) : (s.countIn src obj n).2.mem = s.mem :=
  (countIn_only s src obj n).mem

@[simp] theorem State.complete_mem (s : State) (w : ReplyTo) (sts : Nat) (pay : List Byte) :
    (s.complete w sts pay).mem = s.mem :=
  (complete_only s w sts pay).mem

@[simp] theorem State.finishLong_mem (s : State) (id sts : Nat) (r : List Byte) :
    (s.finishLong id sts r).mem = s.mem := by
  obtain ⟨t, u, hst, htu, hu⟩ := finishLong_only s id sts r
  rw [hu.mem, htu.mem, hst.mem]

@[simp] theorem State.dropLong_mem (s : State) (id : Nat) : (s.dropLong id).mem = s.mem := by
  simp only [State.dropLong, State.finishLong_mem]
  cases s.units.activating with
  | none => rfl
  | some j =>
    dsimp only
    split <;> rfl

@[simp] theorem State.alertUpdate_mem (s : State) : s.alertUpdate.mem = s.mem := by
  simp only [State.alertUpdate]
  split <;> rfl

@[simp] theorem State.endUnaccepted_mem (s : State) : s.endUnaccepted.mem = s.mem := by
  have hdropped (l : Tbl LongCmd) (s : State) : (l.foldl (fun (s : State) p => s.dropLong p.1) s).mem = s.mem :=
    foldl_keeps State.mem (fun (s : State) (p : Nat × LongCmd) => s.dropLong p.1) (fun s p => s.dropLong_mem p.1) l s
  have hreplied (l : Tbl CmdEntry) (s : State) :
      (l.foldl (fun (s : State) p => s.complete p.2.whom stWrongMode []) s).mem = s.mem :=
    foldl_keeps State.mem (fun (s : State) (p : Nat × CmdEntry) => s.complete p.2.whom stWrongMode [])
      (fun s p => s.complete_mem p.2.whom stWrongMode []) l s
  simp only [State.endUnaccepted, hdropped, hreplied]

@[simp] theorem State.regionSkipped_mem (s : State) (region : Nat) : (s.regionSkipped region).mem = s.mem := by
  unfold State.regionSkipped
  split
  · rfl
  · dsimp only
    split
    · rfl
    · exact State.raise_mem _ _ _ _

@[simp] theorem State.abandonCastling_mem (s : State) (region cause sts : Nat) (failed : Bool) :
    (s.abandonCastling region cause sts failed).mem = s.mem := by
  unfold State.abandonCastling
  split
  · rfl
  · dsimp only
    split <;> split <;> simp

@[simp] theorem State.abandonCastlings_mem (s : State) (cause sts : Nat) :
    (s.abandonCastlings cause sts).mem = s.mem := by
  refine foldl_keeps State.mem _ (fun s region => ?_) _ _
  split
  · rfl
  · dsimp only
    split
    · simp
    · split <;> split <;> simp

/-- Self-refresh left keeps the versions of the lines (R560). -/
@[simp] theorem State.srExit_versions (s : State) : s.srExit.mem.versions = s.mem.versions := by
  unfold State.srExit
  split
  · rfl
  · simp

/-- A change of mode keeps the versions of the lines (R681). -/
@[simp] theorem State.setMode_versions (s : State) (new : Mode) (cause closed : Nat) :
    (s.setMode new cause closed).mem.versions = s.mem.versions := by
  simp only [State.setMode, State.alertUpdate_mem, State.endUnaccepted_mem]
  split <;> split <;> split <;> split <;> simp

theorem State.recount_versions (before s : State) : (State.recount before s).mem.versions = s.mem.versions := by
  have hevents (k : List Nat) : (k.foldl (fun (s : State) k => if before.activeUnits k = s.activeUnits k then s
      else s.raise 301 0 (le 1 k ++ le 2 (s.activeUnits k))) s).mem = s.mem := by
    refine foldl_keeps State.mem _ (fun s k => ?_) _ _
    split <;> simp
  simp only [State.recount]
  split
  · rw [State.setMode_versions, hevents]
  · rw [hevents]

/-- A failed unit keeps the versions of the lines (R24, R703). -/
@[simp] theorem State.unitFailed_versions (s : State) (c u cause : Nat) :
    (s.unitFailed c u cause).mem.versions = s.mem.versions := by
  have hretired : (s.retireUnit c u cause).mem.versions = s.mem.versions := by
    simp only [State.retireUnit]
    split
    · rfl
    · simp [State.recount_versions]
  simp only [State.unitFailed]
  grind [State.raiseW_mem]

@[simp] theorem State.modStack_versions (s : State) (k : Nat) (f : Stack → Stack) :
    (s.modStack k f).mem.versions = s.mem.versions := rfl

@[simp] theorem State.modPc_versions (s : State) (k p : Nat) (f : PseudoCh → PseudoCh) :
    (s.modPc k p f).mem.versions = s.mem.versions := rfl

@[simp] theorem State.setLog_versions (s : State) (log : Nat) (l : List LogEntry) :
    (s.setLog log l).mem.versions = s.mem.versions := by
  unfold State.setLog
  split <;> rfl

@[simp] theorem State.modEntry_versions (s : State) (log addr : Nat) (f : LogEntry → LogEntry) :
    (s.modEntry log addr f).mem.versions = s.mem.versions :=
  s.setLog_versions _ _

@[simp] theorem State.logCorrection_versions (s : State) (log addr bitNo : Nat) :
    (s.logCorrection log addr bitNo).mem.versions = s.mem.versions := by
  unfold State.logCorrection
  split
  · simp
  · dsimp only
    split <;> simp

@[simp] theorem State.retirePage_versions (s : State) (addr : Nat) :
    (s.retirePage addr).mem.versions = s.mem.versions := by
  unfold State.retirePage
  dsimp only
  split
  · rfl
  · split
    · simp
    · split <;> simp

@[simp] theorem State.dramCorrected_versions (s : State) (addr bitNo : Nat) :
    (s.dramCorrected addr bitNo).mem.versions = s.mem.versions := by
  unfold State.dramCorrected
  dsimp only
  split <;> split <;> grind [State.retirePage_versions, State.logCorrection_versions, State.raise_mem,
    State.countIn_mem, State.modStack_versions]

@[simp] theorem State.dramPoison_versions (s : State) (addr req : Nat) :
    (s.dramPoison addr req).mem.versions = s.mem.versions := by
  unfold State.dramPoison
  dsimp only
  split <;> simp <;> split <;> rfl

@[simp] theorem State.fetchTrap_versions (s : State) (r : DramReq) : (s.fetchTrap r).mem.versions = s.mem.versions := by
  unfold State.fetchTrap
  split <;> simp

/-- A check of a line's bits keeps the versions of the lines (R572). -/
theorem State.dramCheck_versions (s : State) (r : DramReq) (ecc : Ecc) :
    (s.dramCheck r ecc).2.mem.versions = s.mem.versions := by
  unfold State.dramCheck
  dsimp only
  split
  · simp
  · cases ecc <;> simp

/-- A table whose keys rise has no key up to that of its first entry in its rest. -/
theorem tget_tail_none {α : Type} (j k : Nat) (a : α) (r : Tbl α) (h : twf ((j, a) :: r) = true) (hk : k ≤ j) :
    tget r k = none := by
  induction r generalizing j a with
  | nil => rfl
  | cons q r ih =>
    obtain ⟨i, b⟩ := q
    simp only [twf, Bool.and_eq_true, decide_eq_true_eq] at h
    obtain ⟨hlt, hr⟩ := h
    rw [tget, if_neg (by omega)]
    exact ih i b hr (by omega)

/-- A removal from a table whose keys rise takes the entry away. -/
theorem tget_tdel_self {α : Type} (t : Tbl α) (k : Nat) (h : twf t = true) : tget (tdel t k) k = none := by
  induction t with
  | nil => rfl
  | cons p r ih =>
    obtain ⟨j, a⟩ := p
    rw [tdel]
    split
    · next heq => exact tget_tail_none j k a r h heq.ge
    · next hne =>
      rw [tget, if_neg hne]
      exact ih (by cases r <;> grind [twf])

/-- A write advances the version of its line by one, modulo 2^26, and leaves the others (R561). -/
theorem bumpVersion_version (m : MemState) (line l : Nat) (h : twf m.versions = true) :
    (tget (m.bumpVersion line).versions l).getD 0 =
      if l = line then ((tget m.versions l).getD 0 + 1) % 2 ^ 26 else (tget m.versions l).getD 0 := by
  simp only [MemState.bumpVersion]
  by_cases hl : l = line
  · subst hl
    rw [if_pos rfl]
    split
    · next hzero => rw [tget_tdel_self _ _ h, hzero]; rfl
    · rw [tget_tset_self]; rfl
  · rw [if_neg hl]
    split
    · rw [tget_tdel_ne _ _ _ hl]
    · rw [tget_tset_ne _ _ _ _ hl]

end Sys2Proof.Machine
end

section
/-! PROOFS. The error logs of the SRAMs: what a corrected error leaves in its log (files 08 and 16). -/

namespace Sys2Proof.Machine

theorem mem_insertBy {α : Type} {before : α → α → Bool} {a x : α} {l : List α} :
    x ∈ insertBy before a l ↔ x = a ∨ x ∈ l := by
  induction l with
  | nil => simp [insertBy]
  | cons b r ih => grind [insertBy]

/-- A list put in order keeps its elements. -/
theorem mem_sortBy {α : Type} {before : α → α → Bool} {x : α} {l : List α} : x ∈ sortBy before l ↔ x ∈ l := by
  have hfold (acc : List α) : x ∈ l.foldl (fun acc a => insertBy before a acc) acc ↔ x ∈ acc ∨ x ∈ l := by
    induction l generalizing acc with
    | nil => simp
    | cons a r ih =>
      rw [List.foldl_cons, ih, mem_insertBy]
      grind
  exact (hfold []).trans (by simp)

/-- The first of a list put in order is one of its elements. -/
theorem head_sortBy {α : Type} (before : α → α → Bool) {l : List α} (h : l ≠ []) :
    ∃ x ∈ l, (sortBy before l).head? = some x := by
  obtain ⟨a, ha⟩ := List.exists_mem_of_ne_nil l h
  have hne : sortBy before l ≠ [] := List.ne_nil_of_mem (mem_sortBy.mpr ha)
  exact ⟨_, mem_sortBy.mp (List.head_mem hne), List.head?_eq_some_head hne⟩

/-- A full log names one of its entries to give way (R568). -/
theorem logVictim_mem {l : List LogEntry} (h : l ≠ []) : ∃ e ∈ l, logVictim l = some e.addr := by
  unfold logVictim
  dsimp only
  by_cases hopen : (l.filter fun e => e.st == 0).isEmpty = true
  · obtain ⟨e, he, hhead⟩ := head_sortBy (fun a b : LogEntry => decide (a.last < b.last)) h
    exact ⟨e, he, by rw [if_pos hopen, hhead]; rfl⟩
  · obtain ⟨e, he, hhead⟩ := head_sortBy (fun a b : LogEntry =>
      if a.count = b.count then decide (a.last < b.last) else decide (a.count < b.count))
      (l := l.filter fun e => e.st == 0) (by simpa using hopen)
    exact ⟨e, (List.mem_filter.mp he).1, by rw [if_neg hopen, hhead]; rfl⟩

/-- A log of an SRAM that the device has. -/
structure State.HasLog (s : State) (log : Nat) : Prop where
  sram : 4 ≤ log
  inDevice : log - 4 < s.mem.sramLogs.length

theorem State.HasLog.of_logs {s t : State} {log : Nat} (h : s.HasLog log) (hlogs : t.mem.sramLogs = s.mem.sramLogs) :
    t.HasLog log :=
  ⟨h.sram, by rw [hlogs]; exact h.inDevice⟩

theorem State.HasLog.setLog {s : State} {log : Nat} (h : s.HasLog log) (l : List LogEntry) :
    (s.setLog log l).HasLog log := by
  refine ⟨h.sram, ?_⟩
  rw [State.setLog, if_neg (Nat.not_lt.mpr h.sram)]
  simpa using h.inDevice

theorem State.HasLog.modEntry {s : State} {log addr : Nat} (h : s.HasLog log) (f : LogEntry → LogEntry) :
    (s.modEntry log addr f).HasLog log :=
  h.setLog _

/-- A log set reads as it was set. -/
theorem State.HasLog.errLog_setLog {s : State} {log : Nat} (h : s.HasLog log) (l : List LogEntry) :
    (s.setLog log l).errLog log = l := by
  rw [State.setLog, if_neg (Nat.not_lt.mpr h.sram), State.errLog, if_neg (Nat.not_lt.mpr h.sram)]
  exact getD_modAt_self _ _ _ _ h.inDevice

/-- The words that a log holds. -/
def State.logAddrs (s : State) (log : Nat) : List Nat := (s.errLog log).map fun e => e.addr

theorem State.length_logAddrs (s : State) (log : Nat) : (s.logAddrs log).length = (s.errLog log).length :=
  List.length_map _

theorem State.entryOf_isSome_iff {s : State} {log addr : Nat} :
    (s.entryOf log addr).isSome = true ↔ addr ∈ s.logAddrs log := by
  simp [State.entryOf, State.logAddrs]

theorem State.HasLog.logAddrs_of_logs {s t : State} {log : Nat} (h : s.HasLog log)
    (hlogs : t.mem.sramLogs = s.mem.sramLogs) : t.logAddrs log = s.logAddrs log := by
  simp only [State.logAddrs, State.errLog, if_neg (Nat.not_lt.mpr h.sram), hlogs]

/-- A change of an entry keeps the words of its log. -/
theorem State.HasLog.logAddrs_modEntry {s : State} {log addr : Nat} (h : s.HasLog log) {f : LogEntry → LogEntry}
    (hf : ∀ e, (f e).addr = e.addr) : (s.modEntry log addr f).logAddrs log = s.logAddrs log := by
  rw [State.logAddrs, State.modEntry, h.errLog_setLog, State.logAddrs, List.map_map]
  refine List.map_congr_left fun e _ => ?_
  simp only [Function.comp_apply]
  split
  · exact hf e
  · rfl

/-- A correction enters its word in its log, which keeps to its 64 entries (R568). -/
theorem State.HasLog.logCorrection {s : State} {log : Nat} (h : s.HasLog log) (addr bitNo : Nat) :
    (s.logCorrection log addr bitNo).HasLog log ∧ addr ∈ (s.logCorrection log addr bitNo).logAddrs log ∧
      ((s.logAddrs log).length ≤ 64 → ((s.logCorrection log addr bitNo).logAddrs log).length ≤ 64) := by
  unfold State.logCorrection
  split
  · next e hentry =>
    have hkept := h.logAddrs_modEntry (addr := addr) (f := fun e =>
      { e with count := satN 8 (e.count + 1), since := e.since + 1, last := s.now, bit := bitNo }) fun _ => rfl
    rw [hkept]
    exact ⟨h.modEntry _, State.entryOf_isSome_iff.mp (by rw [hentry]; rfl), id⟩
  · dsimp only
    split
    · next hroom =>
      refine ⟨h.setLog _, ?_, fun _ => ?_⟩
      · simp [State.logAddrs, h.errLog_setLog]
      · simp only [State.logAddrs, h.errLog_setLog, List.length_map, List.length_append, List.length_singleton]
        omega
    · next hfull =>
      generalize hl : ((s.errLog log).filter fun e => some e.addr != logVictim (s.errLog log)) ++
        [({ addr := addr, count := 1, bit := bitNo, last := s.now, since := 1 } : LogEntry)] = l
      have hset := h.setLog l
      have hlogs (k src : Nat) (d : List Byte) :
          ((((s.setLog log l).countIn src k 1).2).raiseWK src k 0 d).mem.sramLogs =
          (s.setLog log l).mem.sramLogs := by
        rw [State.raiseWK_mem, State.countIn_mem]
      refine ⟨hset.of_logs (hlogs _ _ _), ?_, fun hlen => ?_⟩
      · rw [hset.logAddrs_of_logs (hlogs _ _ _), State.logAddrs, h.errLog_setLog, ← hl]
        simp
      · rw [hset.logAddrs_of_logs (hlogs _ _ _), State.logAddrs, h.errLog_setLog, ← hl]
        obtain ⟨e, he, hvictim⟩ := logVictim_mem (l := s.errLog log) (List.ne_nil_of_length_pos (by omega))
        have hgone : ((s.errLog log).filter fun e => some e.addr != logVictim (s.errLog log)).length <
            (s.errLog log).length :=
          List.length_filter_lt_length_iff_exists.mpr ⟨e, he, by simp [hvictim]⟩
        rw [s.length_logAddrs] at hlen
        simp only [List.length_map, List.length_append, List.length_singleton]
        omega

/-- What follows a correction of an SRAM keeps the words of its log: its event, a spare taken, a castling asked for
(R568, R569). -/
theorem State.HasLog.sramCorrected {s : State} {log : Nat} (h : s.HasLog log) (addr bitNo : Nat)
    (cluster : Option Nat) :
    addr ∈ (s.sramCorrected log addr bitNo cluster).logAddrs log ∧
      ((s.logAddrs log).length ≤ 64 → ((s.sramCorrected log addr bitNo cluster).logAddrs log).length ≤ 64) := by
  unfold State.sramCorrected
  dsimp only
  generalize hcounted : (if (s.countIn 85 log 1).1 = 1000 then (s.countIn 85 log 1).2.raise 85 0
    (le 1 (logDie log) ++ le 4 (s.countIn 85 log 1).1) else (s.countIn 85 log 1).2) = u
  have hmem : u.mem = s.mem := by
    rw [← hcounted]
    split <;> simp
  have hu : u.HasLog log := h.of_logs (by rw [hmem])
  obtain ⟨hv, hin, hlen⟩ := hu.logCorrection addr bitNo
  rw [hu.logAddrs_of_logs (t := s) (by rw [hmem])]
  generalize u.logCorrection log addr bitNo = v at hv hin hlen ⊢
  have hmarked := hv.logAddrs_modEntry (addr := addr) (f := fun e => { e with st := 2 }) fun _ => rfl
  have hkept {w : State} (hw : w.mem.sramLogs = (v.modEntry log addr fun e => { e with st := 2 }).mem.sramLogs) :
      w.logAddrs log = v.logAddrs log := by
    rw [(hv.modEntry _).logAddrs_of_logs hw, hmarked]
  split
  · exact ⟨hin, hlen⟩
  · split
    · exact ⟨hin, hlen⟩
    · split
      · split
        · exact ⟨hin, hlen⟩
        · rw [hkept (by rw [State.raise_mem]; rfl)]
          exact ⟨hin, hlen⟩
      · split
        · rw [hkept (by exact congrArg MemState.sramLogs (State.raise_mem _ _ _ _))]
          exact ⟨hin, hlen⟩
        · rw [hkept (by rw [State.raise_mem])]
          exact ⟨hin, hlen⟩

/-- An event leaves the audio part as it is. -/
theorem EventsOnly.aud {s t : State} (h : EventsOnly s t) : t.aud = s.aud := by
  obtain ⟨e, fs, r, rfl⟩ := h
  rfl

@[simp] theorem State.raise_aud (s : State) (src h : Nat) (d : List Byte) : (s.raise src h d).aud = s.aud :=
  (raise_only s src h d).aud

@[simp] theorem State.raiseWK_aud (s : State) (src k h : Nat) (d : List Byte) : (s.raiseWK src k h d).aud = s.aud :=
  (raiseWK_only s src k h d).aud

@[simp] theorem State.countIn_aud (s : State) (src obj n : Nat) : (s.countIn src obj n).2.aud = s.aud :=
  (countIn_only s src obj n).aud

@[simp] theorem State.setLog_aud (s : State) (log : Nat) (l : List LogEntry) : (s.setLog log l).aud = s.aud := by
  unfold State.setLog
  split <;> rfl

@[simp] theorem State.modEntry_aud (s : State) (log addr : Nat) (f : LogEntry → LogEntry) :
    (s.modEntry log addr f).aud = s.aud :=
  s.setLog_aud _ _

@[simp] theorem State.logCorrection_aud (s : State) (log addr bitNo : Nat) :
    (s.logCorrection log addr bitNo).aud = s.aud := by
  unfold State.logCorrection
  split
  · simp
  · dsimp only
    split <;> simp

/-- A correction of an SRAM leaves the audio part as it is. -/
theorem State.sramCorrected_aud (s : State) (log addr bitNo : Nat) (cluster : Option Nat) :
    (s.sramCorrected log addr bitNo cluster).aud = s.aud := by
  unfold State.sramCorrected
  dsimp only
  generalize hcounted : (if (s.countIn 85 log 1).1 = 1000 then (s.countIn 85 log 1).2.raise 85 0
    (le 1 (logDie log) ++ le 4 (s.countIn 85 log 1).1) else (s.countIn 85 log 1).2) = u
  have haud : u.aud = s.aud := by
    rw [← hcounted]
    split <;> simp
  rw [← haud, ← u.logCorrection_aud log addr bitNo]
  generalize u.logCorrection log addr bitNo = v
  split
  · rfl
  · split
    · rfl
    · split
      · split
        · rfl
        · simp
      · split
        · exact (State.raise_aud _ _ _ _).trans (v.modEntry_aud log addr _)
        · simp

end Sys2Proof.Machine
end

section
/-! PROOFS. The mode, power and reset commands complete (file 21). -/

namespace Sys2Proof.Machine

/-- Settles O1: each body passes its checks under the conditions of its row; the targets of MODE_SET are those of
Table 21-2. -/
theorem modeCommandsComplete : Obligations.ModeCommandsComplete := by
  refine ⟨?modeSet, ?modeQuery, ?powerSet, ?thermalQuery, ?devReset⟩
  case modeSet =>
    intro c s m h hmode
    refine modeSet_enters h ?_
    unfold modeOf at hmode
    split at hmode
    · next hok => rwa [Option.some.inj hmode] at hok
    · cases hmode
  case modeQuery =>
    intro c s h
    refine ⟨_, ?_, runBelex_ok (body := bodyModeQuery) h rfl⟩
    simp [length_le]
  case powerSet =>
    intro c s h
    simp only [canPowerSet, Bool.and_eq_true, and_assoc] at h
    obtain ⟨htakes, hfields⟩ := h
    exact runBelex_ok (body := bodyPowerSet) htakes (by simp [bodyPowerSet, hfields])
  case thermalQuery =>
    intro c s h
    exact ⟨_, runBelex_ok (body := bodyThermalQuery) h rfl⟩
  case devReset =>
    intro c s h
    simp only [canDevReset, Bool.and_eq_true, beq_iff_eq] at h
    obtain ⟨htakes, hmagic⟩ := h
    exact runBelex_ok (body := bodyDevReset) htakes (by simp [bodyDevReset, hmagic])

end Sys2Proof.Machine
end

section
/-! PROOFS. The conference, leg, flow and tenant commands complete, and a flow context has its layout (file 02). -/

namespace Sys2Proof.Machine

/-- A flow context is 256 bytes (R77). -/
theorem length_flowContext (s : State) (i : Nat) : (s.flowContext i).length = 256 := by
  unfold State.flowContext
  cases s.flow i <;> simp [length_le, instant8]

/-- The fourth word of a flow's context is its SSRC after rewriting (Table 02-5). -/
theorem flowContext_outSsrc {s : State} {i : Nat} {f : Flow} (h : s.flow i = some f) :
    ((s.flowContext i).drop 12).take 4 = le 4 f.outSsrc := by
  simp only [State.flowContext, h, List.append_assoc]
  rfl

/-- Settles O2: each body passes the checks of its row and meets the objects that the command names. -/
theorem conferenceCommandsComplete : Obligations.ConferenceCommandsComplete := by
  refine ⟨?confCreate, ?confDelete, ?confQuery, ?legCreate, ?legDelete, ?legMove, ?legStays, ?legSetState, ?legStats,
    ?flowCreate, ?flowDelete, ?flowQuery, ?tenantSetQuota, ?tenantQuery, ?flowContext⟩
  case confCreate =>
    intro c s h
    simp only [canConfCreate, Bool.and_eq_true, and_assoc, beq_iff_eq] at h
    obtain ⟨htakes, hfields⟩ := h
    exact runBelex_ok (body := bodyConfCreate) htakes (by simp [bodyConfCreate, hfields])
  case confDelete =>
    intro c s h
    simp only [canConfDelete, Bool.and_eq_true, and_assoc] at h
    obtain ⟨htakes, hmask, hforce⟩ := h
    refine runBelex_wait (body := bodyConfDelete) htakes ?_
    simp only [bodyConfDelete, State.legsOf_advance]
    grind
  case confQuery =>
    intro c s h
    obtain ⟨k, hconf⟩ := takes_conf h rfl rfl
    refine ⟨_, ?_, runBelex_ok (body := bodyConfQuery) h (by simp only [bodyConfQuery, State.conf_advance, hconf]; rfl)⟩
    simp [length_le]
  case legCreate =>
    intro c s k ty h
    simp only [canLegCreate, Bool.and_eq_true, and_assoc, beq_iff_eq] at h
    obtain ⟨htakes, hfields⟩ := h
    exact runBelex_ok (body := bodyLegCreate) htakes (by simp only [bodyLegCreate, hfields, stWrongState]; grind)
  case legDelete =>
    intro c s h
    exact runBelex_wait (body := bodyLegDelete) h rfl
  case legMove =>
    intro c s l k h
    simp only [canLegMove, Bool.and_eq_true, and_assoc, beq_iff_eq, bne_iff_ne, decide_eq_true_eq] at h
    obtain ⟨htakes, hparam, hzero, hleg, hconf, hother, hroom⟩ := h
    exact runBelex_ok (body := bodyLegMove) htakes (by simp [bodyLegMove, *])
  case legStays =>
    intro c s l k h
    simp only [staysPut, Bool.and_eq_true, and_assoc, beq_iff_eq] at h
    obtain ⟨htakes, hparam, hzero, hleg, hconf, hsame⟩ := h
    exact runBelex_ok (body := bodyLegMove) htakes (by simp [bodyLegMove, *])
  case legSetState =>
    intro c s h
    simp only [canLegSetState, Bool.and_eq_true] at h
    obtain ⟨htakes, hmask⟩ := h
    exact runBelex_ok (body := bodyLegSetState) htakes (by simp [bodyLegSetState, hmask])
  case legStats =>
    intro c s l h hwindow hleg
    refine ⟨_, ?_, runBelex_ok (body := bodyLegStats) h (by simp only [bodyLegStats, hleg, hwindow.ne', if_false]; rfl)⟩
    simp [length_le]
  case flowCreate =>
    intro c s l h
    simp only [canFlowCreate, Bool.and_eq_true, and_assoc, beq_iff_eq] at h
    obtain ⟨htakes, hfields⟩ := h
    exact runBelex_ok (body := bodyFlowCreate) htakes (by simp only [bodyFlowCreate, hfields, Res.ok]; grind)
  case flowDelete =>
    intro c s f h hflow
    exact runBelex_wait (body := bodyFlowDelete) h (by simp only [bodyFlowDelete, hflow])
  case flowQuery =>
    intro c s h
    obtain ⟨f, hflow⟩ := takes_flow h rfl rfl
    refine ⟨_, ?_, runBelex_ok (body := bodyFlowQuery) h (by simp only [bodyFlowQuery, State.flow_advance, hflow]; rfl)⟩
    simp [length_le]
  case tenantSetQuota =>
    intro c s h
    obtain ⟨hfields, hreserves⟩ := Bool.and_eq_true_iff.mp h
    simp only [Bool.and_eq_true, and_assoc] at hfields
    obtain ⟨htakes, hfields⟩ := hfields
    have hroom : ¬([0, 1, 2].any fun p =>
        decide (poolSize p < (s.advance c.at_).reservesWith p (c.u 0 1) (quotaOf c))) = true := by
      rw [List.any_eq_true]
      rintro ⟨p, hp, hover⟩
      have hfits := List.all_eq_true.mp hreserves p hp
      rw [decide_eq_true_eq] at hfits hover
      exact absurd hover (not_lt.mpr hfits)
    exact runBelex_ok (body := bodyTenantSetQuota) htakes (by
      rw [bodyTenantSetQuota, if_neg (by simp [hfields]), if_neg hroom]
      rfl)
  case tenantQuery =>
    intro c s h
    simp only [canTenantQuery, Bool.and_eq_true, and_assoc] at h
    obtain ⟨htakes, hrange, hzero, hmay⟩ := h
    refine ⟨_, ?_, runBelex_ok (body := bodyTenantQuery) htakes
      (by rw [bodyTenantQuery, if_neg (by simp [hrange, hzero]), if_neg (by grind)])⟩
    simp [length_le]
  case flowContext =>
    intro i f s hflow
    refine ⟨length_flowContext s i, ?_⟩
    rw [flowContext_outSsrc hflow, ofLe_le, Flow.outSsrc]
    split_ifs <;> rfl

end Sys2Proof.Machine
end

section
/-! PROOFS. The port, ICE, policer, jitter-buffer and FEC commands complete (file 04). -/

namespace Sys2Proof.Machine

/-- Settles O3: each body passes the checks of its row. -/
theorem ingressCommandsComplete : Obligations.IngressCommandsComplete := by
  refine ⟨?portSetMode, ?addrSet, ?iceSetCredentials, ?policerSet, ?jbSet, ?reorderSet, ?fecSet,
    ?ingressStats, ?portStats, ?remoteQuery⟩
  case portSetMode =>
    intro c s h
    simp only [canPortSetMode, Bool.and_eq_true, and_assoc] at h
    obtain ⟨htakes, hfields⟩ := h
    exact runBelex_ok (body := bodyPortSetMode) htakes
      (by simp only [bodyPortSetMode, State.advance_legs, hfields]; grind)
  case addrSet =>
    intro c s h
    simp only [canAddrSet, localAddrOf, Bool.and_eq_true, and_assoc] at h
    obtain ⟨htakes, hfields⟩ := h
    exact runBelex_ok (body := bodyAddrSet) htakes
      (by simp only [bodyAddrSet, localAddrOf, State.advance_net, State.advance_legs, hfields]; grind)
  case iceSetCredentials =>
    intro c s l h
    simp only [canIceSet, Bool.and_eq_true, and_assoc, beq_iff_eq] at h
    obtain ⟨htakes, hfields⟩ := h
    exact runBelex_ok (body := bodyIceSetCredentials) htakes
      (by simp only [bodyIceSetCredentials, State.leg_advance, State.advance_legs, hfields]; grind)
  case policerSet =>
    intro c s h
    simp only [canPolicerSet, Bool.and_eq_true, and_assoc] at h
    obtain ⟨htakes, hfields⟩ := h
    exact runBelex_ok (body := bodyPolicerSet) htakes (by simp only [bodyPolicerSet, hfields]; grind)
  case jbSet =>
    intro c s f h
    simp only [canJbSet, Bool.and_eq_true, and_assoc, beq_iff_eq] at h
    obtain ⟨htakes, hfields⟩ := h
    exact runBelex_ok (body := bodyJbSet) htakes (by simp only [bodyJbSet, State.flow_advance, hfields]; grind)
  case reorderSet =>
    intro c s f h
    simp only [canReorderSet, Bool.and_eq_true, and_assoc, beq_iff_eq] at h
    obtain ⟨htakes, hfields⟩ := h
    exact runBelex_ok (body := bodyReorderSet) htakes
      (by simp only [bodyReorderSet, State.flow_advance, hfields]; grind)
  case fecSet =>
    intro c s f h
    simp only [canFecSet, Bool.and_eq_true, and_assoc, beq_iff_eq] at h
    obtain ⟨htakes, hfields⟩ := h
    exact runBelex_ok (body := bodyFecSet) htakes (by simp only [bodyFecSet, State.flow_advance, hfields]; grind)
  case ingressStats =>
    intro c s h
    obtain ⟨x, hx⟩ := takes_leg h rfl rfl
    refine ⟨_, ?_, runBelex_ok (body := bodyIngressStats) h
      (by simp only [bodyIngressStats, State.leg_advance, hx]; rfl)⟩
    simp [length_le]
  case portStats =>
    intro c s h
    simp only [canPortStats, Bool.and_eq_true, and_assoc] at h
    obtain ⟨htakes, hfields⟩ := h
    exact runBelex_ok (body := bodyPortStats) htakes (by simp only [bodyPortStats, State.advance_net, hfields]; grind)
  case remoteQuery =>
    intro c s h
    obtain ⟨x, hx⟩ := takes_leg h rfl rfl
    refine ⟨_, ?_, runBelex_ok (body := bodyRemoteQuery) h (by simp only [bodyRemoteQuery, State.leg_advance, hx]; rfl)⟩
    simp [length_le, ipField]

end Sys2Proof.Machine
end

section
/-! PROOFS. The forwarding and adaptation commands complete (file 05). -/

namespace Sys2Proof.Machine

/-- The forwarding that FWD_BIND gives to an entry `g`, where a binding to the source in force does, or does not, go
on. -/
def reboundFwd (c : Cmd) (now : Nat) (going : Bool) (g : Flow) : Fwd :=
  if going then { g.fwd with next := some {
    source := if c.u 0 4 = 0 then noFlow else hIdx (c.u 0 4), slot := c.u 4 1, prio := c.u 5 1
    caps := ⟨c.u 6 1, c.u 7 1, c.u 8 1⟩ } }
  else bindingOf c now g

/-- The flow that FWD_BIND changes is the one it has read (R185). -/
theorem modFlow_reboundFwd {c : Cmd} {s : State} {i : Nat} {f : Flow} (h : s.flow i = some f) :
    s.modFlow i (fun g => { g with fwd := reboundFwd c s.now (fwdGoing s f) g }) =
      s.modFlow i fun g => { g with fwd := boundFwd c s f } :=
  congrArg (fun t => ({ s with flows := t } : State)) (tmod_congr _ _ _ _ _ h rfl)

/-- FWD_BIND to a ranked slot (R185). -/
theorem bodyFwdBind_slot {w : ReplyTo} {c : Cmd} {s : State} {f : Flow} (hflow : s.flow (hIdx c.obj) = some f)
    (hparams : fwdParamsOk c f = true) (hsource : c.u 0 4 = 0) (hidle : f.outCtx = 0) :
    bodyFwdBind w c s = .ok (s.modFlow (hIdx c.obj) fun g => { g with fwd := boundFwd c s f }) := by
  rw [← modFlow_reboundFwd hflow]
  simp only [bodyFwdBind, hflow]
  rw [guard_passes (by exact hparams), if_pos hsource, if_neg (not_not.mpr hidle)]
  rfl

/-- FWD_BIND to a source flow asks a video source for a key frame (R185). -/
theorem bodyFwdBind_source {w : ReplyTo} {c : Cmd} {s : State} {f x : Flow} (hflow : s.flow (hIdx c.obj) = some f)
    (hparams : fwdParamsOk c f = true) (hsource : c.u 0 4 ≠ 0)
    (hgates : checkParam s c.fn [3] (c.u 0 4) = 0 ∧ s.flow (hIdx (c.u 0 4)) = some x ∧
      s.confOf (c.u 0 4) = s.confOf c.obj ∧ x.dir = 1 ∧ x.kind = f.kind ∧ x.leg ≠ f.leg ∧ x.prof.codec = f.prof.codec ∧
      f.prof.codec ≠ 0 ∧ bit x.flags 2 = bit f.flags 2 ∧ f.outCtx = 0) :
    bodyFwdBind w c s =
      let v := s.modFlow (hIdx c.obj) fun g => { g with fwd := boundFwd c s f }
      .ok (if f.kind = 2 then (match (v.sourceSet (hIdx (c.u 0 4)))[0]? with | some e => v.keyRequest e | none => v)
        else v) := by
  rw [← modFlow_reboundFwd hflow]
  obtain ⟨hparam, hx, hconf, hdir, hkind, hleg, hcodec, hknown, he2ee, hidle⟩ := hgates
  simp only [bodyFwdBind, hflow, hx]
  rw [guard_passes (by exact hparams), if_neg hsource, if_neg (not_not.mpr hparam),
    if_neg (not_not.mpr hconf), if_neg (by simp [hdir, hkind]), if_neg hleg, if_neg (by simp [hcodec, hknown]),
    if_neg (by simp [he2ee]), if_neg (not_not.mpr hidle)]
  rfl

/-- Settles O4: each body passes the checks of its row. That the reply of CASCADE_SET counts from the group's next
grain is the model's choice (log entry 106). -/
theorem adaptationCommandsComplete : Obligations.AdaptationCommandsComplete := by
  refine ⟨?fwdSlot, ?fwdSource, ?fwdUnbind, ?fwdQuery, ?flowProfileSet, ?rtcpSet, ?keyframeRequest, ?adaptSet,
    ?adaptOverride, ?adaptQuery, ?cascadeSet⟩
  case fwdSlot =>
    intro c s f h
    simp only [canFwdSlot, Bool.and_eq_true, and_assoc, beq_iff_eq] at h
    obtain ⟨htakes, hflow, hparams, hsource, hidle⟩ := h
    exact runBelex_ok (body := bodyFwdBind) htakes (bodyFwdBind_slot hflow hparams hsource hidle)
  case fwdSource =>
    intro c s f x h
    simp only [canFwdSource, Bool.and_eq_true, and_assoc, beq_iff_eq, bne_iff_ne] at h
    obtain ⟨htakes, hflow, hparams, hsource, hgates⟩ := h
    exact runBelex_ok (body := bodyFwdBind) htakes (bodyFwdBind_source hflow hparams hsource hgates)
  case fwdUnbind =>
    intro c s f h
    simp only [canFwdUnbind, Bool.and_eq_true, and_assoc, beq_iff_eq] at h
    obtain ⟨htakes, hfields⟩ := h
    exact runBelex_ok (body := bodyFwdUnbind) htakes (by
      simp only [bodyFwdUnbind, State.flow_advance, hfields]
      grind)
  case fwdQuery =>
    intro c s f h
    simp only [canFwdQuery, Bool.and_eq_true, and_assoc, beq_iff_eq] at h
    obtain ⟨htakes, hfields⟩ := h
    refine ⟨_, ?_, runBelex_ok (body := bodyFwdQuery) htakes (by simp [bodyFwdQuery, hfields]; rfl)⟩
    simp [length_le]
  case flowProfileSet =>
    intro c s f h
    simp only [canProfileSet, Bool.and_eq_true, and_assoc, beq_iff_eq] at h
    obtain ⟨htakes, hfields⟩ := h
    exact runBelex_ok (body := bodyFlowProfileSet) htakes (by
      simp only [bodyFlowProfileSet, State.flow_advance, hfields]
      grind)
  case rtcpSet =>
    intro c s h
    simp only [canRtcpSet, Bool.and_eq_true, and_assoc] at h
    obtain ⟨htakes, hfields⟩ := h
    exact runBelex_ok (body := bodyRtcpSet) htakes (by simp only [bodyRtcpSet, hfields]; grind)
  case keyframeRequest =>
    intro c s f h
    simp only [canKeyframeRequest, Bool.and_eq_true, and_assoc, beq_iff_eq] at h
    obtain ⟨htakes, hfields⟩ := h
    exact runBelex_ok (body := bodyKeyframeRequest) htakes (by
      simp only [bodyKeyframeRequest, State.flow_advance, hfields]
      grind)
  case adaptSet =>
    intro c s h
    simp only [canAdaptSet, Bool.and_eq_true, and_assoc] at h
    obtain ⟨htakes, hfields⟩ := h
    exact runBelex_ok (body := bodyAdaptSet) htakes (by simp only [bodyAdaptSet, hfields]; grind)
  case adaptOverride =>
    intro c s l h
    simp only [canAdaptOverride, Bool.and_eq_true, and_assoc, beq_iff_eq] at h
    obtain ⟨htakes, hfields⟩ := h
    exact runBelex_ok (body := bodyAdaptOverride) htakes (by
      simp only [bodyAdaptOverride, State.leg_advance, hfields]
      grind)
  case adaptQuery =>
    intro c s h
    obtain ⟨x, hx⟩ := takes_leg h rfl rfl
    refine ⟨_, ?_, runBelex_ok (body := bodyAdaptQuery) h (by simp only [bodyAdaptQuery, State.leg_advance, hx]; rfl)⟩
    simp [length_le]
  case cascadeSet =>
    intro c s l h
    simp only [canCascadeSet, Bool.and_eq_true, and_assoc, beq_iff_eq] at h
    obtain ⟨htakes, hfields⟩ := h
    exact runBelex_ok (body := bodyCascadeSet) htakes (by
      simp only [bodyCascadeSet, State.leg_advance, hfields]
      grind)

end Sys2Proof.Machine
end

section
/-! PROOFS. The egress commands complete (file 06). -/

namespace Sys2Proof.Machine

/-- Settles O5: each body passes the checks of its row. -/
theorem egressCommandsComplete : Obligations.EgressCommandsComplete := by
  refine ⟨?egressLegSet, ?egressClassSet, ?portEgressSet, ?gclSet, ?gclQuery, ?fecGenSet, ?fcSet, ?egressStats,
    ?egressPortStats⟩
  case egressLegSet =>
    intro c s h
    simp only [canEgressLegSet, Bool.and_eq_true, and_assoc] at h
    obtain ⟨htakes, hfields⟩ := h
    exact runBelex_ok (body := bodyEgressLegSet) htakes (by simp only [bodyEgressLegSet, hfields]; grind)
  case egressClassSet =>
    intro c s f h
    simp only [canEgressClassSet, Bool.and_eq_true, and_assoc, beq_iff_eq, bne_iff_ne] at h
    obtain ⟨htakes, hflow, hdir, hrange, hzero, hreserved⟩ := h
    exact runBelex_ok (body := bodyEgressClassSet) htakes (by
      simp only [bodyEgressClassSet, State.flow_advance, hflow]
      rw [if_neg (by simp [hdir, hrange, hzero]), if_neg hreserved]
      rfl)
  case portEgressSet =>
    intro c s h
    simp only [canPortEgressSet, Bool.and_eq_true, and_assoc] at h
    obtain ⟨htakes, hfields⟩ := h
    exact runBelex_ok (body := bodyPortEgressSet) htakes (by simp only [bodyPortEgressSet, hfields]; grind)
  case gclSet =>
    intro c s h hbase
    simp only [canGclSet, Bool.and_eq_true, and_assoc, beq_iff_eq] at h
    obtain ⟨htakes, hport, henable, hcount, hzero, hns, hcycle, hfields, hentries, hintervals⟩ := h
    exact runBelex_ok (body := bodyGclSet) htakes (by
      simp only [bodyGclSet]
      rw [guard_passes (by simp [*]), if_neg (by simp_all [List.all_eq_true]), if_neg (not_lt.mpr hbase)]
      rfl)
  case gclQuery =>
    intro c s h
    simp only [canGclQuery, Bool.and_eq_true, and_assoc] at h
    obtain ⟨htakes, hfields⟩ := h
    refine ⟨_, ?_, runBelex_ok (body := bodyGclQuery) htakes (by simp [bodyGclQuery, hfields]; rfl)⟩
    simp [length_le]
  case fecGenSet =>
    intro c s f h
    simp only [canFecGenSet, Bool.and_eq_true, and_assoc, beq_iff_eq] at h
    obtain ⟨htakes, hfields⟩ := h
    exact runBelex_ok (body := bodyFecGenSet) htakes (by
      simp only [bodyFecGenSet, State.flow_advance, hfields]
      grind)
  case fcSet =>
    intro c s h
    simp only [canFcSet, Bool.and_eq_true, and_assoc] at h
    obtain ⟨htakes, hfields⟩ := h
    exact runBelex_ok (body := bodyFcSet) htakes (by simp only [bodyFcSet, hfields]; grind)
  case egressStats =>
    intro c s l h hleg
    refine ⟨_, ?_, runBelex_ok (body := bodyEgressStats) h
      (by simp only [bodyEgressStats, State.leg_advance, hleg]; rfl)⟩
    simp [length_le]
  case egressPortStats =>
    intro c s h
    simp only [canEgressPortStats, Bool.and_eq_true, and_assoc] at h
    obtain ⟨htakes, hfields⟩ := h
    exact runBelex_ok (body := bodyEgressPortStats) htakes (by simp only [bodyEgressPortStats, hfields]; rfl)

end Sys2Proof.Machine
end

section
/-! PROOFS. The mix group, matrix, graph and ducking commands complete (file 07). -/

namespace Sys2Proof.Machine

/-- A set within its limits fails neither half of the check that its graph fits (file 07). -/
theorem withinLimits {y : MixSet} (hfits : y.fits = true)
    (hports : (y.outPorts.all fun o => decide (y.listeners o.2.2 ≤ 4096)) = true) :
    ¬ (!y.fits || y.outPorts.any fun o => decide (4096 < y.listeners o.2.2)) = true := by
  rw [hfits]
  intro hmany
  obtain ⟨o, ho, hlt⟩ := List.any_eq_true.mp hmany
  exact absurd (of_decide_eq_true (List.all_eq_true.mp hports o ho)) (Nat.not_le.mpr (of_decide_eq_true hlt))

/-- Settles O6: each body passes the checks of its row. -/
theorem mixCommandsComplete : Obligations.MixCommandsComplete := by
  refine ⟨?groupCreate, ?groupDelete, ?contribute, ?listen, ?unlisten, ?graphLoad, ?mixSet, ?panSet, ?mixQuery,
    ?mixStats⟩
  case groupCreate =>
    intro c s k h
    simp only [canGroupCreate, Bool.and_eq_true, and_assoc, beq_iff_eq] at h
    obtain ⟨htakes, hfields⟩ := h
    exact runBelex_ok (body := bodyMixGroupCreate) htakes (by
      simp only [bodyMixGroupCreate, State.isClosing_advance, State.groupsOf_advance, State.mixPlace_advance,
        State.engineFull_advance, State.advance_aud, hfields]
      grind)
  case groupDelete =>
    intro c s x h
    simp only [canGroupDelete, Bool.and_eq_true, and_assoc, beq_iff_eq] at h
    obtain ⟨htakes, hfields⟩ := h
    exact runBelex_ok (body := bodyMixGroupDelete) htakes (by
      simp only [bodyMixGroupDelete, State.group_advance, State.mix_advance, hfields]
      grind)
  case contribute =>
    intro c s x h
    simp only [canContribute, Bool.and_eq_true, and_assoc, beq_iff_eq] at h
    obtain ⟨htakes, hfields⟩ := h
    exact runBelex_ok (body := bodyMixContribute) htakes (by simp only [bodyMixContribute, hfields]; grind)
  case listen =>
    intro c s x l h
    simp only [canListen, Bool.and_eq_true, and_assoc, beq_iff_eq] at h
    obtain ⟨htakes, hfields⟩ := h
    exact runBelex_ok (body := bodyMixListen) htakes (by simp only [bodyMixListen, hfields]; grind)
  case unlisten =>
    intro c s x h
    simp only [canUnlisten, Bool.and_eq_true, and_assoc, beq_iff_eq] at h
    obtain ⟨htakes, hfields⟩ := h
    exact runBelex_ok (body := bodyMixUnlisten) htakes (by
      simp only [bodyMixUnlisten, State.flow_advance, hfields]
      grind)
  case graphLoad =>
    intro c s g places h r hheard
    simp only [canGraphLoad, Bool.and_eq_true, and_assoc, beq_iff_eq] at h
    obtain ⟨htakes, hparse, hshape, hrefs, hchans, hclear, hacyclic, hlimits, hplaces, hfits, hports, hcapacity⟩ := h
    have hgraph : graphParse c = .ok g := by
      split at hparse
      · next g' hok => rwa [← beq_iff_eq.mp hparse]
      · cases hparse
    have hheard : r.2.heardBack (graphSet g places ((s.advance c.at_).mix (hIdx c.obj)).latest) = false := by
      rwa [State.mix_advance]
    exact runBelex_ok (body := bodyMixGraphLoad) htakes (by
      simp only [bodyMixGraphLoad, hgraph, hplaces]
      rw [guard_passes hshape, guard_passes hrefs, guard_passes hchans, if_neg (by simpa using hclear),
        if_neg (not_not.mpr hacyclic), guard_passes hlimits, if_neg (withinLimits hfits hports),
        if_neg (not_not.mpr hcapacity), hheard]
      rfl)
  case mixSet =>
    intro c s h
    simp only [canMixSet, Bool.and_eq_true, and_assoc] at h
    obtain ⟨htakes, hfields⟩ := h
    exact runBelex_ok (body := bodyMixSet) htakes (by simp only [bodyMixSet, State.mix_advance, hfields]; grind)
  case panSet =>
    intro c s h
    simp only [canPanSet, Bool.and_eq_true, and_assoc] at h
    obtain ⟨htakes, hfields⟩ := h
    exact runBelex_ok (body := bodyMixPanSet) htakes (by simp only [bodyMixPanSet, hfields]; grind)
  case mixQuery =>
    intro c s h
    refine ⟨_, ?_, runBelex_ok (body := bodyMixQuery) h rfl⟩
    simp only [List.length_append, length_le, length_flatMap_le, List.length_take, List.length_replicate,
      List.length_map]
    omega
  case mixStats =>
    intro c s h
    obtain ⟨x, hx⟩ := takes_group h rfl rfl
    refine ⟨_, ?_, runBelex_ok (body := bodyMixStats) h (by simp only [bodyMixStats, State.group_advance, hx]; rfl)⟩
    simp [length_le]

end Sys2Proof.Machine
end

section
/-! PROOFS. The kernel commands complete (file 08). -/

namespace Sys2Proof.Machine

/-- Settles O7: each body passes the checks of its row. -/
theorem kernelCommandsComplete : Obligations.KernelCommandsComplete := by
  refine ⟨?kernelLoad, ?kernelUnload, ?kernelQuery, ?kernelReset, ?dspSet, ?dspStats⟩
  case kernelLoad =>
    intro c s h
    simp only [canKernelLoad, Bool.and_eq_true, and_assoc, beq_iff_eq] at h
    obtain ⟨htakes, hfields⟩ := h
    exact runBelex_accepted (body := bodyKernelLoad) htakes (by
      simp only [bodyKernelLoad, State.advance_trust, hfields]
      grind)
  case kernelUnload =>
    intro c s h
    simp only [canKernelUnload, Bool.and_eq_true] at h
    obtain ⟨htakes, hfields⟩ := h
    exact runBelex_ok (body := bodyKernelUnload) htakes (by
      simp only [bodyKernelUnload, State.kernelNamed_advance]
      grind)
  case kernelQuery =>
    intro c s k h
    simp only [canKernelQuery, Bool.and_eq_true, and_assoc, beq_iff_eq] at h
    obtain ⟨htakes, hkernel, hmay⟩ := h
    have hmay : ¬ (decide (c.fn ≠ 0) && !bit k.mask c.fn) = true := by grind
    refine ⟨_, ?_, runBelex_ok (body := bodyKernelQuery) htakes (by
      simp only [bodyKernelQuery, State.advance_aud, hkernel]
      rw [if_neg hmay])⟩
    simp [length_le]
  case kernelReset =>
    intro c s h
    simp only [canKernelReset, Bool.and_eq_true, Bool.or_eq_true, beq_iff_eq] at h
    obtain ⟨htakes, hfields⟩ := h
    exact runBelex_ok (body := bodyKernelReset) htakes (by simp only [bodyKernelReset]; grind)
  case dspSet =>
    intro c s h
    simp only [canDspSet, Bool.and_eq_true, and_assoc] at h
    obtain ⟨htakes, hfields⟩ := h
    exact runBelex_ok (body := bodyDspSet) htakes (by simp only [bodyDspSet, State.reserved_advance, hfields]; grind)
  case dspStats =>
    intro c s h
    refine ⟨_, ?_, runBelex_ok (body := bodyDspStats) h rfl⟩
    simp [length_le]

end Sys2Proof.Machine
end

section
/-! PROOFS. The serial audio port and routing rows complete (file 09). -/

namespace Sys2Proof.Machine

/-- Who may ask about a port is not refused its query (R375). -/
theorem asksPort_refuses_none {c : Cmd} {s : State} (h : asksPort c s = true) :
    ¬ (decide (c.fn ≠ 0) && decide (c.fn ≠ (s.sapPort (hIdx c.obj)).owner)) = true := by
  unfold asksPort at h
  grind

/-- Changes of serial ports leave the clock as it is. -/
theorem foldl_modSap_now (f : Sap → Sap) (ps : List Nat) (s : State) :
    (ps.foldl (fun s p => s.modSap p f) s).now = s.now := by
  induction ps generalizing s with
  | nil => rfl
  | cons p ps ih => exact ih (s.modSap p f)

/-- Settles O8: each body passes the checks of its row, and the two port events find their ports due. -/
theorem serialPortCommandsComplete : Obligations.SerialPortCommandsComplete := by
  refine ⟨?sapConfig, ?mclkSet, ?sapQuery, ?sapFilterQuery, ?routeSet, ?routeQuery, ?portMask, ?sapStats, ?sapStart,
    ?sapRealign⟩
  case sapConfig =>
    intro c s h
    simp only [canSapConfig, Bool.and_eq_true, and_assoc] at h
    obtain ⟨htakes, hfields⟩ := h
    exact runBelex_ok (body := bodySapConfig) htakes (by
      simp only [bodySapConfig, State.sapInUse_advance, hfields]
      grind)
  case mclkSet =>
    intro c s h
    simp only [canMclk, Bool.and_eq_true, and_assoc] at h
    obtain ⟨htakes, hfields⟩ := h
    exact runBelex_ok (body := bodySapMclkSet) htakes (by simp only [bodySapMclkSet, hfields]; grind)
  case sapQuery =>
    intro c s h hasks
    have hmay := asksPort_refuses_none hasks
    refine ⟨_, ?_, runBelex_ok (body := bodySapQuery) h (by
      rw [bodySapQuery, if_neg (by exact hmay)])⟩
    simp [length_le]
  case sapFilterQuery =>
    intro c s h
    exact runBelex_ok (body := bodySapFilterQuery) h rfl
  case routeSet =>
    intro c s h
    simp only [canRouteSet, Bool.and_eq_true, and_assoc] at h
    obtain ⟨htakes, hfields⟩ := h
    exact runBelex_ok (body := bodyRouteSet) htakes (by
      simp only [bodyRouteSet, routesOk_advance, routeEntries_advance, State.legMask_advance, hfields]
      grind)
  case routeQuery =>
    intro c s h
    refine ⟨_, ?_, runBelex_ok (body := bodyRouteQuery) h rfl⟩
    simp [length_le]
  case portMask =>
    intro c s l h
    simp only [canPortMask, Bool.and_eq_true, and_assoc, beq_iff_eq] at h
    obtain ⟨htakes, hfields⟩ := h
    exact runBelex_ok (body := bodyPortLegMaskSet) htakes (by
      simp only [bodyPortLegMaskSet, State.leg_advance, State.slotsOk_advance, State.legMask_advance,
        State.routeMask_advance, State.maskNeeds_advance, hfields]
      grind)
  case sapStats =>
    intro c s h hasks
    have hmay := asksPort_refuses_none hasks
    refine ⟨_, ?_, runBelex_ok (body := bodySapStats) h (by
      rw [bodySapStats, if_neg (by exact hmay)])⟩
    simp [length_le]
  case sapStart =>
    intro t p s h
    change Host.Outcome.next ((s.advance t).sapStartDue p) = _
    rw [State.sapStartDue, if_pos (by exact h)]
    rfl
  case sapRealign =>
    intro t s h
    have hdue : ¬ (sapRealigning t s).isEmpty = true := by simpa using h
    change Host.Outcome.next (s.advance t).sapRealignDue = _
    rw [State.sapRealignDue, if_neg (by exact hdue)]
    simp only [foldl_modSap_now]
    rfl

end Sys2Proof.Machine
end

section
/-! PROOFS. The beacon commands complete (file 10). -/

namespace Sys2Proof.Machine

/-- Settles O9: each body passes the checks of its row. -/
theorem beaconCommandsComplete : Obligations.BeaconCommandsComplete := by
  refine ⟨?modAttach, ?modSet, ?modDetach, ?modQuery, ?rxSet, ?watch, ?modemSet, ?legQuery, ?stats⟩
  case modAttach =>
    intro c s l h
    simp only [canModAttach, Bool.and_eq_true, and_assoc, beq_iff_eq] at h
    obtain ⟨htakes, hfields⟩ := h
    exact runBelex_ok (body := bodyBeaconModAttach) htakes (by
      simp only [bodyBeaconModAttach, State.leg_advance, State.advance_aud, State.advance_trust, hfields]
      grind)
  case modSet =>
    intro c s h hset
    exact runBelex_ok (body := bodyBeaconModSet) h (by simp only [bodyBeaconModSet, hset]; rfl)
  case modDetach =>
    intro c s h
    exact runBelex_ok (body := bodyBeaconModDetach) h rfl
  case modQuery =>
    intro c s m h hx
    refine ⟨_, ?_, runBelex_ok (body := bodyBeaconModQuery) h
      (by simp only [bodyBeaconModQuery, State.advance_aud, hx]; rfl)⟩
    simp [length_le]
  case rxSet =>
    intro c s h
    simp only [canRxSet, Bool.and_eq_true, and_assoc] at h
    obtain ⟨htakes, hfields⟩ := h
    exact runBelex_ok (body := bodyBeaconRxSet) htakes (by simp only [bodyBeaconRxSet, hfields]; grind)
  case watch =>
    intro c s l h
    simp only [canWatch, Bool.and_eq_true, and_assoc, beq_iff_eq] at h
    obtain ⟨htakes, hfields⟩ := h
    exact runBelex_ok (body := bodyBeaconWatch) htakes (by
      simp only [bodyBeaconWatch, State.leg_advance, State.advance_aud, State.holds_advance, hfields]
      grind)
  case modemSet =>
    intro c s h
    simp only [canModemSet, Bool.and_eq_true, and_assoc] at h
    obtain ⟨htakes, hfields⟩ := h
    exact runBelex_ok (body := bodyBeaconModemSet) htakes (by simp only [bodyBeaconModemSet, hfields]; grind)
  case legQuery =>
    intro c s l h hx
    refine ⟨_, ?_, runBelex_ok (body := bodyBeaconLegQuery) h
      (by simp only [bodyBeaconLegQuery, State.leg_advance, hx]; rfl)⟩
    simp [length_le]
  case stats =>
    intro c s h
    exact ⟨_, _, rfl, runBelex_ok (body := bodyBeaconStats) h rfl⟩

end Sys2Proof.Machine
end

section
/-! PROOFS. The decoder commands and rows complete (file 11). -/

namespace Sys2Proof.Machine

@[simp] theorem decOf_tenant (c : Cmd) (t i : Nat) : (decOf c t i).tenant = t := rfl

/-- Settles O10: each command's body passes the checks of its row, and each row of the decoder array finds the context
and the frame it is about. -/
theorem decoderRowsComplete : Obligations.DecoderRowsComplete := by
  refine ⟨?create, ?delete, ?bind, ?set, ?decQuery, ?decStats, ?headerParse, ?decodeFrameDone, ?decodeLate,
    ?decoderHang⟩
  case create =>
    intro c s k h
    simp only [canDecCreate, Bool.and_eq_true, and_assoc, beq_iff_eq] at h
    obtain ⟨htakes, hfields⟩ := h
    exact runBelex_ok (body := bodyDecCreate) htakes (by
      simp only [bodyDecCreate, decCreateSts_advance, State.conf_advance, State.bushelsFit_advance, Option.elim_some,
        decOf_tenant, hfields]
      grind)
  case delete =>
    intro c s h hfree
    exact runBelex_ok (body := bodyDecDelete) h (by rw [bodyDecDelete, if_neg (by simp [hfree])])
  case bind =>
    intro c s d h
    simp only [canDecBind, Bool.and_eq_true, and_assoc, beq_iff_eq] at h
    obtain ⟨htakes, hfields⟩ := h
    exact runBelex_ok (body := bodyDecBind) htakes (by
      simp only [bodyDecBind, State.advance_get_dec, decBindSts_advance, hfields]
      grind)
  case set =>
    intro c s d h
    simp only [canDecSet, Bool.and_eq_true, and_assoc, beq_iff_eq] at h
    obtain ⟨htakes, hset, hdec, hrate, hfit⟩ := h
    have hcapacity : ¬ (c.u 0 1 < 2 && !d.counted && s.capacity 2 1000000000 < s.decRates + d.rate) = true := by
      generalize s.capacity 2 1000000000 = most at hrate ⊢
      grind
    exact runBelex_ok (body := bodyDecSet) htakes (by
      simp only [bodyDecSet, State.advance_get_dec, hset, hdec]
      rw [if_neg (by simp), if_neg (by exact hcapacity), if_neg (by rw [State.bushelsFit_advance]; grind)])
  case decQuery =>
    intro c s d h hx
    refine ⟨_, ?_, runBelex_ok (body := bodyDecQuery) h (by simp only [bodyDecQuery, State.advance_get_dec, hx]; rfl)⟩
    simp [length_le]
  case decStats =>
    intro c s h
    refine ⟨_, ?_, runBelex_ok (body := bodyDecStats) h rfl⟩
    simp [length_le]
  case headerParse =>
    intro t ctx f s d r rest d' hctx hready u hnext
    change execHeaderParse t ctx f s = _
    simp only [execHeaderParse, State.advance_get_dec, hctx, hready]
    change (match u.dec ctx with | none => _ | some d => _) = _
    rw [hnext]
  case decodeFrameDone =>
    intro t ctx pix bad s d x rest unit h
    simp only [decoding, Bool.and_eq_true, and_assoc, beq_iff_eq] at h
    change execDecodeFrameDone t ctx pix bad s = _
    simp only [execDecodeFrameDone, State.advance_get_dec, State.advance_get_unitOf, h]
  case decodeLate =>
    intro t ctx s d m hctx hlate
    change execDecodeLate t ctx s = _
    simp only [execDecodeLate, State.advance_get_dec, hctx, hlate]
  case decoderHang =>
    intro t ctx unit s d x rest k h
    simp only [decHung, decoding, Bool.and_eq_true, and_assoc, beq_iff_eq] at h
    obtain ⟨hctx, hframe, hunit, htask, hlate⟩ := h
    change execDecoderHang t ctx s = _
    simp only [execDecoderHang, State.advance_get_dec, State.advance_get_unitOf, State.advance_disp, hctx, hframe,
      hunit, htask]
    rw [if_neg (Nat.not_le.mpr (of_decide_eq_true hlate))]

end Sys2Proof.Machine
end

section
/-! PROOFS. The canvas commands and compositor rows complete (file 12). -/

namespace Sys2Proof.Machine


/-- Settles O11: each command's body passes the checks of its row, and each row of the compositor finds the canvas and
the pass it is about. -/
theorem canvasRowsComplete : Obligations.CanvasRowsComplete := by
  refine ⟨?create, ?delete, ?layoutSet, ?overlayLoad, ?guardSet, ?canvasQuery, ?compStats, ?passReady, ?passDone,
    ?hang, ?readback, ?loaded⟩
  case create =>
    intro c s k h
    simp only [canCanvasCreate, Bool.and_eq_true, and_assoc, beq_iff_eq, bne_iff_ne, ne_eq] at h
    obtain ⟨htakes, hfields⟩ := h
    exact runBelex_ok (body := bodyCanvasCreate) htakes (by
      simp only [bodyCanvasCreate, State.conf_advance, State.compAdmits_advance, State.rate2_advance,
        State.advance_vid, State.bushelsFit_advance, hfields]
      grind)
  case delete =>
    intro c s h hfree
    exact runBelex_ok (body := bodyCanvasDelete) h (by rw [bodyCanvasDelete, if_neg (by simp [hfree])])
  case layoutSet =>
    intro c s v h
    simp only [canLayoutSet, Bool.and_eq_true, and_assoc, beq_iff_eq] at h
    obtain ⟨htakes, hfields⟩ := h
    exact runBelex_ok (body := bodyCanvasLayoutSet) htakes (by
      simp only [bodyCanvasLayoutSet, State.canvas_advance, layoutSts_advance, hfields]
      grind)
  case overlayLoad =>
    intro c s v h
    simp only [canOverlayLoad, Bool.and_eq_true, and_assoc, beq_iff_eq] at h
    obtain ⟨htakes, hfields⟩ := h
    exact runBelex_accepted (body := bodyOverlayLoad) htakes (by
      simp only [bodyOverlayLoad, State.canvas_advance, overlaySts_advance, State.bushelsFit_advance, hfields]
      grind)
  case guardSet =>
    intro c s v h
    simp only [canGuardSet, Bool.and_eq_true, and_assoc, beq_iff_eq] at h
    obtain ⟨htakes, hfields⟩ := h
    exact runBelex_ok (body := bodyGuardSet) htakes (by
      simp only [bodyGuardSet, State.canvas_advance, hfields]
      grind)
  case canvasQuery =>
    intro c s v h hx
    refine ⟨_, ?_, runBelex_ok (body := bodyCanvasQuery) h
      (by simp only [bodyCanvasQuery, State.canvas_advance, hx]; rfl)⟩
    simp [length_le]
  case compStats =>
    intro c s h
    refine ⟨_, ?_, runBelex_ok (body := bodyCompStats) h rfl⟩
    simp [length_le]
  case passReady =>
    intro t i k s v h
    simp only [canvasDue, Bool.and_eq_true, and_assoc, beq_iff_eq] at h
    obtain ⟨hcanvas, hframe, hnew⟩ := h
    change execCanvasPassReady t i s = _
    simp only [execCanvasPassReady, State.canvas_advance, hcanvas, ← hframe]
    rw [if_neg (by grind)]
  case passDone =>
    intro t i s v p h
    simp only [composing, Bool.and_eq_true, beq_iff_eq] at h
    change execComposePassDone t i s = _
    simp only [execComposePassDone, State.canvas_advance, State.advance_get_unitOf, h]
  case hang =>
    intro t i unit s v p k h
    simp only [compHung, composing, Bool.and_eq_true, and_assoc, beq_iff_eq] at h
    obtain ⟨hcanvas, hpass, hunit, htask, hlate⟩ := h
    change execCompositorHang t i s = _
    simp only [execCompositorHang, State.canvas_advance, State.advance_get_unitOf, State.advance_disp, hcanvas, hpass,
      hunit, htask]
    rw [if_neg (Nat.not_le.mpr (of_decide_eq_true hlate))]
  case readback =>
    intro t i found s v p f h
    simp only [guarding, Bool.and_eq_true, and_assoc, beq_iff_eq] at h
    change execGuardReadbackDone t i found s = _
    simp only [execGuardReadbackDone, State.canvas_advance, h]
  case loaded =>
    intro t id i image err s v j h
    simp only [overlayLoading, Bool.and_eq_true, beq_iff_eq] at h
    change execOverlayLoaded t id image err s = _
    simp only [execOverlayLoaded, State.advance_vid, h]

end Sys2Proof.Machine
end

section
/-! PROOFS. The encoder commands and rows complete (file 13). -/

namespace Sys2Proof.Machine

theorem hType_mkHandle {ty i : Nat} (hi : i < 65536) : hType (mkHandle ty i) = ty := by
  unfold hType mkHandle
  omega

theorem hIdx_mkHandle {ty i : Nat} (hi : i < 65536) : hIdx (mkHandle ty i) = i := by
  unfold hIdx mkHandle
  omega

/-- An encoder works on a context's frame exactly where the frame in progress has a task with a unit (R467). -/
theorem encoding_run {i : Nat} {s : State} {e : EncCtx} (h : encoding i s e = true) :
    s.enc i = some e ∧ ∃ a b d task f, e.run = some (a, b, d, task, f) ∧ (s.unitOf task).isNone = false := by
  simp only [encoding, Bool.and_eq_true, beq_iff_eq] at h
  obtain ⟨henc, hrun⟩ := h
  refine ⟨henc, ?_⟩
  split at hrun
  · next a b d task f hrunning => exact ⟨a, b, d, task, f, hrunning, Option.isNone_eq_false_iff.mpr hrun⟩
  · cases hrun

/-- Settles O12: each command's body passes the checks of its row, and each row of the encoders finds the context or
the tile whose frame it is about. That a coded frame that does not suit the context or the tile leaves all but the
clock as it is is the model's choice (log entries 164 and 158). -/
theorem encoderRowsComplete : Obligations.EncoderRowsComplete := by
  refine ⟨?create, ?delete, ?set, ?attach, ?detach, ?refresh, ?encQuery, ?encStats, ?rowDone, ?tileRowDone,
    ?frameDone, ?tileFrameDone, ?hang, ?deferExpiry, ?keySExpiry⟩
  case create =>
    intro c s k v h
    simp only [canEncCreate, Bool.and_eq_true, and_assoc, beq_iff_eq] at h
    obtain ⟨htakes, hfields⟩ := h
    exact runBelex_ok (body := bodyEncCreate) htakes (by
      simp only [bodyEncCreate,
        hfields]
      grind)
  case delete =>
    intro c s e h henc
    cases hrun : e.run.isNone with
    | true =>
      exact runBelex_ok (body := bodyEncDelete) h
        (by simp only [bodyEncDelete, State.advance_get_enc, henc, hrun, if_true])
    | false =>
      exact runBelex_wait (body := bodyEncDelete) h
        (by simp only [bodyEncDelete, State.advance_get_enc, henc, hrun]; rfl)
  case set =>
    intro c s e h
    simp only [canEncSet, Bool.and_eq_true, and_assoc, Bool.or_eq_true, beq_iff_eq] at h
    obtain ⟨htakes, hfields⟩ := h
    exact runBelex_ok (body := bodyEncSet) htakes (by
      simp only [bodyEncSet, State.advance_get_enc, State.encAdmits_advance, State.bushelsFit_advance, hfields]
      grind)
  case attach =>
    intro c s e f h
    simp only [canEncAttach, Bool.and_eq_true, and_assoc, beq_iff_eq] at h
    obtain ⟨htakes, hfields⟩ := h
    exact runBelex_ok (body := bodyEncAttach) htakes (by
      simp only [bodyEncAttach, State.advance_get_enc, State.outputFlow_advance, State.flow_advance,
        encAttachSts_advance, hfields]
      grind)
  case detach =>
    intro c s e h
    simp only [canEncDetach, Bool.and_eq_true, and_assoc, beq_iff_eq] at h
    obtain ⟨htakes, hfields⟩ := h
    exact runBelex_ok (body := bodyEncDetach) htakes (by
      simp only [bodyEncDetach, State.advance_get_enc, State.outputFlow_advance, hfields]
      grind)
  case refresh =>
    intro c s e h hmask henc
    exact runBelex_ok (body := bodyEncRefresh) h
      (by simp only [bodyEncRefresh, State.advance_get_enc, hmask, henc]; rfl)
  case encQuery =>
    intro c s e h hx
    refine ⟨_, ?_, runBelex_ok (body := bodyEncQuery) h (by simp only [bodyEncQuery, State.advance_get_enc, hx]; rfl)⟩
    simp [length_le]
  case encStats =>
    intro c s h
    refine ⟨_, ?_, runBelex_ok (body := bodyEncStats) h rfl⟩
    simp [length_le]
  case rowDone =>
    intro t i bits repl s e h hi
    obtain ⟨henc, a, b, d, task, f, hrun, hunit⟩ := encoding_run h
    change execEncodeRowDone t (encH i) bits repl s = _
    simp only [execEncodeRowDone, encH, hType_mkHandle hi, hIdx_mkHandle hi, State.advance_get_enc,
      State.advance_get_unitOf, henc, hrun, hunit]
    rfl
  case tileRowDone =>
    intro t i bits repl unit s x f h hi
    simp only [tileCoding, Bool.and_eq_true, and_assoc, beq_iff_eq] at h
    change execEncodeRowDone t (tileH i) bits repl s = _
    simp only [execEncodeRowDone, tileH, hType_mkHandle hi, hIdx_mkHandle hi, State.advance_get_tile,
      State.advance_get_unitOf, h]
    rfl
  case frameDone =>
    intro t i coded s e h hrows hi
    obtain ⟨henc, a, b, d, task, f, hrun, hunit⟩ := encoding_run h
    change execEncodeFrameDone t (encH i) coded s = _
    simp only [execEncodeFrameDone, encH, hType_mkHandle hi, hIdx_mkHandle hi, State.advance_get_enc,
      State.advance_get_unitOf, henc, hrun, hunit, hrows]
    grind
  case tileFrameDone =>
    intro t i unit coded s x f h hrows hi
    simp only [tileCoding, Bool.and_eq_true, and_assoc, beq_iff_eq] at h
    change execEncodeFrameDone t (tileH i) coded s = _
    simp only [execEncodeFrameDone, tileH, hType_mkHandle hi, hIdx_mkHandle hi, State.advance_get_tile,
      State.advance_get_unitOf, h, hrows, tileCoded]
    cases x.rc.frame <;> grind
  case hang =>
    intro t h bits unit task ns s k hhung
    simp only [encHung, Bool.and_eq_true, and_assoc, beq_iff_eq] at hhung
    obtain ⟨htaken, hunit, htask, hlate⟩ := hhung
    change execEncoderHang t h bits s = _
    simp only [execEncoderHang, State.encTask_advance, State.advance_get_unitOf, State.advance_disp, htaken, hunit,
      htask]
    rw [if_neg (Nat.not_le.mpr (of_decide_eq_true hlate))]
  case deferExpiry =>
    intro t i r s e h
    simp only [deferDue, Bool.and_eq_true, and_assoc, beq_iff_eq] at h
    obtain ⟨henc, hlast, hdue, hwaits⟩ := h
    change execRefreshDeferExpiry t i s = _
    simp only [execRefreshDeferExpiry, State.advance_get_enc, henc, hlast]
    rw [if_neg (by grind)]
  case keySExpiry =>
    intro t i s e h
    simp only [keyDue, Bool.and_eq_true, and_assoc, beq_iff_eq] at h
    obtain ⟨henc, hkey, hstate, hdue, hasked⟩ := h
    change execKeySExpiry t i s = _
    simp only [execKeySExpiry, State.advance_get_enc, henc]
    rw [if_neg (by grind)]

end Sys2Proof.Machine
end

section
/-! PROOFS. The tile and splice commands and rows complete (file 14). -/

namespace Sys2Proof.Machine

@[simp] theorem tileOf_tenant (c : Cmd) (t n : Nat) : (tileOf c t n).tenant = t := rfl

/-- Settles O13: each command's body passes the checks of its row, and each row finds the tile or the output it is
about. That a coded variant that does not suit its tile leaves all but the clock as it is is the model's choice (log
entry 158). -/
theorem spliceRowsComplete : Obligations.SpliceRowsComplete := by
  refine ⟨?create, ?delete, ?set, ?tileQuery, ?spliceCreate, ?spliceDelete, ?gridSet, ?spliceSet, ?spliceQuery,
    ?spliceStats, ?alloc, ?variantDone, ?assemble⟩
  case create =>
    intro c s k h
    simp only [canTileCreate, Bool.and_eq_true, and_assoc, beq_iff_eq] at h
    obtain ⟨htakes, hfields⟩ := h
    exact runBelex_ok (body := bodyTileCreate) htakes (by
      simp only [bodyTileCreate, tileOf_tenant, Option.elim_some, hfields]
      grind)
  case delete =>
    intro c s h hfree
    exact runBelex_ok (body := bodyTileDelete) h (by rw [bodyTileDelete, if_neg (by simp [hfree])])
  case set =>
    intro c s x h
    simp only [canTileSet, Bool.and_eq_true, and_assoc, beq_iff_eq] at h
    obtain ⟨htakes, hfields⟩ := h
    exact runBelex_ok (body := bodyTileSet) htakes (by
      simp only [bodyTileSet, State.advance_get_tile, State.ladderOk_advance, hfields]
      grind)
  case tileQuery =>
    intro c s x h hx
    refine ⟨_, ?_, runBelex_ok (body := bodyTileQuery) h
      (by simp only [bodyTileQuery, State.advance_get_tile, hx]; rfl)⟩
    simp [length_le]
  case spliceCreate =>
    intro c s f h
    simp only [canSpliceCreate, Bool.and_eq_true, and_assoc, beq_iff_eq] at h
    obtain ⟨htakes, hfields⟩ := h
    exact runBelex_ok (body := bodySpliceCreate) htakes (by
      simp only [bodySpliceCreate, State.advance_get_spliceObj, State.flow_advance, spliceCreateSts_advance, hfields]
      grind)
  case spliceDelete =>
    intro c s o h
    simp only [onSplice, Bool.and_eq_true, and_assoc, beq_iff_eq] at h
    obtain ⟨htakes, hfields⟩ := h
    exact runBelex_ok (body := bodySpliceDelete) htakes (by
      simp only [bodySpliceDelete, State.advance_get_spliceObj, State.advance_get_spliceLive, hfields]
      grind)
  case gridSet =>
    intro c s o h
    simp only [canGridSet, onSplice, Bool.and_eq_true, and_assoc, beq_iff_eq] at h
    obtain ⟨htakes, hfields⟩ := h
    exact runBelex_ok (body := bodySpliceLayoutSet) htakes (by
      simp only [bodySpliceLayoutSet, State.advance_get_spliceObj, State.advance_get_spliceLive, gridSts_advance,
        hfields]
      grind)
  case spliceSet =>
    intro c s o h
    simp only [canSpliceSet, onSplice, Bool.and_eq_true, and_assoc, beq_iff_eq] at h
    obtain ⟨htakes, hfields⟩ := h
    exact runBelex_ok (body := bodySpliceSet) htakes (by
      simp only [bodySpliceSet, State.advance_get_spliceObj, State.advance_get_spliceLive, hfields]
      grind)
  case spliceQuery =>
    intro c s o h
    simp only [onSplice, Bool.and_eq_true, and_assoc, beq_iff_eq] at h
    obtain ⟨htakes, hobj, hlive⟩ := h
    refine ⟨_, ?_, runBelex_ok (body := bodySpliceQuery) htakes (by
      simp only [bodySpliceQuery, State.advance_get_spliceObj, State.advance_get_spliceLive, hobj, hlive]; rfl)⟩
    simp [length_le]
  case spliceStats =>
    intro c s h
    refine ⟨_, ?_, runBelex_ok (body := bodySpliceStats) h rfl⟩
    simp [length_le]
  case alloc =>
    intro t fps k s h
    simp only [allocDue, Bool.and_eq_true, and_assoc, beq_iff_eq, bne_iff_ne] at h
    obtain ⟨hsome, hmax, hframe, hnew⟩ := h
    change execRefreshAllocate t fps s = _
    simp only [execRefreshAllocate, State.advance_vid, ← hframe]
    rw [if_neg (by grind), if_neg (by grind)]
  case variantDone =>
    intro t tile form coded s x v h
    simp only [variantRuns, Bool.and_eq_true, beq_iff_eq] at h
    change execRefreshVariantDone t tile form coded s = _
    simp only [execRefreshVariantDone, State.advance_get_tile, State.advance_get_unitOf, tileCoded, h]
    grind
  case assemble =>
    intro t flow syn k s o h
    simp only [assembling, Bool.and_eq_true, and_assoc, beq_iff_eq] at h
    obtain ⟨hsplice, hnext, hready⟩ := h
    change execSplicePictureAssemble t flow syn s = _
    simp only [execSplicePictureAssemble, hsplice, hnext, hready]
    split <;> grind

end Sys2Proof.Machine
end

section
/-! PROOFS. The Dispatcher commands and rows complete (file 15). -/

namespace Sys2Proof.Machine

/-- The entry of a promotable command in the user class promotes (R539). -/
theorem promotable_entry {t id r : Nat} {s : State} {e : CmdEntry} (h : promotable t id r s e = true) :
    ((tget s.cp.cmds id).filter fun e => e.item.any (s.advance t).promotes) = some e ∧ e.ready = some r := by
  simp only [promotable, Bool.and_eq_true, and_assoc, beq_iff_eq] at h
  obtain ⟨hentry, hready, hbegun, hurgent, hold⟩ := h
  refine ⟨?_, hready⟩
  have hitem : e.item = some ⟨e.whom.fn, e.level, r, e.urgent⟩ := by
    rw [CmdEntry.item, if_neg (by simpa using hbegun), hready]
    rfl
  have hprom : e.item.any (s.advance t).promotes = true := by
    simp only [hitem, Option.any_some, State.promotes, hurgent, hold, Bool.and_self]
  simp only [hentry, Option.filter_some, hprom, if_true]

/-- Settles O14: each command's body passes the checks of its row, and each row finds the task, the timer or the
command it is about. -/
theorem dispatcherRowsComplete : Obligations.DispatcherRowsComplete := by
  refine ⟨?dispSet, ?tenantSet, ?dispQuery, ?tenantQuery, ?keyQuery, ?keyReset, ?dispatch, ?complete, ?pulse,
    ?boundary, ?timerFire, ?tick, ?promotion, ?taskPromotion, ?stalemate⟩
  case dispSet =>
    intro c s h
    simp only [canDispSet, Bool.and_eq_true, and_assoc] at h
    obtain ⟨htakes, hfields⟩ := h
    exact runBelex_ok (body := bodyDispSet) htakes (by simp only [bodyDispSet, hfields]; grind)
  case tenantSet =>
    intro c s h
    simp only [canDispTenantSet, Bool.and_eq_true, and_assoc] at h
    obtain ⟨htakes, hfields⟩ := h
    exact runBelex_ok (body := bodyDispTenantSet) htakes (by simp only [bodyDispTenantSet, hfields]; grind)
  case dispQuery =>
    intro c s h
    refine ⟨_, ?_, runBelex_ok (body := bodyDispQuery) h rfl⟩
    simp [length_le]
  case tenantQuery =>
    intro c s h
    simp only [canDispTenantQuery, Bool.and_eq_true, and_assoc] at h
    obtain ⟨htakes, hrange, hzero, hmay⟩ := h
    have hmay : ¬ (decide (c.fn ≠ 0) && decide (c.fn ≠ c.u 0 1)) = true := by grind
    refine ⟨_, ?_, runBelex_ok (body := bodyDispTenantQuery) htakes (by
      simp only [bodyDispTenantQuery, hrange, hzero, Bool.and_self]
      rw [guard_passes rfl, if_neg hmay])⟩
    simp [length_le]
  case keyQuery =>
    intro c s h hkey
    refine ⟨_, ?_, runBelex_ok (body := bodyDispKeyQuery) h (by rw [bodyDispKeyQuery, if_neg (Nat.not_le.mpr hkey)])⟩
    simp [length_le]
  case keyReset =>
    intro c s h
    simp only [canKeyReset, Bool.and_eq_true, and_assoc] at h
    obtain ⟨htakes, hfields⟩ := h
    exact runBelex_ok (body := bodyDispKeyReset) htakes (by
      simp only [bodyDispKeyReset, State.keyTasks_advance]
      grind)
  case dispatch =>
    intro t idx unit s k h
    simp only [dispatchable, Bool.and_eq_true, and_assoc, beq_iff_eq] at h
    obtain ⟨htask, hready, hfits, hidle, havoid, hturn, hepoch, hfirst, hpool, hbinds⟩ := h
    change execTaskDispatch t idx unit s = _
    simp only [execTaskDispatch, htask, hready, hfits, hturn, hepoch, hfirst, Option.isNone_iff_eq_none.mp hpool]
    rw [if_neg (by grind), guard_passes rfl, guard_passes rfl, if_neg (by grind)]
  case complete =>
    intro t idx new timers s k h
    simp only [completes, Bool.and_eq_true, and_assoc, beq_iff_eq] at h
    obtain ⟨htask, hstate, howned⟩ := h
    change execTaskComplete t idx new timers s = _
    simp only [execTaskComplete, State.advance_disp, htask, hstate]
    rw [if_pos (by exact howned)]
  case pulse => exact fun t idx inst kind s => rfl
  case boundary =>
    intro t idx s k htask hgrain
    change execPeriodBoundary t idx s = _
    simp only [execPeriodBoundary, State.advance_disp, htask, hgrain]
    rfl
  case timerFire =>
    intro t timer s x htimer hdue
    change execTimerFire t timer s = _
    simp only [execTimerFire, State.advance_disp, htimer, hdue, if_true]
  case tick =>
    intro t o sat links errs new timers s s' htick
    change execDispatcherTick t o sat links errs new timers s = _
    rw [execDispatcherTick, if_neg (Nat.not_le.mpr htick)]
  case promotion =>
    intro t id r s e h
    obtain ⟨hentry, hready⟩ := promotable_entry h
    change execPromotion t id s = _
    simp only [execPromotion, State.advance_cp, hentry, hready]
    rfl
  case taskPromotion =>
    intro t id s i h
    simp only [promotableTask, Bool.and_eq_true, and_assoc, beq_iff_eq] at h
    obtain ⟨hcmd, htask, hpromotes⟩ := h
    change execPromotion t id s = _
    simp only [execPromotion, State.advance_cp, State.advance_disp, Option.isNone_iff_eq_none.mp hcmd, htask,
      Option.filter_none, Option.filter_some, hpromotes, if_true]
  case stalemate => exact fun t s => rfl

end Sys2Proof.Machine
end

section
/-! PROOFS. The memory commands and rows complete (file 16). -/

namespace Sys2Proof.Machine

/-- A write to a line advances its version by one, modulo 2^26, and leaves those of the others (R561). -/
theorem State.dramWrite_version (s : State) (r : DramReq) (ecc : Ecc) (line : Nat) (h : twf s.mem.versions = true) :
    (tget (s.dramWrite r ecc).mem.versions line).getD 0 =
      if line = lineOf r.addr then ((tget s.mem.versions line).getD 0 + 1) % 2 ^ 26
      else (tget s.mem.versions line).getD 0 := by
  have hchecked (full : Bool) :
      (if full = true then (true, s) else s.dramCheck r ecc).2.mem.versions = s.mem.versions := by
    split
    · rfl
    · exact s.dramCheck_versions r ecc
  have hdue (l : List LogEntry) (k : Nat) (u : State) : (l.foldl (fun (s : State) e =>
      (s.modEntry k e.addr fun e => { e with st := 1, since := 0 }).modStack k fun x =>
        { x with writebacks := x.writebacks + 1 }) u).mem.versions = u.mem.versions :=
    foldl_keeps (fun s => s.mem.versions) _ (fun s e => by simp) l u
  simp only [State.dramWrite, hdue]
  generalize ((List.range 64).all fun i => enabledAt r i) = full at *
  specialize hchecked full
  generalize (if full = true then (true, s) else s.dramCheck r ecc) = chk at *
  rw [← hchecked, ← bumpVersion_version chk.2.mem (lineOf r.addr) line (hchecked ▸ h)]
  split <;> rfl

/-- The counter block's fields, from the least bit: 70 zeros, the version and the number of the 16-byte block. -/
theorem getLsbD_counterBlock (a v i : Nat) : (counterBlock a v).getLsbD i =
    if i < 70 then false else if i < 96 then (BitVec.ofNat 26 v).getLsbD (i - 70)
    else (BitVec.ofNat 32 (a / 16)).getLsbD (i - 96) := by
  have hparts (x : BitVec 32) (y : BitVec 26) (z : BitVec 70) : (x ++ y ++ z).getLsbD i =
      if i < 70 then z.getLsbD i else if i < 96 then y.getLsbD (i - 70) else x.getLsbD (i - 96) := by
    simp only [BitVec.getLsbD_append]
    grind
  exact (hparts _ _ _).trans (by rw [BitVec.getLsbD_zero])

/-- Settles O15: each command's body passes the checks of its row, each row finds what it is about, and a write of a
line advances that line's version alone. The order of a byte within its 16-byte counter block is the model's choice
(log entry 95). -/
theorem memoryRowsComplete : Obligations.MemoryRowsComplete := by
  refine ⟨?memQuery, ?logRead, ?memSet, ?tenantSet, ?tenantQuery, ?commandIssue, ?refreshDue, ?writeback, ?scrubSram,
    ?scrubLine, ?selfRefresh, ?zeroFill, ?counter, ?storedByte, ?version⟩
  case memQuery =>
    intro c s h hlayer hzero
    refine ⟨_, ?_, runBelex_ok (body := bodyMemQuery) h (by simp only [bodyMemQuery, hlayer, hzero]; rfl)⟩
    simp [length_le]
  case logRead =>
    intro c s h hlog hzero
    exact ⟨_, _, rfl, runBelex_ok (body := bodyMemLogRead) h (by simp only [bodyMemLogRead, hlog, hzero]; rfl)⟩
  case memSet =>
    intro c s h
    simp only [canMemSet, Bool.and_eq_true, and_assoc] at h
    obtain ⟨htakes, hfields⟩ := h
    exact runBelex_ok (body := bodyMemSet) htakes (by simp only [bodyMemSet, hfields]; grind)
  case tenantSet =>
    intro c s h
    simp only [canMemTenantSet, Bool.and_eq_true, and_assoc] at h
    obtain ⟨htakes, hfields⟩ := h
    exact runBelex_ok (body := bodyMemTenantSet) htakes (by simp only [bodyMemTenantSet, hfields]; grind)
  case tenantQuery =>
    intro c s h
    simp only [canMemTenantQuery, Bool.and_eq_true, and_assoc] at h
    obtain ⟨htakes, hrange, hzero, hmay⟩ := h
    have hmay : ¬ (decide (c.fn ≠ 0) && decide (c.fn ≠ c.u 0 1)) = true := by grind
    refine ⟨_, ?_, runBelex_ok (body := bodyMemTenantQuery) htakes (by
      simp only [bodyMemTenantQuery, hrange, hzero, Bool.and_self]
      rw [guard_passes rfl, if_neg hmay])⟩
    simp [length_le]
  case commandIssue =>
    intro t k p l ecc s hk hp hlive u hawake
    change execDramCommandIssue t k p l ecc s = _
    rw [execDramCommandIssue, if_neg (by simp [hk, hp, hlive]), if_neg (by exact Bool.eq_false_iff.mp hawake)]
    rfl
  case refreshDue =>
    intro t k p s hdue u
    change execRefreshDue t k p s = _
    rw [execRefreshDue, if_pos hdue]
    rfl
  case writeback =>
    intro t log addr s e h
    simp only [writebackDue, Bool.and_eq_true, and_assoc, beq_iff_eq] at h
    obtain ⟨hentry, hdue⟩ := h
    change execScrubWriteback t log addr s = _
    simp only [execScrubWriteback, State.entryOf_advance, hentry]
    rw [if_neg (by grind)]
  case scrubSram =>
    intro t log addr k ecc s hlog hmax r
    change execPatrolScrub t log addr k ecc s = _
    rw [execPatrolScrub, if_pos hlog, if_neg (Nat.not_le.mpr hmax)]
  case scrubLine =>
    intro t log addr k ecc s hlog hidle r
    change execPatrolScrub t log addr k ecc s = _
    rw [execPatrolScrub, if_neg (Nat.not_le.mpr hlog), guard_passes (by exact hidle)]
  case selfRefresh =>
    intro t s hidle s'
    change execSelfRefreshEnter t s = _
    rw [execSelfRefreshEnter, if_pos hidle]
  case zeroFill => exact fun t s => rfl
  case counter =>
    intro a v
    refine ⟨?atBlock, ?atVersion, ?atZero⟩
    case atBlock =>
      refine BitVec.eq_of_getLsbD_eq fun i hi => ?_
      rw [BitVec.getLsbD_extractLsb', getLsbD_counterBlock, if_neg (by omega), if_neg (by omega),
        Nat.add_sub_cancel_left]
      simp [hi]
    case atVersion =>
      refine BitVec.eq_of_getLsbD_eq fun i hi => ?_
      rw [BitVec.getLsbD_extractLsb', getLsbD_counterBlock, if_neg (by omega), if_pos (by omega),
        Nat.add_sub_cancel_left]
      simp [hi]
    case atZero =>
      refine BitVec.eq_of_getLsbD_eq fun i hi => ?_
      rw [BitVec.getLsbD_extractLsb', getLsbD_counterBlock, if_pos (by omega)]
      simp
  case storedByte =>
    intro a s
    unfold State.storedByte
    cases s.mem.keys[dramStack a]? <;> rfl
  case version =>
    intro r ecc line s hwf
    exact s.dramWrite_version r ecc line hwf

end Sys2Proof.Machine
end

section
/-! PROOFS. The DMA commands and rows complete (file 17). -/

namespace Sys2Proof.Machine

@[simp] theorem State.chan_advance (s : State) (t e ch : Nat) : (s.advance t).chan e ch = s.chan e ch := rfl

/-- A crossing queue has its number, and its ends are engines (file 17). -/
theorem isQueue_names {r w q : Nat} (h : isQueue r w q = true) :
    ¬ (decide (70 < r) || decide (70 < w) || decide (255 < q)) = true := by
  unfold isQueue at h
  grind

/-- Settles O16: each command's body passes the checks of its row, and each row finds its channel or its queue. That a
channel which halted while it read a descriptor reads it again as it resumes is the model's choice (log entry 175). -/
theorem dmaRowsComplete : Obligations.DmaRowsComplete := by
  refine ⟨?dmaQuery, ?dmaStats, ?pfcGenSet, ?burst, ?descDone, ?stop, ?resume, ?queueWrite, ?queueRead, ?fullQueue,
    ?emptyQueue⟩
  case dmaQuery =>
    intro c s h hengine hchan hzero
    refine ⟨_, ?_, runBelex_ok (body := bodyDmaQuery) h (by
      simp only [bodyDmaQuery, hengine, hzero, hchan, decide_true, Bool.and_self]; rfl)⟩
    simp [length_le]
  case dmaStats =>
    intro c s h hengine hzero
    refine ⟨_, ?_, runBelex_ok (body := bodyDmaStats) h (by simp only [bodyDmaStats, hengine, hzero]; rfl)⟩
    simp [length_le]
  case pfcGenSet =>
    intro c s h
    simp only [canPfcGenSet, Bool.and_eq_true, and_assoc] at h
    obtain ⟨htakes, hfields⟩ := h
    exact runBelex_ok (body := bodyPfcGenSet) htakes (by simp only [bodyPfcGenSet, hfields]; grind)
  case burst =>
    intro t e ch x s h u
    simp only [engineLive, Bool.and_eq_true, and_assoc] at h
    obtain ⟨hengine, hchan, hlive⟩ := h
    have hruns : ¬ (decide (56 < e) || decide (engineChans e ≤ ch) || (s.advance t).dma.failed.contains e) = true := by
      rw [State.advance_dma]
      grind
    have hburst : exec (.dmaBurst t e ch x) s = execDmaBurst t e ch x s := rfl
    rw [hburst, execDmaBurst, if_neg hruns]
    split
    · rfl
    · intro hready
      rw [if_pos (by exact hready)]
  case descDone =>
    intro t e ch s h
    simp only [descEnds, Bool.and_eq_true, and_assoc] at h
    change execDmaDescriptorDone t e ch s = _
    rw [execDmaDescriptorDone, if_neg (by simp only [State.chan_advance]; grind)]
    rfl
  case stop =>
    intro t e ch s hruns
    change execDmaStopRequest t e ch s = _
    rw [execDmaStopRequest, if_neg (not_not.mpr (by exact hruns))]
    grind
  case resume =>
    intro t e ch abort s u c hstate
    change execDmaResume t e ch abort s = _
    rw [execDmaResume, if_neg (by grind)]
    grind
  case queueWrite =>
    intro t r w q word s h u x full
    have hkey := isQueue_names h
    change execQueueWrite t r w q word s = _
    rw [execQueueWrite, if_neg hkey]
  case queueRead =>
    intro t r w q s h u x d
    have hkey := isQueue_names h
    change execQueueRead t r w q s = _
    rw [execQueueRead, if_neg hkey]
    grind
  case fullQueue =>
    intro w d now late x hfull
    simp [CrossQ.looksFull, hfull]
  case emptyQueue =>
    intro r now late x hempty
    simp [CrossQ.looksEmpty, hempty]

end Sys2Proof.Machine
end

section
/-! PROOFS. The vault commands and rows complete (file 18). -/

namespace Sys2Proof.Machine

/-- Settles O17: each command's body passes the checks of its row, and each row finds the certificate or the flight it
is about. -/
theorem trustRowsComplete : Obligations.TrustRowsComplete := by
  refine ⟨?attestReport, ?idCertRead, ?provisionSet, ?provisionDone, ?reprovision, ?peerMeas, ?dtlsKey, ?certRead,
    ?dtlsLeg, ?keyImport, ?keyDelete, ?trunkKey, ?tamperSet, ?tamperQuery, ?imageCommit, ?reissue, ?renewal, ?expiry,
    ?flight, ?rng⟩
  case attestReport =>
    intro c s h hzero r
    simp only [asksTenant, Bool.and_eq_true, and_assoc] at h
    obtain ⟨htakes, hrange, hmay⟩ := h
    exact runBelex_ok (body := bodyAttestReport) htakes (by
      simp only [bodyAttestReport, hrange, hzero, Bool.and_self]
      rw [guard_passes rfl, if_neg (by grind)])
  case idCertRead => exact fun c s h => runBelex_ok (body := bodyIdCertRead) h rfl
  case provisionSet =>
    intro c s h hfields
    exact runBelex_ok (body := bodyProvisionSet) h (by rw [bodyProvisionSet, guard_passes hfields])
  case provisionDone => exact fun c s h => runBelex_ok (body := bodyProvisionDone) h rfl
  case reprovision =>
    intro c s h hmagic hlatch
    exact runBelex_ok (body := bodyTrustReprovision) h (by
      rw [bodyTrustReprovision, if_neg (not_not.mpr hmagic), State.advance_trust, hlatch]
      rfl)
  case peerMeas =>
    intro c s h
    simp only [canPeerMeas, Bool.and_eq_true, and_assoc] at h
    obtain ⟨htakes, hfields⟩ := h
    exact runBelex_ok (body := bodyPeerMeasSet) htakes (by simp only [bodyPeerMeasSet, hfields]; grind)
  case dtlsKey =>
    intro c s h
    simp only [canDtlsKey, Bool.and_eq_true, and_assoc] at h
    obtain ⟨htakes, hfields⟩ := h
    exact runBelex_ok (body := bodyDtlsKeyCreate) htakes (by
      simp only [bodyDtlsKeyCreate, State.advance_trust, State.dtlsKeyOf_advance, hfields]
      grind)
  case certRead =>
    intro c s k x h
    simp only [canCertRead, asksTenant, Bool.and_eq_true, and_assoc, beq_iff_eq] at h
    obtain ⟨htakes, hfields⟩ := h
    exact runBelex_ok (body := bodyDtlsCertRead) htakes (by
      simp only [bodyDtlsCertRead, State.advance_trust, hfields]
      grind)
  case dtlsLeg =>
    intro c s l g h
    simp only [canDtlsLeg, Bool.and_eq_true, and_assoc, beq_iff_eq] at h
    obtain ⟨htakes, hfields⟩ := h
    exact runBelex_ok (body := bodyDtlsLegSet) htakes (by
      simp only [bodyDtlsLegSet, State.leg_advance, State.advance_trust, hfields]
      grind)
  case keyImport =>
    intro c s h
    simp only [canKeyImport, Bool.and_eq_true, and_assoc] at h
    obtain ⟨htakes, hfields⟩ := h
    exact runBelex_ok (body := bodyKeyImport) htakes (by
      simp only [bodyKeyImport, State.advance_quotas, State.advance_trust, hfields]
      grind)
  case keyDelete =>
    intro c s h
    simp only [canKeyDelete, Bool.and_eq_true] at h
    obtain ⟨htakes, hfields⟩ := h
    exact runBelex_ok (body := bodyKeyDelete) htakes (by
      simp only [bodyKeyDelete, State.advance_legs]
      grind)
  case trunkKey =>
    intro c s l k h
    simp only [canTrunkKey, Bool.and_eq_true, and_assoc, beq_iff_eq] at h
    obtain ⟨htakes, hfields⟩ := h
    exact runBelex_ok (body := bodyTrunkKeySet) htakes (by
      simp only [bodyTrunkKeySet, checkHandle_advance, State.leg_advance, State.advance_trust, hfields]
      grind)
  case tamperSet =>
    intro c s h
    simp only [canTamperSet, Bool.and_eq_true, and_assoc, Bool.or_eq_true, bne_iff_ne, beq_iff_eq] at h
    obtain ⟨htakes, hfields⟩ := h
    exact runBelex_ok (body := bodyTamperSet) htakes (by simp only [bodyTamperSet, hfields]; grind)
  case tamperQuery => exact fun c s h => ⟨_, runBelex_ok (body := bodyTamperQuery) h rfl⟩
  case imageCommit =>
    intro c s h hhub hzero hub new
    exact runBelex_ok (body := bodyImageCommit) h (by simp only [bodyImageCommit, hhub, hzero]; rfl)
  case reissue =>
    intro t tenant s k hkey hmeasured hrng
    change execCertReissue t tenant s = _
    simp only [execCertReissue, State.advance_trust, hkey, hrng]
    rw [if_neg (by simp), if_pos (by exact hmeasured)]
  case renewal =>
    intro t tenant gen s g h
    simp only [renewalDue, Bool.and_eq_true, and_assoc, beq_iff_eq] at h
    obtain ⟨hgen, hrng, hfirst, hdue⟩ := h
    change execCertRenewal t tenant gen s = _
    simp only [execCertRenewal, State.certGen_advance, hgen]
    rw [if_neg (by rw [State.advance_trust]; grind)]
  case expiry =>
    intro t tenant gen s g h
    simp only [expiryDue, Bool.and_eq_true, and_assoc, beq_iff_eq] at h
    obtain ⟨hgen, hfirst, hdue⟩ := h
    change execCertificateExpiry t tenant gen s = _
    simp only [execCertificateExpiry, State.certGen_advance, hgen]
    rw [if_neg (by grind)]
  case flight =>
    intro t i s l h hconnecting
    simp only [flightDue, Bool.and_eq_true, and_assoc, beq_iff_eq] at h
    obtain ⟨hleg, hruns, hdue, hcores⟩ := h
    change execDtlsFlightRetransmit t i s = _
    simp only [execDtlsFlightRetransmit, State.leg_advance, hleg, hconnecting]
    rw [if_neg (by grind), if_neg (by simp)]
  case rng =>
    intro t f s
    cases f <;> rfl

end Sys2Proof.Machine
end

section
/-! PROOFS. The cipher commands and rows complete (file 19). -/

namespace Sys2Proof.Machine

/-- Check bits that say nothing worse than corrected leave the clear context usable (R659). -/
theorem slotEcc_usable {s : State} {h ecc : Nat} (hecc : ecc ≠ 2) : (s.slotEcc h ecc).1 = true := by
  unfold State.slotEcc
  split
  · rfl
  · exact absurd rfl hecc
  · rfl

/-- Settles O18: each command's body passes the checks of its row, and each row finds the packet or the owner it is
about. -/
theorem cipherRowsComplete : Obligations.CipherRowsComplete := by
  refine ⟨?flowQuery, ?pin, ?stats, ?load, ?verdict, ?encryptDone, ?selftest⟩
  case flowQuery =>
    intro c s h
    refine ⟨_, ?_, runBelex_ok (body := bodyCipherFlowQuery) h rfl⟩
    simp [length_le]
  case pin =>
    intro c s h
    simp only [canCipherPin, Bool.and_eq_true, and_assoc, Bool.or_eq_true] at h
    obtain ⟨htakes, hfields⟩ := h
    exact runBelex_ok (body := bodyCipherPin) htakes (by
      simp only [bodyCipherPin, State.flow_advance, State.advance_flows, hfields]
      grind)
  case stats => exact fun c s h => runBelex_ok (body := bodyCipherStats) h rfl
  case load =>
    intro t h ok s hdue
    simp only [loadDue, Bool.and_eq_true, and_assoc] at hdue
    change execClearContextLoad t h ok s = _
    simp only [execClearContextLoad]
    rw [if_neg (by
      simp only [State.ownerOf_advance, State.hasJobs_advance, State.slotOf_advance, State.crypto_advance,
        State.advance_cip]
      grind)]
  case verdict =>
    intro t id auth fcs ecc s j u h
    simp only [jobReady, Bool.and_eq_true, and_assoc, beq_iff_eq, bne_iff_ne, ne_eq] at h
    obtain ⟨hjob, hruns, hkeys, hopen, hslot, hecc⟩ := h
    have hu : (s.advance t).cipWindow.cipRun = u := rfl
    clear_value u
    have hloaded := Option.isNone_eq_false_iff.mpr hslot
    have husable := slotEcc_usable (s := u) (h := j.owner) hecc
    change execCipherVerdict t id auth fcs ecc s = _
    simp only [execCipherVerdict, hu, hjob]
    grind
  case encryptDone =>
    intro t id ecc s j u h
    simp only [jobReady, Bool.and_eq_true, and_assoc, beq_iff_eq, bne_iff_ne, ne_eq] at h
    obtain ⟨hjob, hruns, hkeys, hopen, hslot, hecc⟩ := h
    have hu : (s.advance t).cipWindow.cipRun = u := rfl
    clear_value u
    have hloaded := Option.isNone_eq_false_iff.mpr hslot
    have husable := slotEcc_usable (s := u) (h := j.owner) hecc
    change execCipherEncryptDone t id ecc s = _
    simp only [execCipherEncryptDone, hu, hjob]
    grind
  case selftest =>
    intro t fails s hmode hreset
    change execCipherSelftest t fails s = _
    rw [execCipherSelftest, if_neg (by rw [State.advance_sys, hreset]; simp [hmode])]

end Sys2Proof.Machine
end

section
/-! PROOFS. The time commands and rows complete (file 20). -/

namespace Sys2Proof.Machine

/-- Settles O19: each command's body passes the checks of its row, and each row finds that it is due. That a step
takes the mean of the offsets off the clock is the model's choice (log entry 96). -/
theorem timeRowsComplete : Obligations.TimeRowsComplete := by
  refine ⟨?ref, ?allowStep, ?ppsSeconds, ?ppsOut, ?utc, ?timeQuery, ?grandmaster, ?pps, ?ppsIn, ?step, ?leap, ?sync,
    ?ppsOutEdge⟩
  case ref =>
    intro c s h
    simp only [canTimeRef, Bool.and_eq_true, and_assoc] at h
    obtain ⟨htakes, hfields, hmaster, hport⟩ := h
    have hrole : ¬ (c.flag 3 1 2 && decide (c.u 0 1 ≠ 2)) = true := by grind
    have hserved : ¬ ((decide (c.u 0 1 = 1) || c.flag 3 1 2) &&
        !(s.portProvided (c.u 1 1) && ((s.net.ports.getD (c.u 1 1) {}).addrs.getD (c.u 2 1) {}).valid)) = true := by
      grind
    exact runBelex_ok (body := bodyTimeRefSet) htakes (by
      rw [bodyTimeRefSet, guard_passes hfields, if_neg hrole, if_neg (by exact hserved)]
      rfl)
  case allowStep =>
    intro c s h s' hallowed
    exact runBelex_ok (body := bodyTimeAllowStep) h (by rw [bodyTimeAllowStep, guard_passes hallowed]; rfl)
  case ppsSeconds => exact fun c s h => runBelex_ok (body := bodyTimePpsSeconds) h rfl
  case ppsOut =>
    intro c s h
    simp only [canPpsOut, Bool.and_eq_true, and_assoc] at h
    obtain ⟨htakes, hfields⟩ := h
    exact runBelex_ok (body := bodyPpsOutSet) htakes (by simp only [bodyPpsOutSet, hfields]; grind)
  case utc =>
    intro c s h
    simp only [canUtc, Bool.and_eq_true, and_assoc] at h
    obtain ⟨htakes, hfields⟩ := h
    exact runBelex_ok (body := bodyTimeUtcSet) htakes (by simp only [bodyTimeUtcSet, hfields]; grind)
  case timeQuery =>
    intro c s h
    refine ⟨_, ?_, runBelex_ok (body := bodyTimeQuery) h rfl⟩
    simp [length_le]
  case grandmaster =>
    intro t s h
    simp only [gmSilent, Bool.and_eq_true, beq_iff_eq] at h
    obtain ⟨href, hdue⟩ := h
    change execReferenceLost t s = _
    rw [execReferenceLost, if_pos (by exact href), if_neg (by exact Nat.not_lt.mpr (of_decide_eq_true hdue))]
  case pps =>
    intro t l s h
    simp only [ppsSilent, Bool.and_eq_true, and_assoc, beq_iff_eq] at h
    obtain ⟨href, hlast, hdue, hfirst⟩ := h
    have hnet : ¬ s.time.ref = 1 := by rw [href]; decide
    have hlost : ¬ (decide (2 * (s.advance t).now < 2 * l + 3 * secU) || s.time.ppsLost) = true := by grind
    change execReferenceLost t s = _
    rw [execReferenceLost, if_neg (by exact hnet), if_pos (by exact href)]
    change (match s.time.ppsLast with | none => _ | some l => _) = _
    rw [hlast]
    exact if_neg hlost
  case ppsIn => exact fun t s => rfl
  case step =>
    intro t s at_ d hstep s' hdue
    change execDtStepApply t s = _
    simp only [execDtStepApply]
    change (match s.time.stepAt with | none => _ | some (at_, d) => _) = _
    rw [hstep]
    exact if_neg (Nat.not_lt.mpr hdue)
  case leap =>
    intro t s kind sec hleap hdue
    change execLeapSecond t s = _
    simp only [execLeapSecond]
    change (match s.time.leap with | none => _ | some (kind, sec) => _) = _
    rw [hleap]
    exact if_neg (Nat.not_lt.mpr hdue)
  case sync =>
    intro t s h u r
    simp only [syncDue, Bool.and_eq_true, and_assoc, beq_iff_eq] at h
    have hdue : ¬ (decide (s.time.ref ≠ 2) || !s.time.master ||
        decide ((s.advance t).now < s.time.syncSent + logInterval s.time.logSync)) = true := by
      grind
    change execPtpSyncSend t s = _
    rw [execPtpSyncSend, if_neg (by exact hdue)]
    grind
  case ppsOutEdge =>
    intro t s hsecond
    change execPpsOutEdge t s = _
    rw [execPpsOutEdge, if_neg (not_not.mpr hsecond)]

end Sys2Proof.Machine
end

section
/-! PROOFS. The repair, image and home commands and rows complete (file 22). -/

namespace Sys2Proof.Machine

/-- No rejection of an image is an acceptance (Table 22-6). -/
theorem rejectSts_ne_accepted (k : Nat) : rejectSts k ≠ stAccepted := by
  unfold rejectSts
  split <;> decide

/-- Settles O20: each command's body passes the checks of its row, and each row finds the castling, the test or the
image it is about. -/
theorem repairRowsComplete : Obligations.RepairRowsComplete := by
  refine ⟨?castle, ?bench, ?retire, ?spare, ?clusterQuery, ?repairSet, ?imageWrite, ?imageActivate, ?homeSet,
    ?autoStart, ?wakeDone, ?handover, ?audioHandover, ?castleDone, ?benchDone, ?reload, ?written, ?pause,
    ?clusterDone, ?hubDone⟩
  case castle =>
    intro c s k h
    simp only [canCastle, regionFree, Bool.and_eq_true, and_assoc, beq_iff_eq, Option.isNone_iff_eq_none] at h
    obtain ⟨htakes, hfields⟩ := h
    exact runBelex_accepted (body := bodyCastle) htakes (by
      simp only [bodyCastle, State.advance_get_cluster, State.castlingIn_advance, State.regionUpdating_advance,
        State.hubWaits_advance, State.spareOf_advance, hfields]
      grind)
  case bench =>
    intro c s h
    simp only [canBench, Bool.and_eq_true, and_assoc, beq_iff_eq, Option.isNone_iff_eq_none] at h
    obtain ⟨htakes, hfields⟩ := h
    exact runBelex_accepted (body := bodyClusterBench) htakes (by
      simp only [bodyClusterBench, State.advance_get_cluster, hfields]
      grind)
  case retire =>
    intro c s h
    simp only [canRetire, canSetCluster, Bool.and_eq_true, and_assoc, Bool.or_eq_true, beq_iff_eq] at h
    obtain ⟨htakes, hfields⟩ := h
    exact runBelex_ok (body := bodyClusterSetState) htakes (by
      simp only [bodyClusterSetState, State.advance_get_cluster, State.inCastling_advance, hfields]
      grind)
  case spare =>
    intro c s h
    simp only [canSpare, canSetCluster, Bool.and_eq_true, and_assoc, beq_iff_eq, Option.isNone_iff_eq_none] at h
    obtain ⟨htakes, hfields⟩ := h
    exact runBelex_ok (body := bodyClusterSetState) htakes (by
      simp only [bodyClusterSetState, State.advance_get_cluster, State.inCastling_advance, State.spareOf_advance,
        hfields]
      grind)
  case clusterQuery =>
    intro c s h
    refine ⟨_, ?_, runBelex_ok (body := bodyClusterQuery) h rfl⟩
    simp [length_le]
  case repairSet =>
    intro c s h hmask hzero
    exact runBelex_ok (body := bodyRepairSet) h (by simp only [bodyRepairSet, hmask, hzero]; rfl)
  case imageWrite =>
    intro c s h
    simp only [canImageWrite, imagesIdle, Bool.and_eq_true, and_assoc, beq_iff_eq, Option.isNone_iff_eq_none] at h
    obtain ⟨htakes, hfields⟩ := h
    exact runBelex_accepted (body := bodyImageWrite) htakes (by
      simp only [bodyImageWrite, State.advance_units, State.advance_sys, hfields]
      grind)
  case imageActivate =>
    intro c s i h s'
    simp only [canImageActivate, imagesIdle, Bool.and_eq_true, and_assoc, beq_iff_eq, Option.isNone_iff_eq_none] at h
    obtain ⟨htakes, hdest, htyp, hzero, hwriting, hactivating, hheld, hspares⟩ := h
    have hspare : ¬ (decide (c.u 1 1 = 2) && !s'.sparesEverywhere) = true := by
      have hsame : s'.sparesEverywhere = s.sparesEverywhere := rfl
      grind
    change runBelex 0x1321 bodyImageActivate c s = _
    cases hfault : s'.imageFault i with
    | some k =>
      exact runBelex_fail htakes (rejectSts_ne_accepted k) (by
        simp only [bodyImageActivate, State.advance_units, hdest, htyp, hzero, hwriting, hactivating, hheld, hfault, s']
        rfl)
    | none =>
      have hfault : (s.advance c.at_).imageFault i = none := hfault
      exact runBelex_accepted htakes (by
        simp only [bodyImageActivate, State.advance_units, hdest, htyp, hzero, hwriting, hactivating, hheld, hfault,
          Bool.and_self, Bool.not_true, Option.isSome_none, Bool.or_self, Bool.false_eq_true, if_false]
        exact if_neg hspare)
  case homeSet =>
    intro c s h
    simp only [canHomeSet, Bool.and_eq_true, and_assoc] at h
    obtain ⟨htakes, hfields⟩ := h
    exact runBelex_ok (body := bodyConfHomeSet) htakes (by simp only [bodyConfHomeSet, hfields]; grind)
  case autoStart =>
    intro t k x s h
    simp only [autoReady, regionFree, Bool.and_eq_true, and_assoc, beq_iff_eq, Option.isNone_iff_eq_none] at h
    obtain ⟨hwaits, hactive, hauto, hcastling, hupdating, hhub, hreset, hmode, hspare⟩ := h
    change execAutoCastleStart t k s = _
    simp only [execAutoCastleStart, State.advance_get_cluster, State.castlingIn_advance, State.regionUpdating_advance,
      State.hubWaits_advance, State.spareOf_advance, State.advance_units, State.advance_sys, hwaits, hactive, hauto,
      hcastling, hmode, hspare]
    grind
  case wakeDone =>
    intro t r failed s k h
    simp only [castlingPhase, Bool.and_eq_true, beq_iff_eq] at h
    obtain ⟨hcastling, hphase⟩ := h
    change execCastleWakeDone t r failed s = _
    simp only [execCastleWakeDone, State.castlingIn_advance, hcastling, hphase]
    cases failed <;> rfl
  case handover =>
    intro t r s k h hreset hsource
    simp only [castlingPhase, Bool.and_eq_true, beq_iff_eq] at h
    obtain ⟨hcastling, hphase⟩ := h
    change execCastleHandover t r none s = _
    simp only [execCastleHandover, State.castlingIn_advance, State.advance_sys, hcastling, hphase, hreset, hsource]
    rfl
  case audioHandover =>
    intro t r s k h hreset hpoint s'
    simp only [castlingPhase, audioPoint, Bool.and_eq_true, and_assoc, beq_iff_eq] at h hpoint
    obtain ⟨hcastling, hphase⟩ := h
    obtain ⟨hsource, hlate, hfirst⟩ := hpoint
    change execCastleHandover t r none s = _
    have hnow : ¬ (decide (s'.now < grainStart (grainOf s'.now) + 2400 * usU) ||
        k.deferredAt == some (grainOf s'.now)) = true := by
      rw [Bool.or_eq_true, decide_eq_true_eq, not_or]
      exact ⟨Nat.not_lt.mpr (of_decide_eq_true hlate), by simpa using hfirst⟩
    simp only [execCastleHandover, State.castlingIn_advance, State.advance_sys, hcastling, hphase, hreset, hsource,
      ne_eq, not_true, decide_false, Bool.or_self, Bool.not_true, Bool.false_eq_true, if_false]
    rw [if_neg (by exact hnow)]
    split <;> rfl
  case castleDone =>
    intro t r s k h hidle
    simp only [castlingPhase, Bool.and_eq_true, beq_iff_eq] at h
    obtain ⟨hcastling, hphase⟩ := h
    change execCastleDone t r s = _
    simp only [execCastleDone, State.castlingIn_advance, State.advance_disp, hcastling, hphase, hidle]
    rfl
  case benchDone =>
    intro t k failed s id hbenching hbench
    change execBenchDone t k failed s = _
    simp only [execBenchDone, State.advance_get_cluster, hbenching, hbench]
    rfl
  case reload =>
    intro t k u s h
    simp only [reloadable, Bool.and_eq_true, and_assoc, beq_iff_eq, bne_iff_ne, ne_eq] at h
    obtain ⟨hcluster, hunit, hactive, hopen, hgood, hold⟩ := h
    change execUnitReload t k u s = _
    simp only [execUnitReload]
    rw [if_neg (by simp only [State.advance_get_cluster, State.advance_units]; grind)]
    rfl
  case written =>
    intro t img err s j hwriting
    change execImageWritten t img err s = _
    simp only [execImageWritten, State.advance_units, hwriting]
  case pause =>
    intro t us ok s j h
    simp only [pausable, Bool.and_eq_true, and_assoc, beq_iff_eq] at h
    obtain ⟨hjob, htyp, hfirst, hshort, hcastling⟩ := h
    have hactive : (s.advance t).units.activating = some j := hjob
    change execHubPause t us ok s = _
    simp only [execHubPause, hactive]
    rw [if_neg (by rw [State.advance_units]; grind)]
  case clusterDone =>
    intro t s j hjob htyp htodo
    change execUpdateDone t s = _
    simp only [execUpdateDone, State.advance_units, hjob, htyp, htodo]
    rfl
  case hubDone =>
    intro t s j hjob htyp hpaused hover
    change execUpdateDone t s = _
    simp only [execUpdateDone, State.advance_units, hjob, htyp, hpaused, hover]
    rfl

end Sys2Proof.Machine
end

section
/-! PROOFS. The event and record rows complete (file 23). -/

namespace Sys2Proof.Machine

/-- Settles O21: each body passes the checks of its row, or refuses its token. That a token without a usable scope bit
is refused, and that only an accepted one spends the challenge, is the model's choice (log entry 107). -/
theorem recordRowsComplete : Obligations.RecordRowsComplete := by
  refine ⟨?evtMask, ?evtMaskQuery, ?recordSet, ?recordQuery, ?recordRead, ?exporting, ?sealRecord, ?exportDone,
    ?commit, ?challenge, ?arm, ?enter, ?exit⟩
  case evtMask =>
    intro c s h
    simp only [canEvtMask, Bool.and_eq_true, and_assoc] at h
    obtain ⟨htakes, hfields⟩ := h
    exact runBelex_ok (body := bodyEvtMaskSet) htakes (by simp only [bodyEvtMaskSet, hfields]; grind)
  case evtMaskQuery => exact fun c s h => runBelex_ok (body := bodyEvtMaskQuery) h rfl
  case recordSet =>
    intro c s h
    simp only [canRecordSet, Bool.and_eq_true, and_assoc, ] at h
    obtain ⟨htakes, hfields⟩ := h
    exact runBelex_ok (body := bodyRecordSet) htakes (by simp only [bodyRecordSet, hfields]; grind)
  case recordQuery =>
    intro c s h
    refine ⟨_, ?_, runBelex_ok (body := bodyRecordQuery) h rfl⟩
    simp [length_le]
  case recordRead =>
    intro c s h
    simp only [canRecordRead, Bool.and_eq_true, and_assoc] at h
    obtain ⟨htakes, hfields⟩ := h
    exact runBelex_ok (body := bodyRecordRead) htakes (by
      simp only [bodyRecordRead, State.advance_rcd, hfields]
      grind)
  case exporting =>
    intro c s a b h
    simp only [canExport, Bool.and_eq_true, and_assoc, beq_iff_eq, Option.isNone_iff_eq_none] at h
    obtain ⟨htakes, hfields⟩ := h
    exact runBelex_accepted (body := bodyRecordExport) htakes (by
      simp only [bodyRecordExport, State.exportFirst_advance, State.advance_rcd, hfields]
      grind)
  case sealRecord => exact fun c s h => runBelex_wait (body := bodyRecordSeal) h rfl
  case exportDone =>
    intro t n bad fail s j hjob
    change execRecordExported t n bad fail s = _
    simp only [execRecordExported, State.advance_rcd, hjob]
  case commit => exact fun t s => rfl
  case challenge =>
    intro c s h hrng
    exact runBelex_ok (body := bodyReturnChallenge) h (by
      rw [bodyReturnChallenge, State.advance_trust, hrng]
      rfl)
  case arm =>
    intro c s h hscope
    split
    · next hok =>
      exact runBelex_ok (body := bodyReturnArm) h (by rw [bodyReturnArm, guard_passes hscope, if_pos (by exact hok)])
    · next hbad =>
      exact runBelex_fail (body := bodyReturnArm) h (by decide) (by
        rw [bodyReturnArm, guard_passes hscope, if_neg (by exact hbad), State.tokenFails])
  case enter =>
    intro c s h hmagic hempty
    exact runBelex_ok (body := bodyReturnEnter) h (by
      rw [bodyReturnEnter, if_neg (not_not.mpr hmagic), State.advance_confs, hempty]
      rfl)
  case exit =>
    intro c s h hscope
    split
    · next hok =>
      exact runBelex_ok (body := bodyReturnExit) h (by rw [bodyReturnExit, guard_passes hscope, if_pos (by exact hok)])
    · next hbad =>
      exact runBelex_fail (body := bodyReturnExit) h (by decide) (by
        rw [bodyReturnExit, guard_passes hscope, if_neg (by exact hbad), State.tokenFails])

end Sys2Proof.Machine
end

section
/-! PROOFS. The host commands complete (file 24). -/

namespace Sys2Proof.Machine

/-- Settles O22: each command's body passes the checks of its row, and a loopback test finds its end come. -/
theorem hostCommandsComplete : Obligations.HostCommandsComplete := by
  refine ⟨?hostSet, ?hostQuery, ?linkQuery, ?loopback, ?mgmtSet, ?loopbackDone⟩
  case hostSet =>
    intro c s h
    simp only [canHostSet, Bool.and_eq_true, and_assoc] at h
    obtain ⟨htakes, hfields⟩ := h
    exact runBelex_ok (body := bodyTenantHostSet) htakes (by simp only [bodyTenantHostSet, hfields]; grind)
  case hostQuery =>
    intro c s h
    simp only [canHostQuery, Bool.and_eq_true, and_assoc] at h
    obtain ⟨htakes, hrange, hzero, hmay⟩ := h
    have hmay : ¬ (decide (c.fn ≠ 0) && decide (c.u 0 1 ≠ c.fn)) = true := by grind
    refine ⟨_, ?_, runBelex_ok (body := bodyTenantHostQuery) htakes (by
      simp only [bodyTenantHostQuery, hrange, hzero, Bool.and_self]
      rw [guard_passes rfl, if_neg hmay])⟩
    simp [length_le]
  case linkQuery =>
    intro c s h
    refine ⟨_, ?_, runBelex_ok (body := bodyHostLinkQuery) h rfl⟩
    simp [length_le]
  case loopback =>
    intro c s h
    simp only [canLoopback, Bool.and_eq_true, and_assoc, Option.isNone_iff_eq_none] at h
    obtain ⟨htakes, hfields⟩ := h
    exact runBelex_accepted (body := bodyDiagLoopback) htakes (by
      simp only [bodyDiagLoopback, State.advance_host, hfields]
      grind)
  case mgmtSet =>
    intro c s h hzero
    exact runBelex_ok (body := bodyMgmtSet) h (by rw [bodyMgmtSet, guard_passes hzero])
  case loopbackDone =>
    intro t p f e s id pat end_ h
    simp only [loopEnds, Bool.and_eq_true, beq_iff_eq] at h
    obtain ⟨htest, hdue⟩ := h
    change execLoopbackDone t p f e s = _
    simp only [execLoopbackDone, State.advance_host, htest]
    exact if_neg (Nat.not_lt.mpr (of_decide_eq_true hdue))

end Sys2Proof.Machine
end

section
/-! PROOFS. The immediate window (files 24 and 03). -/

namespace Sys2Proof.Machine

/-- A write that names a queue of an open window is taken (R744). -/
theorem queueOpen_taken {fn n : Nat} {s : State} (h : queueOpen fn n s = true) :
    ¬ (!s.windowOpen fn || decide (8 ≤ n)) = true := by
  unfold queueOpen at h
  grind

/-- A register of the immediate window reads as Table 24-2 has it. -/
theorem State.barRead_window {o : Nat} (ho : o % 4 = 0) (s : State) (fn : Nat) :
    s.barRead fn 0 o 4 = s.windowReg fn o := by
  rw [State.barRead, if_neg (not_not.mpr ho)]
  rfl

/-- Q_STATUS of a queue reads at its place in the queue's block (Tables 24-2 and 24-8). -/
theorem State.barRead_qStatus {q : Nat} (hq : q ≤ 16) (s : State) (fn : Nat) :
    s.barRead fn 0 (0x040C + 32 * q) 4 = s.qStatus fn q := by
  have hblock : (decide (0x0400 ≤ 0x040C + 32 * q) && decide (0x040C + 32 * q < 0x0400 + 32 * 17)) = true := by
    simp only [Bool.and_eq_true, decide_eq_true_eq]
    omega
  have hplace : 0x040C + 32 * q - 0x0400 = 12 + 32 * q := by omega
  have hqueue : (12 + 32 * q) / 32 = q := by omega
  have hword : (12 + 32 * q) % 32 = 12 := by omega
  rw [State.barRead_window (by omega)]
  unfold State.windowReg
  rw [if_pos (by exact hblock), hplace]
  simp only [State.queueReg, hqueue, hword]

/-- Settles O23: each write finds its window open and its queue or register named, and each register reads at its
place. That a write of 8 bytes is two writes of 4, the low one first, is the model's choice (log entry 118). -/
theorem windowRowsComplete : Obligations.WindowRowsComplete := by
  refine ⟨?doorbell, ?cqHead, ?eqHead, ?summary, ?capture, ?enables, ?eventEnables, ?statusClear, ?status, ?registers,
    ?registerWrite, ?places, ?unmask, ?coalesced⟩
  case doorbell =>
    intro t fn n v s h s'
    change execSqDoorbellWrite t fn n v s = _
    rw [execSqDoorbellWrite, if_neg (by exact queueOpen_taken h)]
    rfl
  case cqHead =>
    intro t fn n v s h s' q
    change execCqHeadWrite t fn n v s = _
    rw [execCqHeadWrite, if_neg (by exact queueOpen_taken h)]
    rfl
  case eqHead =>
    intro t fn v s h s' q
    change execEqHeadWrite t fn v s = _
    rw [execEqHeadWrite, guard_passes (by exact h)]
    rfl
  case summary =>
    intro t fn v s h
    change execEvtSummaryClear t fn v s = _
    rw [execEvtSummaryClear, guard_passes (by exact h)]
    rfl
  case capture =>
    intro t fn v s h hcapture s'
    change execTimeCapture t fn v s = _
    rw [execTimeCapture, guard_passes (by exact h), State.captureTime, guard_passes hcapture]
  case enables =>
    intro t fn n v s h
    have hopen : ((s.advance t).windowOpen fn && decide (n < 8)) = true := h
    refine ⟨?_, ?_, ?_, ?_⟩
    · change execSqEnable t fn n v s = _
      rw [execSqEnable, if_pos hopen]
    · change execSqDisable t fn n v s = _
      rw [execSqDisable, if_pos hopen]
    · change execCqEnable t fn n v s = _
      rw [execCqEnable, if_pos hopen]
    · change execCqDisable t fn n v s = _
      rw [execCqDisable, if_pos hopen]
  case eventEnables =>
    intro t fn v s h
    have hopen : (s.advance t).windowOpen fn = true := h
    refine ⟨?_, ?_, ?_⟩
    · change execEqEnable t fn v s = _
      rw [execEqEnable, if_pos hopen]
    · change execEqDisable t fn v s = _
      rw [execEqDisable, if_pos hopen]
    · change execBootGo t fn v s = _
      rw [execBootGo, if_pos hopen]
  case statusClear =>
    intro t fn q s h hq s'
    have hopen : s'.windowOpen fn = true := h
    change execQStatusReadClear t fn q s = _
    rw [execQStatusReadClear, if_neg (by simp [hopen, hq, s'])]
  case status => exact fun s fn q hq => s.barRead_qStatus hq fn
  case registers =>
    intro s fn
    exact ⟨s.barRead_window rfl fn, s.barRead_window rfl fn, s.barRead_window rfl fn, s.barRead_window rfl fn,
      s.barRead_window rfl fn⟩
  case registerWrite =>
    intro t fn bar o size v s h
    simp only [aligned, Bool.and_eq_true, Bool.or_eq_true, and_assoc, beq_iff_eq] at h
    obtain ⟨hopen, hsize, halign⟩ := h
    have hopen : (s.advance t).windowOpen fn = true := hopen
    change execRegisterWrite t fn bar o size v s = _
    unfold execRegisterWrite
    rw [if_neg (by simp [hopen, halign])]
    obtain rfl | rfl := hsize <;> rfl
  case places =>
    intro fn o v s
    refine ⟨rfl, ?queues, ?boot⟩
    case queues =>
      intro hlow hhigh
      have hqueue : (decide (0x0400 ≤ o) && decide (o < 0x0400 + 32 * 17)) = true := by simp [hlow, hhigh]
      change s.regWrite fn o v = _
      rw [State.regWrite, if_pos hqueue]
    case boot =>
      intro hfn ho
      change s.regWrite fn o v = _
      unfold State.regWrite
      rw [if_neg (by simp; omega), if_neg (by omega), if_neg (by omega), if_neg (by simp; omega),
        if_neg (by simp; omega), if_neg (by omega), if_neg (not_not.mpr hfn)]
  case unmask =>
    intro t fn v s hopen hv
    have hopen : (s.advance t).windowOpen fn = true := hopen
    change execMsixVectorUnmask t fn v s = _
    rw [execMsixVectorUnmask, if_pos (by simp [hopen, hv])]
  case coalesced =>
    intro t fn v s h
    unfold vectorFires at h
    change execMsixCoalesceExpiry t fn v s = _
    split at h
    · next a hat =>
      have hat : (((s.advance t).func fn).msix.getD v {}).fireAt = some a := hat
      simp only [execMsixCoalesceExpiry, hat]
      exact if_pos (by exact h)
    · cases h

end Sys2Proof.Machine
end

section
/-! PROOFS. The PCIe and management bus rows complete (file 24). -/

namespace Sys2Proof.Machine

/-- Settles O24: each row finds the function or the bus it is about. That BUS_MASTER_CHANGE carries the memory space
and the D3 state, and that a stuck bus sets the pointer to 0, is the model's choice (log entries 24 and 109). -/
theorem linkRowsComplete : Obligations.LinkRowsComplete := by
  refine ⟨?flr, ?vfConfig, ?linkReset, ?linkUp, ?busMaster, ?snapshot, ?pointer, ?read, ?alert, ?stuck⟩
  case flr =>
    intro t fn s h u
    change execPcieFlr t fn s = _
    rw [execPcieFlr, guard_passes (by exact h)]
  case vfConfig =>
    intro t on n s h
    have hnew : ¬ (decide ((s.advance t).host.pcie.vfEnable = on) &&
      decide ((s.advance t).host.pcie.numVfs = min n 63)) =
        true := by
      rw [Bool.and_eq_true, decide_eq_true_eq, decide_eq_true_eq]
      exact h
    change execVfConfigChange t on n s = _
    rw [execVfConfigChange, if_neg (by exact hnew)]
  case linkReset =>
    intro t s s' u
    change execPcieLinkReset t s = _
    simp only [execPcieLinkReset, State.advance_host, Bool.or_eq_true, bne_iff_ne]
    rfl
  case linkUp => exact fun t g w s => rfl
  case busMaster =>
    intro t fn b m d s h
    change execBusMasterChange t fn b m d s = _
    rw [execBusMasterChange, guard_passes (by exact h)]
  case snapshot =>
    intro t rails s h
    change execMbSnapshotRefresh t rails s = _
    rw [execMbSnapshotRefresh, guard_passes (by exact h)]
  case pointer =>
    intro t p s h
    change execMbPointerWrite t p s = _
    rw [execMbPointerWrite, if_pos h]
  case read =>
    intro t n s h m
    change execMbRead t n s = _
    rw [execMbRead, guard_passes h]
    rfl
  case alert =>
    intro t s h
    change execMbAlertResponse t s = _
    rw [execMbAlertResponse, guard_passes h]
  case stuck =>
    intro t l s h hl
    change execMbBusStuck t l s = _
    rw [execMbBusStuck, if_neg (by simp [h, hl])]

end Sys2Proof.Machine
end

section
/-! PROOFS. The rows of the command processor complete (file 03). -/

namespace Sys2Proof.Machine

/-- Settles O25: each row finds its queue and the entry at its front, or its command. -/
theorem commandProcessorRowsComplete : Obligations.CommandProcessorRowsComplete := by
  refine ⟨?fetch, ?executeStart, ?timeout, ?completionWrite, ?eventWrite⟩
  case fetch =>
    intro t fn sq e s h
    simp only [fetchable, Bool.and_eq_true, and_assoc, decide_eq_true_eq] at h
    obtain ⟨hsq, hcan, hroom⟩ := h
    change execCommandFetch t fn sq e s = _
    rw [execCommandFetch, if_neg (by simp [hsq, hcan]), if_neg (Nat.not_le.mpr hroom)]
  case executeStart =>
    intro t id s e hentry hbegun
    change execCommandExecuteStart t id s = _
    simp only [execCommandExecuteStart, State.advance_cp, hentry, hbegun]
    rfl
  case timeout =>
    intro t id s e hentry hbegun hlimit
    change execCommandTimeout t id s = _
    simp only [execCommandTimeout, State.advance_cp, hentry, hbegun, hlimit]
    rfl
  case completionWrite =>
    intro t fn cq s c rest h
    simp only [writable, Bool.and_eq_true, and_assoc, beq_iff_eq] at h
    obtain ⟨hcq, hpaused, htakes, hwaiting⟩ := h
    change execCompletionWrite t fn cq s = _
    simp only [execCompletionWrite, hwaiting]
    exact if_neg (by grind)
  case eventWrite =>
    intro t fn comp s e rest h
    simp only [eventReady, Bool.and_eq_true, beq_iff_eq] at h
    obtain ⟨htakes, hready⟩ := h
    change execEventWrite t fn comp s = _
    simp only [execEventWrite, htakes, hready]
    rfl

end Sys2Proof.Machine
end

section
/-! PROOFS. The supply and reset rows complete (file 21). -/

namespace Sys2Proof.Machine

/-- Settles O26: each row finds the supply or the pin as it says. -/
theorem supplyRowsComplete : Obligations.SupplyRowsComplete := by
  refine ⟨?vbatApplied, ?vbatRemoved, ?pwrgdRise, ?pwrgdFall, ?resetAssert, ?resetRelease, ?devReset⟩
  case vbatApplied => exact fun t s => rfl
  case vbatRemoved =>
    intro t s s'
    change execVbatRemoved t s = _
    rw [execVbatRemoved]
    split <;> rfl
  case pwrgdRise =>
    intro t x s hoff hmode s' u
    change execPwrgdRise t x s = _
    rw [execPwrgdRise, if_neg (by rw [State.advance_sys, hoff]; simp [hmode])]
    rfl
  case pwrgdFall =>
    intro t p w d s hon u
    change execPwrgdFall t p w d s = _
    rw [execPwrgdFall, guard_passes (by exact hon)]
  case resetAssert =>
    intro t s hreleased u
    change execResetNAssert t s = _
    rw [execResetNAssert, guard_passes (by exact hreleased)]
  case resetRelease =>
    intro t x s hheld u
    change execResetNRelease t x s = _
    rw [execResetNRelease, if_neg (by rw [State.advance_sys, hheld]; decide)]
  case devReset =>
    intro t x s h
    simp only [devResetDue, Bool.and_eq_true, and_assoc] at h
    obtain ⟨hreset, hpower, hdue⟩ := h
    split at hdue
    · next a hasked =>
      have hgo : ¬ (decide ((s.advance t).now < a + 10 * msU) || !s.sys.resetN || !s.sys.pwrgd) = true := by
        rw [hreset, hpower]
        simpa using hdue
      change execDevResetInitEntry t x s = _
      simp only [execDevResetInitEntry, State.advance_sys, hasked]
      exact if_neg hgo
    · cases hdue

end Sys2Proof.Machine
end

section
/-! PROOFS. INIT and BOOT end (file 21). -/

namespace Sys2Proof.Machine

/-- An image read is an image to try (R690). -/
theorem bootTries_ne_nil (s : State) {hub : List Image} (h : (!hub.isEmpty) = true) : s.bootTries hub ≠ [] := by
  unfold State.bootTries
  cases hub with
  | nil => cases h
  | cons i rest => split <;> simp

/-- Settles O27: the device starts up, and an image to try stands where one was read. -/
theorem startUpRowsComplete : Obligations.StartUpRowsComplete := by
  refine ⟨?init, ?boot, ?noImage⟩
  case init =>
    intro t us fail vault head s h u
    simp only [startsUp, Bool.and_eq_true, and_assoc, beq_iff_eq] at h
    change execInitDone t us fail vault head s = _
    rw [execInitDone]
    exact if_neg (by rw [State.advance_sys]; grind)
  case boot =>
    intro t hub cluster failed us s h s'
    simp only [bootReady, startsUp, Bool.and_eq_true, and_assoc, beq_iff_eq, bne_iff_ne, ne_eq] at h
    obtain ⟨hmode, hstuck, hreset, hsource, hpush, himages⟩ := h
    have hstarts : ¬ (decide (s.sys.mode ≠ .boot) || s.sys.stuck || s.sys.inReset) = true := by grind
    have hgo : ¬ ((s.sys.bootSrc == 2) && !s.host.bootGo) = true := by grind
    have htries : ¬ (s'.bootTries hub).isEmpty = true := by simpa using bootTries_ne_nil s' himages
    change execBootDone t hub cluster failed us s = _
    rw [execBootDone, if_neg (by exact hstarts), if_neg (by exact hsource), if_neg (by exact hgo),
      if_neg (by exact htries)]
    simp only [beq_iff_eq]
    rfl
  case noImage =>
    intro t hub cluster failed us s h hsource
    simp only [startsUp, Bool.and_eq_true, and_assoc, beq_iff_eq] at h
    change execBootDone t hub cluster failed us s = _
    rw [execBootDone, if_neg (by rw [State.advance_sys]; grind), if_pos (by exact hsource)]

end Sys2Proof.Machine
end

section
/-! PROOFS. The ride-through rows complete (file 21). -/

namespace Sys2Proof.Machine

/-- Settles O28: each row finds the supply pin or the ride-through as it says. -/
theorem rideRowsComplete : Obligations.RideRowsComplete := by
  refine ⟨?begins, ?flushes, ?stage, ?ends, ?expires⟩
  case begins =>
    intro t s h
    simp only [rideStarts, Bool.and_eq_true, Bool.or_eq_true, and_assoc, beq_iff_eq] at h
    obtain ⟨hpin, hreset, hmode⟩ := h
    have hstarts : ¬ (decide (s.sys.mode.code < 2) || s.sys.inReset) = true := by
      obtain hmode | hmode := hmode <;> rw [hmode] <;> simpa [Mode.code] using hreset
    have hserves : ¬ (s.sys.mode ≠ .service ∧ s.sys.mode ≠ .degraded) := by grind
    change execPfwNAssert t s = _
    rw [execPfwNAssert, guard_passes (by exact hpin), if_neg (by exact hstarts), if_neg (by exact hserves)]
  case flushes =>
    intro t s hpin hreset hmode hservice hdegraded u
    have hstarts : ¬ (decide (s.sys.mode.code < 2) || s.sys.inReset) = true := by
      simp [hreset, Nat.not_lt.mpr hmode]
    change execPfwNAssert t s = _
    rw [execPfwNAssert, guard_passes (by exact hpin), if_neg (by exact hstarts),
      if_pos (by exact ⟨hservice, hdegraded⟩)]
    rfl
  case stage =>
    intro t r s h
    simp only [stageDue, Bool.and_eq_true, and_assoc, beq_iff_eq] at h
    obtain ⟨hride, hstage, hdue⟩ := h
    change execRideStage t s = _
    simp only [execRideStage, State.advance_sys, hride]
    rw [if_neg (by grind)]
  case ends =>
    intro t r s h
    simp only [rideEnds, Bool.and_eq_true, and_assoc, beq_iff_eq] at h
    obtain ⟨hpin, hride, hopen⟩ := h
    have hriding : ((s.advance t).modSys fun y => { y with pfwN := true }).sys.ride = some r := hride
    change execPfwNRelease t s = _
    simp only [execPfwNRelease, hriding]
    rw [if_neg (by rw [State.advance_sys]; grind), if_neg (by exact Nat.not_le.mpr (of_decide_eq_true hopen))]
  case expires =>
    intro t r s h
    simp only [rideExpires, Bool.and_eq_true, and_assoc, beq_iff_eq] at h
    obtain ⟨hride, hfirst, hdue⟩ := h
    change execRideMaxExpired t s = _
    simp only [execRideMaxExpired, State.advance_sys, hride]
    rw [if_neg (by grind)]

end Sys2Proof.Machine
end

section
/-! PROOFS. The measurement and die-link rows complete (files 21 and 01). -/

namespace Sys2Proof.Machine

/-- Settles O29: each row finds the sensor, the rail or the link it is about. -/
theorem measurementRowsComplete : Obligations.MeasurementRowsComplete := by
  refine ⟨?thermal, ?dram, ?power, ?railAlarm, ?railCleared, ?replay, ?retrain, ?retrainDone⟩
  case thermal =>
    intro t die temp bad s h hdie
    simp only [powered, Bool.and_eq_true, State.advance_sys] at h
    change execThermalSample t die temp bad s = _
    rw [execThermalSample, if_neg (by rw [State.advance_sys]; grind)]
  case dram =>
    intro t k temp s h hmode hk
    simp only [powered, Bool.and_eq_true, State.advance_sys] at h
    obtain ⟨hon, hreset⟩ := h
    have hpast : 3 ≤ s.sys.mode.code := Nat.lt_of_le_of_ne (of_decide_eq_true hon) (Ne.symm hmode)
    change execDramTempSample t k temp s = _
    rw [execDramTempSample, if_neg (by rw [State.advance_sys]; grind)]
  case power =>
    intro t w s h
    simp only [powered, Bool.and_eq_true, State.advance_sys] at h
    change execPowerEstimate t w s = _
    rw [execPowerEstimate, if_neg (by rw [State.advance_sys]; grind)]
  case railAlarm =>
    intro t rail mv s h u
    simp only [railFails, Bool.and_eq_true, and_assoc] at h
    change execRailAlarm t rail mv s = _
    rw [execRailAlarm, if_neg (by rw [State.advance_sys] at *; grind)]
  case railCleared =>
    intro t rail mv s h u
    simp only [railBack, Bool.and_eq_true] at h
    change execRailCleared t rail mv s = _
    rw [execRailCleared, if_neg (by rw [State.advance_sys]; grind)]
  case replay => exact fun t k again s => rfl
  case retrain =>
    intro t k l s h
    simp only [flitStuck, Bool.and_eq_true, and_assoc, beq_iff_eq] at h
    obtain ⟨hlink, hidle, hfails⟩ := h
    change execLinkRetrain t k s = _
    simp only [execLinkRetrain, State.advance_units, hlink]
    exact if_neg (by grind)
  case retrainDone =>
    intro t k l s h s'
    simp only [linkTraining, Bool.and_eq_true, beq_iff_eq] at h
    obtain ⟨hlink, htraining⟩ := h
    refine ⟨?_, ?_⟩
    · change execLinkRetrainDone t k true s = _
      simp only [execLinkRetrainDone, State.advance_units, hlink, htraining]
      rfl
    · change execLinkRetrainDone t k false s = _
      simp only [execLinkRetrainDone, State.advance_units, hlink, htraining]
      rfl

end Sys2Proof.Machine
end

section
/-! PROOFS. The tamper and JTAG rows complete (files 18 and 24). -/

namespace Sys2Proof.Machine

/-- Settles O30: each row finds the device in the mode it says. -/
theorem tamperRowsComplete : Obligations.TamperRowsComplete := by
  refine ⟨?detect, ?whileOff, ?jtag⟩
  case detect =>
    intro t k more active s hmode hk
    change execTamperDetect t k more active s = _
    rw [execTamperDetect, if_neg (by simp [Nat.not_lt.mpr hmode, hk])]
  case whileOff =>
    intro t k s h s'
    simp only [offDetection, Bool.and_eq_true, and_assoc, beq_iff_eq] at h
    change execTamperWhileOff t k s = _
    rw [execTamperWhileOff, if_neg (by rw [State.advance_sys]; grind)]
    rfl
  case jtag =>
    intro t ins s s' u
    change execJtagInstructionSelect t ins s = _
    unfold execJtagInstructionSelect
    by_cases hharmless : ins < 4 ∨ s.sys.mode.code < 2
    · have htaken : (decide (ins < 4) || decide (s.sys.mode.code < 2)) = true := by simpa using hharmless
      rw [if_pos hharmless]
      exact if_pos htaken
    · have hdetected : ¬ (decide (ins < 4) || decide (s.sys.mode.code < 2)) = true := by simpa using hharmless
      rw [if_neg hharmless]
      exact if_neg hdetected

end Sys2Proof.Machine
end

section
/-! PROOFS. The rows of the DSP cores complete (file 08). -/

namespace Sys2Proof.Machine

/-- The row of an instruction with good memory reads runs it. -/
theorem dspRow_of_dspOf {core : Nat} {i : DspIns} {row : Instr} {s : State} (hrow : dspOf row = some (core, i, 0)) :
    DspRow core i row s :=
  fun h => exec_of_dspRuns hrow h

/-- Settles O31: each row is that of its instruction. -/
theorem dspAluRowsComplete : Obligations.DspAluRowsComplete := fun _ _ _ _ _ _ _ _ =>
  ⟨dspRow_of_dspOf rfl, dspRow_of_dspOf rfl, dspRow_of_dspOf rfl, dspRow_of_dspOf rfl, dspRow_of_dspOf rfl,
    dspRow_of_dspOf rfl, dspRow_of_dspOf rfl, dspRow_of_dspOf rfl, dspRow_of_dspOf rfl, dspRow_of_dspOf rfl,
    dspRow_of_dspOf rfl, dspRow_of_dspOf rfl, dspRow_of_dspOf rfl, dspRow_of_dspOf rfl, dspRow_of_dspOf rfl,
    dspRow_of_dspOf rfl, dspRow_of_dspOf rfl, dspRow_of_dspOf rfl, dspRow_of_dspOf rfl, dspRow_of_dspOf rfl,
    dspRow_of_dspOf rfl⟩

end Sys2Proof.Machine
end

section
/-! PROOFS. The multiply slots, the moves and the errors of their reads (files 08 and 16). -/

namespace Sys2Proof.Machine

/-- What an instruction does from a state, once the check bits of its moves are known. -/
def State.runChecked (u : State) (core : Nat) (i : DspIns) (f : DspMem) : State :=
  if (u.dspMoveChecks core i f).2 then (u.dspMoveChecks core i f).1 else (u.dspMoveChecks core i f).1.dspRun core i

theorem State.runChecked_on {u v : State} {core : Nat} {i : DspIns} {f : DspMem}
    (h : u.dspMoveChecks core i f = (v, false)) : u.runChecked core i f = v.dspRun core i := by
  rw [State.runChecked, h]
  rfl

theorem State.runChecked_trapped {u v : State} {core : Nat} {i : DspIns} {f : DspMem}
    (h : u.dspMoveChecks core i f = (v, true)) : u.runChecked core i f = v := by
  rw [State.runChecked, h]
  rfl

/-- Good check bits of its moves let an instruction run. -/
theorem State.runChecked_good (u : State) (core : Nat) (i : DspIns) (fetch : Ecc) :
    u.runChecked core i { fetch := fetch } = u.dspRun core i :=
  State.runChecked_on (dspMoveChecks_good u core i 0)

/-- An instruction issued: a trap where its word is not read, and else it runs as the check bits of its moves allow, an
error of its word corrected first (R572). -/
theorem Issues.dspIssue_read {core : Nat} {i : DspIns} {s : State} (h : Issues core i s) (fetch x y : Ecc) :
    s.dspIssue core i ⟨0, fetch, x, y⟩ = .next (match fetch with
      | .uncorrectable _ => (s.enterInvocation core).dspTrap core 0 (8 * (issuer core s).pc)
      | .corrected _ b =>
        ((s.enterInvocation core).dspCorrected core 0 (8 * (issuer core s).pc) b).runChecked core i ⟨0, fetch, x, y⟩
      | .good => (s.enterInvocation core).runChecked core i ⟨0, fetch, x, y⟩) := by
  unfold State.dspIssue
  rw [if_neg (not_le.mpr h.inPackage)]
  extract_lets u k outside
  have hinside : outside = false := by
    unfold outside
    split
    · next v hv => exact decide_eq_false (not_le.mpr (h.inCode v hv))
    · rfl
  have hfetched : k.fetches i 0 = true := h.fetched
  have hplaced : k.misplaced i = false := h.placed
  cases fetch <;> simp only [hinside, hfetched, hplaced, h.legal] <;> rfl

/-- An instruction that completes has come to the access of a move that moves (R332). -/
theorem accesses_of_on {k : DspCore} {inY : Bool} {m other : DspMove} {a b : DspSlot} {free : Nat} (hmoves : m.mod ≠ 7)
    (h : (k.execIns (dualMove inY m a b other) free).2.1 = .on) : k.accesses inY m = true := by
  have hok (x y : DspMove) (hend : (k.execIns (.dual a b x y) free).2.1 = .on) : k.movesOk x y = true := by
    rw [DspCore.execIns_dual] at hend
    by_contra hbad
    rw [if_pos (by simpa using hbad)] at hend
    cases hend
  cases inY with
  | false =>
    have hm := hok m other h
    simp_all [DspCore.movesOk, DspCore.accesses]
  | true =>
    have hm := hok other m h
    simp_all [DspCore.movesOk, DspCore.accesses]

/-- The check bits of a load that comes to its access: an error corrected is counted and the load goes on, one that
cannot be corrected is a trap (R572). -/
theorem dspMoveChecks_load {u : State} {core d p mod : Nat} {inY : Bool} {a b : DspSlot} {other : DspMove}
    (hacc : (u.core core).accesses inY ⟨false, d, p, mod⟩ = true) (w bit : Nat) :
    u.dspMoveChecks core (dualMove inY ⟨false, d, p, mod⟩ a b other) (dspFound {} inY (.corrected w bit)) =
        (u.dspCorrected core (if inY then 2 else 1) ((u.core core).addrP p).toNat bit, false) ∧
      u.dspMoveChecks core (dualMove inY ⟨false, d, p, mod⟩ a b other) (dspFound {} inY (.uncorrectable w)) =
        (u.dspTrap core (if inY then 2 else 1) ((u.core core).addrP p).toNat, true) := by
  cases inY <;> simp [State.dspMoveChecks, DspIns.moves, dualMove, dspFound, hacc]

/-- A corrected error of a core's memory is counted for its cluster and entered in the log of its die's SRAM (R568). -/
theorem dspCorrected_counts (core mem a bitNo : Nat) (s : State)
    (hlogs : coreCluster core / 28 < s.mem.sramLogs.length) :
    let t := s.dspCorrected core mem a bitNo
    let k := coreCluster core
    ((tget t.aud.dsp.stats k).getD {}).corrected = ((tget s.aud.dsp.stats k).getD {}).corrected + 1 ∧
      (t.entryOf (4 + k / 28) (localAddr core mem (a / 8 * 8))).isSome = true ∧
      ((s.errLog (4 + k / 28)).length ≤ 64 → (t.errLog (4 + k / 28)).length ≤ 64) := by
  intro t k
  generalize hu : (s.modDspStats k fun x => { x with corrected := x.corrected + 1 }).raiseAt 177 (mkHandle 12 k) 64 = u
  have hevents : EventsOnly (s.modDspStats k fun x => { x with corrected := x.corrected + 1 }) u :=
    hu ▸ raiseAt_only _ _ _ _
  have hmem : u.mem = s.mem := hevents.mem
  have ht : t = u.sramCorrected (4 + k / 28) (localAddr core mem (a / 8 * 8)) (bitNo % 72) (some k) := by rw [← hu]; rfl
  have hs : s.HasLog (4 + k / 28) := ⟨Nat.le_add_right _ _, by rwa [Nat.add_sub_cancel_left]⟩
  have hlog : u.HasLog (4 + k / 28) := hs.of_logs (by rw [hmem])
  obtain ⟨hin, hlen⟩ := hlog.sramCorrected (localAddr core mem (a / 8 * 8)) (bitNo % 72) (some k)
  rw [ht]
  refine ⟨?count, State.entryOf_isSome_iff.mpr hin, fun hfew => ?room⟩
  case count =>
    rw [State.sramCorrected_aud, hevents.aud]
    simp only [State.modDspStats, tget_tset_self]
    rfl
  case room =>
    rw [← State.length_logAddrs] at hfew ⊢
    exact hlen (by rwa [hlog.logAddrs_of_logs (t := s) (by rw [hmem])] at hfew)

/-- Settles O32: the rows are those of their instructions, and an error of a read is what the check bits of the word
or of the move find. That the log names an SRAM by the address of its word is the model's choice (log entry 112). -/
theorem dspDualRowsComplete : Obligations.DspDualRowsComplete := by
  refine ⟨?slots, ?moves, ?counted⟩
  case slots =>
    intro core inB acc a b other x y s
    cases inB <;>
      exact ⟨dspRow_of_dspOf rfl, dspRow_of_dspOf rfl, dspRow_of_dspOf rfl, dspRow_of_dspOf rfl, dspRow_of_dspOf rfl⟩
  case moves =>
    intro core inY d p mod a b other s m i
    refine ⟨?load, ?store, fun h hmod w bit => ?found, fun h w bit => ?word⟩
    case load => cases inY <;> exact dspRow_of_dspOf rfl
    case store => cases inY <;> exact dspRow_of_dspOf rfl
    case found =>
      obtain ⟨hissues, hon⟩ := issues_and_on_of_dspRuns h
      have hacc : (issuer core s).accesses inY ⟨false, d, p, mod⟩ = true := accesses_of_on hmod (hon 0)
      obtain ⟨hcorrected, htrap⟩ := dspMoveChecks_load (a := a) (b := b) (other := other) hacc w bit
      cases inY <;>
        exact ⟨(hissues.dspIssue_read .good _ _).trans (congrArg Host.Outcome.next (State.runChecked_on hcorrected)),
          (hissues.dspIssue_read .good _ _).trans (congrArg Host.Outcome.next (State.runChecked_trapped htrap))⟩
    case word =>
      have hissues := issues_of_dspIssues h
      cases inY <;>
        exact ⟨hissues.dspIssue_read (.uncorrectable w) .good .good,
          (hissues.dspIssue_read (.corrected w bit) .good .good).trans
            (congrArg Host.Outcome.next (State.runChecked_good ..))⟩
  case counted =>
    intro core mem a bitNo s hcore hlogs
    exact dspCorrected_counts core mem a bitNo s hlogs

end Sys2Proof.Machine
end

section
/-! PROOFS. The immediate and control instructions complete (file 08). -/

namespace Sys2Proof.Machine

/-- HALT stops its core in one cycle. -/
theorem DspCore.execIns_halt (k : DspCore) (free : Nat) : (k.execIns (.ctrl 9 0 0 0) free).2 = (.halt, 1) := by
  rw [DspCore.execIns_ctrl]
  rfl

/-- HALT issued: the invocation on the core ends with its output samples, or by a kernel fault when D0 is not 0
(R325); a core without one stops. -/
theorem exec_halt {core : Nat} {s : State} (hissues : dspIssues core (.ctrl 9 0 0 0) s = true) :
    exec (.dspHalt core 0 0 0 {}) s = .next (match invOn core s with
      | some v =>
        if (issuer core s).readD 0 = 0
        then (dspNext core (.ctrl 9 0 0 0) s).endInvocation core { v with cycles := v.cycles + 1 }
          (outputSamples (issuer core s).ymem v.output)
        else (dspNext core (.ctrl 9 0 0 0) s).kernelFault core 4
      | none => dspNext core (.ctrl 9 0 0 0) s) := by
  have hissue := issues_of_dspIssues hissues
  rw [exec_of_dspOf rfl, hissue.dspIssue_eq]
  congr 1
  obtain ⟨result, hresult⟩ : ∃ k, (issuer core s).execIns (.ctrl 9 0 0 0)
      (s.enterInvocation core).free.1 = (k, .halt, 1) :=
    ⟨_, Prod.ext rfl (DspCore.execIns_halt _ _)⟩
  have hinv : result.inv = (issuer core s).inv := by
    rw [← (issuer core s).execIns_inv _ hissue.legal, hresult]
  have hnext : dspNext core (.ctrl 9 0 0 0) s =
      ((s.enterInvocation core).free.2.setCore core result).dspCycles core 1 := by
    have hnow : dspResult core (.ctrl 9 0 0 0) s = (result, .halt, 1) := hresult
    rw [dspNext, hnow]
  obtain ⟨used, hcore⟩ := core_dspCycles ((s.enterInvocation core).free.2.setCore core result) core 1
  have hafter : ((dspNext core (.ctrl 9 0 0 0) s).core core).inv =
      (issuer core s).inv.map fun v => { v with cycles := v.cycles + 1 } := by
    rw [hnext, hcore, State.core_setCore_self, hinv]
  unfold State.dspRun
  have hissuer : (s.enterInvocation core).core core = issuer core s := rfl
  have hon : invOn core s = (issuer core s).inv := rfl
  simp only [hissuer, hresult, ← hnext, hafter, hon]
  cases (issuer core s).inv <;> rfl

/-- Settles O33: each row is that of its instruction, and HALT ends the invocation that runs on its core. -/
theorem dspControlRowsComplete : Obligations.DspControlRowsComplete := by
  refine ⟨?immediate, ?control, ?halt, ?idle⟩
  case immediate =>
    intro core dst src v s
    exact ⟨dspRow_of_dspOf rfl, dspRow_of_dspOf rfl, dspRow_of_dspOf rfl, dspRow_of_dspOf rfl, dspRow_of_dspOf rfl,
      dspRow_of_dspOf rfl, dspRow_of_dspOf rfl, dspRow_of_dspOf rfl, dspRow_of_dspOf rfl⟩
  case control =>
    intro core cond cnt addr s
    exact ⟨dspRow_of_dspOf rfl, dspRow_of_dspOf rfl, dspRow_of_dspOf rfl, dspRow_of_dspOf rfl, dspRow_of_dspOf rfl,
      dspRow_of_dspOf rfl, dspRow_of_dspOf rfl, dspRow_of_dspOf rfl, dspRow_of_dspOf rfl⟩
  case halt =>
    intro core v s hissues hinv k u w
    rw [exec_halt hissues, hinv]
    rfl
  case idle =>
    intro core s hissues hinv
    rw [exec_halt hissues, hinv]

end Sys2Proof.Machine
end

section
/-! PROOFS. The kernel load and watchdog rows complete (file 08). -/

namespace Sys2Proof.Machine

/-- Settles O34: a row finds the load, or the invocation, that it is for. -/
theorem kernelRowsComplete : Obligations.KernelRowsComplete := by
  refine ⟨?loaded, ?watchdog⟩
  case loaded =>
    intro t id image s j h u
    have hjob : ((s.advance t).aud.dsp.loading.find? fun j => j.id == id) = some j := beq_iff_eq.mp h
    constructor
    · change execKernelLoaded t id image true s = _
      simp only [execKernelLoaded, hjob]
      rfl
    · change execKernelLoaded t id image false s = _
      simp only [execKernelLoaded, hjob]
      change (match s.trust.kernelKey with
        | none => _
        | some key => _) = _
      cases s.trust.kernelKey with
      | none => rfl
      | some key =>
        dsimp only
        cases kernelOf key (padTo j.len image) j.mask <;> rfl
  case watchdog =>
    intro t core v s h s'
    simp only [overrun, Bool.and_eq_true, and_assoc, beq_iff_eq, decide_eq_true_eq] at h
    obtain ⟨hcore, hinv, hover⟩ := h
    change execKernelWatchdog t core s = _
    simp only [execKernelWatchdog, hinv]
    rw [if_neg (Nat.not_le.mpr hcore), if_neg (Nat.not_lt.mpr hover)]
    split <;> rfl

end Sys2Proof.Machine
end

section
/-! PROOFS. The ingress rows complete (files 04 and 18). -/

namespace Sys2Proof.Machine

/-- Settles O35: each row finds the port, the entry or the flow that it is for, and its instant has come. -/
theorem ingressRowsComplete : Obligations.IngressRowsComplete := by
  refine ⟨?receive, ?fill, ?ring, ?dtls, ?nack, ?reorder, ?pli, ?media⟩
  case receive =>
    intro t port f buf s h
    exact congrArg Host.Outcome.next (if_pos h)
  case fill =>
    intro t flow s h
    exact congrArg Host.Outcome.next (if_neg (Bool.eq_false_iff.mp h))
  case ring =>
    intro t pipe cls parse e s h
    have hhead : ((s.advance t).net.pipes.getD pipe {}).head = some (cls, e) := beq_iff_eq.mp h
    change execRingRead t pipe parse s = _
    simp only [execRingRead, hhead]
  case dtls =>
    intro t leg evt pipe id s h
    simp only [dtlsFirst, Bool.and_eq_true, beq_iff_eq, Bool.not_eq_true'] at h
    obtain ⟨hfirst, hrun⟩ := h
    obtain ⟨rest, hwaiting⟩ : ∃ rest, (s.advance t).dtlsWaiting leg = (pipe, id) :: rest :=
      List.head?_eq_some_iff.mp hfirst
    change execDtlsRecordProcess t leg evt s = _
    simp only [execDtlsRecordProcess, hwaiting, hrun]
    rfl
  case nack =>
    intro t flow f s h
    simp only [nackDue, Bool.and_eq_true, and_assoc, beq_iff_eq] at h
    obtain ⟨hflow, hopen, hdue⟩ := h
    have hflow' : (s.advance t).flow flow = some f := hflow
    change execNackTimer t flow s = _
    simp only [execNackTimer, hflow']
    rw [if_neg (by grind)]
  case reorder =>
    intro t flow f s h s'
    simp only [gapOver, Bool.and_eq_true, beq_iff_eq, Bool.not_eq_true'] at h
    obtain ⟨hflow, hdue⟩ := h
    have hflow' : (s.advance t).flow flow = some f := hflow
    change execReorderAbandon t flow s = _
    simp only [execReorderAbandon, hflow']
    rw [if_neg (Bool.eq_false_iff.mp hdue)]
  case pli =>
    intro t flow p f s h
    simp only [pliOver, Bool.and_eq_true, and_assoc, beq_iff_eq] at h
    obtain ⟨hflow, hlast, hwanted, hopen, hdue⟩ := h
    have hflow' : (s.advance t).flow flow = some f := hflow
    have hlimit : (s.advance t).pliLimit f p = s.pliLimit f p := rfl
    change execPliTimeout t flow s = _
    simp only [execPliTimeout, hflow', hlast]
    rw [if_neg (by rw [hlimit]; grind)]
  case media =>
    intro t flow f s h
    simp only [mediaSilent, Bool.and_eq_true, and_assoc, beq_iff_eq] at h
    obtain ⟨hflow, hdir, hlive, hfirst, hpackets, hdue⟩ := h
    have hflow' : (s.advance t).flow flow = some f := hflow
    change execMediaTimeout t flow s = _
    simp only [execMediaTimeout, hflow']
    rw [if_neg (by grind)]

end Sys2Proof.Machine
end

section
/-! PROOFS. The timer rows of legs and flows complete (files 02, 04 and 05). -/

namespace Sys2Proof.Machine

/-- Settles O36: each row finds its leg or flow in the state that the row is for, and its instant has come. -/
theorem legTimerRowsComplete : Obligations.LegTimerRowsComplete := by
  refine ⟨?connect, ?consent, ?limit, ?freed, ?switch, ?estimator, ?report, ?feedback⟩
  case connect =>
    intro t leg l s h
    simp only [connectOver, Bool.and_eq_true, and_assoc, beq_iff_eq] at h
    obtain ⟨hleg, hstate, hdue⟩ := h
    have hleg' : (s.advance t).leg leg = some l := hleg
    change execConnectLimitExpiry t leg s = _
    split at hdue
    · next k hconf =>
      have hconf' : (s.advance t).conf l.conf = some k := hconf
      simp only [execConnectLimitExpiry, hleg', hconf']
      rw [if_pos (Bool.and_eq_true_iff.mpr ⟨beq_iff_eq.mpr hstate, hdue⟩)]
    · contradiction
  case consent =>
    intro t leg l s h
    simp only [consentOver, Bool.and_eq_true, beq_iff_eq] at h
    obtain ⟨hleg, hover⟩ := h
    have hleg' : (s.advance t).leg leg = some l := hleg
    change execConsentLost t leg s = _
    simp only [execConsentLost, hleg']
    rw [if_pos hover]
    rfl
  case limit =>
    intro l now
    simp [Leg.consentOver, and_assoc]
  case freed =>
    intro t leg l s h
    simp only [legEnds, Bool.and_eq_true, and_assoc, beq_iff_eq] at h
    obtain ⟨hleg, hclosing, hdrained⟩ := h
    have hleg' : (s.advance t).leg leg = some l := hleg
    change execLegFreed t leg s = _
    simp only [execLegFreed, hleg']
    rw [if_pos (by grind)]
  case switch =>
    intro t flow f s h
    simp only [switchOver, Bool.and_eq_true, and_assoc, beq_iff_eq] at h
    obtain ⟨hflow, hbound, hpending, hwaiting, hseen, hdue⟩ := h
    have hflow' : (s.advance t).flow flow = some f := hflow
    have hblind : (s.advance t).fwdBlind f.fwd = s.fwdBlind f.fwd := rfl
    change execSwitchTimeout t flow s = _
    simp only [execSwitchTimeout, hflow']
    rw [if_neg (by rw [hblind]; grind)]
  case estimator =>
    intro t leg l s h
    simp only [estDue, Bool.and_eq_true, and_assoc, beq_iff_eq] at h
    obtain ⟨hleg, hsend, hopen, hrun, hdue⟩ := h
    have hleg' : (s.advance t).leg leg = some l := hleg
    have hsends : (s.advance t).hasSend leg = s.hasSend leg := rfl
    change execEstimatorRun t leg s = _
    simp only [execEstimatorRun, hleg']
    rw [if_neg (by rw [hsends]; grind)]
  case report =>
    intro t leg l s h
    simp only [reportDue, Bool.and_eq_true, and_assoc, beq_iff_eq] at h
    obtain ⟨hleg, hstate, htyp, hdue⟩ := h
    have hleg' : (s.advance t).leg leg = some l := hleg
    change execRtcpInterval t leg s = _
    simp only [execRtcpInterval, hleg']
    rw [if_neg (by grind)]
  case feedback =>
    intro t leg l s h s'
    simp only [feedbackDue, Bool.and_eq_true, and_assoc, beq_iff_eq] at h
    obtain ⟨hleg, hdue, hopen⟩ := h
    have hleg' : (s.advance t).leg leg = some l := hleg
    change execTwccFeedbackSend t leg s = _
    simp only [execTwccFeedbackSend, hleg']
    rw [if_neg (by grind)]

end Sys2Proof.Machine
end

section
/-! PROOFS. The egress rows complete (file 06). -/

namespace Sys2Proof.Machine

/-- Settles O37: each row finds the frame, the leg or the port that it is for, and its instant has come. -/
theorem egressRowsComplete : Obligations.EgressRowsComplete := by
  refine ⟨?enqueue, fun _ _ _ => rfl, ?shaper, ?sample, fun _ _ _ => rfl, ?gates, fun _ _ _ => rfl, ?pause,
    ?parity, ?rises, fun _ _ _ => rfl⟩
  case enqueue =>
    intro t f rest s h s' u
    have hready : (s.advance t).net.ready = f :: rest := h
    change execEgressEnqueue t s = _
    simp only [execEgressEnqueue, hready]
    cases f.leg <;> rfl
  case shaper =>
    intro t leg l s h s' e u
    have hleg : (s.advance t).leg leg = some l := h
    change execShaperBucketZero t leg s = _
    simp only [execShaperBucketZero, hleg]
    split <;> rfl
  case sample =>
    intro t s h
    exact congrArg Host.Outcome.next (if_neg (not_not_intro h))
  case gates =>
    intro t port g s h
    simp only [listStarts, Bool.and_eq_true, beq_iff_eq, decide_eq_true_eq] at h
    obtain ⟨hpending, hstart⟩ := h
    have hpending' : ((s.advance t).net.ports.getD port {}).pending = some g := hpending
    change execGclStart t port s = _
    simp only [execGclStart, hpending']
    rw [if_neg (Nat.not_lt.mpr hstart)]
  case pause =>
    intro t port s h
    exact congrArg Host.Outcome.next (if_pos h)
  case parity =>
    intro t flow x f s h
    simp only [blockOver, Bool.and_eq_true, and_assoc, beq_iff_eq, decide_eq_true_eq] at h
    obtain ⟨hflow, hfirst, hdue⟩ := h
    have hgen : ((s.advance t).flow flow).map (fun f => f.fgen) = some f.fgen :=
      congrArg (Option.map fun f => f.fgen) hflow
    change execFecBlockFlush t flow s = _
    simp only [execFecBlockFlush, hgen, hfirst]
    rw [if_neg (Nat.not_lt.mpr hdue)]
  case rises =>
    intro t port s h s'
    simp only [linkRises, Bool.and_eq_true, and_assoc] at h
    obtain ⟨hmacs, hprovided, hport, hdown, htest⟩ := h
    have hsame : ((s.advance t).sys.macs, (s.advance t).portProvided port, ((s.advance t).net.ports.getD port {}).up,
        tget (s.advance t).host.pcie.loopback (port / 4)) =
      (s.sys.macs, s.portProvided port, (s.net.ports.getD port {}).up, tget s.host.pcie.loopback (port / 4)) := rfl
    change execLinkUp t port s = _
    rw [execLinkUp, if_neg (by grind)]

end Sys2Proof.Machine
end

section
/-! PROOFS. The grain rows complete (files 01 and 07). -/

namespace Sys2Proof.Machine

/-- Settles O38: each row finds its grain, conference or cluster due. -/
theorem grainRowsComplete : Obligations.GrainRowsComplete := by
  refine ⟨?opens, ?mixes, fun _ _ _ _ => rfl, ?parks, ?gates⟩
  case opens =>
    intro t m x coded s h
    simp only [grainStarts, Bool.and_eq_true, and_assoc, beq_iff_eq] at h
    obtain ⟨hgrain, hnew, hrun, hmode⟩ := h
    have hsame : ((s.advance t).time.lastGrain, (s.advance t).sys) = (s.time.lastGrain, s.sys) := rfl
    change execGrainOpen t x coded s = _
    simp only [execGrainOpen, hgrain]
    rw [if_neg (by grind)]
  case mixes =>
    intro t conf coded s g h
    change execMixGrainComplete t conf false coded s = _
    simp only [execMixGrainComplete, h]
    rfl
  case parks =>
    intro t conf s h
    exact congrArg Host.Outcome.next (if_pos h)
  case gates =>
    intro t c s h
    exact congrArg Host.Outcome.next (if_pos h)

end Sys2Proof.Machine
end

section
/-! PROOFS. The rows of the beacon receiver complete (file 10). -/

namespace Sys2Proof.Machine

/-- Settles O39: each row finds its demodulator in the state that the row is for. -/
theorem beaconRowsComplete : Obligations.BeaconRowsComplete := by
  refine ⟨?peak, ?sync, ?search, ?frame, ?period⟩
  case peak =>
    intro t ch pos c before after p sync d s h
    simp only [peakSeen, Bool.and_eq_true, and_assoc, beq_iff_eq, decide_eq_true_eq] at h
    obtain ⟨hdemod, hdetected, hbefore, hafter⟩ := h
    have hdemod' : tget (s.advance t).aud.bcn.demods ch = some d := hdemod
    change execBeaconPeak t ch pos c before after p sync s = _
    simp only [execBeaconPeak, hdemod']
    rw [if_neg (by grind)]
  case sync =>
    intro t ch pos corr p d s h
    simp only [syncSeen, Bool.and_eq_true, beq_iff_eq] at h
    obtain ⟨hdemod, hsync⟩ := h
    have hdemod' : tget (s.advance t).aud.bcn.demods ch = some d := hdemod
    change execBeaconSync t ch pos corr p s = _
    simp only [execBeaconSync, hdemod']
    rw [if_pos hsync]
  case search =>
    intro t ch d s h
    simp only [searchOver, Bool.and_eq_true, and_assoc, beq_iff_eq] at h
    obtain ⟨hdemod, hsearch, hdue⟩ := h
    have hdemod' : tget (s.advance t).aud.bcn.demods ch = some d := hdemod
    change execBeaconSearchTimeout t ch s = _
    simp only [execBeaconSearchTimeout, hdemod']
    rw [if_pos (by simp [hsearch, hdue])]
  case frame =>
    intro t ch d x s h
    simp only [frameLocked, Bool.and_eq_true, beq_iff_eq] at h
    obtain ⟨hdemod, hlocked⟩ := h
    have hdemod' : tget (s.advance t).aud.bcn.demods ch = some x := hdemod
    change execBeaconFrameEnd t ch d s = _
    simp only [execBeaconFrameEnd, hdemod']
    rw [if_neg (not_not_intro hlocked)]
  case period =>
    intro t leg ch d l s h
    simp only [periodOver, Bool.and_eq_true, and_assoc, beq_iff_eq] at h
    obtain ⟨hdemod, hleg, hruns, hover⟩ := h
    have hdemod' : (s.advance t).demodOf leg = some (ch, d) := hdemod
    have hleg' : (s.advance t).leg leg = some l := hleg
    change execBeaconPeriodEnd t leg s = _
    simp only [execBeaconPeriodEnd, hdemod', hleg']
    rw [if_neg (by grind)]

end Sys2Proof.Machine
end

section
/-! PROOFS. A step of the machine. -/

namespace Sys2Proof.Machine

/-- Settles O40: what the queue holds decides the step. -/
theorem stepTakesTheFront : Obligations.StepTakesTheFront := by
  constructor
  · intro c q s h
    rw [step, h]
  · intro s h
    rw [step, h]

end Sys2Proof.Machine
end
